-- ==== Sys2Proof/Word.lean ====
section
/-! DEFINITION. The words of the machine (R5, R10) and their plainest arithmetic. -/

namespace Sys2Proof

/-- A byte of memory or of a frame. -/
abbrev Byte := BitVec 8

/-- A 32-bit word: a register, a scratchpad word, a command word. -/
abbrev Word := BitVec 32

/-- The value `a` precedes `b` modulo 2^32 (R37). -/
def precedes (a b : Word) : Bool :=
  let d := (b - a).toNat
  decide (1 ≤ d ∧ d ≤ 2 ^ 31 - 1)

end Sys2Proof
end

