-- ==== Sys2Proof/Syntax.lean ====
section
/-! DEFINITION. The commands: one constructor per row of spec/opcode_table.json, with the row's operands. What the spec leaves to the
outside world (a frame, a transaction, a level, the outcome of a test, of a check or of a signature) is an operand (DESIGN CHOICE, log entry 8). -/

namespace Sys2Proof

/-- The agents that reach registers (R27). -/
inductive Agent where
  | pilot | cluster | host | rhumb | smbus | jtag
  deriving DecidableEq, Repr, Inhabited

/-- The engines whose commands retire (R93, R95). -/
inductive Engine where
  | mx | vx | sx
  deriving DecidableEq, Repr, Inhabited

/-- An error that a command finds in what it reads (R134, R162, R178, R334): none, parity of a tile register met in a pass, parity of
the plane in use at a row, a double-bit or a single-bit error in a line of HBM or in an 8 B piece of the scratchpad, which carries its own check
bits: piece `i` is bytes 8 * i to 8 * i + 7. -/
inductive Inject where
  | none
  | regParity (reg pass : Nat)
  | planeParity (row : Nat)
  | lineUe (line : Nat)
  | lineCe (line : Nat)
  deriving DecidableEq, Repr, Inhabited

/-- The UDP datagram of a frame (R40). Addresses are four words as in R388, words 10 to 13; `payload` is the UDP payload. -/
structure Datagram where
  ipv6 : Bool
  srcAddr : List Word
  srcPort : Nat
  dstPort : Nat
  csumZero : Bool
  csumOk : Bool
  payload : List Byte
  deriving DecidableEq, Repr, Inhabited

/-- A frame on the wire of an Ethernet port (R405): its bytes without the FCS, what the MAC checks of it, and its datagram when it is
one unfragmented UDP datagram over IPv4 or IPv6. -/
structure NetFrame where
  bytes : List Byte
  fcsOk : Bool
  dstMac : Nat
  pause : Bool
  udp : Option Datagram
  deriving DecidableEq, Repr, Inhabited

/-- A Rhumb flit (R353): header words 0 and 1 and the payload. -/
structure RhbFlit where
  w0 : Word
  w1 : Word
  payload : List Byte
  deriving DecidableEq, Repr, Inhabited

/-- A Rhumb transaction (R359): header words 0 to 7 and the plaintext of its data. -/
structure RhbTx where
  hdr : List Word
  data : List Byte
  deriving DecidableEq, Repr, Inhabited

/-- What the board and the checks of the ROM give a boot (R399, R406, R408, R433): the straps; how many reconstructions of the device secret fail
their check before one holds (9: all of them); whether the identity key's unwrap holds its tag; whether the signatures of firmware slots A and B,
of the two records and of the loader verify; the versions in the slots; the configuration record, the Declination record and the
loader as the board's flash holds them; the identifier in the package's own flash; and the cores that pass their test (R321). -/
structure BootIn where
  straps : Nat
  dsFails : Nat
  idOk : Bool
  slotAOk : Bool
  slotBOk : Bool
  configOk : Bool
  declOk : Bool
  loaderOk : Bool
  versionA : Word
  versionB : Word
  config : List Byte
  decl : List Byte
  loader : List Byte
  packageId : Nat
  testPass : Nat
  deriving DecidableEq, Repr, Inhabited

/-- The commands of the block, one per row of the opcode table. -/
inductive Instr where
  /-- REGISTER_WRITE (R6): `agent` writes `value` in an access of `width` bytes at the physical address `addr`. -/
  | registerWrite (agent : Agent) (addr : Nat) (width : Nat) (value : Word)
  /-- LOW_WORD_READ_CAPTURE (R8): `agent` reads the register at `addr` in an access of `width` bytes; a low word captures its high word. -/
  | lowWordReadCapture (agent : Agent) (addr : Nat) (width : Nat)
  /-- PWR_REQ_TURN_ON (R23): the Pilot writes PWR_REQ with TURN_ON = 1 and DOMAIN = `domain` mod 128. -/
  | pwrReqTurnOn (domain : Nat)
  /-- PWR_REQ_TURN_OFF (R23): the Pilot writes PWR_REQ with TURN_ON = 0 and DOMAIN = `domain` mod 128. -/
  | pwrReqTurnOff (domain : Nat)
  /-- POWER_REQUEST_JUDGED (R23): the request at the head of the power queue is judged. -/
  | powerRequestJudged
  /-- POWER_OFF_DRAINED (R20): the fenced domain has drained; its supply is removed. -/
  | powerOffDrained
  /-- DOMAIN_TRANSITION_COMPLETE (R24): the transition in progress completes. -/
  | domainTransitionComplete
  /-- MAC_FRAME_RECEIVE (R405): the MAC of port E`port` receives a frame. -/
  | macFrameReceive (port : Nat) (frame : NetFrame)
  /-- FE_DATAGRAM_PARSE (R40): the front end takes the oldest frame descriptor of port E`port`. -/
  | feDatagramParse (port : Nat)
  /-- RTP_PACKET (R46): the RTP packet that the parse of port E`port` matched is taken. -/
  | rtpPacket (port : Nat)
  /-- RTP_JITTER_CLOSE (R46): JITTER_US after the first packet beyond the open chunk of context `ctx`. -/
  | rtpJitterClose (ctx : Nat)
  /-- RTP_SILENCE_CLOSE (R46): one chunk period and JITTER_US after the last packet of context `ctx`. -/
  | rtpSilenceClose (ctx : Nat)
  /-- VSF_DATA (R43): the VSF DATA frame that the parse of port E`port` matched is taken. -/
  | vsfData (port : Nat)
  /-- VSF_RACK (R69): the VSF RACK frame that the parse of port E`port` matched is taken. -/
  | vsfRack (port : Nat)
  /-- VSF_CLOSE (R70): the VSF CLOSE frame that the parse of port E`port` matched is taken. -/
  | vsfClose (port : Nat)
  /-- LOCAL_FRAME_INJECT (R44): the front end takes the entry at the consumer index of the local injection ring. -/
  | localFrameInject
  /-- HELD_CHUNK_RELEASE (R47): the first held chunk of context `ctx` finds its tokens. -/
  | heldChunkRelease (ctx : Nat)
  /-- HOLD_TIMEOUT (R47): 4 chunk periods after the start of the hold of context `ctx`. -/
  | holdTimeout (ctx : Nat)
  /-- CHUNK_ACCEPTED (R49): the acceptance writes of context `ctx` have completed at the memory controllers. -/
  | chunkAccepted (ctx : Nat)
  /-- TICK (R54): the 1 ms tick. -/
  | tick
  /-- HELD_BATCH_DISPATCH (R77): the first held batch finds a work-list slot and room in its queues. -/
  | heldBatchDispatch
  /-- SLICE_COMPLETION (R92): the oldest completion of core `core` reaches the Logbook. -/
  | sliceCompletion (core : Nat)
  /-- RESULT_RELEASE (R66): the results of the oldest committed chunk of context `ctx` are released. -/
  | resultRelease (ctx : Nat)
  /-- RESULT_RETRANSMIT (R69): RTO_MS after the last sending of the oldest unacknowledged result of context `ctx`. -/
  | resultRetransmit (ctx : Nat)
  /-- LOG_EVQ_POP (R77): `agent` reads LOG_EVQ_DATA3. -/
  | logEvqPop (agent : Agent)
  /-- CORE_START (R107): the Pilot writes CORE_CTRL with START = 1. -/
  | coreStart (core : Nat) (legacy : Bool)
  /-- CORE_ABORT (R107): the Pilot writes CORE_CTRL with ABORT = 1. -/
  | coreAbort (core : Nat)
  /-- CORE_BATCH_START (R305): the oldest work-list descriptor of core `core` starts its batch. -/
  | coreBatchStart (core : Nat)
  /-- LIST_FETCH_DATA (R79): the list fetcher of core `core` delivers the next line of command words. -/
  | listFetchData (core : Nat)
  /-- COMMAND_RETIRE (R95): the oldest issued command of the engine retires. -/
  | commandRetire (core : Nat) (engine : Engine)
  /-- NOP (R88): the dispatcher of core `core` meets NOP. -/
  | nop (core : Nat)
  /-- FENCE (R97): the dispatcher meets FENCE. -/
  | fence (core : Nat)
  /-- FENCE_DRAIN_COMPLETE (R97): the drain conditions of the fence hold. -/
  | fenceDrainComplete (core : Nat)
  /-- BARRIER_OPEN (R98): the barrier that core `core` waits at opens. -/
  | barrierOpen (core : Nat)
  /-- END (R444): the dispatcher meets END. -/
  | endList (core : Nat)
  /-- END_COMPLETE (R444): the drain of END has finished. -/
  | endComplete (core : Nat)
  /-- LOOP (R90): the dispatcher meets LOOP. -/
  | loop (core : Nat)
  /-- ENDLOOP (R90): the dispatcher meets ENDLOOP. -/
  | endloop (core : Nat)
  /-- BANK_POWER (R91): the dispatcher meets BANK_POWER. -/
  | bankPower (core : Nat)
  /-- COMPLETE (R92): the dispatcher meets COMPLETE. -/
  | complete (core : Nat)
  /-- LOADW (R103): the VDN-8E command LOADW. -/
  | loadw (core : Nat)
  /-- GEMM (R103): the VDN-8E command GEMM. -/
  | gemm (core : Nat)
  /-- VOP (R103): the VDN-8E command VOP. -/
  | vop (core : Nat)
  /-- DMA_IN (R103): the VDN-8E command DMA_IN. -/
  | dmaIn (core : Nat)
  /-- DMA_OUT (R103): the VDN-8E command DMA_OUT. -/
  | dmaOut (core : Nat)
  /-- SYNC (R103): the VDN-8E command SYNC. -/
  | sync (core : Nat)
  /-- STEP_END (R103): the VDN-8E command STEP_END. -/
  | stepEnd (core : Nat)
  /-- MX_LOAD (R115): the dispatcher meets MX_LOAD, or the waiting one issues and runs. -/
  | mxLoad (core : Nat) (inj : Inject)
  /-- MX_MATMUL (R122): the dispatcher meets MX_MATMUL, or the waiting one issues and runs. -/
  | mxMatmul (core : Nat) (inj : Inject)
  /-- TILE_PUSH (R129): the oldest full staging buffer is pushed to the tile queue. -/
  | tilePush (core : Nat)
  /-- MX_BIST (R134): the Pilot writes MX_BIST with START = 1. -/
  | mxBist (core : Nat)
  /-- MX_BIST_DONE (R134): the array BIST ends with the outcome `pass`. -/
  | mxBistDone (core : Nat) (pass : Bool)
  /-- MX_ATTN (R286): the dispatcher meets MX_ATTN, or the waiting one issues and runs. -/
  | mxAttn (core : Nat) (inj : Inject)
  /-- VX_CHAIN (R141): the dispatcher meets VX_CHAIN, or the waiting one issues and runs. -/
  | vxChain (core : Nat) (inj : Inject)
  /-- VX_REDUCE (R151): the dispatcher meets VX_REDUCE, or the waiting one issues and runs. -/
  | vxReduce (core : Nat) (inj : Inject)
  /-- VX_SCAN (R153): the dispatcher meets VX_SCAN, or the waiting one issues and runs. -/
  | vxScan (core : Nat) (inj : Inject)
  /-- VX_LOAD (R156): the dispatcher meets VX_LOAD, or the waiting one issues and runs. -/
  | vxLoad (core : Nat) (inj : Inject)
  /-- VX_STORE (R157): the dispatcher meets VX_STORE, or the waiting one issues and runs. -/
  | vxStore (core : Nat) (inj : Inject)
  /-- VX_ATTN (R287): the dispatcher meets VX_ATTN, or the waiting one issues and runs. -/
  | vxAttn (core : Nat) (inj : Inject)
  /-- VX_BIST (R162): the Pilot writes VX_BIST with START = 1. -/
  | vxBist (core : Nat)
  /-- VX_BIST_DONE (R162): the register march test ends with the outcome `pass`. -/
  | vxBistDone (core : Nat) (pass : Bool)
  /-- SPD_REVOKE (R174): the Pilot writes SPD_REVOKE with GO = 1. -/
  | spdRevoke (core : Nat) (ctxId : Nat)
  /-- SPD_REVOKE_DONE (R174): the tag pass of the revoke ends. -/
  | spdRevokeDone (core : Nat)
  /-- SPD_BIST (R178): the Pilot writes SPD_BIST with START = 1. -/
  | spdBist (core : Nat) (bank : Nat)
  /-- SPD_BIST_DONE (R179): the bank march test ends with the outcome `pass`. -/
  | spdBistDone (core : Nat) (pass : Bool)
  /-- SX_ARM (R192): the dispatcher meets SX_ARM, or the waiting one issues. -/
  | sxArm (core : Nat)
  /-- TRANSFER_ENTER (R188): the oldest waiting transfer of the class enters the memory port. -/
  | transferEnter (core : Nat) (cls : Nat)
  /-- TRANSFER_COMPLETE (R185): the outstanding transfer `idx` of core `core` completes. -/
  | transferComplete (core : Nat) (idx : Nat) (inj : Inject)
  /-- GENERATION_START (R199): an ARMED_PENDING generation starts sending. -/
  | generationStart (core : Nat) (slice : Nat) (slot : Nat)
  /-- SX_WAIT (R200): the dispatcher meets SX_WAIT, or the waiting one issues. -/
  | sxWait (core : Nat)
  /-- SX_SHARE_WRITE (R214): the Pilot writes SX_SHARE. -/
  | sxShareWrite (core : Nat) (value : Word)
  /-- SX_NKL_SOURCE (R205): the dispatcher meets SX_NKL_SOURCE, or the waiting one issues and injects a segment. -/
  | sxNklSource (core : Nat)
  /-- SX_NKL_TAKE (R206): the dispatcher meets SX_NKL_TAKE, or the waiting one issues. -/
  | sxNklTake (core : Nat)
  /-- FLIT_ARRIVE (R203): the oldest flit on its way to the hop of core `core` arrives. -/
  | flitArrive (core : Nat) (crcOk : Bool) (takeFull : Bool)
  /-- TAKE_FIRST_TIMEOUT (R208): FIRST_TO passes without a segment for the take. -/
  | takeFirstTimeout (core : Nat) (take : Nat)
  /-- TAKE_GAP_TIMEOUT (R208): GAP_TO passes without a further segment for the take. -/
  | takeGapTimeout (core : Nat) (take : Nat)
  /-- SX_FACET_ENC (R225): the dispatcher meets SX_FACET_ENC, or the waiting one issues and runs. -/
  | sxFacetEnc (core : Nat)
  /-- LOUPE_BLOCK_DECODE (R233): the Loupe decodes the next block of its request. -/
  | loupeBlockDecode (core : Nat)
  /-- PIN (R277): the request PIN at the head of the page-table unit's queue is served. -/
  | pin
  /-- UNPIN (R277): the request UNPIN at the head of the queue is served. -/
  | unpin
  /-- MAP_FRESH (R277): the request MAP_FRESH at the head of the queue is served. -/
  | mapFresh
  /-- COW (R277): the request COW at the head of the queue is served. -/
  | cow
  /-- COW_COMPLETION (R277): the fill engine finishes the oldest copy. -/
  | cowCompletion
  /-- ATTACH (R277): the request ATTACH at the head of the queue is served. -/
  | attach
  /-- UNMAP (R277): the request UNMAP at the head of the queue is served. -/
  | unmap
  /-- RELEASE_CORE (R277): the request RELEASE_CORE at the head of the queue is served. -/
  | releaseCore
  /-- POOL_LOAD (R277): the request POOL_LOAD at the head of the queue is served. -/
  | poolLoad
  /-- FRAME_SCRUBBED (R279): the oldest frame at the scrubber has been scrubbed. -/
  | frameScrubbed
  /-- SCHEDULER_PLACE (R302): the scheduler takes the head of the ready queue. -/
  | schedulerPlace
  /-- LOG_SCHED_SUBMIT (R325): the Pilot writes LOG_SCHED_SUBMIT with GO = 1. -/
  | logSchedSubmit (ctxId : Nat)
  /-- GRANT_POP (R325): `agent` reads LOG_SCHED_GRANT_CORES. -/
  | grantPop (agent : Agent)
  /-- PREEMPT_REQUEST (R308): CORE_PREEMPT is written with REQ = 1. -/
  | preemptRequest (core : Nat)
  /-- PREEMPT_BOUNDARY (R308): the core stands at a kernel boundary under pre-emption. -/
  | preemptBoundary (core : Nat)
  /-- SPILL_COMPLETE (R308): every spill write is acknowledged. -/
  | spillComplete (core : Nat)
  /-- PREEMPT_RESUME (R311): CORE_PREEMPT is written with RESUME = 1. -/
  | preemptResume (core : Nat)
  /-- REFILL_COMPLETE (R311): the refill ends. -/
  | refillComplete (core : Nat)
  /-- SX_WAIT_REMOTE (R365): the dispatcher meets SX_WAIT_REMOTE, or the waiting one tries again. -/
  | sxWaitRemote (core : Nat)
  /-- WATCHDOG (R307): CORE_WDOG_CNT reaches its limit. -/
  | watchdog (core : Nat)
  /-- FAULT_HANDLING (R313): the Pilot firmware handles the fault of core `core`. -/
  | faultHandling (core : Nat)
  /-- CORE_ACCESS_TIMEOUT (R316): a Pilot access to the window of core `core` goes unanswered. -/
  | coreAccessTimeout (core : Nat)
  /-- UNREQUESTED_POWER_LOSS (R316): the domain leaves the on state without a request. -/
  | unrequestedPowerLoss (domain : Nat)
  /-- LOG_SCHED_REDISPATCH (R317): the Pilot writes LOG_SCHED_REDISPATCH with GO = 1. -/
  | logSchedRedispatch (core : Nat)
  /-- REDISPATCH_IDLE_TIMEOUT (R317): the failed core is not idle after 20 µs. -/
  | redispatchIdleTimeout (core : Nat)
  /-- REDISPATCH_BATCH (R317): the affected cores are idle and the next affected batch is re-dispatched. -/
  | redispatchBatch
  /-- CONTEXT_TEARDOWN (R314): the Pilot firmware tears the context down. -/
  | contextTeardown (ctxId : Nat)
  /-- HBM_XLAT_INV (R341): the Pilot writes HBM_XLAT_INV with GO = 1. -/
  | hbmXlatInv (value : Word)
  /-- INVALIDATION_COMPLETE (R341): the invalidation being served completes. -/
  | invalidationComplete
  /-- HBM_FILL_REQ (R343): the Pilot writes HBM_FILL_REQ with GO = 1. -/
  | hbmFillReq (size : Bool)
  /-- FILL_COMPLETE (R343): the fill engine finishes the oldest fill. -/
  | fillComplete
  /-- WALK_COMPLETE (R339): the oldest translation walk of core `core` ends. -/
  | walkComplete (core : Nat)
  /-- PATROL_READ (R335): the patrol of the stack reads its next line. -/
  | patrolRead (stack : Nat) (inj : Inject)
  /-- ON_DIE_ECC_POLL (R328): the controller polls the stack's on-die ECC, which reports `count` corrections. -/
  | onDieEccPoll (stack : Nat) (count : Nat)
  /-- HBM_TEST (R345): the Pilot writes HBM_TEST with START = 1. -/
  | hbmTest (stack : Nat) (pc : Nat)
  /-- HBM_TEST_DONE (R345): the channel test ends with `badLines` double-bit lines. -/
  | hbmTestDone (stack : Nat) (badLines : Nat)
  /-- STACK_TIMEOUT (R345): a request of the stack goes unanswered, or its PHY does not retrain. -/
  | stackTimeout (stack : Nat) (phy : Bool)
  /-- HBM_FAIL (R346): the Pilot writes HBM_FAIL with GO = 1. -/
  | hbmFail (stack : Nat)
  /-- HBM_RGN_LOCK (R331): the Pilot writes HBM_RGN_LOCK. -/
  | hbmRgnLock (value : Word)
  /-- RHUMB_FLIT_RECEIVE (R354): port P`port` receives a flit. -/
  | rhumbFlitReceive (port : Nat) (flit : RhbFlit) (crcOk : Bool)
  /-- LANE_TEST_DONE (R355): the lane test ends with the failing lanes `failMask`. -/
  | laneTestDone (port : Nat) (failMask : Word)
  /-- RHB_TEST (R374): the Pilot writes RHB_TEST with START = 1. -/
  | rhbTest (port : Nat)
  /-- RHB_RETRAIN (R374): the Pilot writes RHB_CTRL with RETRAIN = 1. -/
  | rhbRetrain (port : Nat)
  /-- LINK_UP_CHANGE (R357): the UP of the port rises or falls. -/
  | linkUpChange (port : Nat) (up : Bool)
  /-- PORT_FAIL (R369): the link is not retrained within 1 ms. -/
  | portFail (port : Nat)
  /-- PORT_RETRY_TRAINING (R369): a failed port retries training. -/
  | portRetryTraining (port : Nat)
  /-- PUT (R363): a PUT arrives for this device. -/
  | put (port : Nat) (tx : RhbTx) (tagOk : Bool)
  /-- GET (R363): a GET arrives for this device. -/
  | get (port : Nat) (tx : RhbTx) (tagOk : Bool)
  /-- GETDATA (R364): a GETDATA arrives for this device. -/
  | getdata (port : Nat) (tx : RhbTx) (tagOk : Bool)
  /-- ACK (R364): an ACK arrives for this device. -/
  | ack (port : Nat) (tx : RhbTx) (tagOk : Bool)
  /-- NACK (R360): a NACK arrives for this device. -/
  | nack (port : Nat) (tx : RhbTx) (tagOk : Bool)
  /-- MIG (R371): a MIG arrives for this device. -/
  | mig (port : Nat) (tx : RhbTx) (tagOk : Bool)
  /-- MIGACK (R371): a MIGACK arrives for this device. -/
  | migack (port : Nat) (tx : RhbTx) (tagOk : Bool)
  /-- MGMT (R383): a MGMT arrives for this device. -/
  | mgmt (port : Nat) (tx : RhbTx) (tagOk : Bool)
  /-- TRANSIT_FORWARD (R358): a transaction for another device arrives. -/
  | transitForward (port : Nat) (tx : RhbTx)
  /-- FLOW_TIMEOUT (R360): TIMEOUT_US without an acknowledgement on the sender's flow. -/
  | flowTimeout (flow : Nat)
  /-- ACK_TIMER (R360): 1 µs after a delivery on the receiver's flow without an ACK. -/
  | ackTimer (flow : Nat)
  /-- MIGRATION_TRANSFER (R371): the migrating stream `ctx` is idle and fully committed. -/
  | migrationTransfer (ctx : Nat)
  /-- RHB_DEVID_WRITE (R375): the Pilot writes RHB_DEVID. -/
  | rhbDevidWrite (value : Word)
  /-- RHB_KEY_LOAD (R375): the Pilot writes RHB_KEY_CTRL with LOAD = 1. -/
  | rhbKeyLoad (index : Nat)
  /-- RHB_KEY_CLEAR (R375): the Pilot writes RHB_KEY_CTRL with CLEAR = 1. -/
  | rhbKeyClear (index : Nat)
  /-- MBX_SEND (R379): the partner of channel `ch` writes MBX_SEND with GO = 1. -/
  | mbxSend (ch : Nat)
  /-- MBX_EVT_POP (R380): the partner of channel `ch` writes MBX_EVT_POP with GO = 1. -/
  | mbxEvtPop (ch : Nat)
  /-- EPIAN_REQUEST_SERVE (R386): the Pilot firmware picks a busy channel and serves its request; `checkOk`: a signature or verification data that it checks holds. -/
  | epianRequestServe (checkOk : Bool)
  /-- HELLO (R387): the request HELLO of channel `ch` is served. -/
  | hello (ch : Nat)
  /-- UNITMAP_READ (R387): the request UNITMAP_READ of the channel is served. -/
  | unitmapRead (ch : Nat)
  /-- COUNTS_READ (R322): the request COUNTS_READ of the channel is served. -/
  | countsRead (ch : Nat)
  /-- JOB_CREATE (R387): the request JOB_CREATE of the channel is served. -/
  | jobCreate (ch : Nat)
  /-- JOB_MAP (R387): the request JOB_MAP of the channel is served. -/
  | jobMap (ch : Nat)
  /-- JOB_UNMAP (R387): the request JOB_UNMAP of the channel is served. -/
  | jobUnmap (ch : Nat)
  /-- JOB_DESTROY (R445): the request JOB_DESTROY of the channel is served. -/
  | jobDestroy (ch : Nat)
  /-- LIST_POST (R389): the request LIST_POST of the channel is served. -/
  | listPost (ch : Nat)
  /-- MODEL_LOAD (R392): the request MODEL_LOAD of the channel is served. -/
  | modelLoad (ch : Nat)
  /-- MODEL_UNLOAD (R392): the request MODEL_UNLOAD of the channel is served. -/
  | modelUnload (ch : Nat)
  /-- ADAPTER_PUBLISH (R257): the request ADAPTER_PUBLISH of the channel is served. -/
  | adapterPublish (ch : Nat)
  /-- ADAPTER_RECLAIM (R259): the old adapter generation of the slot is reclaimed. -/
  | adapterReclaim (slot : Nat) (gen : Nat)
  /-- PREFIX_ATTACH (R387): the request PREFIX_ATTACH of the channel is served. -/
  | prefixAttach (ch : Nat)
  /-- STREAM_ADMIT (R388): the request STREAM_ADMIT of the channel is served. -/
  | streamAdmit (ch : Nat)
  /-- STREAM_CLOSE (R70): the request STREAM_CLOSE of the channel is served. -/
  | streamClose (ch : Nat)
  /-- STREAM_ABORT (R74): the request STREAM_ABORT of the channel is served. -/
  | streamAbort (ch : Nat)
  /-- STREAM_QUERY (R387): the request STREAM_QUERY of the channel is served. -/
  | streamQuery (ch : Nat)
  /-- STREAM_RESERVE (R387): the request STREAM_RESERVE of the channel is served. -/
  | streamReserve (ch : Nat)
  /-- RESERVATION_LAPSE (R387): 10 s after its response the reservation of context `ctx` lapses. -/
  | reservationLapse (ctx : Nat)
  /-- STREAM_MIGRATE (R371): the request STREAM_MIGRATE of the channel is served. -/
  | streamMigrate (ch : Nat)
  /-- STREAM_SETTLE (R373): the request STREAM_SETTLE of the channel is served. -/
  | streamSettle (ch : Nat)
  /-- POWER_SET (R390): the request POWER_SET of the channel is served. -/
  | powerSet (ch : Nat)
  /-- POWER_STANDBY (R390): the request POWER_STANDBY of the channel is served. -/
  | powerStandby (ch : Nat)
  /-- PARTITION_QUERY (R387): the request PARTITION_QUERY of the channel is served. -/
  | partitionQuery (ch : Nat)
  /-- PARTITION_SHARES (R390): the request PARTITION_SHARES of the channel is served. -/
  | partitionShares (ch : Nat)
  /-- FW_WRITE (R387): the request FW_WRITE of the channel is served. -/
  | fwWrite (ch : Nat)
  /-- FW_ACTIVATE (R394): the request FW_ACTIVATE of the channel is served; `sigOk`: the inactive slot is acceptable under R398, that is,
  its signature verifies and its version is at least MIN_FW of a valid configuration record. -/
  | fwActivate (ch : Nat) (sigOk : Bool)
  /-- CLUSTER_RESTART (R395): the request CLUSTER_RESTART of the channel is served. -/
  | clusterRestart (ch : Nat)
  /-- CLUSTER_WATCHDOG (R395): the cluster watchdog expires. -/
  | clusterWatchdog
  /-- CLUSTER_RESTARTED (R393): the loader of the application cluster starts. -/
  | clusterRestarted
  /-- CLUSTER_FRAME_TRANSMIT (R396): the front end takes a frame from the cluster transmit ring of port E`port`. -/
  | clusterFrameTransmit (port : Nat)
  /-- PILOT_WATCHDOG (R394): the Pilot watchdog finds the firmware silent for 100 ms. -/
  | pilotWatchdog
  /-- PILOT_RESTARTED (R394): the restarted firmware serves again. -/
  | pilotRestarted
  /-- SPDM (R410): the request SPDM of the channel is served; `macOk`: the verification data of a FINISH holds. -/
  | spdm (ch : Nat) (macOk : Bool)
  /-- GET_VERSION (R411): the SPDM request GET_VERSION. -/
  | getVersion (ch : Nat)
  /-- GET_CAPABILITIES (R411): the SPDM request GET_CAPABILITIES. -/
  | getCapabilities (ch : Nat)
  /-- NEGOTIATE_ALGORITHMS (R411): the SPDM request NEGOTIATE_ALGORITHMS. -/
  | negotiateAlgorithms (ch : Nat)
  /-- GET_DIGESTS (R411): the SPDM request GET_DIGESTS. -/
  | getDigests (ch : Nat)
  /-- GET_CERTIFICATE (R411): the SPDM request GET_CERTIFICATE. -/
  | getCertificate (ch : Nat)
  /-- CHALLENGE (R411): the SPDM request CHALLENGE. -/
  | challenge (ch : Nat)
  /-- GET_MEASUREMENTS (R417): the SPDM request GET_MEASUREMENTS. -/
  | getMeasurements (ch : Nat)
  /-- KEY_EXCHANGE (R412): the SPDM request KEY_EXCHANGE. -/
  | keyExchange (ch : Nat)
  /-- FINISH (R411): the SPDM request FINISH; `macOk`: its verification data holds. -/
  | finish (ch : Nat) (macOk : Bool)
  /-- HEARTBEAT (R411): the SPDM request HEARTBEAT. -/
  | heartbeat (ch : Nat)
  /-- KEY_UPDATE (R411): the SPDM request KEY_UPDATE. -/
  | keyUpdate (ch : Nat)
  /-- END_SESSION (R412): the SPDM request END_SESSION. -/
  | endSession (ch : Nat)
  /-- CHUNK_SEND (R411): the SPDM request CHUNK_SEND. -/
  | chunkSend (ch : Nat)
  /-- CHUNK_GET (R411): the SPDM request CHUNK_GET. -/
  | chunkGet (ch : Nat)
  /-- SESSION_HEARTBEAT_TIMEOUT (R412): two heartbeat periods pass without a message in the session of channel `ch`. -/
  | sessionHeartbeatTimeout (ch : Nat)
  /-- KEY_LOAD (R414): a key-transfer LOAD arrives in the session of channel `ch`. -/
  | keyLoad (ch : Nat)
  /-- KEY_CLEAR (R414): a key-transfer CLEAR arrives in the session. -/
  | keyClear (ch : Nat)
  /-- KEY_STATUS (R414): a key-transfer STATUS arrives in the session. -/
  | keyStatus (ch : Nat)
  /-- SMBUS_BLOCK_WRITE (R382): command 0x10 of the board controller. -/
  | smbusBlockWrite (offset : Nat) (data : Word) (count : Nat) (pecOk : Bool)
  /-- SMBUS_SET_POINTER (R382): command 0x11 of the board controller. -/
  | smbusSetPointer (offset : Nat) (pecOk : Bool)
  /-- SMBUS_BLOCK_READ (R382): command 0x12 of the board controller. -/
  | smbusBlockRead (count : Nat)
  /-- ALERT_RESPONSE (R438): a read of the Alert Response Address. -/
  | alertResponse
  /-- SMBUS_TIMEOUT (R438): the bus has been held low for 35 ms. -/
  | smbusTimeout
  /-- FUNCTION_LEVEL_RESET (R404): a Function Level Reset of function `fn`: 0 the physical one, v virtual function v. -/
  | functionLevelReset (fn : Nat)
  /-- PERST_N (R434): the level of PERST_N. -/
  | perstN (low : Bool)
  /-- RESET_N_LOW (R433): RESET_N is recognised low. -/
  | resetNLow
  /-- RESET_N_RELEASE (R433): RESET_N is recognised released; `boot` is what the board and the checks of the ROM give. -/
  | resetNRelease (boot : BootIn)
  /-- RAIL_UNDERVOLTAGE (R425): the rails of the 12-bit mask are below their thresholds. -/
  | railUndervoltage (rails : Nat)
  /-- REFCLK_LOSS (R431): an input is lost: 0 SYS, 1 PCIE, 2 ETH, 3 to 6 RHB0 to RHB3. -/
  | refclkLoss (input : Nat)
  /-- TEMPERATURE_SAMPLE (R428): the 44 temperatures are read, in °C. -/
  | temperatureSample (readings : List Int)
  /-- POWER_AVERAGE (R427): the power average of the last 1 ms. -/
  | powerAverage (watts : Nat)
  /-- GATE_DUTY_UPDATE (R430): the 1 ms update of DUTY. -/
  | gateDutyUpdate
  /-- GPIO_INPUT_CHANGE (R439): a synchronised input changes. -/
  | gpioInputChange (pin : Nat) (level : Bool)
  /-- GPIO_DEBOUNCE_ACCEPT (R439): an input has held its level for the debounce period. -/
  | gpioDebounceAccept (pin : Nat)
  /-- TAP_RESET (R436): TRST_N low, or five TCK cycles with TMS high. -/
  | tapReset
  /-- IDCODE (R436): the instruction IDCODE is updated. -/
  | idcode
  /-- SAMPLE_PRELOAD (R436): the instruction SAMPLE/PRELOAD is updated. -/
  | samplePreload
  /-- EXTEST (R436): the instruction EXTEST is updated. -/
  | extest
  /-- CLAMP (R436): the instruction CLAMP is updated. -/
  | clamp
  /-- HIGHZ (R436): the instruction HIGHZ is updated. -/
  | highz
  /-- BYPASS (R436): the instruction BYPASS is updated. -/
  | bypass
  /-- REG_ACCESS (R437): Update-DR with the 59 bits `dr` under REG_ACCESS. -/
  | regAccess (dr : Nat)
  /-- LOCAL_RESULT_RING_FREE (R44): the application cluster writes the consumer index of the local result ring. -/
  | localResultRingFree (index : Word)
  /-- HOST_LINK_CHANGE (R404): the PCIe link of the host port is lost or returns. -/
  | hostLinkChange (up : Bool)
  /-- RAIL_RESTORED (R425): every rail is back in tolerance for 1 ms. -/
  | railRestored (boot : BootIn)
  /-- REFCLK_RESTORED (R431): a lost input runs in tolerance again. -/
  | refclkRestored (input : Nat) (boot : BootIn)
  /-- CHAIN_TEST_DONE (R318): the Necklace chain test through the hop of core `core` ends. -/
  | chainTestDone (core : Nat) (pass : Bool)
  deriving DecidableEq, Repr

end Sys2Proof
end

