-- ==== Sys2Proof/Decode.lean ====
section
/-! DEFINITION. Words of the opcode table. No row of the table gives bits, so no word spells a command. -/

namespace Sys2Proof

/-- The command that a word of `nbits` bits spells: none, for no row has bits. (DESIGN CHOICE, log entry 20) -/
def decodeTableWord (_nbits _w : Nat) : Option Instr := none

end Sys2Proof
end

