-- ==== Sys2Proof/Machine/State.lean ====
section
/-! DEFINITION. The state of the block as plain data (INVENTORY.md, State), and the state right after a full reset, before the boot. -/

namespace Sys2Proof.Machine

/-- Why a step stops with a fault. No meaning of this model raises one: every error of the spec is an effect on the state
(a fault code of a core, an error response, an error flag). Safe: a machine that never stops shows no less than the hardware. -/
inductive Fault where
  /-- Raised by no meaning. Safe. -/
  | none
  deriving DecidableEq, Repr

/-- Why a command is refused. -/
inductive Refusal where
  /-- Raised by the arms of `exec` of commands that have no meaning yet. Safe: the machine stops where the hardware goes on. -/
  | notModelled (mnemonic : String)
  deriving DecidableEq, Repr

/-- A finite map from natural numbers, keys strictly rising; what an absent key reads as is said where the map is used. -/
abbrev NatMap (α : Type) := List (Nat × α)

/-! ### Register bus (R5-R9, R27) -/

/-- The register bus: low words written and not yet in effect (R8), high words captured by a read of the low word, keyed by
`2^28 * agent + key` (R8), the refused-access counter of each agent (R27), and the answer to the last access. -/
structure Bus where
  low : NatMap Word := []
  capture : NatMap Word := []
  refused : NatMap Nat := []
  err : Bool := false
  data : Word := 0
  deriving DecidableEq, Repr, Inhabited

/-! ### Power, reset, board (R18-R24, R422-R440) -/

/-- A request of the power queue (R23): direction, domain, requester (0 the Pilot, n + 1 core n). -/
structure PwrReq where
  on : Bool
  domain : Nat
  src : Nat
  deriving DecidableEq, Repr, Inhabited

/-- The power controller (R18-R24). -/
structure Pwr where
  on : BitVec 80 := 0
  fenced : BitVec 80 := 0
  queue : List PwrReq := []
  cur : Option PwrReq := none
  drained : Bool := false
  completionLine : Bool := false
  errorLine : Bool := false
  deriving DecidableEq, Repr, Inhabited

/-- What the firmware is doing (R399, R402, R394): held in reset, ROM mode, a record failed its check, booting (R399, steps 5 to 7), serving,
restarting with the cause of R393. -/
inductive BootMode where
  | held | rom | recordFail | booting | running | restarting (cause : Nat)
  deriving DecidableEq, Repr, Inhabited

/-- Reset and reference clocks (R425, R429-R434). -/
structure Rst where
  mode : BootMode := .held
  pinHeld : Bool := true
  railHeld : Bool := false
  clkHeld : Bool := false
  tripHeld : Bool := false
  thermTrip : Bool := false
  perstLow : Bool := false
  strap : Nat := 0
  refLost : BitVec 7 := 0
  deriving DecidableEq, Repr, Inhabited

/-- The keys that the ROM derives from DS (R407), as bytes: memory data, memory tweak, link root and identity wrap. -/
structure DeviceKeys where
  memData : List Byte
  memTweak : List Byte
  linkRoot : List Byte
  idWrap : List Byte
  deriving DecidableEq, Repr, Inhabited

/-- The device secret and what is made of it (R406-R408): the register of DS in the ROM's key-derivation path; the reconstructions of this boot; the
derived keys; whether the public-key engine holds the identity key; the key pair in each memory controller; the key in the key-table wrapper. -/
structure Secure where
  ds : List Byte := List.replicate 32 0
  tries : Nat := 0
  keys : Option DeviceKeys := none
  idKey : Bool := false
  memKeys : List (Option (List Byte × List Byte)) := List.replicate 8 none
  linkRoot : Option (List Byte) := none
  deriving DecidableEq, Repr, Inhabited

/-- Temperatures, alert, gating (R427-R430). -/
structure Therm where
  temps : List Int := []
  tripCount : List Nat := []
  alert : Bool := false
  duty : Nat := 16
  power : Nat := 0
  deriving DecidableEq, Repr, Inhabited

/-- One GPIO pin (R439): the synchronised level, the accepted level, and when the synchronised level last changed. -/
structure Gpio where
  level : Bool := false
  accepted : Bool := false
  since : Nat := 0
  deriving DecidableEq, Repr, Inhabited

/-- What the boundary outputs of JTAG do (R436). -/
inductive JtagOut where
  | functional | driven | held | highz
  deriving DecidableEq, Repr, Inhabited

/-- The TAP (R436, R437): instruction, result captured by REG_ACCESS, and the outputs. -/
structure Jtag where
  ir : Nat := 0x01
  status : Nat := 0
  data : Word := 0
  write : Bool := false
  offset : Nat := 0
  outputs : JtagOut := .functional
  deriving DecidableEq, Repr, Inhabited

/-- The board management bus (R382, R438): the read pointer, the bytes last returned, whether the last transfer was
acknowledged, and the address last returned by the Alert Response Address. -/
structure Smbus where
  pointer : Nat := 0
  lastBlock : List Byte := []
  acked : Bool := false
  alertAddr : Option Nat := none
  deriving DecidableEq, Repr, Inhabited

/-! ### Memory (R330-R349) -/

/-- HBM: bytes by physical address (0 where unlisted), for each line the identity it was written under (absent: Z = 1,
R333, R336), the line copies `2 * line + copy` that hold a double-bit or a single-bit error (R334), and those of a written line that were
destroyed with their stack's supply while the other copy stands (R19). -/
structure Mem where
  bytes : List Host.Cell := []
  ident : NatMap Nat := []
  bad : List Nat := []
  soft : List Nat := []
  lost : List Nat := []
  deriving DecidableEq, Repr, Inhabited

/-- A cached translation (R340): context, virtual 64 KiB page of its start, size, frame, write permission. -/
structure Tlb where
  ctx : Nat
  vpage : Nat
  big : Bool
  pa : Nat
  w : Bool
  deriving DecidableEq, Repr, Inhabited

/-- A fill (R343): the page, its size, whether it comes from the page-table unit, the pool and frame it frees there, and the physical address
of that frame's scale area. -/
structure Fill where
  pa : Nat
  big : Bool
  kv : Bool
  pool : Nat
  frame : Nat
  scale : Option Nat := none
  deriving DecidableEq, Repr, Inhabited

/-- The requests of the page-table unit (R277). -/
inductive KvOp where
  | pin | unpin | mapFresh | cow | attach | unmap | releaseCore | poolLoad
  deriving DecidableEq, Repr, Inhabited

/-- A request of the page-table unit (R277): its source (none: the Pilot; a core), the command it serves and the page of its list, context,
virtual address, frame (a physical address; for ATTACH the index in the pool; for RELEASE_CORE the core) and pool. -/
structure KvReq where
  op : KvOp
  src : Option Nat := none
  seq : Nat := 0
  page : Nat := 0
  ctx : Nat := 0
  va : Nat := 0
  frame : Nat := 0
  pool : Nat := 0
  deriving DecidableEq, Repr, Inhabited

/-- An invalidation (R341): a context, all of it or `n` 64 KiB pages from `va`; the translations dropped when it started; and what comes about
when it completes: fills (R343), and the requests of the page-table unit that complete with it, each with the frame it returns (R277). -/
structure Inval where
  ctx : Nat
  all : Bool
  va : Nat
  n : Nat
  dropped : List Tlb := []
  fills : List Fill := []
  answers : List (KvReq × Option Nat) := []
  deriving DecidableEq, Repr, Inhabited

/-- The hub's memory unit (R341, R343, R349). `invWait` and `fillWait` hold the invalidations and fills that wait for room in the queues of 16
and 64; `invN` is the value of HBM_XLAT_INV.N; `tlb` is the Logbook's cache of 256 translations (R340). -/
structure Hub where
  invQueue : List Inval := []
  invWait : List Inval := []
  invN : Nat := 0
  fills : List Fill := []
  fillWait : List Fill := []
  tlb : List Tlb := []
  deriving DecidableEq, Repr, Inhabited

/-! ### Streams and the front end (R33-R75) -/

/-- Where a frame came from, and where its answer goes (R44, R67): the local port, or an address, UDP port and Ethernet port. -/
structure Peer where
  loc : Bool := false
  ipv6 : Bool := false
  addr : List Word := []
  udp : Nat := 0
  eport : Nat := 0
  deriving DecidableEq, Repr, Inhabited

/-- The binding of a stream's source (R40, R388) and the job, channel and slot that admitted it. -/
structure Binding where
  job : Nat := 0
  ch : Nat := 0
  slot : Nat := 0
  src : Nat := 0
  pt : Nat := 0
  extId : Nat := 0
  ipv6 : Bool := false
  l16rate : Nat := 0
  ports : Nat := 0
  ssrc : Word := 0
  sport : Nat := 0
  dport : Nat := 0
  srcAddr : List Word := []
  ackAddr : List Word := []
  ackPort : Nat := 0
  deriving DecidableEq, Repr, Inhabited

/-- The chunk of a VSF stream being assembled (R43): samples present by offset, marks by frame, the priority in force. -/
structure OpenChunk where
  seq : Word
  format : Nat
  rate : Nat
  samples : NatMap Int
  marks : List Nat
  prio : Option Nat
  peer : Peer
  deriving DecidableEq, Repr, Inhabited

/-- A complete chunk: converted samples, marks by frame, priority, samples concealed, sequence (VSF), sender. -/
structure Chunk where
  seq : Word
  samples : List Int
  marks : List Nat
  prio : Option Nat
  concealed : Nat
  peer : Peer
  deriving DecidableEq, Repr, Inhabited

/-- The RTP timeline (R46): the timestamp of position 0, the first position of the open chunk, the samples, marks and priorities present by position,
the class that the stream last claimed (R42), the arrival of the last packet, the packets that reach beyond the open chunk as (position after the last
sample, arrival), the last sequence number and the packets lost; `silent`: the silence rule has closed the last chunk and none is open. -/
structure RtpLine where
  base : Option Word := none
  start : Nat := 0
  samples : NatMap Int := []
  marks : List Nat := []
  prios : List (Nat × Nat) := []
  claim : Option Nat := none
  peer : Peer := {}
  last : Option Nat := none
  ends : List (Nat × Nat) := []
  lastSeq : Option Nat := none
  lost : Nat := 0
  silent : Bool := false
  deriving DecidableEq, Repr, Inhabited

/-- A RESULT frame not yet acknowledged (R69): tag, frame bytes, retransmissions, time of the last sending. -/
structure ResultFrame where
  seq : Word
  segment : Nat
  bytes : List Byte
  rtx : Nat
  last : Nat
  deriving DecidableEq, Repr, Inhabited

/-- A committed chunk whose results are to be released (R66): utterance at its start, its mark, whether its step was late. -/
structure Release where
  seq : Word
  utt : Nat
  mark : Bool
  late : Bool
  deriving DecidableEq, Repr, Inhabited

/-- What the front end and the Logbook keep of a context that is not FREE, beside its 128 B in HBM; `peer` is the sender of the chunk last
accepted, `eport` the port on which a chunk last arrived (R67). -/
structure Stream where
  bind : Binding := {}
  rate : Option Nat := none
  hist : List Int := []
  cur : Option OpenChunk := none
  rtp : RtpLine := {}
  peer : Peer := {}
  eport : Nat := 0
  tokAt : Nat := 0
  tokFrac : Nat := 0
  closeSeq : Option Word := none
  rtpClosing : Bool := false
  lastLate : Option Nat := none
  acks : List (Word × Peer) := []
  releases : List Release := []
  unacked : List ResultFrame := []
  migrating : Bool := false
  inDoubt : Bool := false
  deriving DecidableEq, Repr, Inhabited

/-- A frame handed to a transmit queue: a UDP datagram to a peer from the port's own address and a source port (R67), or (`raw`) a frame of the
application cluster. -/
structure TxFrame where
  raw : Bool := false
  srcMac : Nat := 0
  peer : Peer := {}
  srcPort : Nat := 0
  bytes : List Byte
  deriving DecidableEq, Repr, Inhabited

/-- A chunk in the hold pool (R47): its stream, its slots, and when its hold started. -/
structure Held where
  ctx : Nat
  chunk : Chunk
  slots : List Nat
  start : Nat
  deriving DecidableEq, Repr, Inhabited

/-- A datagram matched by the parse of a port and not yet taken (R40): of an RTP stream, with the frame that brought it, or VSF. -/
inductive Item where
  | rtp (ctx : Nat) (f : NetFrame) (d : Datagram)
  | vsf (d : Datagram)
  deriving DecidableEq, Repr

/-- The stream front end and the MACs (R14, R17, R40-R52, R396, R405). `rx` and `items` are per port, a received frame with the VSF_PORT in
force when it came (R78); `tx` holds the frames placed in the transmit queue of each port. -/
structure FrontEnd where
  rx : List (List (NetFrame × Nat)) := [[], []]
  items : List (List Item) := [[], []]
  tx : List (List TxFrame) := [[], []]
  linkDown : List Bool := [false, false]
  streams : NatMap Stream := []
  hold : List Held := []
  localWait : List (Nat × List Byte) := []
  deriving DecidableEq, Repr, Inhabited

/-! ### The Logbook and the scheduler (R54-R77, R299-R327) -/

/-- One entry of a work list (R57), with the join count of its slices as a mask (R92) and whether it has committed. -/
structure BEntry where
  handle : Word
  seq : Word
  rdVer : Bool
  mark : Bool
  markFrame : Nat
  utt : Nat
  deadline : Word
  join : BitVec 32 := 0
  committed : Bool := false
  deriving DecidableEq, Repr, Inhabited

/-- A batch (R55, R57): its work-list slot when it has one, whether it is dispatched, the core of each slice when it is placed, the slices that have
arrived at each barrier (R98), the slices that have ended and that are spilled, the re-dispatches of its streams after hardware and program faults
(R313), and the spilled slices that have been placed to resume (R304); `dead`: its streams have been re-dispatched in a new batch (R317). -/
structure Batch where
  id : Nat
  model : Nat
  ctxId : Nat
  cls : Nat
  entries : List BEntry
  tick : Nat
  slot : Option Nat := none
  queued : Bool := false
  place : List Nat := []
  barr : List (BitVec 32) := []
  ended : BitVec 32 := 0
  spilled : BitVec 32 := 0
  hwFaults : Nat := 0
  progFaults : Nat := 0
  coming : BitVec 32 := 0
  dead : Bool := false
  deriving DecidableEq, Repr, Inhabited

/-- A direct job in the scheduler (R302): as for a batch. `order` is the order of submission, `granted` the cores of the grants that the
firmware has taken and on which it has yet to start lists (R302, R389). -/
structure Direct where
  ctxId : Nat
  order : Nat
  place : List Nat := []
  barr : List (BitVec 32) := []
  ended : BitVec 32 := 0
  spilled : BitVec 32 := 0
  granted : BitVec 32 := 0
  coming : BitVec 32 := 0
  deriving DecidableEq, Repr, Inhabited

/-- A work item (R300): a serving batch by its identifier, or the lists of a direct context. -/
inductive WorkItem where
  | batch (id : Nat)
  | direct (ctxId : Nat)
  deriving DecidableEq, Repr, Inhabited

/-- A copy in progress (R277): the request, and the frames it copies from and to. -/
structure KvCopy where
  req : KvReq
  fromPa : Nat
  toPa : Nat
  deriving DecidableEq, Repr, Inhabited

/-- The page-table unit (R277-R280): its queue of 64, the core requests waiting at their crossings and the rotating order of their requesters (R278: 0
the Pilot, n + 1 core n), the pool table entries it has loaded, the pins recorded as (core, command, frame), the copies in progress, and its line to
the Pilot. -/
structure Kv where
  queue : List KvReq := []
  crossing : List KvReq := []
  order : List Nat := List.range 33
  pools : NatMap (List Word) := []
  pins : List (Nat × Nat × Nat) := []
  copies : List KvCopy := []
  line : Bool := false
  deriving DecidableEq, Repr, Inhabited

/-- The Logbook (R54-R77) with its page-table unit. -/
structure Logbook where
  admission : Nat := 0
  evq : List (List Word) := []
  batches : List Batch := []
  nextBatch : Nat := 1
  kv : Kv := {}
  deriving DecidableEq, Repr, Inhabited

/-- The scheduler (R302-R308, R317): ready queue, grants (context, cores), rotation counter of each context, direct jobs, the
cores with a pending pre-emption and the item each makes room for, and the recovery in progress: failed core and batches. -/
structure Sched where
  ready : List WorkItem := []
  grants : List (Nat × BitVec 32) := []
  rot : NatMap Nat := []
  directs : List Direct := []
  nextOrder : Nat := 0
  victims : List (Nat × WorkItem) := []
  redisp : List (Nat × List Nat) := []
  deriving DecidableEq, Repr, Inhabited

/-! ### Mailboxes and the Pilot firmware (R377-R402, R445) -/

/-- A mailbox channel (R378): `lost` counts the events dropped since the last EVENTS_LOST, `signals` the MSI-X signals sent or
the level of the signal (R381). -/
structure Channel where
  busy : Bool := false
  rspReady : Bool := false
  evtOvf : Bool := false
  ctrl : Word := 0
  err : Word := 0
  req : NatMap Word := []
  rsp : NatMap Word := []
  events : List (List Word) := []
  evDrop : Word := 0
  evSeq : Word := 0
  lost : Nat := 0
  msix : List Nat := []
  deriving DecidableEq, Repr, Inhabited

/-- A job (R387, R445). `ended`: completed or failed, its context gone; `listVa` and `compat`: the lists posted. -/
structure Job where
  id : Nat
  ch : Nat
  ctxId : Nat
  direct : Bool
  cls : Nat
  mirror : Bool
  part : Nat
  ncores : Nat
  client : Nat
  seed : BitVec 64
  key : Nat
  save : Bool
  landing : Nat
  ended : Bool := false
  posted : Bool := false
  listVa : Nat := 0
  compat : Bool := false
  deriving DecidableEq, Repr, Inhabited

/-- The use of a frame of HBM by a job's space: 2 MiB or 64 KiB, the job, and whether it is on its way through the scrubber. -/
structure FrameUse where
  big : Bool
  job : Nat
  scrub : Bool := false
  deriving DecidableEq, Repr, Inhabited

/-- A published adapter generation (R257-R259): `after` is ACCEPT_SEQ of every stream, by handle, at the publication that followed it. -/
structure AdapterRec where
  gen : Nat
  base : Nat
  bytes : Nat
  after : Option (NatMap Word) := none
  deriving DecidableEq, Repr, Inhabited

/-- What the firmware keeps of a model slot that is VALID. -/
structure SlotRec where
  job : Nat
  imageVa : Nat
  bytes : Nat
  digest : List Word
  streamsFull : Nat
  initOff : Nat
  adpGenOff : Nat
  adpDir : Nat
  kvRecOff : Nat
  kvRecCount : Nat
  adapters : List AdapterRec := []
  deriving DecidableEq, Repr, Inhabited

/-- A test of Sounding (R318): 0 bank, 1 array, 2 registers, 3 chain, the bank of a bank march, and the unit whose pass it counts when it is
the last test of that unit (R319). -/
structure SoundTest where
  kind : Nat
  bank : Nat := 0
  unit : Option Nat := none
  deriving DecidableEq, Repr, Inhabited

/-- Sounding of a core (R318): the tests that run or wait on it, and when it was called. -/
structure Sounding where
  core : Nat
  tests : List SoundTest
  since : Nat
  deriving DecidableEq, Repr, Inhabited

/-- A reservation of a stream context (R387): when it was answered. -/
structure Reservation where
  handle : Word
  slot : Nat
  since : Nat
  job : Nat
  ch : Nat
  deriving DecidableEq, Repr, Inhabited

/-- A session of SPDM (R412): its identifier, whether FINISH has completed it, and when its last message came. -/
structure SpdmSession where
  id : Nat
  established : Bool := false
  last : Nat := 0
  deriving DecidableEq, Repr, Inhabited

/-- What the responder keeps of a channel (R410-R412): how far the negotiation has come (1 version, 2 capabilities, 3 algorithms), the
messages so far, the session, the large request being received (handle, next chunk, size, bytes), the large response being fetched
(handle, next chunk, bytes left), and the number of sessions opened. -/
structure SpdmConn where
  stage : Nat := 0
  transcript : List Byte := []
  session : Option SpdmSession := none
  chunkReq : Option (Nat × Nat × Nat × List Byte) := none
  chunkRsp : Option (Nat × Nat × List Byte) := none
  opened : Nat := 0
  deriving DecidableEq, Repr, Inhabited

/-- A teardown in progress (R314): the job whose context ends, whether it ends normally, the fault that ends it, and whether its steps 2 and 3
have begun. -/
structure Teardown where
  job : Job
  ok : Bool
  fault : Nat := 0
  core : Nat := 0
  cleared : Bool := false
  deriving DecidableEq, Repr, Inhabited

/-- The Pilot firmware's tables in SRAM (R320-R322, R386-R396), the records in effect (R400, R401), the power requests that the firmware has yet to
place and the channel that waits for them (R390), standby (R22), the step of R399 that a boot or the end of standby waits in (0 none), the cluster
loader and whether its signature holds (R399), teardowns in progress, the sender of the last MGMT request (R383), SPDM (R410), the core failures that
the firmware has not seen, with what ran on the core and whether it was spilling (R315, R316), the binding of key entries to channel and job (R414),
and the channel and job that admitted each handle whose CLOSED event has not been relayed (R76, R393). -/
structure Pilot where
  mboxOrder : List Nat := [0, 1, 2, 3]
  chanOrder : List Nat := List.range 17
  jobs : List Job := []
  nextJob : Nat := 1
  frames : NatMap FrameUse := []
  slots : NatMap SlotRec := []
  reserved : NatMap Reservation := []
  counts : NatMap (List Word) := []
  unitMap : List Word := []
  change : Word := 0
  passes : NatMap (List Nat) := []
  sounding : List Sounding := []
  held : BitVec 32 := 0
  serving : Option Nat := none
  mgmtSrc : Option Nat := none
  clusterUp : Bool := false
  clusterRestart : Option Nat := none
  hostLink : Bool := false
  config : List Byte := []
  decl : List Byte := []
  version : Word := 0
  activeSlot : Nat := 0
  bootCount : Word := 0
  loaderDigest : List Word := []
  coresUnseen : List (Nat × Option WorkItem × Bool) := []
  wantPower : List (Bool × Nat) := []
  powerAsk : Option Nat := none
  standby : Bool := false
  bringUp : Nat := 0
  loader : List Byte := []
  loaderOk : Bool := false
  teardowns : List Teardown := []
  mgmtReq : Nat := 0
  spdm : List SpdmConn := List.replicate 20 {}
  keyBind : NatMap (Nat × Nat) := []
  admits : NatMap (Nat × Nat) := []
  deriving DecidableEq, Repr, Inhabited

/-! ### Cores (R79-R108, R109-R136, R137-R164, R165-R183, R184-R216) -/

/-- An open LOOP level (R90, R310): iteration index, iteration count, the address of the LOOP and of the command after it, whether
it is a work-list loop, its DIV and its rotation stride. -/
structure Loop where
  li : Nat
  iter : Nat
  pc : Nat
  body : Nat
  wl : Bool
  div : Nat
  rot : Nat
  deriving DecidableEq, Repr, Inhabited

/-- The slice table entry of a slice that the core carries (R82, R90, R101). `loops` is innermost first; `atStart`: no command of
the kernel has been dispatched yet (R312); `wait`: the operand words of a waiting SX_WAIT_REMOTE (R312); `stepEnd`: the fence of a STEP_END
is draining (R103); `saved`: its live ranges are those of its save area, no FENCE having named others since it resumed (R311). Until `started`:
`tabled` says that `list` has come from the table, `hdr` is the header once read; `skip` is how far a scan of the list has come (R82, R90): the
address of the next command, the nesting depth, and the line read last plus 1. -/
structure SliceSt where
  slice : Nat
  list : Nat := 0
  started : Bool := false
  ended : Bool := false
  pc : Nat := 0
  endVa : Nat := 0
  wl : Bool := false
  loops : List Loop := []
  fences : Nat := 0
  barriers : Nat := 0
  arrived : Bool := false
  atStart : Bool := true
  wait : Option (List Word) := none
  covered : List Nat := []
  stepEnd : Bool := false
  live : Nat := 0
  liveMap : Nat := 0
  saved : Bool := false
  tabled : Bool := false
  hdr : List Word := []
  skip : Option (Nat × Nat × Nat) := none
  deriving DecidableEq, Repr, Inhabited

/-- A decoded command (R84-R88): opcode, its virtual address, slice, number in program order, AHEAD, its word ranges with rotation
added, operand words, rotation, work-list window of the innermost loop when there is one, how far it has come (rows, passes or parts), the
highest block that it has read of a packed operand (R231), and whether its effect is complete. -/
structure Cmd where
  op : Nat
  va : Nat := 0
  slice : Nat := 0
  seq : Nat := 0
  ahead : Bool := false
  rds : List (Nat × Nat) := []
  wrs : List (Nat × Nat) := []
  ops : List Word := []
  rot : Nat := 0
  win : Option (Nat × Nat) := none
  div1 : Bool := false
  prog : Nat := 0
  mark : Nat := 0
  done : Bool := false
  deriving DecidableEq, Repr, Inhabited

/-- What the dispatcher is doing (R93, R97, R98, R444, R91, R365): dispatching, draining a FENCE, waiting at its barrier, draining an
END, waiting for a bank power transition to be queued, stopped by a fault or an abort, stopped for pre-emption. -/
inductive Ctl where
  | run | fence (barrier : Bool) | barrier | endDrain | stopped | preempted
  deriving DecidableEq, Repr, Inhabited

/-- What runs on a core (R80, R107): nothing, the lists of a batch, of a direct job, or a VDN-8E list. -/
inductive Run where
  | idle | batch (id : Nat) | direct | compat
  deriving DecidableEq, Repr, Inhabited

/-- A weight plane (R110, R115-R119): format, group size code, K, N, raw elements by n * K + k, scales, codebooks, escapes as
(column, k, BF16 value), EMAX and the escape total. -/
structure Plane where
  valid : Bool := false
  fmt : Nat := 0
  gsize : Nat := 0
  k : Nat := 0
  n : Nat := 0
  elems : List Nat := []
  scales : List Nat := []
  books : List Nat := []
  escs : List (Nat × Nat × Nat) := []
  emax : Nat := 0
  escTotal : Nat := 0
  deriving DecidableEq, Repr, Inhabited

/-- A tile with its header (R129). -/
structure Tile where
  w0 : Word
  w1 : Word
  el : List Word
  deriving DecidableEq, Repr, Inhabited

/-- What a transfer does when it completes (R184, R185, R205, R208, R227, R362): a plain read or write, a put or a get, a flit of a
Necklace source or of a refetch, a part of the Facet block whose index entry (word and value) it completes, a write of Facet map
entries (address and value), a read of a KV page, a write of `len` bytes of scratchpad from byte `src` on to a KV page; those two are
addressed by frame when `direct` (R291); a part of the work list (R195), addressed by physical address. -/
inductive XKind where
  | workList
  | page (direct : Bool) | pageWrite (direct : Bool) (src len : Nat) | read | write | put | get | source (seg flit : Nat) | refetch (seg flit : Nat) | block (word : Nat) (entry : Word)
  | mapWrite (entries : List (Nat × Word))
  deriving DecidableEq, Repr, Inhabited

/-- A transfer of the stream engine: its command, slice, class (0 READ, 1 WRITE, 2 REMOTE), kind, context, virtual or remote address,
lines, first scratchpad line, whether its generation has not started (R199), its physical address once it has entered, its flow
number when remote, and the data of a write. -/
structure Xfer where
  seq : Nat
  slice : Nat
  cls : Nat
  kind : XKind
  ctx : Nat
  va : Nat
  lines : Nat
  spLine : Nat
  held : Bool := false
  pa : Nat := 0
  tid : Nat := 0
  data : List Byte := []
  deriving DecidableEq, Repr, Inhabited

/-- A descriptor slot (R198): GEN, the live generations with their commands, oldest first, and whether the newest waits. -/
structure DescSlot where
  gen : Nat := 0
  live : List (Nat × Nat) := []
  pending : Bool := false
  deriving DecidableEq, Repr, Inhabited

/-- A flit of the Necklace (R202). -/
structure Flit where
  origin : Nat
  ctx : Nat
  batch : Nat
  ntag : Nat
  seg : Nat
  idx : Nat
  lines : Nat
  lastSeg : Bool
  va : Nat
  data : List Byte
  deriving DecidableEq, Repr, Inhabited

/-- An entry of a hop's seen table (R208). -/
structure Seen where
  ctx : Nat
  batch : Nat
  ntag : Nat
  last : Nat
  done : Bool
  deriving DecidableEq, Repr, Inhabited

/-- Where a Facet block of a packed area lies (R228): first line counted from the area's first one, lines, index entry. -/
structure BlockAt where
  off : Nat
  lines : Nat
  entry : Word
  deriving DecidableEq, Repr, Inhabited

/-- An active take (R206-R208): its command, tag, context, batch, range, base, first line of its area, NEXT, the segments landed, the
segment arriving with its flits landed, the refetch list as runs, whether it has fallen back, when it issued and when a segment
of its tag last arrived, and the blocks of a FACET take by segment. -/
structure Take where
  seq : Nat
  slice : Nat
  ntag : Nat
  ctx : Nat
  batch : Nat
  first : Nat
  count : Nat
  base : Nat
  facet : Bool
  line : Nat
  next : Nat
  landed : List Nat := []
  part : Option (Nat × Nat) := none
  refetch : List (Nat × Nat) := []
  fallback : Bool := false
  issued : Nat := 0
  arrival : Option Nat := none
  blocks : NatMap BlockAt := []
  deriving DecidableEq, Repr, Inhabited

/-- An active source (R205): its command, tag, context, batch, base, number of the last segment, the flits not yet injected as (segment,
flit, lines), and the data that has arrived for them, keyed by 8 times the segment plus the flit. -/
structure Source where
  seq : Nat
  slice : Nat
  ntag : Nat
  ctx : Nat
  batch : Nat
  base : Nat
  last : Nat
  flits : List (Nat × Nat × Nat)
  data : NatMap (List Byte) := []
  deriving DecidableEq, Repr, Inhabited

/-- A work-list descriptor (R195, R305): batch, context, slice mask, bases, model, physical address of the list, the four pools and the sizes of
the model slot, and whether it resumes spilled slices (R311). -/
structure WlDesc where
  batch : Nat
  ctxId : Nat
  mask : BitVec 32
  progBase : Nat
  mapBase : Nat
  model : Nat
  listPa : Nat
  statePool : Nat
  ringPool : Nat
  journalPool : Nat
  resultPool : Nat
  stateBytes : Nat
  slotBytes : Nat
  resultBytes : Nat
  resume : Bool := false
  deriving DecidableEq, Repr, Inhabited

/-- A completion on its way to the Logbook (R92): batch, slice, first entry, entries. -/
structure Cpl where
  batch : Nat
  slice : Nat
  first : Nat
  n : Nat
  deriving DecidableEq, Repr, Inhabited

/-- A command whose elements are being issued (R196, R199, R205, R206, R227): its number, the next element or segment, the address of a Facet
element whose map entries are being read with those read so far, the next line of a packed area, blocks so far, and the map entries to be written. -/
structure ArmSt where
  seq : Nat
  elem : Nat := 0
  addr : Option Nat := none
  ents : List Word := []
  off : Nat := 0
  block : Nat := 0
  maps : List (Nat × Word) := []
  deriving DecidableEq, Repr, Inhabited

/-- A request of the Loupe (R230, R233): the command it serves, the requester, the format it consumes, the first line of the packed area, the first
and last word of its range, blocks in all, blocks decoded so far, and the bytes decoded. For a refill (R311), `line` is the first line of the range to
restore and `pack` the packed area read from the save area. -/
structure LoupeReq where
  seq : Nat
  req : Nat
  fmt : Nat
  line : Nat
  lo : Nat
  hi : Nat
  blocks : Nat
  next : Nat := 0
  out : List Byte := []
  pack : List Byte := []
  deriving DecidableEq, Repr, Inhabited

/-- A fused attention pair (R286-R294): its MX command and its VX command once that has issued, the record images that the two read, the frames of
the pages pinned, the requests not yet answered, fetches started, blocks computed, the output rows, the frame that a flush
received, and the stage: 0 blocks, 1 the requests of FINAL, 2 the writes of a flush, 3 over. -/
structure Attn where
  mx : Nat
  vx : Option Nat := none
  image : List Word := []
  vimage : List Word := []
  pins : NatMap Nat := []
  asked : Nat := 0
  fetches : Nat := 0
  next : Nat := 0
  rows : List (List Word) := []
  frame : Option Nat := none
  stage : Nat := 0
  deriving DecidableEq, Repr, Inhabited

/-- One core: what it runs, its slices and dispatcher; the engine queues (Q), the commands issued and not retired (A) and the commands translated from
VDN-8E ones that wait for room (R103); the work lists; planes, staging, tile queue (by command) and tile registers; the scratchpad; transfers,
descriptors, Necklace hop, Loupe; translation caches (R340); pre-emption, watchdog, signals (R365), lines; the context that last started (R305); and
whether its work stopped during a spill (R315). `spadBad` and `spadSoft` are the 8 B pieces with a double-bit and a single-bit error (R178), `bist`
the tests that run with the bank of a bank march (R134, R162, R178, R204), `portQ` how many of the newest outstanding transfers still stand in the
port's request queue (R17, R186), `portOrder` the rotating order of its classes (R190), `takeQ` the take queue with the take of each flit (R207),
`wlLines` the lines of the work list that have arrived (R195), and `arms` the commands whose elements are being issued. -/
structure Core where
  run : Run := .idle
  slices : List SliceSt := []
  cur : Nat := 0
  fetch : List Word := []
  ctl : Ctl := .run
  seqNo : Nat := 0
  mxQ : List Cmd := []
  vxQ : List Cmd := []
  sxQ : List Cmd := []
  mxA : List Cmd := []
  vxA : List Cmd := []
  sxA : List Cmd := []
  bank : Option Cmd := none
  wlq : List WlDesc := []
  wl : Option WlDesc := none
  wlBuf : List Word := []
  wlLines : List Nat := []
  cpl : List Cpl := []
  plane0 : Plane := {}
  plane1 : Plane := {}
  front : Nat := 0
  firstLoad : Bool := true
  loaded : Bool := false
  staging : List (Nat × Tile) := []
  tileQ : List Tile := []
  tregs : NatMap Word := []
  wss : BitVec 32 := 0
  vxTag : Word := 0
  spad : List Host.Cell := []
  tags : NatMap Nat := []
  written : NatMap (BitVec 64) := []
  spadBad : List Nat := []
  spadSoft : List Nat := []
  revoking : Option Nat := none
  bist : List (Nat × Nat) := []
  waiting : List Xfer := []
  outs : List Xfer := []
  portQ : Nat := 0
  portOrder : List Nat := [0, 1, 2]
  arms : List ArmSt := []
  buckets : List Nat := [0, 0, 0]
  descs : NatMap DescSlot := []
  inbox : List Flit := []
  takeQ : List (Nat × Flit) := []
  seen : List Seen := []
  takes : List Take := []
  srcs : List Source := []
  mapLines : List Nat := []
  bypass : Bool := true
  loupe : List LoupeReq := []
  loupeOrder : List Nat := [0, 1, 2]
  tlb : List Tlb := []
  attn : Option Attn := none
  walks : List (Nat × Nat × Bool) := []
  preempt : Nat := 0
  wdog : Nat := 0
  signals : NatMap Word := []
  faultLine : Bool := false
  faultCode : Nat := 0
  errLine : Bool := false
  lastCtx : Option Nat := none
  inSpill : Bool := false
  xlated : List Cmd := []
  l2 : List (Nat × Nat) := []
  deriving DecidableEq, Repr, Inhabited

/-! ### Rhumb (R351-R376) -/

/-- The link layer of a port (R353-R355, R358): next LSEQ sent and expected, the flits sent and not acknowledged as (LSEQ, lane or 4 for an idle one,
replays), credits and waiting transactions of each virtual lane with the requester of each, the order of the requesters of each lane, the lane and the room
of the flit being filled, the payload bytes received on each lane and not yet taken, the flits of receive buffer freed and not yet returned, the times of
the replays of the last millisecond, when the link fell, the transactions handed to the wire, and the header words of the flits sent. -/
structure RhbPort where
  txNext : Nat := 0
  rxNext : Nat := 0
  replay : List (Nat × Nat × Nat) := []
  credits : List Nat := [128, 128, 128, 128]
  wait : List (List (Nat × RhbTx)) := [[], [], [], []]
  order : List (List Nat) := List.replicate 4 [0, 1, 2, 3]
  room : Nat × Nat := (0, 0)
  rx : List (List Byte) := [[], [], [], []]
  freed : List Nat := [0, 0, 0, 0]
  replayAt : List Nat := []
  downAt : Option Nat := none
  sent : List RhbTx := []
  flits : List (Word × Word) := []
  deriving DecidableEq, Repr, Inhabited

/-- A transaction of a flow not yet acknowledged (R360): its header and data, the core whose transfer it is or the context it migrates, and
whether it has been sent. -/
structure Pend where
  tx : RhbTx
  core : Option Nat := none
  mig : Option Nat := none
  sent : Bool := false
  deriving DecidableEq, Repr, Inhabited

/-- The sending side of a flow (R360): peer and key, next TID, what is unacknowledged or waits, when it last made progress or was sent, and
consecutive timeouts. -/
structure TxFlow where
  dev : Nat
  key : Nat
  next : Nat := 0
  pend : List Pend := []
  since : Nat := 0
  retries : Nat := 0
  deriving DecidableEq, Repr, Inhabited

/-- The receiving side of a flow (R360): peer and key, expected TID, deliveries not yet acknowledged, and when the first of them came. -/
structure RxFlow where
  dev : Nat
  key : Nat
  expect : Nat := 0
  owed : Nat := 0
  since : Nat := 0
  deriving DecidableEq, Repr, Inhabited

/-- A stream on its way to another device (R371, R373): its context, target device and key, new handle; `sent`: record and blocks are
sent; `commit`: the TID of the commit request. -/
structure MigOut where
  ctx : Nat
  dev : Nat
  key : Nat
  newHandle : Word
  sent : Bool := false
  commit : Option Nat := none
  inDoubt : Bool := false
  deriving DecidableEq, Repr, Inhabited

/-- A stream on its way to this device (R371-R373): source and key, the record, the bytes of the blocks, whether it has committed, and whether
it is in doubt. -/
structure MigIn where
  dev : Nat
  key : Nat
  record : List Word
  blocks : NatMap (List Byte) := []
  committed : Bool := false
  inDoubt : Bool := false
  deriving DecidableEq, Repr, Inhabited

/-- Rhumb (R351-R376): the ports; routes by 1,024 * TBL + INDEX; loaded keys and their nonce counters; the key data registers; flows; the
residency of slice s of context c, at 32 * c + s: the core, or the landing zone where none is listed (R366); and migrations. -/
structure Rhumb where
  ports : List RhbPort := [{}, {}, {}, {}]
  routes : NatMap Word := []
  keys : NatMap (List Word) := []
  nctr : NatMap Nat := []
  keyData : NatMap Word := []
  txFlows : List TxFlow := []
  rxFlows : List RxFlow := []
  resid : NatMap Nat := []
  migOut : List MigOut := []
  migIn : List MigIn := []
  deriving DecidableEq, Repr, Inhabited

/-! ### The whole state -/

/-- The state of the block. `pending` is the queue of the commands that wait, `freeCtr` the counter of the free values (DESIGN CHOICE, log entry
2); the rest is what the spec gives the machine. -/
structure State where
  pending : List Instr
  freeCtr : Nat
  now : Nat
  regs : NatMap Word
  bus : Bus
  pwr : Pwr
  rst : Rst
  secure : Secure
  therm : Therm
  gpio : List Gpio
  gpioLine : Bool
  jtag : Jtag
  smbus : Smbus
  mem : Mem
  hub : Hub
  cores : List Core
  fe : FrontEnd
  log : Logbook
  sched : Sched
  mbx : List Channel
  pilot : Pilot
  rhb : Rhumb
  flash : List Host.Cell
  deriving DecidableEq, Repr

/-- The machine right after a full reset: every register at the value of its map, every domain off, nothing booted, RESET_N still
low (R424, R432). (DESIGN CHOICE, log entry 20) -/
def State.reset : State where
  pending := []
  freeCtr := 0
  now := 0
  regs := []
  bus := {}
  pwr := {}
  rst := {}
  secure := {}
  therm := {}
  gpio := List.replicate 16 {}
  gpioLine := false
  jtag := {}
  smbus := {}
  mem := {}
  hub := {}
  cores := List.replicate 32 {}
  fe := {}
  log := {}
  sched := {}
  mbx := List.replicate 20 {}
  pilot := {}
  rhb := {}
  flash := []

end Sys2Proof.Machine
end

