-- ==== Sys2Proof/Machine/Maps.lean ====
section
/-! DEFINITION. Finite maps with rising keys, memory cells, and words out of bytes and bit fields (R10). -/

namespace Sys2Proof.Machine

/-- The value of a key. -/
def mget {α : Type} : NatMap α → Nat → Option α
  | [], _ => none
  | (k, v) :: r, x => if x = k then some v else if x < k then none else mget r x

/-- Sets a key. -/
def mput {α : Type} : NatMap α → Nat → α → NatMap α
  | [], x, v => [(x, v)]
  | (k, w) :: r, x, v => if x = k then (x, v) :: r else if x < k then (x, v) :: (k, w) :: r else (k, w) :: mput r x v

/-- Removes a key. -/
def mdel {α : Type} : NatMap α → Nat → NatMap α
  | [], _ => []
  | (k, w) :: r, x => if x = k then r else if x < k then (k, w) :: r else (k, w) :: mdel r x

/-- The value of a key, `d` where it is absent. -/
def mgetD {α : Type} (m : NatMap α) (k : Nat) (d : α) : α := (mget m k).getD d

/-- Sets a key of a map whose absent keys read as `d`, keeping no entry equal to `d`. -/
def mputD {α : Type} [DecidableEq α] (d : α) (m : NatMap α) (k : Nat) (v : α) : NatMap α :=
  if v = d then mdel m k else mput m k v

/-- Removes the keys from `lo` to `hi - 1`. -/
def mclear {α : Type} (m : NatMap α) (lo hi : Nat) : NatMap α := m.filter (fun e => decide (e.1 < lo ∨ hi ≤ e.1))

/-- The keys of a map. -/
def mkeys {α : Type} (m : NatMap α) : List Nat := m.map Prod.fst

/-- Keys strictly rising. -/
def mrising {α : Type} : NatMap α → Bool
  | [] => true
  | [_] => true
  | a :: b :: r => decide (a.1 < b.1) && mrising (b :: r)

/-- Adds a number to a rising list without repeats. -/
def sadd : List Nat → Nat → List Nat
  | [], x => [x]
  | k :: r, x => if x = k then k :: r else if x < k then x :: k :: r else k :: sadd r x

/-- Removes a number from a list. -/
def sdel (l : List Nat) (x : Nat) : List Nat := l.filter (· ≠ x)

/-- Applies `f` to the `i`-th element. -/
def lmod {α : Type} (l : List α) (i : Nat) (f : α → α) : List α := l.modify i f

/-! ### Cells -/

/-- The non-zero bytes of `bs`, placed from address `a` on. -/
def cellsOf : Nat → List Byte → List Host.Cell
  | _, [] => []
  | a, b :: r => if b = 0 then cellsOf (a + 1) r else (a, b) :: cellsOf (a + 1) r

/-- The byte at an address: 0 where it is not listed (DESIGN CHOICE, log entry 4). -/
def cellAt (m : List Host.Cell) (a : Nat) : Byte := mgetD m a 0

/-- The `n` bytes from address `a` on. -/
def cellsRead (m : List Host.Cell) (a n : Nat) : List Byte :=
  let w := m.filter (fun c => decide (a ≤ c.1 ∧ c.1 < a + n))
  (List.range n).map (fun i => cellAt w (a + i))

/-- Replaces the `bs.length` bytes from address `a` on. -/
def cellsWrite (m : List Host.Cell) (a : Nat) (bs : List Byte) : List Host.Cell :=
  m.filter (fun c => decide (c.1 < a)) ++ cellsOf a bs ++ m.filter (fun c => decide (a + bs.length ≤ c.1))

/-- The canonical form of memory: addresses strictly rising and no byte equal to what an unlisted address reads as. -/
def cellsWf (m : List Host.Cell) : Bool := mrising m && m.all (fun c => decide (c.2 ≠ 0))

/-! ### Words and bit fields -/

/-- Bits `lo` to `lo + w - 1` of a number. -/
def bits (x lo w : Nat) : Nat := x / 2 ^ lo % 2 ^ w

/-- Bits `hi` to `lo` of a word. -/
def fld (x : Word) (hi lo : Nat) : Nat := bits x.toNat lo (hi - lo + 1)

/-- One bit of a word. -/
def flag (x : Word) (i : Nat) : Bool := x.getLsbD i

/-- A word from a number. -/
def w32 (n : Nat) : Word := BitVec.ofNat 32 n

/-- A Bool as a number. -/
def b2n (b : Bool) : Nat := if b then 1 else 0

/-- Replaces bits `hi` to `lo` of a word by a value. -/
def setFld (x : Word) (hi lo v : Nat) : Word :=
  let m := w32 ((2 ^ (hi - lo + 1) - 1) * 2 ^ lo)
  (x &&& ~~~ m) ||| (w32 (v * 2 ^ lo) &&& m)

/-- Little-endian bytes as a number (R10). -/
def leNat : List Byte → Nat
  | [] => 0
  | b :: r => b.toNat + 256 * leNat r

/-- The `n` little-endian bytes of a number. -/
def natLe : Nat → Nat → List Byte
  | 0, _ => []
  | n + 1, x => BitVec.ofNat 8 x :: natLe n (x / 256)

/-- Big-endian bytes as a number. -/
def beNat (bs : List Byte) : Nat := bs.foldl (fun a b => 256 * a + b.toNat) 0

/-- The bytes of words, little-endian. -/
def bytesOf (ws : List Word) : List Byte := ws.flatMap (fun w => natLe 4 w.toNat)

/-- `n` words out of little-endian bytes; missing bytes are 0. -/
def wordsOf : Nat → List Byte → List Word
  | 0, _ => []
  | n + 1, bs => w32 (leNat (bs.take 4)) :: wordsOf n (bs.drop 4)

/-- The `i`-th word of a list, 0 past its end. -/
def wd (ws : List Word) (i : Nat) : Word := ws.getD i 0

/-- The 64-bit number of two words, low word first. -/
def wd2 (ws : List Word) (i : Nat) : Nat := (wd ws i).toNat + 2 ^ 32 * (wd ws (i + 1)).toNat

/-- The 48-bit number of two words, low word first. -/
def va48 (ws : List Word) (i : Nat) : Nat := (wd ws i).toNat + 2 ^ 32 * fld (wd ws (i + 1)) 15 0

/-- Division rounded up. -/
def ceilDiv (a b : Nat) : Nat := (a + b - 1) / b

/-- `a` rounded up to a multiple of `b`. -/
def alignUp (a b : Nat) : Nat := ceilDiv a b * b

/-- The set bits of a number below `n`, ascending. -/
def setBits (n x : Nat) : List Nat := (List.range n).filter (fun i => x.testBit i)

end Sys2Proof.Machine
end

