-- ==== Sys2Proof/Machine/Fp.lean ====
section
/-! DEFINITION. The arithmetic of the engines (R112, R113, R124, R126, R147, R148, R150, R158): values of every element format as exact
numbers, and rounding to nearest, ties to even, without flushing subnormals. -/

namespace Sys2Proof.Machine

/-- A floating value: NaN, an infinity, or the exact number `± m * 2^e`. -/
inductive Fp where
  | nan
  | inf (neg : Bool)
  | fin (neg : Bool) (m : Nat) (e : Int)
  deriving DecidableEq, Repr, Inhabited

/-- The value of an encoding with `eb` exponent bits and `mb` mantissa bits under IEEE 754 rules (R112). -/
def decIeee (eb mb x : Nat) : Fp :=
  let neg := x.testBit (eb + mb)
  let ex := bits x mb eb
  let mant := bits x 0 mb
  let bias : Int := 2 ^ (eb - 1) - 1
  if ex = 2 ^ eb - 1 then (if mant = 0 then .inf neg else .nan)
  else if ex = 0 then .fin neg mant (1 - bias - mb)
  else .fin neg (mant + 2 ^ mb) ((ex : Int) - bias - mb)

/-- FP8 E4M3 (R112): no infinities, S.1111.111 is NaN. -/
def decE4m3 (x : Nat) : Fp :=
  if x % 128 = 127 then .nan
  else if bits x 3 4 = 15 then .fin (x.testBit 7) (8 + x % 8) 5
  else decIeee 4 3 x

/-- FP32. -/
def dec32 (x : Word) : Fp := decIeee 8 23 x.toNat

/-- A number from an integer. -/
def fpOfInt (i : Int) : Fp := .fin (decide (i < 0)) i.natAbs 0

/-- The signed mantissa of a finite value at exponent `e0`, which does not exceed its own. -/
def Fp.at (e0 : Int) : Fp → Int
  | .fin neg m e => (if neg then -1 else 1) * (m : Int) * 2 ^ (e - e0).toNat
  | _ => 0

/-- `m * 2^e` rounded to nearest, ties to even, to a multiple of `2^q`: the multiplier. -/
def roundAt (m : Nat) (e q : Int) : Nat :=
  if q ≤ e then m * 2 ^ (e - q).toNat
  else
    let d := (q - e).toNat
    let k := m / 2 ^ d
    let r := m % 2 ^ d
    if 2 * r > 2 ^ d ∨ (2 * r = 2 ^ d ∧ k % 2 = 1) then k + 1 else k

/-- `m * 2^e` rounded to a precision of `p` bits with least exponent `emin`: multiplier and exponent. -/
def roundTo (p : Nat) (emin : Int) (m : Nat) (e : Int) : Nat × Int :=
  if m = 0 then (0, emin - (p - 1))
  else
    let q := max (emin - ((p : Int) - 1)) (e + Nat.log2 m - ((p : Int) - 1))
    (roundAt m e q, q)

/-- The encoding of `m * 2^e` rounded to a format of `eb` exponent and `mb` mantissa bits; overflow gives the infinity. -/
def encFin (eb mb : Nat) (neg : Bool) (m : Nat) (e : Int) : Nat :=
  let bias : Int := 2 ^ (eb - 1) - 1
  let r := roundTo (mb + 1) (1 - bias) m e
  let sgn := if neg then 2 ^ (eb + mb) else 0
  let (k, q) := if r.1 = 2 ^ (mb + 1) then (2 ^ mb, r.2 + 1) else r
  if k < 2 ^ mb then sgn + k
  else
    let ex := (q + mb + bias).toNat
    if 2 ^ eb - 1 ≤ ex then sgn + (2 ^ eb - 1) * 2 ^ mb else sgn + ex * 2 ^ mb + (k - 2 ^ mb)

/-- The canonical NaN (R124). -/
abbrev nan32 : Word := 0x7FC00000

/-- The FP32 pattern of a value, rounded to nearest, ties to even (R147). -/
def enc32 : Fp → Word
  | .nan => nan32
  | .inf neg => if neg then 0xFF800000 else 0x7F800000
  | .fin neg m e => w32 (encFin 8 23 neg m e)

/-- The exact sum of two values: NaN and infinities under IEEE 754; a zero sum is -0 only when both are -0. -/
def Fp.add : Fp → Fp → Fp
  | .nan, _ => .nan
  | _, .nan => .nan
  | .inf a, .inf b => if a = b then .inf a else .nan
  | .inf a, _ => .inf a
  | _, .inf b => .inf b
  | .fin na ma ea, .fin nb mb eb =>
    let e := min ea eb
    let x := (Fp.fin na ma ea).at e + (Fp.fin nb mb eb).at e
    if x = 0 then .fin (na && nb) 0 e else .fin (decide (x < 0)) x.natAbs e

/-- The negative of a value. -/
def Fp.neg : Fp → Fp
  | .nan => .nan
  | .inf a => .inf !a
  | .fin n m e => .fin (!n) m e

/-- Whether a value is a zero. -/
def Fp.isZero : Fp → Bool
  | .fin _ m _ => m == 0
  | _ => false

/-- The exact product of two values. -/
def Fp.mul : Fp → Fp → Fp
  | .nan, _ => .nan
  | _, .nan => .nan
  | .inf a, .inf b => .inf (a != b)
  | .inf a, .fin n m _ => if m = 0 then .nan else .inf (a != n)
  | .fin n m _, .inf b => if m = 0 then .nan else .inf (n != b)
  | .fin na ma ea, .fin nb mb eb => .fin (na != nb) (ma * mb) (ea + eb)

/-- FP32 addition (R148). -/
def fadd (a b : Word) : Word := enc32 ((dec32 a).add (dec32 b))
/-- FP32 subtraction. -/
def fsub (a b : Word) : Word := enc32 ((dec32 a).add (dec32 b).neg)
/-- FP32 multiplication. -/
def fmul (a b : Word) : Word := enc32 ((dec32 a).mul (dec32 b))
/-- FP32 fused multiply-add: one rounding. -/
def ffma (a b c : Word) : Word := enc32 (((dec32 a).mul (dec32 b)).add (dec32 c))

/-- The order of two values: -1, 0, 1; none when either is NaN. Zeros of both signs are equal. -/
def Fp.cmp : Fp → Fp → Option Int
  | .nan, _ => none
  | _, .nan => none
  | .inf a, .inf b => some (if a = b then 0 else if a then -1 else 1)
  | .inf a, .fin _ _ _ => some (if a then -1 else 1)
  | .fin _ _ _, .inf b => some (if b then 1 else -1)
  | .fin na ma ea, .fin nb mb eb =>
    let e := min ea eb
    let d := (Fp.fin na ma ea).at e - (Fp.fin nb mb eb).at e
    some (if d < 0 then -1 else if d = 0 then 0 else 1)

/-- The order of MIN and MAX (R148): as `cmp`, with -0 below +0. -/
def fltTotal (a b : Word) : Option Int :=
  match (dec32 a).cmp (dec32 b) with
  | some 0 => if a = b then some 0 else if flag a 31 && !(flag b 31) then some (-1) else if flag b 31 && !(flag a 31) then some 1 else some 0
  | r => r

/-- FP32 MIN (R148). -/
def fmin (a b : Word) : Word := match fltTotal a b with | none => nan32 | some d => if d ≤ 0 then a else b
/-- FP32 MAX (R148). -/
def fmax (a b : Word) : Word := match fltTotal a b with | none => nan32 | some d => if d ≥ 0 then a else b

/-- A value rounded to the nearest integer, ties to even. -/
def Fp.toInt : Fp → Int
  | .fin neg m e => (if neg then -1 else 1) * (roundAt m e 0 : Int)
  | _ => 0

/-- CVTI (R148): nearest integer, saturating; NaN gives 0. -/
def cvti (a : Word) : Word :=
  match dec32 a with
  | .nan => 0
  | .inf neg => if neg then 0x80000000 else 0x7FFFFFFF
  | f => BitVec.ofInt 32 (max (-(2 ^ 31)) (min (2 ^ 31 - 1) f.toInt))

/-- W of R150: the high and the low word. -/
def wfma (a hh hl dh dl : Word) : Word × Word :=
  let p := fmul a hh
  let ep := ffma a hh (p ^^^ 0x80000000)
  let s := fadd p dh
  let bb := fsub s p
  let es := fadd (fsub p (fsub s bb)) (fsub dh bb)
  let e := fadd (fadd (fadd ep (fmul a hl)) es) dl
  let hi := fadd s e
  (hi, fsub e (fsub hi s))

/-- The value of an S8 code as `m * 2^e` (R113). -/
def s8 (c : Nat) : Nat × Int :=
  let ex := bits c 3 5
  let man := bits c 0 3
  if ex = 0 then (man, -17) else (8 + man, (ex : Int) - 18)

/-- The value of an S8 code. -/
def s8Val (c : Nat) : Fp := .fin false (s8 c).1 (s8 c).2

/-- A BF16 pattern widened exactly to FP32: its 16 bits and 16 zeros (R156). -/
def widenBf16 (x : Nat) : Word := w32 (x * 2 ^ 16)

/-- Widens an encoding with `eb` exponent and `mb` mantissa bits to FP32; a NaN keeps its sign and mantissa bits (R156). -/
def widenIeee (eb mb x : Nat) : Word :=
  let ex := bits x mb eb
  let mant := bits x 0 mb
  let sgn := if x.testBit (eb + mb) then 0x80000000 else 0
  if ex = 2 ^ eb - 1 ∧ mant ≠ 0 then w32 (sgn + 0x7F800000 + mant * 2 ^ (23 - mb)) else enc32 (decIeee eb mb x)

/-- The element formats of VX_LOAD and VX_STORE (R156): their widths in bits. -/
def vxBits : Nat → Nat
  | 0 => 32 | 1 => 16 | 2 => 16 | 3 => 8 | 4 => 8 | 5 => 8 | _ => 4

/-- A signed integer of `w` bits. -/
def sint (w x : Nat) : Int := if x.testBit (w - 1) then (x : Int) - 2 ^ w else x

/-- Widens an element of a VX_LOAD format (R156). -/
def vxWiden (fmt x : Nat) : Word :=
  match fmt with
  | 0 => w32 x
  | 1 => widenBf16 x
  | 2 => widenIeee 5 10 x
  | 3 => if x % 128 = 127 then w32 ((if x.testBit 7 then 0x80000000 else 0) + 0x7F800000 + 7 * 2 ^ 20) else enc32 (decE4m3 x)
  | 4 => widenIeee 5 2 x
  | 5 => BitVec.ofInt 32 (sint 8 x)
  | _ => BitVec.ofInt 32 (sint 4 x)

/-- Narrows FP32 to a floating store format (R158): the element and whether it saturated. -/
def vxNarrow (fmt : Nat) (x : Word) : Nat × Bool :=
  let v := dec32 x
  match fmt with
  | 1 => (match v with
    | .nan => (0x7FC0, false)
    | .inf n => (if n then 0xFF80 else 0x7F80, false)
    | .fin n m e => (encFin 8 7 n m e, false))
  | 2 => (match v with
    | .nan => (0x7E00, false)
    | .inf n => (if n then 0xFC00 else 0x7C00, false)
    | .fin n m e => (encFin 5 10 n m e, false))
  | 4 => (match v with
    | .nan => (0x7E, false)
    | .inf n => (if n then 0xFC else 0x7C, false)
    | .fin n m e => (encFin 5 2 n m e, false))
  | 3 => (match v with
    | .nan => (0x7F, false)
    | .inf n => (if n then 0xFE else 0x7E, true)
    | .fin n m e =>
      let r := roundTo 4 (-6) m e
      let ovf := decide (r.1 ≠ 0 ∧ (Fp.fin false r.1 r.2).cmp (.fin false 448 0) = some 1)
      if ovf then (if n then 0xFE else 0x7E, true)
      else
        let (k, q) := if r.1 = 16 then (8, r.2 + 1) else r
        let s := if n then 128 else 0
        (if k < 8 then s + k else s + (q + 3 + 7).toNat * 8 + (k - 8), false))
  | _ => (x.toNat, false)

/-- An element quantised to an integer with scale `m * 2^e` and bound `Q` (R159): the integer, whether it is saturated, whether it is
a NaN. -/
def quantInt (q : Nat) (sc : Nat × Int) (x : Word) : Int × Bool × Bool :=
  match dec32 x with
  | .nan => (0, false, true)
  | .inf n => if sc.1 = 0 then (0, true, false) else (if n then -(q : Int) else q, true, false)
  | .fin n m e =>
    if sc.1 = 0 then (0, decide (m ≠ 0), false)
    else
      -- m * 2^e / (sc.1 * 2^sc.2), rounded to nearest, ties to even
      let d := e - sc.2
      let num := if 0 ≤ d then m * 2 ^ d.toNat else m
      let den := if 0 ≤ d then sc.1 else sc.1 * 2 ^ (-d).toNat
      let k := num / den
      let r := num % den
      let k := if 2 * r > den ∨ (2 * r = den ∧ k % 2 = 1) then k + 1 else k
      let c := min k q
      ((if n then -(c : Int) else c), decide (q < k), false)

/-- The absolute value of a finite element, none of a NaN; an infinity counts as above every code (R159). -/
def absVal (x : Word) : Option Fp :=
  match dec32 x with
  | .nan => none
  | .inf _ => some (.inf false)
  | .fin _ m e => some (.fin false m e)

/-- The larger of two absolute values. -/
def maxAbs (a b : Fp) : Fp := if a.cmp b = some (-1) then b else a

/-- The smallest S8 code with value(c) * Q at least `m`; 0xFF when there is none, 0 for 0 (R159). -/
def s8CodeFor (q : Nat) (m : Fp) : Nat :=
  if m.isZero then 0
  else ((List.range 256).find? (fun c => ((Fp.fin false ((s8 c).1 * q) (s8 c).2).cmp m).any (0 ≤ ·))).getD 255

/-- The exact sum of signed dyadic numbers, as a signed mantissa at exponent `e0`. -/
def sumAt (e0 : Int) (l : List Fp) : Int := l.foldl (fun a f => a + f.at e0) 0

/-- The rounded sum of a chunk of exact products (R126). -/
def chunkSum (ps : List Fp) : Fp :=
  if ps.any (· == .nan) then .nan
  else
    let infs := ps.filter (fun p => match p with | .inf _ => true | _ => false)
    match infs with
    | [] =>
      let e0 := ps.foldl (fun m p => match p with | .fin _ _ e => min m e | _ => m) 0
      let x := sumAt e0 ps
      dec32 (enc32 (.fin (decide (x < 0)) x.natAbs e0))
    | p :: r => if r.all (· == p) then p else .nan

end Sys2Proof.Machine
end

