-- ==== Sys2Proof/Config.lean ====
section
/-! DEFINITION. What the manual leaves open and what lies outside the register space: every constant here is opaque, so
no proof can see a value of it. -/

namespace Sys2Proof.Config

/-- A free value: the `n`-th value that the manual leaves open (DESIGN CHOICE, log entry 2). Nothing constrains it. -/
opaque freeValue : Nat → Word

/-- The byte that a line delivers when it is read under another identity than the one it was written under
(R336: "decrypts to unrelated bits"): address, writer's identity, reader's identity, stored byte (DESIGN CHOICE, log entry 7). -/
opaque foreignByte : Nat → Nat → Nat → Byte → Byte

/-- The SHA-512 digests of the Manifest and of model images (R392, R417), as words (DESIGN CHOICE, log entry 6). -/
opaque sha512 : List Byte → List Word

/-- The 256-bit device secret DS that package test enrolled (R406), as bytes (DESIGN CHOICE, log entry 6). -/
opaque deviceSecret : List Byte

/-- The 2 KiB of helper data in the package's own flash (R406), as bytes (DESIGN CHOICE, log entry 6). -/
opaque pufHelper : List Byte

/-- What the fuzzy extractor makes of the helper data when the `n`-th reconstruction fails its check (R406; DESIGN CHOICE, log entry 6). -/
opaque pufMiss : List Byte → Nat → List Byte

/-- Signatures, session secrets, shared secrets and finished-verification data of SPDM (R408, R411), as words: a label and
the bytes they are computed over (DESIGN CHOICE, log entry 6). -/
opaque spdmCrypto : Nat → List Byte → List Word

/-- The certificate chain of SPDM slot 0 (R408), as bytes (DESIGN CHOICE, log entry 6). -/
opaque certChain : List Byte

/-- The 4 MiB block at which the KV range of stream context `i` begins (R274, R285: the manual does not say how a stream's SEQ_VBASE reaches
the firmware; DESIGN CHOICE, log entry 15). -/
opaque seqBlock : Nat → BitVec 26

/-- Words 10 to 63 of a migration record, whose layout the manual does not give (R372), from what the source keeps of the stream (DESIGN CHOICE, log entry
18). -/
opaque migPack : List Word → List Word

/-- Field `k` of the front-end stream record that the target reads from words 10 to 63 (R372; DESIGN CHOICE, log entry 18). -/
opaque migField : Nat → List Word → Word

/-- Whether the part is of stepping B0, else A1 (R417: the two steppings; DESIGN CHOICE, log entry 6). -/
opaque steppingB0 : Bool

/-- The ROM's digest of index 1 of the Manifest (R417), as words (DESIGN CHOICE, log entry 6). -/
opaque romDigest : List Word

end Sys2Proof.Config
end

