-- ==== Sys2Proof/Machine/RegTable.lean ====
section
/-! DEFINITION. The register maps of the chapters (R24, R77, R78, R107, R108, R135, R136, R163, R164, R182, R183, R214-R216, R237,
R238, R297, R298, R325-R327, R348-R350, R374-R376, R378, R435, R440): the offset of every register, and for each one the bits that a
write sets (RW), the bits that a 1 clears (W1C), the value at reset and the fields with reserved encodings (R7). Bits in neither mask
ignore a write (RO, WO and reserved bits). Hub registers are keyed by their offset from 0xF00_0000_0000; the registers of a core window
by their offset in the window; those of a Rhumb port or of a memory stack by their offset in the block (offsets 0x800 and above of
those two are one shared set, R349, R375). -/

namespace Sys2Proof.Machine

/-- One row of a register map. `enc` lists the fields with reserved encodings: lowest bit, width, least and greatest value allowed. -/
structure RegSpec where
  off : Nat
  rw : Word
  w1c : Word
  reset : Word
  enc : List (Nat × Nat × Nat × Nat)
  deriving DecidableEq, Repr, Inhabited

namespace Reg

/-- PWR_STATE0 (R24). -/
abbrev pwrState0 : Nat := 0x300000
/-- PWR_STATE1 (R24). -/
abbrev pwrState1 : Nat := 0x300004
/-- PWR_STATE2 (R24). -/
abbrev pwrState2 : Nat := 0x300008
/-- PWR_REQ (R24). -/
abbrev pwrReq : Nat := 0x300010
/-- PWR_STATUS (R24). -/
abbrev pwrStatus : Nat := 0x300014
/-- PWR_ERR (R24). -/
abbrev pwrErr : Nat := 0x300018
/-- LOG_CTRL (R77). -/
abbrev logCtrl : Nat := 0x100000
/-- LOG_CTX_BASE_LO (R77). -/
abbrev logCtxBaseLo : Nat := 0x100008
/-- LOG_CTX_MIRROR_LO (R77). -/
abbrev logCtxMirrorLo : Nat := 0x100010
/-- LOG_CTX_BASE_HI (R77). -/
abbrev logCtxBaseHi : Nat := 0x10000C
/-- LOG_CTX_MIRROR_HI (R77). -/
abbrev logCtxMirrorHi : Nat := 0x100014
/-- LOG_MODEL_BASE_HI (R77). -/
abbrev logModelBaseHi : Nat := 0x10001C
/-- LOG_MODEL_BASE_LO (R77). -/
abbrev logModelBaseLo : Nat := 0x100018
/-- LOG_BATCH_MAX (R77). -/
abbrev logBatchMax : Nat := 0x100020
/-- LOG_EVQ_STATUS (R77). -/
abbrev logEvqStatus : Nat := 0x100028
/-- LOG_TIME (R77). -/
abbrev logTime : Nat := 0x100004
/-- LOG_OPEN (R77). -/
abbrev logOpen : Nat := 0x100024
/-- LOG_EVQ_DATA0 (R77). -/
abbrev logEvqData0 : Nat := 0x100030
/-- LOG_EVQ_DATA1 (R77). -/
abbrev logEvqData1 : Nat := 0x100034
/-- LOG_EVQ_DATA2 (R77). -/
abbrev logEvqData2 : Nat := 0x100038
/-- LOG_EVQ_DATA3 (R77). -/
abbrev logEvqData3 : Nat := 0x10003C
/-- LOG_CNT_LATE (R77). -/
abbrev logCntLate : Nat := 0x100040
/-- LOG_CNT_DEDUP (R77). -/
abbrev logCntDedup : Nat := 0x100044
/-- LOG_CNT_MERGED (R77). -/
abbrev logCntMerged : Nat := 0x100048
/-- LOG_CNT_STALE_CPL (R77). -/
abbrev logCntStaleCpl : Nat := 0x10004C
/-- LOG_CNT_EVDROP (R77). -/
abbrev logCntEvdrop : Nat := 0x100050
/-- LOG_OVC (R77). -/
abbrev logOvc : Nat := 0x100054
/-- LOG_WL_BASE_LO (R77). -/
abbrev logWlBaseLo : Nat := 0x100058
/-- LOG_WL_BASE_HI (R77). -/
abbrev logWlBaseHi : Nat := 0x10005C
/-- LOG_WL_SLOTS (R77). -/
abbrev logWlSlots : Nat := 0x100060
/-- LOG_WL_BUSY (R77). -/
abbrev logWlBusy : Nat := 0x100064
/-- LOG_CNT_BADSLOT (R77). -/
abbrev logCntBadslot : Nat := 0x100068
/-- FE_CTRL (R78). -/
abbrev feCtrl : Nat := 0x200000
/-- FE_JITTER (R78). -/
abbrev feJitter : Nat := 0x200004
/-- FE_RETX (R78). -/
abbrev feRetx : Nat := 0x200008
/-- FE_HOLD_SIZE (R78). -/
abbrev feHoldSize : Nat := 0x20000C
/-- FE_HOLD_BASE_LO (R78). -/
abbrev feHoldBaseLo : Nat := 0x200010
/-- FE_HOLD_BASE_HI (R78). -/
abbrev feHoldBaseHi : Nat := 0x200014
/-- FE_LOCAL_BASE_LO (R78). -/
abbrev feLocalBaseLo : Nat := 0x200018
/-- FE_LOCAL_BASE_HI (R78). -/
abbrev feLocalBaseHi : Nat := 0x20001C
/-- FE_CNT_RXOVF_E0 (R78). -/
abbrev feCntRxovfE0 : Nat := 0x200040
/-- FE_CNT_RXOVF_E1 (R78). -/
abbrev feCntRxovfE1 : Nat := 0x200044
/-- FE_CNT_BADCSUM (R78). -/
abbrev feCntBadcsum : Nat := 0x200048
/-- FE_CNT_UNBOUND (R78). -/
abbrev feCntUnbound : Nat := 0x20004C
/-- FE_CNT_STALE (R78). -/
abbrev feCntStale : Nat := 0x200050
/-- FE_CNT_LATEPKT (R78). -/
abbrev feCntLatepkt : Nat := 0x200054
/-- FE_CNT_CONCEALED (R78). -/
abbrev feCntConcealed : Nat := 0x200058
/-- FE_CNT_HELD (R78). -/
abbrev feCntHeld : Nat := 0x20005C
/-- FE_CNT_REFUSED_RATE (R78). -/
abbrev feCntRefusedRate : Nat := 0x200060
/-- FE_CNT_REFUSED_FULL (R78). -/
abbrev feCntRefusedFull : Nat := 0x200064
/-- FE_CNT_REFUSED_GAP (R78). -/
abbrev feCntRefusedGap : Nat := 0x200068
/-- FE_CNT_DUP (R78). -/
abbrev feCntDup : Nat := 0x20006C
/-- FE_CNT_RTX (R78). -/
abbrev feCntRtx : Nat := 0x200070
/-- FE_CNT_ACKDROP (R78). -/
abbrev feCntAckdrop : Nat := 0x200074
/-- CORE_CTRL (R107). -/
abbrev coreCtrl : Nat := 0x0
/-- CORE_STATUS (R107). -/
abbrev coreStatus : Nat := 0x4
/-- CORE_CTX (R107). -/
abbrev coreCtx : Nat := 0x8
/-- CORE_SLICES (R107). -/
abbrev coreSlices : Nat := 0xC
/-- CORE_PROG_BASE_LO (R107). -/
abbrev coreProgBaseLo : Nat := 0x10
/-- CORE_PROG_BASE_HI (R107). -/
abbrev coreProgBaseHi : Nat := 0x14
/-- CORE_LIST_BASE_HI (R107). -/
abbrev coreListBaseHi : Nat := 0x1C
/-- CORE_LIST_BASE_LO (R107). -/
abbrev coreListBaseLo : Nat := 0x18
/-- CORE_FAULT (R107). -/
abbrev coreFault : Nat := 0x28
/-- CORE_QLEVEL (R107). -/
abbrev coreQlevel : Nat := 0x34
/-- CORE_SB (R107). -/
abbrev coreSb : Nat := 0x38
/-- CORE_LOOP (R107). -/
abbrev coreLoop : Nat := 0x3C
/-- CORE_PC_LO (R107). -/
abbrev corePcLo : Nat := 0x20
/-- CORE_PC_HI (R107). -/
abbrev corePcHi : Nat := 0x24
/-- CORE_FAULT_VA_LO (R107). -/
abbrev coreFaultVaLo : Nat := 0x2C
/-- CORE_FAULT_VA_HI (R107). -/
abbrev coreFaultVaHi : Nat := 0x30
/-- CORE_CNT_DISPATCH (R108). -/
abbrev coreCntDispatch : Nat := 0x70000
/-- CORE_CNT_FENCE (R108). -/
abbrev coreCntFence : Nat := 0x70004
/-- CORE_CNT_DRAIN (R108). -/
abbrev coreCntDrain : Nat := 0x70008
/-- CORE_CNT_BARRIER (R108). -/
abbrev coreCntBarrier : Nat := 0x7000C
/-- CORE_CNT_FETCHWAIT (R108). -/
abbrev coreCntFetchwait : Nat := 0x70010
/-- CORE_CNT_QFULL (R108). -/
abbrev coreCntQfull : Nat := 0x70014
/-- CORE_CNT_SBFULL (R108). -/
abbrev coreCntSbfull : Nat := 0x70018
/-- CORE_CNT_HAZ_MX (R108). -/
abbrev coreCntHazMx : Nat := 0x7001C
/-- CORE_CNT_HAZ_VX (R108). -/
abbrev coreCntHazVx : Nat := 0x70020
/-- CORE_CNT_HAZ_SX (R108). -/
abbrev coreCntHazSx : Nat := 0x70024
/-- CORE_CNT_TQFULL (R108). -/
abbrev coreCntTqfull : Nat := 0x70028
/-- CORE_CNT_TQEMPTY (R108). -/
abbrev coreCntTqempty : Nat := 0x7002C
/-- CORE_CNT_LOUPE (R108). -/
abbrev coreCntLoupe : Nat := 0x70030
/-- CORE_CNT_FAULTLOST (R108). -/
abbrev coreCntFaultlost : Nat := 0x70034
/-- CORE_CNT_BUSYWR (R108). -/
abbrev coreCntBusywr : Nat := 0x70038
/-- MX_STATUS (R135). -/
abbrev mxStatus : Nat := 0x10000
/-- MX_LOAD_INFO (R135). -/
abbrev mxLoadInfo : Nat := 0x10004
/-- MX_ESC_INFO (R135). -/
abbrev mxEscInfo : Nat := 0x10008
/-- MX_FAULT_INFO (R135). -/
abbrev mxFaultInfo : Nat := 0x1000C
/-- MX_ERR (R135). -/
abbrev mxErr : Nat := 0x10010
/-- MX_BIST (R135). -/
abbrev mxBist : Nat := 0x10018
/-- MX_CNT_LOADS (R136). -/
abbrev mxCntLoads : Nat := 0x70100
/-- MX_CNT_LOADCYC (R136). -/
abbrev mxCntLoadcyc : Nat := 0x70104
/-- MX_CNT_ROWS (R136). -/
abbrev mxCntRows : Nat := 0x70108
/-- MX_CNT_ESCSTALL (R136). -/
abbrev mxCntEscstall : Nat := 0x7010C
/-- MX_CNT_PLANEWAIT (R136). -/
abbrev mxCntPlanewait : Nat := 0x70110
/-- MX_CNT_SPADWAIT (R136). -/
abbrev mxCntSpadwait : Nat := 0x70114
/-- MX_CNT_STAGEFULL (R136). -/
abbrev mxCntStagefull : Nat := 0x70118
/-- MX_CNT_PARITY (R136). -/
abbrev mxCntParity : Nat := 0x7011C
/-- VX_STATUS (R163). -/
abbrev vxStatus : Nat := 0x20000
/-- VX_WSS (R163). -/
abbrev vxWss : Nat := 0x20004
/-- VX_TAG (R163). -/
abbrev vxTag : Nat := 0x20008
/-- VX_ERR (R163). -/
abbrev vxErr : Nat := 0x2000C
/-- VX_BIST (R163). -/
abbrev vxBist : Nat := 0x20010
/-- VX_CNT_PASSES (R164). -/
abbrev vxCntPasses : Nat := 0x70140
/-- VX_CNT_REGWAIT (R164). -/
abbrev vxCntRegwait : Nat := 0x70144
/-- VX_CNT_SPADWAIT (R164). -/
abbrev vxCntSpadwait : Nat := 0x70148
/-- VX_CNT_UNWRITTEN (R164). -/
abbrev vxCntUnwritten : Nat := 0x7014C
/-- VX_CNT_SAT (R164). -/
abbrev vxCntSat : Nat := 0x70150
/-- VX_CNT_NAN (R164). -/
abbrev vxCntNan : Nat := 0x70154
/-- VX_CNT_PARITY (R164). -/
abbrev vxCntParity : Nat := 0x70158
/-- SPD_STATUS (R182). -/
abbrev spdStatus : Nat := 0x40000
/-- SPD_SPARE (R182). -/
abbrev spdSpare : Nat := 0x40004
/-- SPD_REVOKE (R182). -/
abbrev spdRevoke : Nat := 0x40008
/-- SPD_TAG_SEL (R182). -/
abbrev spdTagSel : Nat := 0x4000C
/-- SPD_TAG (R182). -/
abbrev spdTag : Nat := 0x40010
/-- SPD_WRITTEN_LO (R182). -/
abbrev spdWrittenLo : Nat := 0x40014
/-- SPD_WRITTEN_HI (R182). -/
abbrev spdWrittenHi : Nat := 0x40018
/-- SPD_ERR (R182). -/
abbrev spdErr : Nat := 0x4001C
/-- SPD_FAULT_INFO (R182). -/
abbrev spdFaultInfo : Nat := 0x40020
/-- SPD_BIST (R182). -/
abbrev spdBist : Nat := 0x40024
/-- SPD_CNT_GRANT (R183). -/
abbrev spdCntGrant : Nat := 0x70180
/-- SPD_CNT_UNWRITTEN (R183). -/
abbrev spdCntUnwritten : Nat := 0x70184
/-- SPD_CNT_DARK (R183). -/
abbrev spdCntDark : Nat := 0x70188
/-- SPD_CNT_CE (R183). -/
abbrev spdCntCe : Nat := 0x7018C
/-- SPD_CNT_UE (R183). -/
abbrev spdCntUe : Nat := 0x70190
/-- SPD_CNT_WAIT0 (R183). -/
abbrev spdCntWait0 : Nat := 0x701A0
/-- SPD_CNT_WAIT1 (R183). -/
abbrev spdCntWait1 : Nat := 0x701A4
/-- SPD_CNT_WAIT2 (R183). -/
abbrev spdCntWait2 : Nat := 0x701A8
/-- SPD_CNT_WAIT3 (R183). -/
abbrev spdCntWait3 : Nat := 0x701AC
/-- SPD_CNT_WAIT4 (R183). -/
abbrev spdCntWait4 : Nat := 0x701B0
/-- SPD_CNT_WAIT5 (R183). -/
abbrev spdCntWait5 : Nat := 0x701B4
/-- SPD_CNT_WAIT6 (R183). -/
abbrev spdCntWait6 : Nat := 0x701B8
/-- SPD_CNT_WAIT7 (R183). -/
abbrev spdCntWait7 : Nat := 0x701BC
/-- SX_STATUS (R214). -/
abbrev sxStatus : Nat := 0x30000
/-- SX_SHARE (R214). -/
abbrev sxShare : Nat := 0x30004
/-- SX_BURST (R214). -/
abbrev sxBurst : Nat := 0x30008
/-- SX_CTRL (R214). -/
abbrev sxCtrl : Nat := 0x3000C
/-- SX_DESC_SEL (R214). -/
abbrev sxDescSel : Nat := 0x30010
/-- SX_DESC (R214). -/
abbrev sxDesc : Nat := 0x30014
/-- SX_FAULT_INFO (R214). -/
abbrev sxFaultInfo : Nat := 0x30018
/-- SX_ERR (R214). -/
abbrev sxErr : Nat := 0x3001C
/-- NKL_CTRL (R215). -/
abbrev nklCtrl : Nat := 0x60000
/-- NKL_STATUS (R215). -/
abbrev nklStatus : Nat := 0x60004
/-- NKL_SEEN_SEL (R215). -/
abbrev nklSeenSel : Nat := 0x60008
/-- NKL_SEEN0 (R215). -/
abbrev nklSeen0 : Nat := 0x6000C
/-- NKL_SEEN1 (R215). -/
abbrev nklSeen1 : Nat := 0x60010
/-- NKL_ERR (R215). -/
abbrev nklErr : Nat := 0x60014
/-- SX_CNT_RDLINES (R216). -/
abbrev sxCntRdlines : Nat := 0x701C0
/-- SX_CNT_WRLINES (R216). -/
abbrev sxCntWrlines : Nat := 0x701C4
/-- SX_CNT_RMLINES (R216). -/
abbrev sxCntRmlines : Nat := 0x701C8
/-- SX_CNT_TOKWAIT_RD (R216). -/
abbrev sxCntTokwaitRd : Nat := 0x701CC
/-- SX_CNT_TOKWAIT_WR (R216). -/
abbrev sxCntTokwaitWr : Nat := 0x701D0
/-- SX_CNT_TOKWAIT_RM (R216). -/
abbrev sxCntTokwaitRm : Nat := 0x701D4
/-- SX_CNT_TXFULL (R216). -/
abbrev sxCntTxfull : Nat := 0x701D8
/-- SX_CNT_PORTFULL (R216). -/
abbrev sxCntPortfull : Nat := 0x701DC
/-- SX_CNT_ARMPEND (R216). -/
abbrev sxCntArmpend : Nat := 0x701E0
/-- SX_CNT_ARMSTALL (R216). -/
abbrev sxCntArmstall : Nat := 0x701E4
/-- SX_CNT_WAIT (R216). -/
abbrev sxCntWait : Nat := 0x701E8
/-- NKL_CNT_FWD (R216). -/
abbrev nklCntFwd : Nat := 0x70200
/-- NKL_CNT_INJ (R216). -/
abbrev nklCntInj : Nat := 0x70204
/-- NKL_CNT_INJWAIT (R216). -/
abbrev nklCntInjwait : Nat := 0x70208
/-- NKL_CNT_TAKEN (R216). -/
abbrev nklCntTaken : Nat := 0x7020C
/-- NKL_CNT_SKIP (R216). -/
abbrev nklCntSkip : Nat := 0x70210
/-- NKL_CNT_LATE (R216). -/
abbrev nklCntLate : Nat := 0x70214
/-- NKL_CNT_TIMEOUT (R216). -/
abbrev nklCntTimeout : Nat := 0x70218
/-- NKL_CNT_REFETCH (R216). -/
abbrev nklCntRefetch : Nat := 0x7021C
/-- NKL_CNT_FALLBACK (R216). -/
abbrev nklCntFallback : Nat := 0x70220
/-- NKL_CNT_CRC (R216). -/
abbrev nklCntCrc : Nat := 0x70224
/-- LPE_CTRL (R237). -/
abbrev lpeCtrl : Nat := 0x50000
/-- LPE_STATUS (R237). -/
abbrev lpeStatus : Nat := 0x50004
/-- LPE_MAP_BASE_LO (R237). -/
abbrev lpeMapBaseLo : Nat := 0x50008
/-- LPE_MAP_BASE_HI (R237). -/
abbrev lpeMapBaseHi : Nat := 0x5000C
/-- LPE_FAULT_INFO (R237). -/
abbrev lpeFaultInfo : Nat := 0x50010
/-- LPE_CNT_BLOCKS (R238). -/
abbrev lpeCntBlocks : Nat := 0x70240
/-- LPE_CNT_RAWBLK (R238). -/
abbrev lpeCntRawblk : Nat := 0x70244
/-- LPE_CNT_INLINES (R238). -/
abbrev lpeCntInlines : Nat := 0x70248
/-- LPE_CNT_STARVE (R238). -/
abbrev lpeCntStarve : Nat := 0x7024C
/-- LPE_CNT_SLOWBLK (R238). -/
abbrev lpeCntSlowblk : Nat := 0x70250
/-- LPE_CNT_DATAFLT (R238). -/
abbrev lpeCntDataflt : Nat := 0x70254
/-- LPE_CNT_ENCBLK (R238). -/
abbrev lpeCntEncblk : Nat := 0x70258
/-- LPE_CNT_ENCRAW (R238). -/
abbrev lpeCntEncraw : Nat := 0x7025C
/-- LPE_CNT_MAPRD (R238). -/
abbrev lpeCntMaprd : Nat := 0x70260
/-- LOG_KV_CTRL (R297). -/
abbrev logKvCtrl : Nat := 0x101000
/-- LOG_KV_POOLTAB_LO (R297). -/
abbrev logKvPooltabLo : Nat := 0x101008
/-- LOG_KV_POOLTAB_HI (R297). -/
abbrev logKvPooltabHi : Nat := 0x10100C
/-- LOG_KV_REQ (R297). -/
abbrev logKvReq : Nat := 0x101010
/-- LOG_KV_REQ_VA_LO (R297). -/
abbrev logKvReqVaLo : Nat := 0x101014
/-- LOG_KV_REQ_VA_HI (R297). -/
abbrev logKvReqVaHi : Nat := 0x101018
/-- LOG_KV_REQ_FRAME (R297). -/
abbrev logKvReqFrame : Nat := 0x10101C
/-- LOG_KV_STATUS (R297). -/
abbrev logKvStatus : Nat := 0x101020
/-- LOG_KV_RESULT (R297). -/
abbrev logKvResult : Nat := 0x101024
/-- LOG_KV_ERR (R297). -/
abbrev logKvErr : Nat := 0x101028
/-- LOG_KV_CNT_PIN (R297). -/
abbrev logKvCntPin : Nat := 0x101040
/-- LOG_KV_CNT_ALLOC (R297). -/
abbrev logKvCntAlloc : Nat := 0x101044
/-- LOG_KV_CNT_COW (R297). -/
abbrev logKvCntCow : Nat := 0x101048
/-- LOG_KV_CNT_FREED (R297). -/
abbrev logKvCntFreed : Nat := 0x10104C
/-- LOG_KV_CNT_NOOP (R297). -/
abbrev logKvCntNoop : Nat := 0x101050
/-- LOG_KV_CNT_REFUSED (R297). -/
abbrev logKvCntRefused : Nat := 0x101054
/-- MX_CNT_ATTBLK (R298). -/
abbrev mxCntAttblk : Nat := 0x70120
/-- MX_CNT_PINWAIT (R298). -/
abbrev mxCntPinwait : Nat := 0x70124
/-- MX_CNT_PGWAIT (R298). -/
abbrev mxCntPgwait : Nat := 0x70128
/-- VX_CNT_FLUSH (R298). -/
abbrev vxCntFlush : Nat := 0x7015C
/-- VX_CNT_EVICT (R298). -/
abbrev vxCntEvict : Nat := 0x70160
/-- VX_CNT_OVERBUDGET (R298). -/
abbrev vxCntOverbudget : Nat := 0x70164
/-- LOG_SCHED_CTRL (R325). -/
abbrev logSchedCtrl : Nat := 0x102000
/-- LOG_SCHED_CTXTAB_LO (R325). -/
abbrev logSchedCtxtabLo : Nat := 0x102008
/-- LOG_SCHED_CTXTAB_HI (R325). -/
abbrev logSchedCtxtabHi : Nat := 0x10200C
/-- LOG_SCHED_USABLE (R325). -/
abbrev logSchedUsable : Nat := 0x102010
/-- LOG_SCHED_SUBMIT (R325). -/
abbrev logSchedSubmit : Nat := 0x102014
/-- LOG_SCHED_GRANT (R325). -/
abbrev logSchedGrant : Nat := 0x102018
/-- LOG_SCHED_GRANT_CORES (R325). -/
abbrev logSchedGrantCores : Nat := 0x10201C
/-- LOG_SCHED_REDISPATCH (R325). -/
abbrev logSchedRedispatch : Nat := 0x102020
/-- LOG_SCHED_STATUS (R325). -/
abbrev logSchedStatus : Nat := 0x102024
/-- LOG_SCHED_ERR (R325). -/
abbrev logSchedErr : Nat := 0x102028
/-- LOG_SCHED_CNT_PLACE (R325). -/
abbrev logSchedCntPlace : Nat := 0x102040
/-- LOG_SCHED_CNT_PREEMPT (R325). -/
abbrev logSchedCntPreempt : Nat := 0x102044
/-- LOG_SCHED_CNT_REDISPATCH (R325). -/
abbrev logSchedCntRedispatch : Nat := 0x102048
/-- LOG_SCHED_CNT_RESUME (R325). -/
abbrev logSchedCntResume : Nat := 0x10204C
/-- CORE_WDOG (R326). -/
abbrev coreWdog : Nat := 0x40
/-- CORE_WDOG_CNT (R326). -/
abbrev coreWdogCnt : Nat := 0x44
/-- CORE_PREEMPT (R326). -/
abbrev corePreempt : Nat := 0x48
/-- CORE_LIVE (R326). -/
abbrev coreLive : Nat := 0x4C
/-- CORE_CNT_PREEMPT (R327). -/
abbrev coreCntPreempt : Nat := 0x7003C
/-- CORE_CNT_SPILLED (R327). -/
abbrev coreCntSpilled : Nat := 0x70040
/-- CORE_CNT_REFILLED (R327). -/
abbrev coreCntRefilled : Nat := 0x70044
/-- CORE_CNT_SKIPPED (R327). -/
abbrev coreCntSkipped : Nat := 0x70048
/-- CORE_CNT_RWAIT (R327). -/
abbrev coreCntRwait : Nat := 0x7004C
/-- HBM_STATUS (R348). -/
abbrev hbmStatus : Nat := 0x0
/-- HBM_ERR (R348). -/
abbrev hbmErr : Nat := 0x4
/-- HBM_ECC_CTRL (R348). -/
abbrev hbmEccCtrl : Nat := 0x10
/-- HBM_TEST (R348). -/
abbrev hbmTest : Nat := 0x14
/-- HBM_ERR_PA_LO (R348). -/
abbrev hbmErrPaLo : Nat := 0x8
/-- HBM_ERR_PA_HI (R348). -/
abbrev hbmErrPaHi : Nat := 0xC
/-- HBM_CNT_CE (R348). -/
abbrev hbmCntCe : Nat := 0x40
/-- HBM_CNT_UE (R348). -/
abbrev hbmCntUe : Nat := 0x44
/-- HBM_CNT_ODECC (R348). -/
abbrev hbmCntOdecc : Nat := 0x48
/-- HBM_CNT_MIRFIX (R348). -/
abbrev hbmCntMirfix : Nat := 0x4C
/-- HBM_CNT_RDLINES (R348). -/
abbrev hbmCntRdlines : Nat := 0x50
/-- HBM_CNT_WRLINES (R348). -/
abbrev hbmCntWrlines : Nat := 0x54
/-- HBM_RGN_A(i) (R349). -/
abbrev hbmRgnA : Nat := 0x800
/-- HBM_RGN_B(i) (R349). -/
abbrev hbmRgnB : Nat := 0x804
/-- HBM_XLAT_INV (R349). -/
abbrev hbmXlatInv : Nat := 0x890
/-- HBM_FILL_REQ (R349). -/
abbrev hbmFillReq : Nat := 0x8A0
/-- HBM_FAIL (R349). -/
abbrev hbmFail : Nat := 0x8B4
/-- HBM_HUB_ERR (R349). -/
abbrev hbmHubErr : Nat := 0x8BC
/-- HBM_RGN_LOCK (R349). -/
abbrev hbmRgnLock : Nat := 0x880
/-- HBM_XLAT_ROOT_LO (R349). -/
abbrev hbmXlatRootLo : Nat := 0x888
/-- HBM_XLAT_ROOT_HI (R349). -/
abbrev hbmXlatRootHi : Nat := 0x88C
/-- HBM_XLAT_INV_VA_LO (R349). -/
abbrev hbmXlatInvVaLo : Nat := 0x894
/-- HBM_XLAT_INV_VA_HI (R349). -/
abbrev hbmXlatInvVaHi : Nat := 0x898
/-- HBM_XLAT_STATUS (R349). -/
abbrev hbmXlatStatus : Nat := 0x89C
/-- HBM_FILL_PA_LO (R349). -/
abbrev hbmFillPaLo : Nat := 0x8A4
/-- HBM_FILL_PA_HI (R349). -/
abbrev hbmFillPaHi : Nat := 0x8A8
/-- HBM_FILL_STATUS (R349). -/
abbrev hbmFillStatus : Nat := 0x8AC
/-- HBM_PILOT_AS (R349). -/
abbrev hbmPilotAs : Nat := 0x8B0
/-- HBM_FAILED (R349). -/
abbrev hbmFailed : Nat := 0x8B8
/-- HBM_CNT_FILL (R349). -/
abbrev hbmCntFill : Nat := 0x8C0
/-- HBM_CNT_INV (R349). -/
abbrev hbmCntInv : Nat := 0x8C4
/-- HBM_CNT_HUBXLAT (R349). -/
abbrev hbmCntHubxlat : Nat := 0x8C8
/-- CORE_XLAT_INFO (R350). -/
abbrev coreXlatInfo : Nat := 0x50
/-- CORE_XLAT_VA_LO (R350). -/
abbrev coreXlatVaLo : Nat := 0x54
/-- CORE_XLAT_VA_HI (R350). -/
abbrev coreXlatVaHi : Nat := 0x58
/-- CORE_CNT_TLBMISS (R350). -/
abbrev coreCntTlbmiss : Nat := 0x70280
/-- CORE_CNT_WALKLINES (R350). -/
abbrev coreCntWalklines : Nat := 0x70284
/-- CORE_CNT_INVDROP (R350). -/
abbrev coreCntInvdrop : Nat := 0x70288
/-- RHB_STATUS (R374). -/
abbrev rhbStatus : Nat := 0x0
/-- RHB_CTRL (R374). -/
abbrev rhbCtrl : Nat := 0x4
/-- RHB_ERR (R374). -/
abbrev rhbErr : Nat := 0xC
/-- RHB_TEST (R374). -/
abbrev rhbTest : Nat := 0x10
/-- RHB_LANES (R374). -/
abbrev rhbLanes : Nat := 0x8
/-- RHB_TEST_FAIL (R374). -/
abbrev rhbTestFail : Nat := 0x14
/-- RHB_CNT_TXFLIT (R374). -/
abbrev rhbCntTxflit : Nat := 0x40
/-- RHB_CNT_RXFLIT (R374). -/
abbrev rhbCntRxflit : Nat := 0x44
/-- RHB_CNT_CRC (R374). -/
abbrev rhbCntCrc : Nat := 0x48
/-- RHB_CNT_REPLAY (R374). -/
abbrev rhbCntReplay : Nat := 0x4C
/-- RHB_CNT_TRANSIT (R374). -/
abbrev rhbCntTransit : Nat := 0x50
/-- RHB_CNT_HOPDROP (R374). -/
abbrev rhbCntHopdrop : Nat := 0x54
/-- RHB_DEVID (R375). -/
abbrev rhbDevid : Nat := 0x800
/-- RHB_ROUTE_SEL (R375). -/
abbrev rhbRouteSel : Nat := 0x804
/-- RHB_ROUTE (R375). -/
abbrev rhbRoute : Nat := 0x808
/-- RHB_E2E (R375). -/
abbrev rhbE2e : Nat := 0x80C
/-- RHB_KEY_CTRL (R375). -/
abbrev rhbKeyCtrl : Nat := 0x818
/-- RHB_PEERTAB_LO (R375). -/
abbrev rhbPeertabLo : Nat := 0x810
/-- RHB_PEERTAB_HI (R375). -/
abbrev rhbPeertabHi : Nat := 0x814
/-- RHB_KEY_DATA0 (R375). -/
abbrev rhbKeyData0 : Nat := 0x820
/-- RHB_KEY_DATA1 (R375). -/
abbrev rhbKeyData1 : Nat := 0x824
/-- RHB_KEY_DATA2 (R375). -/
abbrev rhbKeyData2 : Nat := 0x828
/-- RHB_KEY_DATA3 (R375). -/
abbrev rhbKeyData3 : Nat := 0x82C
/-- RHB_KEY_DATA4 (R375). -/
abbrev rhbKeyData4 : Nat := 0x830
/-- RHB_KEY_DATA5 (R375). -/
abbrev rhbKeyData5 : Nat := 0x834
/-- RHB_KEY_DATA6 (R375). -/
abbrev rhbKeyData6 : Nat := 0x838
/-- RHB_KEY_DATA7 (R375). -/
abbrev rhbKeyData7 : Nat := 0x83C
/-- RHB_KEY_VALID0 (R375). -/
abbrev rhbKeyValid0 : Nat := 0x840
/-- RHB_KEY_VALID1 (R375). -/
abbrev rhbKeyValid1 : Nat := 0x844
/-- RHB_KEY_VALID2 (R375). -/
abbrev rhbKeyValid2 : Nat := 0x848
/-- RHB_KEY_VALID3 (R375). -/
abbrev rhbKeyValid3 : Nat := 0x84C
/-- RHB_KEY_VALID4 (R375). -/
abbrev rhbKeyValid4 : Nat := 0x850
/-- RHB_KEY_VALID5 (R375). -/
abbrev rhbKeyValid5 : Nat := 0x854
/-- RHB_KEY_VALID6 (R375). -/
abbrev rhbKeyValid6 : Nat := 0x858
/-- RHB_KEY_VALID7 (R375). -/
abbrev rhbKeyValid7 : Nat := 0x85C
/-- RHB_CNT_TAGFAIL (R375). -/
abbrev rhbCntTagfail : Nat := 0x880
/-- RHB_CNT_DUP (R375). -/
abbrev rhbCntDup : Nat := 0x884
/-- RHB_CNT_RETX (R375). -/
abbrev rhbCntRetx : Nat := 0x888
/-- RHB_CNT_NACK (R375). -/
abbrev rhbCntNack : Nat := 0x88C
/-- RHB_CNT_LANDED (R375). -/
abbrev rhbCntLanded : Nat := 0x890
/-- RHB_CNT_NOROUTE (R375). -/
abbrev rhbCntNoroute : Nat := 0x894
/-- RHB_CNT_FLOWWAIT (R375). -/
abbrev rhbCntFlowwait : Nat := 0x898
/-- RHB_CNT_MIGRATED (R375). -/
abbrev rhbCntMigrated : Nat := 0x89C
/-- CORE_CNT_PUTLINES (R376). -/
abbrev coreCntPutlines : Nat := 0x702A0
/-- CORE_CNT_REPLAYREC (R376). -/
abbrev coreCntReplayrec : Nat := 0x702A4
/-- MBX_STATUS (R378). -/
abbrev mbxStatus : Nat := 0x0
/-- MBX_SEND (R378). -/
abbrev mbxSend : Nat := 0x4
/-- MBX_CTRL (R378). -/
abbrev mbxCtrl : Nat := 0x8
/-- MBX_ERR (R378). -/
abbrev mbxErr : Nat := 0xC
/-- MBX_EVT_POP (R378). -/
abbrev mbxEvtPop : Nat := 0x10
/-- MBX_CNT_EVDROP (R378). -/
abbrev mbxCntEvdrop : Nat := 0x14
/-- FE_CNT_APPDROP (R396). -/
abbrev feCntAppdrop : Nat := 0x200078
/-- PWR_RESET_CAUSE (R435). -/
abbrev pwrResetCause : Nat := 0x300100
/-- PWR_THERM_CTRL (R440). -/
abbrev pwrThermCtrl : Nat := 0x300104
/-- PWR_THERM_STATUS (R440). -/
abbrev pwrThermStatus : Nat := 0x300108
/-- PWR_THERM_SEL (R440). -/
abbrev pwrThermSel : Nat := 0x30010C
/-- PWR_LIMIT (R440). -/
abbrev pwrLimit : Nat := 0x300114
/-- PWR_GATE (R440). -/
abbrev pwrGate : Nat := 0x30011C
/-- PWR_GPIO_DEB(n) (R440). -/
abbrev pwrGpioDeb : Nat := 0x300240
/-- PWR_THERM_TEMP (R440). -/
abbrev pwrThermTemp : Nat := 0x300110
/-- PWR_POWER (R440). -/
abbrev pwrPower : Nat := 0x300118
/-- PWR_CNT_GATED (R440). -/
abbrev pwrCntGated : Nat := 0x300120
/-- PWR_GPIO_DIR (R440). -/
abbrev pwrGpioDir : Nat := 0x300200
/-- PWR_GPIO_OUT (R440). -/
abbrev pwrGpioOut : Nat := 0x300204
/-- PWR_GPIO_IN (R440). -/
abbrev pwrGpioIn : Nat := 0x300208
/-- PWR_GPIO_RISE_EN (R440). -/
abbrev pwrGpioRiseEn : Nat := 0x30020C
/-- PWR_GPIO_FALL_EN (R440). -/
abbrev pwrGpioFallEn : Nat := 0x300210
/-- PWR_GPIO_EVT (R440). -/
abbrev pwrGpioEvt : Nat := 0x300214
/-- PWR_CNT_GPIO_BOUNCE (R440). -/
abbrev pwrCntGpioBounce : Nat := 0x300218

end Reg

/-- Rows of the Logbook, the front end and the power controller. -/
def hubRegs0 : List RegSpec := [
  ⟨0x100000, 0x3, 0x0, 0x0, []⟩,
  ⟨0x100004, 0x0, 0x0, 0x0, []⟩,
  ⟨0x100008, 0xFFE00000, 0x0, 0x0, []⟩,
  ⟨0x10000C, 0xFFF, 0x0, 0x0, []⟩,
  ⟨0x100010, 0xFFE00000, 0x0, 0x0, []⟩,
  ⟨0x100014, 0xFFF, 0x0, 0x0, []⟩,
  ⟨0x100018, 0xFFFFC000, 0x0, 0x0, []⟩,
  ⟨0x10001C, 0xFFF, 0x0, 0x0, []⟩,
  ⟨0x100020, 0x7FF, 0x0, 0x400, [(0, 11, 1, 1024)]⟩,
  ⟨0x100024, 0x0, 0x0, 0x0, []⟩,
  ⟨0x100028, 0x0, 0x80000000, 0x0, []⟩,
  ⟨0x100030, 0x0, 0x0, 0x0, []⟩,
  ⟨0x100034, 0x0, 0x0, 0x0, []⟩,
  ⟨0x100038, 0x0, 0x0, 0x0, []⟩,
  ⟨0x10003C, 0x0, 0x0, 0x0, []⟩,
  ⟨0x100040, 0x0, 0x0, 0x0, []⟩,
  ⟨0x100044, 0x0, 0x0, 0x0, []⟩,
  ⟨0x100048, 0x0, 0x0, 0x0, []⟩,
  ⟨0x10004C, 0x0, 0x0, 0x0, []⟩,
  ⟨0x100050, 0x0, 0x0, 0x0, []⟩,
  ⟨0x100054, 0x0, 0x0, 0x0, []⟩,
  ⟨0x100058, 0xFFE00000, 0x0, 0x0, []⟩,
  ⟨0x10005C, 0xFFF, 0x0, 0x0, []⟩,
  ⟨0x100060, 0x1FFF, 0x0, 0x200, [(0, 13, 1, 4096)]⟩]

/-- Rows of the Logbook, the front end and the power controller. -/
def hubRegs1 : List RegSpec := [
  ⟨0x100064, 0x0, 0x0, 0x0, []⟩,
  ⟨0x100068, 0x0, 0x0, 0x0, []⟩,
  ⟨0x101000, 0x1, 0x0, 0x0, []⟩,
  ⟨0x101008, 0xFFFFF800, 0x0, 0x0, []⟩,
  ⟨0x10100C, 0xFFF, 0x0, 0x0, []⟩,
  ⟨0x101010, 0x0, 0x0, 0x0, []⟩,
  ⟨0x101014, 0xFFFF0000, 0x0, 0x0, []⟩,
  ⟨0x101018, 0xFFFF, 0x0, 0x0, []⟩,
  ⟨0x10101C, 0xFFFFF, 0x0, 0x0, []⟩,
  ⟨0x101020, 0x0, 0x0, 0x0, []⟩,
  ⟨0x101024, 0x0, 0x80000000, 0x0, []⟩,
  ⟨0x101028, 0x0, 0x7, 0x0, []⟩,
  ⟨0x101040, 0x0, 0x0, 0x0, []⟩,
  ⟨0x101044, 0x0, 0x0, 0x0, []⟩,
  ⟨0x101048, 0x0, 0x0, 0x0, []⟩,
  ⟨0x10104C, 0x0, 0x0, 0x0, []⟩,
  ⟨0x101050, 0x0, 0x0, 0x0, []⟩,
  ⟨0x101054, 0x0, 0x0, 0x0, []⟩,
  ⟨0x102000, 0x3, 0x0, 0x0, []⟩,
  ⟨0x102008, 0xFFFC0000, 0x0, 0x0, []⟩,
  ⟨0x10200C, 0xFFF, 0x0, 0x0, []⟩,
  ⟨0x102010, 0xFFFFFFFF, 0x0, 0x0, []⟩,
  ⟨0x102014, 0x0, 0x0, 0x0, []⟩,
  ⟨0x102018, 0x0, 0x0, 0x0, []⟩]

/-- Rows of the Logbook, the front end and the power controller. Bits 31:12 of FE_HOLD_BASE_HI and FE_LOCAL_BASE_HI, which R78 does not call
reserved, lie above the 44-bit physical address and are dropped on a write. (DESIGN CHOICE, log entry 70) -/
def hubRegs2 : List RegSpec := [
  ⟨0x10201C, 0x0, 0x0, 0x0, []⟩,
  ⟨0x102020, 0x0, 0x0, 0x0, []⟩,
  ⟨0x102024, 0x0, 0x0, 0x0, []⟩,
  ⟨0x102028, 0x0, 0x3, 0x0, []⟩,
  ⟨0x102040, 0x0, 0x0, 0x0, []⟩,
  ⟨0x102044, 0x0, 0x0, 0x0, []⟩,
  ⟨0x102048, 0x0, 0x0, 0x0, []⟩,
  ⟨0x10204C, 0x0, 0x0, 0x0, []⟩,
  ⟨0x200000, 0xFFFF000E, 0x0, 0x0, []⟩,
  ⟨0x200004, 0xFFFF, 0x0, 0x4E20, []⟩,
  ⟨0x200008, 0xFFFF00FF, 0x0, 0x140008, [(16, 16, 1, 65535), (0, 8, 1, 255)]⟩,
  ⟨0x20000C, 0xFFFF, 0x0, 0x1000, []⟩,
  ⟨0x200010, 0xFFFFF000, 0x0, 0x0, []⟩,
  ⟨0x200014, 0xFFF, 0x0, 0x0, []⟩,
  ⟨0x200018, 0xFFE00000, 0x0, 0x0, []⟩,
  ⟨0x20001C, 0xFFF, 0x0, 0x0, []⟩,
  ⟨0x200040, 0x0, 0x0, 0x0, []⟩,
  ⟨0x200044, 0x0, 0x0, 0x0, []⟩,
  ⟨0x200048, 0x0, 0x0, 0x0, []⟩,
  ⟨0x20004C, 0x0, 0x0, 0x0, []⟩,
  ⟨0x200050, 0x0, 0x0, 0x0, []⟩,
  ⟨0x200054, 0x0, 0x0, 0x0, []⟩,
  ⟨0x200058, 0x0, 0x0, 0x0, []⟩,
  ⟨0x20005C, 0x0, 0x0, 0x0, []⟩]

/-- Rows of the Logbook, the front end and the power controller. -/
def hubRegs3 : List RegSpec := [
  ⟨0x200060, 0x0, 0x0, 0x0, []⟩,
  ⟨0x200064, 0x0, 0x0, 0x0, []⟩,
  ⟨0x200068, 0x0, 0x0, 0x0, []⟩,
  ⟨0x20006C, 0x0, 0x0, 0x0, []⟩,
  ⟨0x200070, 0x0, 0x0, 0x0, []⟩,
  ⟨0x200074, 0x0, 0x0, 0x0, []⟩,
  ⟨0x200078, 0x0, 0x0, 0x0, []⟩,
  ⟨0x300000, 0x0, 0x0, 0x0, []⟩,
  ⟨0x300004, 0x0, 0x0, 0x0, []⟩,
  ⟨0x300008, 0x0, 0x0, 0x0, []⟩,
  ⟨0x300010, 0x0, 0x0, 0x0, []⟩,
  ⟨0x300014, 0x0, 0x0, 0x0, []⟩,
  ⟨0x300018, 0x0, 0x7, 0x0, []⟩,
  ⟨0x300100, 0x0, 0x0, 0x1, []⟩,
  ⟨0x300104, 0x8000FFFF, 0x0, 0x80005F5A, [(8, 8, 60, 105), (0, 8, 60, 100)]⟩,
  ⟨0x300108, 0x0, 0x0, 0x0, []⟩,
  ⟨0x30010C, 0x3F, 0x0, 0x0, [(0, 6, 0, 43)]⟩,
  ⟨0x300110, 0x0, 0x0, 0x0, []⟩,
  ⟨0x300114, 0x7FF, 0x0, 0x4B0, [(0, 11, 100, 1200)]⟩,
  ⟨0x300118, 0x0, 0x0, 0x0, []⟩,
  ⟨0x30011C, 0x0, 0x0, 0x10, []⟩,
  ⟨0x300120, 0x0, 0x0, 0x0, []⟩,
  ⟨0x300200, 0xFFFF, 0x0, 0x0, []⟩,
  ⟨0x300204, 0xFFFF, 0x0, 0x0, []⟩]

/-- Rows of the Logbook, the front end and the power controller. -/
def hubRegs4 : List RegSpec := [
  ⟨0x300208, 0x0, 0x0, 0x0, []⟩,
  ⟨0x30020C, 0xFFFF, 0x0, 0x0, []⟩,
  ⟨0x300210, 0xFFFF, 0x0, 0x0, []⟩,
  ⟨0x300214, 0x0, 0xFFFF, 0x0, []⟩,
  ⟨0x300218, 0x0, 0x0, 0x0, []⟩,
  ⟨0x300240, 0x3FF, 0x0, 0xA, [(0, 10, 1, 1000)]⟩,
  ⟨0x300244, 0x3FF, 0x0, 0xA, [(0, 10, 1, 1000)]⟩,
  ⟨0x300248, 0x3FF, 0x0, 0xA, [(0, 10, 1, 1000)]⟩,
  ⟨0x30024C, 0x3FF, 0x0, 0xA, [(0, 10, 1, 1000)]⟩,
  ⟨0x300250, 0x3FF, 0x0, 0xA, [(0, 10, 1, 1000)]⟩,
  ⟨0x300254, 0x3FF, 0x0, 0xA, [(0, 10, 1, 1000)]⟩,
  ⟨0x300258, 0x3FF, 0x0, 0xA, [(0, 10, 1, 1000)]⟩,
  ⟨0x30025C, 0x3FF, 0x0, 0xA, [(0, 10, 1, 1000)]⟩,
  ⟨0x300260, 0x3FF, 0x0, 0xA, [(0, 10, 1, 1000)]⟩,
  ⟨0x300264, 0x3FF, 0x0, 0xA, [(0, 10, 1, 1000)]⟩,
  ⟨0x300268, 0x3FF, 0x0, 0xA, [(0, 10, 1, 1000)]⟩,
  ⟨0x30026C, 0x3FF, 0x0, 0xA, [(0, 10, 1, 1000)]⟩,
  ⟨0x300270, 0x3FF, 0x0, 0xA, [(0, 10, 1, 1000)]⟩,
  ⟨0x300274, 0x3FF, 0x0, 0xA, [(0, 10, 1, 1000)]⟩,
  ⟨0x300278, 0x3FF, 0x0, 0xA, [(0, 10, 1, 1000)]⟩,
  ⟨0x30027C, 0x3FF, 0x0, 0xA, [(0, 10, 1, 1000)]⟩]

/-- The register map of the Logbook, the front end and the power controller. -/
def hubRegs : List RegSpec := hubRegs0 ++ hubRegs1 ++ hubRegs2 ++ hubRegs3 ++ hubRegs4

/-- Rows of a core window. -/
def coreRegs0 : List RegSpec := [
  ⟨0x0, 0x4, 0x0, 0x0, []⟩,
  ⟨0x4, 0x0, 0x0, 0x10000000, []⟩,
  ⟨0x8, 0xFFF, 0x0, 0x0, []⟩,
  ⟨0xC, 0xFFFFFFFF, 0x0, 0x0, []⟩,
  ⟨0x10, 0xFFFF0000, 0x0, 0x0, []⟩,
  ⟨0x14, 0xFFFF, 0x0, 0x0, []⟩,
  ⟨0x18, 0xFFFFFFE0, 0x0, 0x0, []⟩,
  ⟨0x1C, 0xFFFF, 0x0, 0x0, []⟩,
  ⟨0x20, 0x0, 0x0, 0x0, []⟩,
  ⟨0x24, 0x0, 0x0, 0x0, []⟩,
  ⟨0x28, 0x0, 0x80000000, 0x0, []⟩,
  ⟨0x2C, 0x0, 0x0, 0x0, []⟩,
  ⟨0x30, 0x0, 0x0, 0x0, []⟩,
  ⟨0x34, 0x0, 0x0, 0x0, []⟩,
  ⟨0x38, 0x0, 0x0, 0x0, []⟩,
  ⟨0x3C, 0x0, 0x0, 0x0, []⟩,
  ⟨0x40, 0xFFFF, 0x0, 0x7D0, [(0, 16, 1, 65535)]⟩,
  ⟨0x44, 0x0, 0x0, 0x0, []⟩,
  ⟨0x48, 0x0, 0x1, 0x0, []⟩,
  ⟨0x4C, 0x0, 0x0, 0x0, []⟩,
  ⟨0x50, 0x0, 0x0, 0x0, []⟩,
  ⟨0x54, 0x0, 0x0, 0x0, []⟩,
  ⟨0x58, 0x0, 0x0, 0x0, []⟩,
  ⟨0x10000, 0x0, 0x0, 0x0, []⟩]

/-- Rows of a core window. -/
def coreRegs1 : List RegSpec := [
  ⟨0x10004, 0x0, 0x0, 0x0, []⟩,
  ⟨0x10008, 0x0, 0x0, 0x0, []⟩,
  ⟨0x1000C, 0x0, 0x0, 0x0, []⟩,
  ⟨0x10010, 0x0, 0x1, 0x0, []⟩,
  ⟨0x10018, 0x0, 0x0, 0x0, []⟩,
  ⟨0x20000, 0x0, 0x0, 0x0, []⟩,
  ⟨0x20004, 0x0, 0x0, 0x0, []⟩,
  ⟨0x20008, 0x0, 0x0, 0x0, []⟩,
  ⟨0x2000C, 0x0, 0x1, 0x0, []⟩,
  ⟨0x20010, 0x0, 0x0, 0x0, []⟩,
  ⟨0x30000, 0x0, 0x0, 0x0, []⟩,
  ⟨0x30004, 0x1F1F1F, 0x0, 0xA0402, []⟩,
  ⟨0x30008, 0x7F, 0x0, 0x10, [(0, 7, 1, 64)]⟩,
  ⟨0x3000C, 0x3, 0x0, 0x0, [(0, 2, 0, 2)]⟩,
  ⟨0x30010, 0x1F0F, 0x0, 0x0, []⟩,
  ⟨0x30014, 0x0, 0x0, 0x0, []⟩,
  ⟨0x30018, 0x0, 0x0, 0x0, []⟩,
  ⟨0x3001C, 0x0, 0x1, 0x0, []⟩,
  ⟨0x40000, 0x0, 0x0, 0x0, []⟩,
  ⟨0x40004, 0x9F9F0000, 0x0, 0x0, []⟩,
  ⟨0x40008, 0x0, 0x0, 0x0, []⟩,
  ⟨0x4000C, 0xFFF, 0x0, 0x0, []⟩,
  ⟨0x40010, 0x0, 0x0, 0x0, []⟩,
  ⟨0x40014, 0x0, 0x0, 0x0, []⟩]

/-- Rows of a core window. -/
def coreRegs2 : List RegSpec := [
  ⟨0x40018, 0x0, 0x0, 0x0, []⟩,
  ⟨0x4001C, 0x0, 0xF0000000, 0x0, []⟩,
  ⟨0x40020, 0x0, 0x0, 0x0, []⟩,
  ⟨0x40024, 0x3F, 0x0, 0x0, []⟩,
  ⟨0x50000, 0x3F, 0x0, 0x8, []⟩,
  ⟨0x50004, 0x0, 0x0, 0x0, []⟩,
  ⟨0x50008, 0xFFFFF000, 0x0, 0x0, []⟩,
  ⟨0x5000C, 0xFFFF, 0x0, 0x0, []⟩,
  ⟨0x50010, 0x0, 0x0, 0x0, []⟩,
  ⟨0x60000, 0xFFFFFFFF, 0x0, 0x1000010, [(16, 16, 1, 65535), (0, 16, 1, 65535)]⟩,
  ⟨0x60004, 0x0, 0x0, 0x0, []⟩,
  ⟨0x60008, 0xF, 0x0, 0x0, []⟩,
  ⟨0x6000C, 0x0, 0x0, 0x0, []⟩,
  ⟨0x60010, 0x0, 0x0, 0x0, []⟩,
  ⟨0x60014, 0x0, 0x1, 0x0, []⟩,
  ⟨0x70000, 0x0, 0x0, 0x0, []⟩,
  ⟨0x70004, 0x0, 0x0, 0x0, []⟩,
  ⟨0x70008, 0x0, 0x0, 0x0, []⟩,
  ⟨0x7000C, 0x0, 0x0, 0x0, []⟩,
  ⟨0x70010, 0x0, 0x0, 0x0, []⟩,
  ⟨0x70014, 0x0, 0x0, 0x0, []⟩,
  ⟨0x70018, 0x0, 0x0, 0x0, []⟩,
  ⟨0x7001C, 0x0, 0x0, 0x0, []⟩,
  ⟨0x70020, 0x0, 0x0, 0x0, []⟩]

/-- Rows of a core window. -/
def coreRegs3 : List RegSpec := [
  ⟨0x70024, 0x0, 0x0, 0x0, []⟩,
  ⟨0x70028, 0x0, 0x0, 0x0, []⟩,
  ⟨0x7002C, 0x0, 0x0, 0x0, []⟩,
  ⟨0x70030, 0x0, 0x0, 0x0, []⟩,
  ⟨0x70034, 0x0, 0x0, 0x0, []⟩,
  ⟨0x70038, 0x0, 0x0, 0x0, []⟩,
  ⟨0x7003C, 0x0, 0x0, 0x0, []⟩,
  ⟨0x70040, 0x0, 0x0, 0x0, []⟩,
  ⟨0x70044, 0x0, 0x0, 0x0, []⟩,
  ⟨0x70048, 0x0, 0x0, 0x0, []⟩,
  ⟨0x7004C, 0x0, 0x0, 0x0, []⟩,
  ⟨0x70100, 0x0, 0x0, 0x0, []⟩,
  ⟨0x70104, 0x0, 0x0, 0x0, []⟩,
  ⟨0x70108, 0x0, 0x0, 0x0, []⟩,
  ⟨0x7010C, 0x0, 0x0, 0x0, []⟩,
  ⟨0x70110, 0x0, 0x0, 0x0, []⟩,
  ⟨0x70114, 0x0, 0x0, 0x0, []⟩,
  ⟨0x70118, 0x0, 0x0, 0x0, []⟩,
  ⟨0x7011C, 0x0, 0x0, 0x0, []⟩,
  ⟨0x70120, 0x0, 0x0, 0x0, []⟩,
  ⟨0x70124, 0x0, 0x0, 0x0, []⟩,
  ⟨0x70128, 0x0, 0x0, 0x0, []⟩,
  ⟨0x70140, 0x0, 0x0, 0x0, []⟩,
  ⟨0x70144, 0x0, 0x0, 0x0, []⟩]

/-- Rows of a core window. -/
def coreRegs4 : List RegSpec := [
  ⟨0x70148, 0x0, 0x0, 0x0, []⟩,
  ⟨0x7014C, 0x0, 0x0, 0x0, []⟩,
  ⟨0x70150, 0x0, 0x0, 0x0, []⟩,
  ⟨0x70154, 0x0, 0x0, 0x0, []⟩,
  ⟨0x70158, 0x0, 0x0, 0x0, []⟩,
  ⟨0x7015C, 0x0, 0x0, 0x0, []⟩,
  ⟨0x70160, 0x0, 0x0, 0x0, []⟩,
  ⟨0x70164, 0x0, 0x0, 0x0, []⟩,
  ⟨0x70180, 0x0, 0x0, 0x0, []⟩,
  ⟨0x70184, 0x0, 0x0, 0x0, []⟩,
  ⟨0x70188, 0x0, 0x0, 0x0, []⟩,
  ⟨0x7018C, 0x0, 0x0, 0x0, []⟩,
  ⟨0x70190, 0x0, 0x0, 0x0, []⟩,
  ⟨0x701A0, 0x0, 0x0, 0x0, []⟩,
  ⟨0x701A4, 0x0, 0x0, 0x0, []⟩,
  ⟨0x701A8, 0x0, 0x0, 0x0, []⟩,
  ⟨0x701AC, 0x0, 0x0, 0x0, []⟩,
  ⟨0x701B0, 0x0, 0x0, 0x0, []⟩,
  ⟨0x701B4, 0x0, 0x0, 0x0, []⟩,
  ⟨0x701B8, 0x0, 0x0, 0x0, []⟩,
  ⟨0x701BC, 0x0, 0x0, 0x0, []⟩,
  ⟨0x701C0, 0x0, 0x0, 0x0, []⟩,
  ⟨0x701C4, 0x0, 0x0, 0x0, []⟩,
  ⟨0x701C8, 0x0, 0x0, 0x0, []⟩]

/-- Rows of a core window. -/
def coreRegs5 : List RegSpec := [
  ⟨0x701CC, 0x0, 0x0, 0x0, []⟩,
  ⟨0x701D0, 0x0, 0x0, 0x0, []⟩,
  ⟨0x701D4, 0x0, 0x0, 0x0, []⟩,
  ⟨0x701D8, 0x0, 0x0, 0x0, []⟩,
  ⟨0x701DC, 0x0, 0x0, 0x0, []⟩,
  ⟨0x701E0, 0x0, 0x0, 0x0, []⟩,
  ⟨0x701E4, 0x0, 0x0, 0x0, []⟩,
  ⟨0x701E8, 0x0, 0x0, 0x0, []⟩,
  ⟨0x70200, 0x0, 0x0, 0x0, []⟩,
  ⟨0x70204, 0x0, 0x0, 0x0, []⟩,
  ⟨0x70208, 0x0, 0x0, 0x0, []⟩,
  ⟨0x7020C, 0x0, 0x0, 0x0, []⟩,
  ⟨0x70210, 0x0, 0x0, 0x0, []⟩,
  ⟨0x70214, 0x0, 0x0, 0x0, []⟩,
  ⟨0x70218, 0x0, 0x0, 0x0, []⟩,
  ⟨0x7021C, 0x0, 0x0, 0x0, []⟩,
  ⟨0x70220, 0x0, 0x0, 0x0, []⟩,
  ⟨0x70224, 0x0, 0x0, 0x0, []⟩,
  ⟨0x70240, 0x0, 0x0, 0x0, []⟩,
  ⟨0x70244, 0x0, 0x0, 0x0, []⟩,
  ⟨0x70248, 0x0, 0x0, 0x0, []⟩,
  ⟨0x7024C, 0x0, 0x0, 0x0, []⟩,
  ⟨0x70250, 0x0, 0x0, 0x0, []⟩,
  ⟨0x70254, 0x0, 0x0, 0x0, []⟩]

/-- Rows of a core window. -/
def coreRegs6 : List RegSpec := [
  ⟨0x70258, 0x0, 0x0, 0x0, []⟩,
  ⟨0x7025C, 0x0, 0x0, 0x0, []⟩,
  ⟨0x70260, 0x0, 0x0, 0x0, []⟩,
  ⟨0x70280, 0x0, 0x0, 0x0, []⟩,
  ⟨0x70284, 0x0, 0x0, 0x0, []⟩,
  ⟨0x70288, 0x0, 0x0, 0x0, []⟩,
  ⟨0x702A0, 0x0, 0x0, 0x0, []⟩,
  ⟨0x702A4, 0x0, 0x0, 0x0, []⟩]

/-- The register map of a core window. -/
def coreRegs : List RegSpec := coreRegs0 ++ coreRegs1 ++ coreRegs2 ++ coreRegs3 ++ coreRegs4 ++ coreRegs5 ++ coreRegs6

/-- Rows of a Rhumb port, and the shared set at 0x800. -/
def rhbRegs0 : List RegSpec := [
  ⟨0x0, 0x0, 0x0, 0x0, []⟩,
  ⟨0x4, 0x1, 0x0, 0x0, []⟩,
  ⟨0x8, 0xFFFFFFFF, 0x0, 0x0, []⟩,
  ⟨0xC, 0x0, 0x7, 0x0, []⟩,
  ⟨0x10, 0x0, 0x0, 0x0, []⟩,
  ⟨0x14, 0x0, 0x0, 0x0, []⟩,
  ⟨0x40, 0x0, 0x0, 0x0, []⟩,
  ⟨0x44, 0x0, 0x0, 0x0, []⟩,
  ⟨0x48, 0x0, 0x0, 0x0, []⟩,
  ⟨0x4C, 0x0, 0x0, 0x0, []⟩,
  ⟨0x50, 0x0, 0x0, 0x0, []⟩,
  ⟨0x54, 0x0, 0x0, 0x0, []⟩,
  ⟨0x800, 0x800FFFFF, 0x0, 0x0, []⟩,
  ⟨0x804, 0x800003FF, 0x0, 0x0, []⟩,
  ⟨0x808, 0xC000000F, 0x0, 0x0, []⟩,
  ⟨0x80C, 0xF0FFFFFF, 0x0, 0x80100032, [(28, 4, 1, 15), (16, 8, 1, 255), (0, 16, 1, 65535)]⟩,
  ⟨0x810, 0xFFF00000, 0x0, 0x0, []⟩,
  ⟨0x814, 0xFFF, 0x0, 0x0, []⟩,
  ⟨0x818, 0x0, 0x0, 0x0, []⟩,
  ⟨0x820, 0x0, 0x0, 0x0, []⟩,
  ⟨0x824, 0x0, 0x0, 0x0, []⟩,
  ⟨0x828, 0x0, 0x0, 0x0, []⟩,
  ⟨0x82C, 0x0, 0x0, 0x0, []⟩,
  ⟨0x830, 0x0, 0x0, 0x0, []⟩]

/-- Rows of a Rhumb port, and the shared set at 0x800. -/
def rhbRegs1 : List RegSpec := [
  ⟨0x834, 0x0, 0x0, 0x0, []⟩,
  ⟨0x838, 0x0, 0x0, 0x0, []⟩,
  ⟨0x83C, 0x0, 0x0, 0x0, []⟩,
  ⟨0x840, 0x0, 0x0, 0x0, []⟩,
  ⟨0x844, 0x0, 0x0, 0x0, []⟩,
  ⟨0x848, 0x0, 0x0, 0x0, []⟩,
  ⟨0x84C, 0x0, 0x0, 0x0, []⟩,
  ⟨0x850, 0x0, 0x0, 0x0, []⟩,
  ⟨0x854, 0x0, 0x0, 0x0, []⟩,
  ⟨0x858, 0x0, 0x0, 0x0, []⟩,
  ⟨0x85C, 0x0, 0x0, 0x0, []⟩,
  ⟨0x880, 0x0, 0x0, 0x0, []⟩,
  ⟨0x884, 0x0, 0x0, 0x0, []⟩,
  ⟨0x888, 0x0, 0x0, 0x0, []⟩,
  ⟨0x88C, 0x0, 0x0, 0x0, []⟩,
  ⟨0x890, 0x0, 0x0, 0x0, []⟩,
  ⟨0x894, 0x0, 0x0, 0x0, []⟩,
  ⟨0x898, 0x0, 0x0, 0x0, []⟩,
  ⟨0x89C, 0x0, 0x0, 0x0, []⟩]

/-- The register map of a Rhumb port, and the shared set at 0x800. -/
def rhbRegs : List RegSpec := rhbRegs0 ++ rhbRegs1

/-- Rows of a memory stack, and the shared set at 0x800. -/
def hbmRegs0 : List RegSpec := [
  ⟨0x0, 0x0, 0x0, 0x0, []⟩,
  ⟨0x4, 0x0, 0xF0000000, 0x0, []⟩,
  ⟨0x8, 0x0, 0x0, 0x0, []⟩,
  ⟨0xC, 0x0, 0x0, 0x0, []⟩,
  ⟨0x10, 0xFFFF, 0x0, 0x1804, []⟩,
  ⟨0x14, 0x3F, 0x0, 0x0, []⟩,
  ⟨0x40, 0x0, 0x0, 0x0, []⟩,
  ⟨0x44, 0x0, 0x0, 0x0, []⟩,
  ⟨0x48, 0x0, 0x0, 0x0, []⟩,
  ⟨0x4C, 0x0, 0x0, 0x0, []⟩,
  ⟨0x50, 0x0, 0x0, 0x0, []⟩,
  ⟨0x54, 0x0, 0x0, 0x0, []⟩,
  ⟨0x800, 0xFC03FFFF, 0x0, 0x0, [(29, 2, 0, 2)]⟩,
  ⟨0x804, 0xFFFFE1FF, 0x0, 0x0, []⟩,
  ⟨0x808, 0xFC03FFFF, 0x0, 0x0, [(29, 2, 0, 2)]⟩,
  ⟨0x80C, 0xFFFFE1FF, 0x0, 0x0, []⟩,
  ⟨0x810, 0xFC03FFFF, 0x0, 0x0, [(29, 2, 0, 2)]⟩,
  ⟨0x814, 0xFFFFE1FF, 0x0, 0x0, []⟩,
  ⟨0x818, 0xFC03FFFF, 0x0, 0x0, [(29, 2, 0, 2)]⟩,
  ⟨0x81C, 0xFFFFE1FF, 0x0, 0x0, []⟩,
  ⟨0x820, 0xFC03FFFF, 0x0, 0x0, [(29, 2, 0, 2)]⟩,
  ⟨0x824, 0xFFFFE1FF, 0x0, 0x0, []⟩,
  ⟨0x828, 0xFC03FFFF, 0x0, 0x0, [(29, 2, 0, 2)]⟩,
  ⟨0x82C, 0xFFFFE1FF, 0x0, 0x0, []⟩]

/-- Rows of a memory stack, and the shared set at 0x800. -/
def hbmRegs1 : List RegSpec := [
  ⟨0x830, 0xFC03FFFF, 0x0, 0x0, [(29, 2, 0, 2)]⟩,
  ⟨0x834, 0xFFFFE1FF, 0x0, 0x0, []⟩,
  ⟨0x838, 0xFC03FFFF, 0x0, 0x0, [(29, 2, 0, 2)]⟩,
  ⟨0x83C, 0xFFFFE1FF, 0x0, 0x0, []⟩,
  ⟨0x840, 0xFC03FFFF, 0x0, 0x0, [(29, 2, 0, 2)]⟩,
  ⟨0x844, 0xFFFFE1FF, 0x0, 0x0, []⟩,
  ⟨0x848, 0xFC03FFFF, 0x0, 0x0, [(29, 2, 0, 2)]⟩,
  ⟨0x84C, 0xFFFFE1FF, 0x0, 0x0, []⟩,
  ⟨0x850, 0xFC03FFFF, 0x0, 0x0, [(29, 2, 0, 2)]⟩,
  ⟨0x854, 0xFFFFE1FF, 0x0, 0x0, []⟩,
  ⟨0x858, 0xFC03FFFF, 0x0, 0x0, [(29, 2, 0, 2)]⟩,
  ⟨0x85C, 0xFFFFE1FF, 0x0, 0x0, []⟩,
  ⟨0x860, 0xFC03FFFF, 0x0, 0x0, [(29, 2, 0, 2)]⟩,
  ⟨0x864, 0xFFFFE1FF, 0x0, 0x0, []⟩,
  ⟨0x868, 0xFC03FFFF, 0x0, 0x0, [(29, 2, 0, 2)]⟩,
  ⟨0x86C, 0xFFFFE1FF, 0x0, 0x0, []⟩,
  ⟨0x870, 0xFC03FFFF, 0x0, 0x0, [(29, 2, 0, 2)]⟩,
  ⟨0x874, 0xFFFFE1FF, 0x0, 0x0, []⟩,
  ⟨0x878, 0xFC03FFFF, 0x0, 0x0, [(29, 2, 0, 2)]⟩,
  ⟨0x87C, 0xFFFFE1FF, 0x0, 0x0, []⟩,
  ⟨0x880, 0x1, 0x0, 0x0, []⟩,
  ⟨0x888, 0xFFFF0000, 0x0, 0x0, []⟩,
  ⟨0x88C, 0xFFF, 0x0, 0x0, []⟩,
  ⟨0x890, 0x0, 0x0, 0x0, []⟩]

/-- Rows of a memory stack, and the shared set at 0x800. -/
def hbmRegs2 : List RegSpec := [
  ⟨0x894, 0xFFFF0000, 0x0, 0x0, []⟩,
  ⟨0x898, 0xFFFF, 0x0, 0x0, []⟩,
  ⟨0x89C, 0x0, 0x0, 0x0, []⟩,
  ⟨0x8A0, 0x0, 0x0, 0x0, []⟩,
  ⟨0x8A4, 0xFFFF0000, 0x0, 0x0, []⟩,
  ⟨0x8A8, 0xFFF, 0x0, 0x0, []⟩,
  ⟨0x8AC, 0x0, 0x0, 0x0, []⟩,
  ⟨0x8B0, 0x80000FFF, 0x0, 0x0, []⟩,
  ⟨0x8B4, 0x0, 0x0, 0x0, []⟩,
  ⟨0x8B8, 0x0, 0x0, 0x0, []⟩,
  ⟨0x8BC, 0x0, 0xF, 0x0, []⟩,
  ⟨0x8C0, 0x0, 0x0, 0x0, []⟩,
  ⟨0x8C4, 0x0, 0x0, 0x0, []⟩,
  ⟨0x8C8, 0x0, 0x0, 0x0, []⟩]

/-- The register map of a memory stack, and the shared set at 0x800. -/
def hbmRegs : List RegSpec := hbmRegs0 ++ hbmRegs1 ++ hbmRegs2

/-- Rows of a mailbox channel, but for its message areas. -/
def mbxRegs0 : List RegSpec := [
  ⟨0x0, 0x0, 0x8000000, 0x0, []⟩,
  ⟨0x4, 0x0, 0x0, 0x0, []⟩,
  ⟨0x8, 0x7, 0x0, 0x0, []⟩,
  ⟨0xC, 0x0, 0x3, 0x0, []⟩,
  ⟨0x10, 0x0, 0x0, 0x0, []⟩,
  ⟨0x14, 0x0, 0x0, 0x0, []⟩]

/-- The register map of a mailbox channel, but for its message areas. -/
def mbxRegs : List RegSpec := mbxRegs0

end Sys2Proof.Machine
end

