-- ==== Sys2Proof/Machine/Ops.lean ====
section
/-! DEFINITION. The register file and its counters (R5-R9), the units' lines, the cores of the state, and free values. -/

namespace Sys2Proof.Machine

/-! ### Keys of the register file -/

/-- The key of a register of the window of core `n` (R25). -/
def coreKey (n off : Nat) : Nat := 0x1000000 + 0x100000 * n + off

/-- The key of a register of Rhumb port `p`; offsets 0x800 and above are one shared set, kept in the block of P0 (R375). -/
def rhbKey (p off : Nat) : Nat := if 0x800 ≤ off then 0x400000 + off else 0x400000 + 0x10000 * p + off

/-- The key of a register of the controller of stack `h`; offsets 0x800 and above are one shared set, kept in the block of H0
(R349). -/
def hbmKey (h off : Nat) : Nat := if 0x800 ≤ off then 0x500000 + off else 0x500000 + 0x10000 * h + off

/-- The row of a register map at an offset. -/
def findReg (m : List RegSpec) (off : Nat) : Option RegSpec := m.find? (fun r => r.off == off)

/-- The row of the register at a key. (DEDUCED, log entry 68) -/
def specOf (key : Nat) : Option RegSpec :=
  if key < 0x100000 then none
  else if key < 0x400000 then findReg hubRegs key
  else if key < 0x440000 then findReg rhbRegs ((key - 0x400000) % 0x10000)
  else if key < 0x500000 then none
  else if key < 0x580000 then findReg hbmRegs ((key - 0x500000) % 0x10000)
  else if key < 0x1000000 then none
  else if key < 0x3000000 then findReg coreRegs ((key - 0x1000000) % 0x100000)
  else none

/-- The value of a register at reset (the register maps), 0 where there is no register. -/
def resetOf (key : Nat) : Word := ((specOf key).map RegSpec.reset).getD 0

/-- The value held by the register at a key. -/
def State.reg (s : State) (key : Nat) : Word := mgetD s.regs key (resetOf key)

/-- Sets the value held by the register at a key. -/
def State.setReg (s : State) (key : Nat) (v : Word) : State := { s with regs := mputD (resetOf key) s.regs key v }

/-- Raises a counter by `n`; counters wrap. -/
def State.bump (s : State) (key : Nat) (n : Nat := 1) : State := s.setReg key (s.reg key + w32 n)

/-- Sets bits of a register. -/
def State.orReg (s : State) (key : Nat) (m : Word) : State := s.setReg key (s.reg key ||| m)

/-- Clears bits of a register. -/
def State.clrReg (s : State) (key : Nat) (m : Word) : State := s.setReg key (s.reg key &&& ~~~ m)

/-- Returns every register with `lo ≤ key < hi` to its reset value. -/
def State.resetRegs (s : State) (lo hi : Nat) : State := { s with regs := mclear s.regs lo hi }

/-- The 64-bit quantity of two registers at consecutive offsets (R8). -/
def State.reg2 (s : State) (lo : Nat) : Nat := (s.reg lo).toNat + 2 ^ 32 * (s.reg (lo + 4)).toNat

/-- Sets both registers of a 64-bit quantity. -/
def State.setReg2 (s : State) (lo v : Nat) : State := (s.setReg lo (w32 v)).setReg (lo + 4) (w32 (v / 2 ^ 32))

/-- Whether every field with reserved encodings holds an allowed value (R7). (DEDUCED, log entry 68) -/
def encOk (e : Nat × Nat × Nat × Nat) (v : Word) : Bool :=
  let x := bits v.toNat e.1 e.2.1
  decide (e.2.2.1 ≤ x ∧ x ≤ e.2.2.2)

/-- What a write of `v` leaves in a register that holds `old` (R6, R7): RW fields take the value but for fields written with a
reserved encoding, W1C bits written 1 clear, all other bits keep their value. (DEDUCED, log entry 68) -/
def writtenValue (r : RegSpec) (old v : Word) : Word :=
  let keep := r.enc.foldl (fun m e => if encOk e v then m else m ||| w32 ((2 ^ e.2.1 - 1) * 2 ^ e.1)) (0 : Word)
  let rw := r.rw &&& ~~~ keep
  ((old &&& ~~~ rw) ||| (v &&& rw)) &&& ~~~ (r.w1c &&& v)

/-- A write to the register at a key with no behaviour of its own. -/
def State.plainWrite (s : State) (key : Nat) (v : Word) : State :=
  match specOf key with
  | some r => s.setReg key (writtenValue r (s.reg key) v)
  | none => s

/-! ### Cores -/

/-- Core `n`. -/
def State.core (s : State) (n : Nat) : Core := s.cores.getD n {}

/-- Replaces core `n`. -/
def State.setCore (s : State) (n : Nat) (c : Core) : State := { s with cores := s.cores.set n c }

/-- Changes core `n`. -/
def State.modCore (s : State) (n : Nat) (f : Core → Core) : State := s.setCore n (f (s.core n))

/-- A register of core `n` by its offset in the window. -/
def State.cReg (s : State) (n off : Nat) : Word := s.reg (coreKey n off)

/-- Raises a counter of core `n`. -/
def State.cBump (s : State) (n off : Nat) (k : Nat := 1) : State := s.bump (coreKey n off) k

/-! ### Domains (R18-R21) -/

/-- Whether a domain is on. -/
def State.domOn (s : State) (d : Nat) : Bool := s.pwr.on.getLsbD d

/-- Whether an access to a domain is taken: it is on and not fenced (R20, R21). -/
def State.domOpen (s : State) (d : Nat) : Bool := s.pwr.on.getLsbD d && !(s.pwr.fenced.getLsbD d)

/-- The Declination record's disabled-core mask (R401). -/
def State.disabledCores (s : State) : Nat := leNat ((s.pilot.decl.drop 0x10).take 4)

/-- Whether core `n` is retired in the live unit map (R320): an entry of KIND 0. -/
def State.coreRetired (s : State) (n : Nat) : Bool :=
  s.pilot.unitMap.any (fun e => fld e 31 29 == 0 && fld e 15 8 == n)

/-- Whether core `n` may be powered (R19): neither disabled nor retired. -/
def State.coreAllowed (s : State) (n : Nat) : Bool := !(s.disabledCores.testBit n) && !(s.coreRetired n)

/-! ### Arbiters (R29) -/

/-- One grant of an arbiter (R29): the first requester in the rotating order, which then moves to the lowest place. -/
def arbitrate (order : List Nat) (req : Nat → Bool) : Option (Nat × List Nat) :=
  (order.find? req).map (fun w => (w, order.filter (· ≠ w) ++ [w]))

/-! ### Free values -/

/-- The next free value (DESIGN CHOICE, log entry 2). -/
def State.free (s : State) : Word := Config.freeValue s.freeCtr

/-- Passes on to the next free value. -/
def State.nextFree (s : State) : State := { s with freeCtr := s.freeCtr + 1 }

end Sys2Proof.Machine
end

