-- ==== Sys2Proof/Machine/Operands.lean ====
section
/-! DEFINITION. The command format (R84-R88) and the operand layouts of every command (R89, R103, R115, R122, R141, R142, R151, R153, R156, R157,
R192, R200, R205, R206, R225, R286, R287, R365): the fields, and the static checks under which a command is MALFORMED (R87). An operand word
is named by its number in its layout; `ow ops k` is word `k`. -/

namespace Sys2Proof.Machine

/-! ### Opcodes (R88) -/

/-- Opcodes of contract version 1 with their operand words; VX_CHAIN counts its stages (R88). -/
def opTable : List (Nat × Nat) :=
  [(0x01, 0), (0x02, 3), (0x03, 0), (0x04, 2), (0x05, 0), (0x06, 1), (0x07, 1),
   (0x40, 4), (0x41, 6), (0x48, 8), (0x81, 4), (0x82, 5), (0x83, 5), (0x84, 3), (0x88, 8),
   (0xC0, 8), (0xC1, 1), (0xC2, 4), (0xC3, 4), (0xC4, 2), (0xC5, 4)]

/-- NOP. -/
abbrev opNop : Nat := 0x01
/-- FENCE. -/
abbrev opFence : Nat := 0x02
/-- END. -/
abbrev opEnd : Nat := 0x03
/-- LOOP. -/
abbrev opLoop : Nat := 0x04
/-- ENDLOOP. -/
abbrev opEndloop : Nat := 0x05
/-- BANK_POWER. -/
abbrev opBankPower : Nat := 0x06
/-- COMPLETE. -/
abbrev opComplete : Nat := 0x07
/-- MX_LOAD. -/
abbrev opMxLoad : Nat := 0x40
/-- MX_MATMUL. -/
abbrev opMxMatmul : Nat := 0x41
/-- MX_ATTN. -/
abbrev opMxAttn : Nat := 0x48
/-- VX_CHAIN. -/
abbrev opVxChain : Nat := 0x80
/-- VX_REDUCE. -/
abbrev opVxReduce : Nat := 0x81
/-- VX_SCAN. -/
abbrev opVxScan : Nat := 0x82
/-- VX_STORE. -/
abbrev opVxStore : Nat := 0x83
/-- VX_LOAD. -/
abbrev opVxLoad : Nat := 0x84
/-- VX_ATTN. -/
abbrev opVxAttn : Nat := 0x88
/-- SX_ARM. -/
abbrev opSxArm : Nat := 0xC0
/-- SX_WAIT. -/
abbrev opSxWait : Nat := 0xC1
/-- SX_NKL_SOURCE. -/
abbrev opSxSource : Nat := 0xC2
/-- SX_NKL_TAKE. -/
abbrev opSxTake : Nat := 0xC3
/-- SX_WAIT_REMOTE. -/
abbrev opSxWaitRemote : Nat := 0xC4
/-- SX_FACET_ENC. -/
abbrev opSxFacetEnc : Nat := 0xC5

/-- The executor of an opcode, OPCODE[31:30]: 0 dispatcher, 1 MX, 2 VX, 3 SX (R84). -/
def execOf (op : Nat) : Nat := op / 64

/-! ### Word 0 and the ranges (R84, R85) -/

/-- OPCODE of word 0. -/
def hOp (w : Word) : Nat := fld w 31 24
/-- NWORDS of word 0. -/
def hLen (w : Word) : Nat := fld w 23 18
/-- NRD of word 0. -/
def hNrd (w : Word) : Nat := fld w 17 16
/-- NWR of word 0. -/
def hNwr (w : Word) : Nat := fld w 15 14
/-- ROT of word 0. -/
def hRot (w : Word) : Bool := flag w 13
/-- AHEAD of word 0. -/
def hAhead (w : Word) : Bool := flag w 12

/-- The range pairs of `n` ranges. -/
def rangesOf : Nat → List Word → List (Word × Word)
  | 0, _ => []
  | n + 1, ws => (wd ws 0, wd ws 1) :: rangesOf n (ws.drop 2)

/-- Operand word `k` of a layout that counts from 1. -/
def ow (ops : List Word) (k : Nat) : Word := wd ops (k - 1)

/-- The operand words of an opcode, given the operand words themselves (R88): none when the opcode is reserved. -/
def opWords (op : Nat) (ops : List Word) : Option Nat :=
  if op = opVxChain then some (2 + 2 * (fld (ow ops 2) 13 11 + 1)) else (opTable.find? (fun e => e.1 == op)).map Prod.snd

/-- Bits `hi` to `lo` are 0. -/
def zf (w : Word) (hi lo : Nat) : Bool := fld w hi lo == 0

/-- A group of `t` registers from `r` on passes no T31 (R138). -/
def groupOk (r t : Nat) : Bool := decide (1 ≤ t ∧ r + t ≤ 32)

/-! ### Control commands (R89, R92) -/

/-- The fields of LOOP, BANK_POWER, COMPLETE and FENCE hold no reserved value. -/
def controlOk (op : Nat) (o : List Word) : Bool :=
  if op = opFence then zf (ow o 1) 30 0 && zf (ow o 3) 31 16
  else if op = opLoop then
    let w := ow o 1
    zf w 30 29 && zf (ow o 2) 31 22 &&
      (if flag w 31 then decide (1 ≤ fld w 28 18 ∧ fld w 28 18 ≤ 1024) && zf w 17 0 else zf w 28 18)
  else if op = opBankPower then zf (ow o 1) 30 0
  else if op = opComplete then
    let w := ow o 1
    zf w 30 27 && zf w 15 11 &&
      (if flag w 31 then zf w 26 16 && zf w 10 0 else decide (1 ≤ fld w 10 0 ∧ fld w 10 0 ≤ 1024))
  else true

/-! ### MX (R109, R115, R116, R122) -/

/-- Group length of a GSIZE code; 0 for none (R115). -/
def groupLen : Nat → Nat
  | 0 => 32 | 1 => 64 | 2 => 128 | _ => 0

/-- The K and N limits of a weight format (R109). -/
def loadLimits (fmt : Nat) : Nat × Nat :=
  if fmt = 0 ∨ fmt = 4 ∨ fmt = 5 then (256, 256) else if fmt = 1 ∨ fmt = 2 ∨ fmt = 3 then (512, 256) else (128, 128)

/-- Whether a weight format is an integer or codebook format. -/
def intFormat (fmt : Nat) : Bool := decide (fmt ≤ 3)

/-- The ranges that MX_LOAD's fields make present: side table, escape values (R115). -/
def loadSide (o : List Word) : Bool := fld (ow o 1) 27 26 != 3 || fld (ow o 1) 31 28 == 2 || fld (ow o 1) 31 28 == 3
/-- The escape-value range is present (R115). -/
def loadEsc (o : List Word) : Bool := fld (ow o 1) 31 28 == 2 && fld (ow o 3) 15 0 != 0

/-- MX_LOAD (R115, R116). -/
def mxLoadOk (nrd nwr : Nat) (o : List Word) : Bool :=
  let w := ow o 1
  let fmt := fld w 31 28
  let g := fld w 27 26
  let k := fld w 19 10
  let n := fld w 9 0
  decide (fmt ≤ 7) && zf w 23 20 && zf (ow o 2) 30 16 && zf (ow o 3) 31 16 && zf (ow o 4) 31 0 &&
  decide (k ≠ 0 ∧ k % 32 = 0 ∧ k % max 1 (groupLen g) = 0 ∧ k ≤ (loadLimits fmt).1 ∧ n ≠ 0 ∧ n ≤ (loadLimits fmt).2) &&
  (intFormat fmt || g == 3) && !(flag w 25 && intFormat fmt) &&
  (fmt == 2 || (!(flag w 24) && zf (ow o 3) 15 0)) && !(flag (ow o 2) 31 && g == 3) &&
  nrd == 1 + b2n (loadSide o) + b2n (loadEsc o) && nwr == 0

/-- MX_MATMUL (R122); whether range 1 is present is checked at issue. -/
def mxMatmulOk (nrd nwr : Nat) (o : List Word) : Bool :=
  let w := ow o 1
  decide (fld w 31 28 ≤ 4 ∧ fld w 27 26 ≤ 1 ∧ fld w 15 0 ≠ 0) && zf w 23 16 && zf (ow o 2) 31 22 && zf (ow o 3) 31 22 &&
  zf (ow o 4) 31 16 && zf (ow o 5) 31 0 && zf (ow o 6) 31 0 && !(flag w 25 && zf w 31 28) && (nrd == 1 || nrd == 2) && nwr == 0

/-- MX_ATTN (R286, R288), its own half. -/
def mxAttnOk (nrd nwr : Nat) (o : List Word) : Bool :=
  let w := ow o 1
  let mode := fld w 31 30
  let stg := b2n (flag w 26)
  let pc := fld (ow o 2) 23 16
  decide (mode ≤ 1 ∧ 2 ≤ fld w 29 27 ∧ fld w 29 27 ≤ 4 ∧ 1 ≤ fld w 25 17 ∧ fld w 25 17 ≤ 256 ∧ fld (ow o 2) 31 24 ≤ 63 ∧ pc ≤ 64 ∧
    fld (ow o 2) 31 24 + pc ≤ 64 ∧ pc + stg ≠ 0 ∧ (mode = 0 ∨ pc + stg = 1) ∧ (if mode = 0 then 33 else 69) ≤ fld (ow o 3) 21 0) &&
  zf w 16 16 && zf (ow o 2) 15 0 && zf (ow o 3) 31 22 && zf (ow o 5) 31 16 && zf (ow o 4) 21 0 &&
  zf (ow o 6) 31 0 && zf (ow o 7) 31 0 && zf (ow o 8) 31 0 && nrd == 2 + stg && nwr == 2

/-- VX_ATTN (R287, R288), its own half. -/
def vxAttnOk (nrd nwr : Nat) (o : List Word) : Bool :=
  let w := ow o 2
  let mode := fld w 31 30
  decide (mode ≤ 1 ∧ 1 ≤ fld w 25 17 ∧ fld w 25 17 ≤ 256 ∧ (if mode = 0 then 258 else 256) ≤ fld (ow o 4) 21 0) &&
  !(flag w 27 && !(flag w 28)) && (mode == 0 || (!(flag w 29) && !(flag w 28) && !(flag w 27))) &&
  zf w 16 0 && zf (ow o 3) 31 22 && zf (ow o 4) 31 22 && zf (ow o 5) 31 0 && zf (ow o 6) 31 0 && zf (ow o 7) 31 0 && zf (ow o 8) 31 0 &&
  nrd == 1 + b2n (flag w 26) + b2n (flag w 27) && nwr == 1 + b2n (flag w 28)

/-- The halves of an attention pair agree (R288). -/
def attnPair (mx vx : List Word) : Bool :=
  fld (ow mx 1) 31 30 == fld (ow vx 2) 31 30 && fld (ow mx 1) 25 17 == fld (ow vx 2) 25 17

/-! ### VX (R141-R145, R151, R153, R156, R157) -/

/-- A stage of a chain: word A and the immediate (R141). -/
structure Stage where
  a : Word
  imm : Word
  deriving DecidableEq, Repr, Inhabited

/-- OP of a stage. -/
def Stage.op (s : Stage) : Nat := fld s.a 31 26
/-- TYPE of a stage: 1 is INT32. -/
def Stage.int (s : Stage) : Bool := flag s.a 25
/-- IMODE of a stage. -/
def Stage.imode (s : Stage) : Bool := flag s.a 24
/-- The selectors of operands a, b and c. -/
def Stage.sel (s : Stage) : List Nat := [fld s.a 23 21, fld s.a 20 18, fld s.a 17 15]
/-- SREG of a stage. -/
def Stage.sreg (s : Stage) : Nat := fld s.a 14 10
/-- BCAST of a stage. -/
def Stage.bcast (s : Stage) : Nat := fld s.a 9 8
/-- CMP of a stage. -/
def Stage.cmp (s : Stage) : Nat := fld s.a 7 5

/-- The stages of a chain, from word 3 on. -/
def stagesOf : Nat → List Word → List Stage
  | 0, _ => []
  | n + 1, ws => ⟨wd ws 0, wd ws 1⟩ :: stagesOf n (ws.drop 2)

/-- The stages of a chain's operand words. -/
def chainStages (o : List Word) : List Stage := stagesOf (fld (ow o 2) 13 11 + 1) (o.drop 2)

/-- The operands an operation takes (R148); 0 where it is reserved. -/
def chainArity (op : Nat) : Nat :=
  if op = 0x01 ∨ op = 0x10 ∨ op = 0x11 then 1
  else if op = 0x05 ∨ op = 0x09 ∨ op = 0x12 then 3
  else if op = 0 ∨ 0x12 < op then 0 else 2

/-- WFMA (R150). -/
abbrev opWfma : Nat := 0x12

/-- Whether an operation takes a TYPE (R148). -/
def chainTypeOk (op : Nat) (int : Bool) : Bool := if int then decide (op ≠ 0x11 ∧ op ≠ 0x12) else decide (op < 0x0A ∨ 0x10 < op)

/-- E of a chain: its elements. -/
def chainE (o : List Word) : Nat := fld (ow o 1) 11 0 + 1
/-- The tiles of a chain. -/
def chainT (o : List Word) : Nat := ceilDiv (chainE o) 256

/-- Stage `k` of a chain (R142, R145, R148). -/
def stageOk (o : List Word) (last k : Nat) (s : Stage) : Bool :=
  let w := ow o 1
  let used := s.sel.take (chainArity s.op)
  let t := chainT o
  chainArity s.op != 0 && chainTypeOk s.op s.int && (s.sel.drop (chainArity s.op)).all (· == 0) && zf s.a 4 0 &&
  (if s.op = 0x08 then decide (s.cmp ≤ 5) else s.cmp == 0) &&
  !(used.contains 2 && !(flag w 24)) && !(used.contains 5 && decide (k ≤ fld w 18 16)) && !(used.contains 6 && decide (k ≤ fld w 15 13)) &&
  !(used.contains 7 && !s.imode) && !(s.int && s.imode) &&
  !(s.op == opWfma && (k != last || !(flag w 24) || !(groupOk (fld (ow o 2) 25 21) t))) &&
  !(used.contains 3 && !(groupOk s.sreg (if s.bcast % 2 = 0 then t else 1)))

/-- VX_CHAIN (R141, R145). -/
def vxChainOk (nrd nwr : Nat) (o : List Word) : Bool :=
  let w := ow o 1
  let v := ow o 2
  let t := chainT o
  let st := chainStages o
  decide (fld w 31 30 ≤ 2) && zf w 12 12 && zf v 10 0 &&
  (st.zipIdx.all (fun p => stageOk o (st.length - 1) p.2 p.1)) &&
  (fld w 31 30 != 0 || groupOk (fld w 29 25) t) && (!(flag w 24) || groupOk (fld w 23 19) t) &&
  (flag v 31 || groupOk (fld v 30 26) t) && (!(flag v 20) || groupOk (fld v 18 14) t) &&
  nrd == b2n (fld w 31 30 == 2) && nwr == b2n (flag v 31)

/-- VX_REDUCE (R151). -/
def vxReduceOk (nrd nwr : Nat) (o : List Word) : Bool :=
  let w := ow o 1
  let t := fld w 19 16 + 1
  decide (fld w 31 28 ≤ 3) && zf w 10 0 && zf (ow o 3) 31 9 && zf (ow o 4) 31 0 &&
  decide (1 ≤ fld (ow o 3) 8 0 ∧ fld (ow o 3) 8 0 ≤ 16 * t) && groupOk (fld w 24 20) t &&
  !(fld w 31 28 == 3 && fld w 15 11 == 31) && nrd == 0 && nwr == 0

/-- VX_SCAN (R153): the fields that the operator, FEN and DAEN leave unused are 0. (DEDUCED, log entry 69) -/
def vxScanOk (nrd nwr : Nat) (o : List Word) : Bool :=
  let w := ow o 1
  let op := fld w 31 28
  let t := fld w 23 20 + 1
  let v := ow o 2
  let d := ow o 3
  decide (op ≤ 5) && !(flag w 27 && !(op == 0 || op == 2 || op == 3)) && !(flag w 24 && decide (op < 4)) &&
  zf w 19 0 && zf v 11 0 && zf d 16 0 && zf (ow o 4) 31 0 && zf (ow o 5) 31 0 &&
  (decide (4 ≤ op) || (zf v 26 22 && zf d 26 22)) && (flag w 25 || zf v 16 12) && (decide (op < 4) || flag w 24 || zf d 31 27) &&
  (op == 5 || (zf v 21 17 && zf d 21 17)) &&
  groupOk (fld v 31 27) t && (!(decide (4 ≤ op)) || (groupOk (fld v 26 22) t && groupOk (fld d 26 22) t)) &&
  (op != 5 || (groupOk (fld v 21 17) t && groupOk (fld d 21 17) t)) && (!(flag w 25) || groupOk (fld v 16 12) t) &&
  (!(decide (op < 4) || flag w 24) || groupOk (fld d 31 27) t) && nrd == 0 && nwr == 0

/-- VX_LOAD (R156). -/
def vxLoadOk (nrd nwr : Nat) (o : List Word) : Bool :=
  let w := ow o 1
  let t := fld w 26 23 + 1
  decide (fld w 22 19 ≤ 6 ∧ fld w 7 0 + 1 ≤ 16 * t) && zf w 13 8 && zf (ow o 2) 31 22 && zf (ow o 3) 31 0 && groupOk (fld w 31 27) t &&
  nrd == 1 && nwr == 0

/-- Whether a store format is an integer format: INT8 or INT4. -/
def storeInt (fmt : Nat) : Bool := fmt == 5 || fmt == 6

/-- VX_STORE (R157). -/
def vxStoreOk (nrd nwr : Nat) (o : List Word) : Bool :=
  let w := ow o 1
  let t := fld w 26 23 + 1
  let fmt := fld w 22 19
  let g := fld w 18 17
  let cols := fld (ow o 4) 7 0 + 1
  let codes := storeInt fmt && g != 3
  decide (fmt ≤ 6 ∧ cols ≤ 16 * t) && zf w 5 0 && zf (ow o 2) 31 22 && zf (ow o 3) 31 22 && zf (ow o 4) 30 20 && zf (ow o 4) 15 8 &&
  zf (ow o 5) 31 0 && groupOk (fld w 31 27) t && (storeInt fmt || g == 3) && !(flag w 16 && g == 3) &&
  (g == 3 || cols % groupLen g == 0) &&
  !(flag w 15 && (flag w 16 || !codes || decide (15 < cols / max 1 (groupLen g) - 1 + fld (ow o 4) 19 16))) &&
  nrd == b2n (codes && !(flag w 16)) && nwr == 1 + b2n codes

/-! ### SX (R192-R194, R200, R205, R206, R225, R362, R365) -/

/-- SX_ARM (R192-R194, R362); `single`: an ISRC 1 command in a work-list loop with DIV = 1. -/
def sxArmOk (nrd nwr : Nat) (o : List Word) (single : Bool) : Bool :=
  let w := ow o 1
  let dir := fld w 27 26
  let isrc := fld w 25 24
  let pool := fld w 23 22
  let count := fld (ow o 2) 15 0
  let lines := fld (ow o 3) 15 0
  let stride := fld (ow o 4) 17 0
  let facet := flag w 20
  let one := if isrc = 1 then single else count == 1
  let toSpad := dir == 0 || dir == 3
  decide (isrc ≤ 2 ∧ lines ≠ 0) && zf w 19 0 && zf (ow o 2) 31 16 && zf (ow o 3) 31 16 && zf (ow o 4) 31 18 && zf (ow o 6) 31 16 &&
  zf (ow o 8) 31 0 && zf (ow o 5) 5 0 && (isrc == 1 || pool == 0) && (if isrc = 1 then count == 0 && ow o 7 == 0 else count != 0) &&
  (isrc != 1 || (dir == 0 && pool != 2) || (dir == 1 && (pool == 0 || pool == 2))) &&
  !(isrc == 1 && pool == 3 && !(lines == 1 && ow o 5 == 0 && ow o 6 == 0)) &&
  (!facet || (decide (dir ≤ 1) && stride == 0 && lines % 64 == 0)) &&
  (facet || !toSpad || one || decide (lines ≤ stride)) &&
  !(dir == 2 && bits (va48 o 4) 29 11 != 0) && !(dir == 3 && bits (va48 o 4) 32 12 != 0) &&
  nrd == b2n (!toSpad) + b2n (isrc == 2) && nwr == b2n toSpad

/-- The other SX commands. -/
def sxOk (op nrd nwr : Nat) (o : List Word) : Bool :=
  if op = opSxWait then zf (ow o 1) 31 17
  else if op = opSxSource then
    fld (ow o 1) 15 0 != 0 && zf (ow o 2) 30 0 && zf (ow o 3) 11 0 && zf (ow o 4) 31 16 && nrd == 0 && nwr == 0
  else if op = opSxTake then
    fld (ow o 1) 15 0 != 0 && zf (ow o 2) 30 16 && zf (ow o 3) 11 0 && zf (ow o 4) 31 16 && nrd == 0 && nwr == 1
  else if op = opSxWaitRemote then zf (ow o 1) 31 20 && zf (ow o 1) 15 0 && ow o 2 != 0 && nrd == 0 && decide (nwr ≤ 1)
  else if op = opSxFacetEnc then
    let w := ow o 1
    decide (fld w 31 30 ≤ 2 ∧ 1 ≤ fld w 6 0 ∧ fld w 6 0 ≤ 64) && zf w 27 7 && zf (ow o 2) 31 6 && zf (ow o 3) 31 0 && zf (ow o 4) 31 0 &&
    nrd == (if fld w 31 30 = 1 then 2 else 1) && nwr == 1
  else true

/-- The operand fields and range counts of a command hold nothing reserved (R87). -/
def operandsOk (op nrd nwr : Nat) (o : List Word) (single : Bool) : Bool :=
  if execOf op = 0 then controlOk op o && (op == opNop || op == opBankPower || (nrd == 0 && nwr == 0))
  else if op = opMxLoad then mxLoadOk nrd nwr o
  else if op = opMxMatmul then mxMatmulOk nrd nwr o
  else if op = opMxAttn then mxAttnOk nrd nwr o
  else if op = opVxChain then vxChainOk nrd nwr o
  else if op = opVxReduce then vxReduceOk nrd nwr o
  else if op = opVxScan then vxScanOk nrd nwr o
  else if op = opVxLoad then vxLoadOk nrd nwr o
  else if op = opVxStore then vxStoreOk nrd nwr o
  else if op = opVxAttn then vxAttnOk nrd nwr o
  else if op = opSxArm then sxArmOk nrd nwr o single
  else sxOk op nrd nwr o

/-! ### A whole command (R84-R87) -/

/-- The operand words of a command's words. -/
def cmdOperands (ws : List Word) : List Word := ws.drop (1 + 2 * (hNrd (wd ws 0) + hNwr (wd ws 0)))

/-- The ranges of a command's words as (START, LAST) with the rotation added. -/
def cmdRanges (ws : List Word) (rot : Nat) : List (Nat × Nat) :=
  (rangesOf (hNrd (wd ws 0) + hNwr (wd ws 0)) (ws.drop 1)).map (fun r => (fld r.1 21 0 + rot, fld r.2 21 0 + rot))

/-- Whether the words of a command are well formed (R87), but for its place in the list: `rot` is the rotation that ROT adds, none outside a
loop. -/
def cmdOk (ws : List Word) (rot : Option Nat) (single : Bool) : Bool :=
  let w := wd ws 0
  let o := cmdOperands ws
  let r := if hRot w then rot.getD 0 else 0
  zf w 11 0 && hNwr w != 3 && opWords (hOp w) o == some (hLen w - 1 - 2 * (hNrd w + hNwr w)) &&
  decide (1 + 2 * (hNrd w + hNwr w) ≤ hLen w) &&
  (rangesOf (hNrd w + hNwr w) (ws.drop 1)).all (fun x => zf x.1 31 22 && zf x.2 31 22 && decide (fld x.1 21 0 ≤ fld x.2 21 0)) &&
  (cmdRanges ws r).all (fun x => decide (x.2 ≤ 0x3FFFFF)) &&
  !(hAhead w && execOf (hOp w) != 3) && !(hRot w && rot.isNone) && operandsOk (hOp w) (hNrd w) (hNwr w) o single

/-- The command of well-formed words. -/
def cmdOf (ws : List Word) (va slice seq rot : Nat) (win : Option (Nat × Nat)) (single : Bool) : Cmd :=
  let w := wd ws 0
  let r := if hRot w then rot else 0
  let rs := cmdRanges ws r
  { op := hOp w, va := va, slice := slice, seq := seq, ahead := hAhead w, rds := rs.take (hNrd w), wrs := rs.drop (hNrd w),
    ops := cmdOperands ws, rot := r, win := win, div1 := single }

/-- The first word of read range `i`. -/
def Cmd.rd (c : Cmd) (i : Nat) : Nat := (c.rds.getD i (0, 0)).1
/-- The first word of write range `i`. -/
def Cmd.wr (c : Cmd) (i : Nat) : Nat := (c.wrs.getD i (0, 0)).1
/-- Operand word `k`. -/
def Cmd.o (c : Cmd) (k : Nat) : Word := ow c.ops k

end Sys2Proof.Machine
end

