-- ==== Sys2Proof/Machine/Memory.lean ====
section
/-! DEFINITION. HBM: regions and stacks (R330-R332), lines, identities and errors (R333-R336), translation (R337-R341), and the frames
that the Pilot firmware gives out. -/

namespace Sys2Proof.Machine

/-! ### Regions (R330-R332) -/

/-- The words A and B of region entry `i` (R349). -/
def State.rgnA (s : State) (i : Nat) : Word := s.reg (hbmKey 0 (0x800 + 8 * i))
/-- Word B of region entry `i`. -/
def State.rgnB (s : State) (i : Nat) : Word := s.reg (hbmKey 0 (0x804 + 8 * i))

/-- One GiB. -/
abbrev gib : Nat := 2 ^ 30

/-- The entry of the region table that covers a physical address, with its index, when one does (R330). -/
def State.regionOf (s : State) (pa : Nat) : Option Nat :=
  (List.range 16).find? (fun i =>
    let a := s.rgnA i
    flag a 31 && decide (fld a 8 0 * gib ≤ pa ∧ pa < (fld a 8 0 + fld a 17 9) * gib) && decide (pa < 384 * gib))

/-- A copy of a line: its stack and its address within the stack (R330). -/
structure Copy where
  stack : Nat
  addr : Nat
  deriving DecidableEq, Repr, Inhabited

/-- Where the line of a physical address lies: its copies, the primary first; none in unbacked space. -/
def State.copiesOf (s : State) (pa : Nat) : List Copy :=
  match s.regionOf pa with
  | none => []
  | some i =>
    let a := s.rgnA i
    let off := pa - fld a 8 0 * gib
    let lbase := fld (s.rgnB i) 8 0 * 2 ^ 27
    let g := off / 4096
    let il := lbase + 4096 * (g / 8) + pa % 4096
    match fld a 30 29 with
    | 1 => [⟨fld a 28 26, lbase + off⟩]
    | 2 => [⟨g % 8, il⟩, ⟨(g % 8) ^^^ 4, il + fld a 17 9 * gib / 8⟩]
    | _ => [⟨g % 8, il⟩]

/-- Whether a region is mirrored. -/
def State.mirroredAt (s : State) (pa : Nat) : Bool :=
  match s.regionOf pa with
  | some i => fld (s.rgnA i) 30 29 == 2
  | none => false

/-- Whether stack `h` is declared failed (R346). -/
def State.stackFailed (s : State) (h : Nat) : Bool := flag (s.reg (hbmKey 0 Reg.hbmFailed)) h

/-- Whether an access is taken by the domain of stack `h`: it is on, and not fenced when the access is new (R20); `late`: the access crossed
into the domain before a fence. -/
def State.stackOn (s : State) (h : Nat) (late : Bool := false) : Bool := if late then s.domOn (64 + h) else s.domOpen (64 + h)

/-- The copies of a line that serve an access, each with its number: 0 the primary, 1 the shadow. A failed stack serves none (R346); with a
stack off that has not failed, the line is unreachable (R19). -/
def State.liveCopies (s : State) (pa : Nat) (late : Bool := false) : List (Nat × Copy) :=
  let cs := ((s.copiesOf pa).zipIdx.map (fun c => (c.2, c.1))).filter (fun c => !(s.stackFailed c.2.stack))
  if cs.all (fun c => s.stackOn c.2.stack late) then cs else []

/-- Whether line copy `2 * line + copy` lies on a stack. -/
def State.copyOn (s : State) (h x : Nat) : Bool := ((s.copiesOf (64 * (x / 2)))[x % 2]?).any (fun c => c.stack == h)

/-- Who reaches memory by physical address (R332). -/
inductive PhysAgent where
  | hub | app | host
  deriving DecidableEq, Repr

/-- Whether the region of an address is granted to the agent (R332). -/
def State.physGrant (s : State) (ag : PhysAgent) (pa : Nat) : Bool :=
  match s.regionOf pa with
  | none => false
  | some i => flag (s.rgnB i) (match ag with | .app => 15 | .host => 14 | .hub => 13)

/-- The identity of accesses by physical address (R336: HUB = 1). -/
abbrev hubIdent : Nat := 4096

/-! ### Lines (R333-R336) -/

/-- The copies of a line that deliver data: on a live stack and without a double-bit error (R334). -/
def State.goodCopies (s : State) (pa : Nat) (late : Bool := false) : List (Nat × Copy) :=
  (s.liveCopies pa late).filter (fun c => !(s.mem.bad.contains (2 * (pa / 64) + c.1)))

/-- Whether the copy that a line is read from was destroyed with its stack's supply (R19): it reads as zeros. (DEDUCED, log entry 46) -/
def State.lineLost (s : State) (l : Nat) (late : Bool := false) : Bool :=
  !s.mem.lost.isEmpty && (match s.goodCopies (64 * l) late with
    | g :: _ => s.mem.lost.contains (2 * l + g.1)
    | [] => false)

/-- What a read of a byte under an identity delivers (R336): 0 on a line with Z = 1, the byte under the identity that wrote the
line, unrelated bits under any other. -/
def Mem.byteAs (m : Mem) (ident : Nat) (a : Nat) (b : Byte) : Byte :=
  match mget m.ident (a / 64) with
  | none => 0
  | some w => if w = ident then b else Config.foreignByte a w ident b

/-- The `n` bytes from a physical address on, as they read under an identity. -/
def Mem.readAs (m : Mem) (ident a n : Nat) : List Byte :=
  (cellsRead m.bytes a n).zipIdx.map (fun b => m.byteAs ident (a + b.2) b.1)

/-- The lines of `n` bytes from `a` on. -/
def linesOf (a n : Nat) : List Nat := if n = 0 then [] else (List.range ((a + n - 1) / 64 - a / 64 + 1)).map (a / 64 + ·)

/-- The stored bytes of a line as the identity about to write part of it merges them (R336). -/
def Mem.takeOver (m : Mem) (ident : Nat) (l : Nat) : Mem :=
  match mget m.ident l with
  | some w =>
    if w = ident then m
    else { m with bytes := cellsWrite m.bytes (64 * l) (m.readAs ident (64 * l) 64), ident := mput m.ident l ident }
  | none => { m with ident := mput m.ident l ident }

/-- A write of bytes under an identity (R336): every line touched is taken over, loses Z and any line error (R334). -/
def Mem.write (m : Mem) (ident a : Nat) (bs : List Byte) : Mem :=
  let ls := linesOf a bs.length
  let m := ls.foldl (fun m l => m.takeOver ident l) m
  { m with
    bytes := cellsWrite m.bytes a bs
    bad := m.bad.filter (fun x => !(ls.contains (x / 2)))
    soft := m.soft.filter (fun x => !(ls.contains (x / 2)))
    lost := m.lost.filter (fun x => !(ls.contains (x / 2))) }

/-- Sets Z on every line of `n` bytes from `a` on (R343). -/
def Mem.fillZ (m : Mem) (a n : Nat) : Mem :=
  { bytes := cellsWrite m.bytes a [] |>.filter (fun c => decide (c.1 < a ∨ a + n ≤ c.1))
    ident := mclear m.ident (a / 64) ((a + n) / 64)
    bad := m.bad.filter (fun x => decide (x / 2 < a / 64 ∨ (a + n) / 64 ≤ x / 2))
    soft := m.soft.filter (fun x => decide (x / 2 < a / 64 ∨ (a + n) / 64 ≤ x / 2))
    lost := m.lost.filter (fun x => decide (x / 2 < a / 64 ∨ (a + n) / 64 ≤ x / 2)) }

/-- Whether every line of the range delivers data. -/
def State.readable (s : State) (a n : Nat) (late : Bool := false) : Bool := (linesOf a n).all (fun l => !(s.goodCopies (64 * l) late).isEmpty)

/-- Whether every line of the range has a copy on a live stack. -/
def State.reachable (s : State) (a n : Nat) (late : Bool := false) : Bool := (linesOf a n).all (fun l => !(s.liveCopies (64 * l) late).isEmpty)

/-- The lines that `n` bytes from `a` on touch but do not cover: a write reads them first, to merge (R336). -/
def partLines (a n : Nat) : List Nat := (linesOf a n).filter (fun l => decide (64 * l < a ∨ a + n < 64 * l + 64))

/-- Whether a write of the range is carried out: every line has a copy on a live stack, and every line written in part delivers its old data
(R334, R336, R346). -/
def State.writable (s : State) (a n : Nat) (late : Bool := false) : Bool :=
  s.reachable a n late && (partLines a n).all (fun l => !(s.goodCopies (64 * l) late).isEmpty)

/-- The bytes of lines that deliver data, under an identity. -/
def State.readAs (s : State) (ident a n : Nat) (late : Bool := false) : List Byte :=
  let bs := s.mem.readAs ident a n
  if s.mem.lost.isEmpty then bs else bs.zipIdx.map (fun b => if s.lineLost ((a + b.2) / 64) late then 0 else b.1)

/-- What a read delivers of the `n` bytes from a physical address on, under an identity; none where a line is unbacked, on no live
stack, or uncorrectable (R334, R346). -/
def State.peek (s : State) (ident a n : Nat) (late : Bool := false) : Option (List Byte) :=
  if s.readable a n late then some (s.readAs ident a n late) else none

/-- Records an error event of a stack: bit of HBM_ERR, and the pseudo-channel of the line (R329, R348). -/
def State.stackErr (s : State) (h bit addr : Nat) : State :=
  let k := hbmKey h Reg.hbmErr
  s.setReg k (setFld (s.reg k ||| w32 (2 ^ bit)) 5 0 (addr / 64 % 64))

/-- TESTING of a stack (R348). -/
def State.stackTesting (s : State) (h : Nat) : Bool := flag (s.reg (hbmKey h Reg.hbmStatus)) 29

/-- The channel test of a pseudo-channel starts on a stack that runs none (R345, R348). -/
def State.startHbmTest (s : State) (h pc : Nat) : State :=
  if s.stackTesting h then s
  else
    let k := hbmKey h Reg.hbmTest
    (s.setReg k (w32 (fld (s.reg k) 29 29 * 2 ^ 29 + pc % 64))).orReg (hbmKey h Reg.hbmStatus) 0x20000000

/-- The effects of a read of one line on error state and counters (R334, R348). An uncorrectable error starts the channel test.
(DEDUCED, log entry 41) -/
def State.noteLine (s : State) (l : Nat) (late : Bool := false) : State :=
  let live := s.liveCopies (64 * l) late
  match live with
  | [] => s
  | c :: _ =>
    let s := s.bump (hbmKey c.2.stack Reg.hbmCntRdlines)
    let id := 2 * l + c.1
    if s.mem.bad.contains id then
      match s.goodCopies (64 * l) late with
      | g :: _ =>
        let s := { s with mem := { s.mem with
          bad := sdel s.mem.bad id
          lost := if s.mem.lost.contains (2 * l + g.1) then sadd s.mem.lost id else sdel s.mem.lost id } }
        let s := s.bump (hbmKey c.2.stack Reg.hbmCntMirfix)
        (s.stackErr c.2.stack 29 c.2.addr).bump (hbmKey g.2.stack Reg.hbmCntRdlines)
      | [] =>
        let s := (s.bump (hbmKey c.2.stack Reg.hbmCntUe)).stackErr c.2.stack 31 c.2.addr
        (s.startHbmTest c.2.stack (c.2.addr / 64)).setReg2 (hbmKey c.2.stack Reg.hbmErrPaLo) (64 * l)
    else if s.mem.soft.contains id then
      let s := { s with mem := { s.mem with soft := sdel s.mem.soft id } }
      (s.bump (hbmKey c.2.stack Reg.hbmCntCe)).stackErr c.2.stack 30 c.2.addr
    else s

/-- The effects of a read of a range on error state and counters. -/
def State.noteRead (s : State) (a n : Nat) (late : Bool := false) : State := (linesOf a n).foldl (fun s l => s.noteLine l late) s

/-- A line whose data is destroyed holds nothing any more (R19). -/
def Mem.wipe (m : Mem) (l : Nat) : Mem :=
  { m with bytes := m.bytes.filter (fun c => decide (c.1 / 64 ≠ l)), ident := mdel m.ident l }

/-- A write by physical address (R336, R344): the lines written in part are read first. Where a line has no live copy, or a line written in
part does not deliver its old data, nothing is written. -/
def State.poke (s : State) (ident a : Nat) (bs : List Byte) (late : Bool := false) : State :=
  let old := (partLines a bs.length).foldl (fun s l => s.noteLine l late) s
  if s.writable a bs.length late then
    let s := (linesOf a bs.length).foldl (fun s l =>
      (s.liveCopies (64 * l) late).foldl (fun s c => s.bump (hbmKey c.2.stack Reg.hbmCntWrlines)) s) old
    let m := ((partLines a bs.length).filter (fun l => s.lineLost l late)).foldl Mem.wipe s.mem
    { s with mem := m.write ident a bs }
  else if s.reachable a bs.length late then old
  else s

/-- Bytes that a hub agent reads by physical address (R332, R336); none for an error response. -/
def State.hubPeek (s : State) (a n : Nat) : Option (List Byte) :=
  if s.physGrant .hub a && s.physGrant .hub (a + n - 1) then s.peek hubIdent a n else none

/-- The effects of such a read on error state and counters (R334). -/
def State.hubNote (s : State) (a n : Nat) : State :=
  if s.physGrant .hub a && s.physGrant .hub (a + n - 1) then s.noteRead a n else s

/-- The word that a hub agent reads at a physical address; 0 on an error response. -/
def State.hubWord (s : State) (a : Nat) : Word := w32 (leNat ((s.hubPeek a 4).getD []))

/-- Words that a hub agent reads. -/
def State.hubWords (s : State) (a n : Nat) : List Word := wordsOf n ((s.hubPeek a (4 * n)).getD [])

/-- A write of a hub agent by physical address; nothing on an error response. -/
def State.hubPoke (s : State) (a : Nat) (bs : List Byte) : State :=
  if s.physGrant .hub a && s.physGrant .hub (a + bs.length - 1) then s.poke hubIdent a bs else s

/-- A write of one word by a hub agent. -/
def State.hubPokeW (s : State) (a : Nat) (w : Word) : State := s.hubPoke a (natLe 4 w.toNat)

/-! ### Translation (R337-R341) -/

/-- Why a walk fails: the fault code of R347, the detail and the level of R350. -/
structure XErr where
  code : Nat
  detail : Nat
  level : Nat
  deriving DecidableEq, Repr, Inhabited

/-- TRANSLATION. -/
abbrev codeTranslation : Nat := 0x60
/-- XLAT_MALFORMED. -/
abbrev codeXlatMalformed : Nat := 0x61
/-- MEM_UE. -/
abbrev codeMemUe : Nat := 0x62
/-- MEM_STACK. -/
abbrev codeMemStack : Nat := 0x63

/-- The address of the root entry of a context (R337). -/
def State.rootAddr (s : State) (ctx : Nat) : Nat := s.reg2 (hbmKey 0 Reg.hbmXlatRootLo) + 16 * ctx

/-- Why a read of a table's entry fails (R339, R346, R347): unbacked or not granted to the hub, on no live stack, or uncorrectable. -/
def State.tableErr (s : State) (a n level : Nat) : XErr :=
  if !(s.physGrant .hub a && s.physGrant .hub (a + n - 1)) then ⟨codeXlatMalformed, 4, level⟩
  else if s.reachable a n then ⟨codeMemUe, 6, level⟩ else ⟨codeMemStack, 5, level⟩

/-- The words of the root entry of a context, read under the identity of physical accesses (DEDUCED, log entry 9). -/
def State.rootEntry (s : State) (ctx : Nat) : List Word := s.hubWords (s.rootAddr ctx) 4

/-- A translation: physical address of the page, its size, write permission. -/
structure Page where
  pa : Nat
  big : Bool
  w : Bool
  deriving DecidableEq, Repr, Inhabited

/-- The checks of a leaf (R339): region grant, alignment, one backed region, mirroring. -/
def State.leafPage (s : State) (root : List Word) (level : Nat) (e : Nat) : Except XErr Page :=
  let pa := bits e 8 36 * 256
  let size := if level = 2 then 2 ^ 21 else 2 ^ 16
  let bad : Except XErr Page := .error ⟨codeXlatMalformed, 4, level⟩
  if pa % size ≠ 0 then bad
  else match s.regionOf pa with
    | none => bad
    | some i =>
      if s.regionOf (pa + size - 1) ≠ some i then bad
      else if flag (wd root 0) 30 && !(s.mirroredAt pa) then bad
      else if !(flag (s.rgnB i) (16 + fld (wd root 0) 3 0)) then .error ⟨codeTranslation, 3, level⟩
      else .ok ⟨pa, level == 2, bits e 3 1 == 1⟩

/-- One level of a walk: reads the entry of `va` in the table at `tab` and goes on; `fuel` counts the levels left. -/
def State.walkFrom (s : State) (root : List Word) (va : Nat) : (fuel level tab : Nat) → Except XErr Page
  | 0, level, _ => .error ⟨codeXlatMalformed, 4, level⟩
  | fuel + 1, level, tab =>
    let idx := if level = 3 then bits va 16 5 else bits va (39 - 9 * level) 9
    match s.hubPeek (tab + 8 * idx) 8 with
    | none => .error (s.tableErr (tab + 8 * idx) 8 level)
    | some bs =>
      let e := leNat bs
      let typ := bits e 1 2
      if bits e 0 1 = 0 ∨ typ = 0 then .error ⟨codeTranslation, 1, level⟩
      else if typ = 3 ∨ bits e 44 20 ≠ 0 ∨ bits e 4 4 ≠ 0 then .error ⟨codeXlatMalformed, 4, level⟩
      else if typ = 2 then
        if level < 2 then .error ⟨codeXlatMalformed, 4, level⟩ else s.leafPage root level e
      else if level = 3 then .error ⟨codeXlatMalformed, 4, level⟩
      else
        let next := bits e 8 36 * 256
        if (level ≤ 1 ∧ next % 4096 ≠ 0) ∨ (s.regionOf next).isNone then .error ⟨codeXlatMalformed, 4, level⟩
        else s.walkFrom root va fuel (level + 1) next

/-- A walk of the tables for `va` in the space of a context (R337-R339). -/
def State.walk (s : State) (ctx va : Nat) : Except XErr Page :=
  let root := s.rootEntry ctx
  if (s.hubPeek (s.rootAddr ctx) 16).isNone then .error (s.tableErr (s.rootAddr ctx) 16 0)
  else if !(flag (wd root 0) 31) then .error ⟨codeTranslation, 1, 0⟩
  else if fld (wd root 0) 29 4 ≠ 0 ∨ fld (wd root 1) 11 0 ≠ 0 ∨ fld (wd root 2) 31 12 ≠ 0 ∨ wd root 3 ≠ 0 then
    .error ⟨codeXlatMalformed, 4, 0⟩
  else s.walkFrom root va 4 0 ((wd root 1).toNat + 2 ^ 32 * fld (wd root 2) 11 0)

/-- The lines that a walk reads from level `level` on, each with its level: it stops where it finds no table entry. -/
def State.walkLinesFrom (s : State) (va : Nat) : (fuel level tab : Nat) → List (Nat × Nat)
  | 0, _, _ => []
  | fuel + 1, level, tab =>
    let a := tab + 8 * (if level = 3 then bits va 16 5 else bits va (39 - 9 * level) 9)
    match s.hubPeek a 8 with
    | none => [(level, a / 64)]
    | some bs =>
      let e := leNat bs
      let next := bits e 8 36 * 256
      if bits e 0 3 = 3 ∧ level < 3 ∧ bits e 44 20 = 0 ∧ bits e 4 4 = 0 ∧ (2 ≤ level ∨ next % 4096 = 0) ∧ (s.regionOf next).isSome then
        (level, a / 64) :: s.walkLinesFrom va fuel (level + 1) next
      else [(level, a / 64)]

/-- The lines of the tables that a walk for `va` reads, each with its level; none where the root entry names no table (R338, R340). -/
def State.walkLines (s : State) (ctx va : Nat) : List (Nat × Nat) :=
  let root := s.rootEntry ctx
  if (s.hubPeek (s.rootAddr ctx) 16).isNone ∨ !(flag (wd root 0) 31) ∨ fld (wd root 0) 29 4 ≠ 0 ∨ fld (wd root 1) 11 0 ≠ 0 ∨
      fld (wd root 2) 31 12 ≠ 0 ∨ wd root 3 ≠ 0 then []
  else s.walkLinesFrom va 4 0 ((wd root 1).toNat + 2 ^ 32 * fld (wd root 2) 11 0)

/-- The effects of a walk on error state and counters: the root entry's line and the lines of its levels, from `lo` on, are read (R334, R340). -/
def State.noteWalk (s : State) (ctx va lo : Nat) : State :=
  let s' := if lo = 0 then s.noteRead (s.rootAddr ctx) 16 else s
  ((s.walkLines ctx va).filter (fun l => decide (lo ≤ l.1))).foldl (fun s l => s.noteLine l.2) s'

/-- The cached translation of `va`, if any (R340). -/
def tlbFind (tlb : List Tlb) (ctx va : Nat) : Option Page :=
  (tlb.find? (fun t => t.ctx == ctx && (if t.big then t.vpage / 32 == va / 2 ^ 21 else t.vpage == va / 2 ^ 16))).map
    (fun t => (⟨t.pa, t.big, t.w⟩ : Page))

/-- Caches a translation, the oldest giving way at `cap` entries (DESIGN CHOICE, log entry 10). -/
def tlbAdd (tlb : List Tlb) (cap ctx va : Nat) (p : Page) : List Tlb :=
  let v := if p.big then va / 2 ^ 21 * 32 else va / 2 ^ 16
  List.drop (tlb.length + 1 - cap) (tlb ++ [(⟨ctx, v, p.big, p.pa, p.w⟩ : Tlb)])

/-- Whether an invalidation names a cached translation (R341). -/
def invMatches (i : Inval) (t : Tlb) : Bool :=
  t.ctx == i.ctx && (i.all ||
    (decide (t.vpage < i.va / 2 ^ 16 + i.n) && decide (i.va / 2 ^ 16 < t.vpage + (if t.big then 32 else 1))))

/-- The physical address of `va` on its page. -/
def Page.addr (p : Page) (va : Nat) : Nat := p.pa + va % (if p.big then 2 ^ 21 else 2 ^ 16)

/-- The physical address that an access at `va` uses: through the given cache, or by a walk; a write needs W (R339, R340). -/
def State.xlate (s : State) (tlb : List Tlb) (ctx va : Nat) (wr : Bool) : Except XErr Nat :=
  match (match tlbFind tlb ctx va with | some p => Except.ok p | none => s.walk ctx va) with
  | .error e => .error e
  | .ok p => if wr && !p.w then .error ⟨codeTranslation, 2, if p.big then 2 else 3⟩ else .ok (p.addr va)

/-- The parts of `n` bytes from `va` on that lie in one 64 KiB page each. -/
def pageParts (va n : Nat) : List (Nat × Nat) :=
  if n = 0 then [] else
  (List.range ((va + n - 1) / 2 ^ 16 - va / 2 ^ 16 + 1)).map (fun i =>
    let a := max va ((va / 2 ^ 16 + i) * 2 ^ 16)
    (a, min (va + n) ((va / 2 ^ 16 + i + 1) * 2 ^ 16) - a))

/-- The physical parts of `n` bytes from `va` on, or the failure of the first that does not translate, with its address. -/
def State.xlateRange (s : State) (tlb : List Tlb) (ctx va n : Nat) (wr : Bool) : Except (XErr × Nat) (List (Nat × Nat)) :=
  (pageParts va n).foldr (fun p acc =>
    match s.xlate tlb ctx p.1 wr with
    | .error e => .error (e, p.1)
    | .ok a => match acc with
      | .error e => .error e
      | .ok l => .ok ((a, p.2) :: l)) (.ok [])

/-- The error of a part that delivers no data: MEM_STACK when no copy is on a live stack, else MEM_UE (R334, R346). -/
def State.partErr (s : State) (a n : Nat) (late : Bool := false) : XErr :=
  if s.reachable a n late then ⟨codeMemUe, 6, 3⟩ else ⟨codeMemStack, 5, 3⟩

/-- A read of `n` bytes from `va` on in the space of a context, under its identity (R336, R339). -/
def State.vread (s : State) (tlb : List Tlb) (ctx va n : Nat) : Except (XErr × Nat) (List Byte) :=
  match s.xlateRange tlb ctx va n false with
  | .error e => .error e
  | .ok ps =>
    match ps.find? (fun p => !(s.readable p.1 p.2)) with
    | some p => .error (s.partErr p.1 p.2, va)
    | none => .ok (ps.flatMap (fun p => s.readAs ctx p.1 p.2))

/-- The effects of that read on error state and counters. -/
def State.vnote (s : State) (tlb : List Tlb) (ctx va n : Nat) : State :=
  match s.xlateRange tlb ctx va n false with
  | .error _ => s
  | .ok ps => ps.foldl (fun s p => s.noteRead p.1 p.2) s

/-- A write of bytes from `va` on in the space of a context, under its identity: whole, or not at all with the failure. -/
def State.vwrite (s : State) (tlb : List Tlb) (ctx va : Nat) (bs : List Byte) : Except (XErr × Nat) State :=
  match s.xlateRange tlb ctx va bs.length true with
  | .error e => .error e
  | .ok ps =>
    match ps.find? (fun p => !(s.writable p.1 p.2)) with
    | some p => .error (s.partErr p.1 p.2, va)
    | none => .ok (ps.foldl (fun (x : State × List Byte) p => (x.1.poke ctx p.1 (x.2.take p.2), x.2.drop p.2)) (s, bs)).1

/-- The translations of a range enter the Logbook's cache of 256, by walks for those it does not hold (R340). -/
def State.hubXlate (s : State) (ctx va n : Nat) : State :=
  (pageParts va n).foldl (fun s p =>
    match tlbFind s.hub.tlb ctx p.1 with
    | some _ => s
    | none =>
      let s := s.noteWalk ctx p.1 0
      match s.walk ctx p.1 with
      | .ok g => { s with hub := { s.hub with tlb := tlbAdd s.hub.tlb 256 ctx p.1 g } }
      | .error _ => s) s

/-- The effects of a read of a context's space by the Logbook or the Pilot firmware: its cache, line errors and counters (R334, R340). -/
def State.ctxNote (s : State) (ctx va n : Nat) : State :=
  let s := s.hubXlate ctx va n
  s.vnote s.hub.tlb ctx va n

/-- The bytes of a context's space that the Logbook or the Pilot firmware reads, when they can be read (R342). -/
def State.ctxPeek (s : State) (ctx va n : Nat) : Option (List Byte) := (s.vread s.hub.tlb ctx va n).toOption

/-- Whether a walk for an access to a context's space fails (R339). -/
def State.ctxUnmapped (s : State) (ctx va n : Nat) (wr : Bool) : Bool := (s.xlateRange s.hub.tlb ctx va n wr).toOption.isNone

/-- A write of the Logbook or of the Pilot firmware to a context's space; nothing where it does not translate. -/
def State.ctxPoke (s : State) (ctx va : Nat) (bs : List Byte) : State :=
  let s := s.hubXlate ctx va bs.length
  match s.vwrite s.hub.tlb ctx va bs with
  | .ok s => s
  | .error _ => s

/-- A word of a context's space; 0 where it cannot be read. -/
def State.ctxWord (s : State) (ctx va : Nat) : Word := w32 (leNat ((s.ctxPeek ctx va 4).getD []))

/-- Words of a context's space; 0 where they cannot be read. -/
def State.ctxWords (s : State) (ctx va n : Nat) : List Word := wordsOf n ((s.ctxPeek ctx va (4 * n)).getD [])

/-! ### Frames and tables (R337, R343, R387; the choice of frames is the firmware's, DESIGN CHOICE, log entry 11) -/

/-- The ranges of physical memory that hold the hub's tables (R400), which no job is given. -/
def State.hubAreas (s : State) : List (Nat × Nat) :=
  [(s.reg2 Reg.logCtxBaseLo, 2 ^ 23), (s.reg2 Reg.logCtxMirrorLo, 2 ^ 23), (s.reg2 Reg.logModelBaseLo, 2 ^ 14),
   (s.reg2 Reg.logWlBaseLo, (s.reg Reg.logWlSlots).toNat * 2 ^ 15), (s.reg2 Reg.feHoldBaseLo, (s.reg Reg.feHoldSize).toNat * 4096),
   (s.reg2 Reg.feLocalBaseLo, 112 * 2 ^ 20), (s.reg2 Reg.logKvPooltabLo, 2 ^ 11), (s.reg2 Reg.logSchedCtxtabLo, 2 ^ 18),
   (s.reg2 (hbmKey 0 Reg.hbmXlatRootLo), 2 ^ 16), (s.reg2 (rhbKey 0 Reg.rhbPeertabLo), 2 ^ 20)]

/-- Whether two ranges overlap. -/
def overlap (a n b k : Nat) : Bool := decide (a < b + k) && decide (b < a + n)

/-- The ranges in use, by rising address of their frames. -/
def State.usedRanges (s : State) : List (Nat × Nat) :=
  s.pilot.frames.map (fun f => (f.1, if f.2.big then 2 ^ 21 else 2 ^ 16))

/-- The lowest address from `c` on, a multiple of `size`, whose page avoids the ranges. -/
def firstFree (size : Nat) (used : List (Nat × Nat)) : (fuel c : Nat) → Nat
  | 0, c => c
  | fuel + 1, c =>
    match used.find? (fun u => overlap c size u.1 u.2) with
    | none => c
    | some u => firstFree size used fuel (alignUp (u.1 + u.2) size)

/-- The lowest free frame of a size for a partition: in a region granted to it, mirrored when the job is (R332). -/
def State.findFrame (s : State) (part : Nat) (mirror big : Bool) : Option Nat :=
  let size := if big then 2 ^ 21 else 2 ^ 16
  let used := s.usedRanges ++ s.hubAreas
  ((List.range 16).filterMap (fun i =>
    let a := s.rgnA i
    if flag a 31 && flag (s.rgnB i) (16 + part) && (!mirror || fld a 30 29 == 2) then
      let c := firstFree size used (used.length + 1) (fld a 8 0 * gib)
      if c + size ≤ (fld a 8 0 + fld a 17 9) * gib then some c else none
    else none)).min?

/-- Takes a frame for a job, zeroed (R343): its address, or none when the partition has no free frame. -/
def State.takeFrame (s : State) (j : Job) (big : Bool) : Option (Nat × State) :=
  match s.findFrame j.part j.mirror big with
  | none => none
  | some pa =>
    some (pa, { s with mem := s.mem.fillZ pa (if big then 2 ^ 21 else 2 ^ 16)
                       pilot := { s.pilot with frames := mput s.pilot.frames pa ⟨big, j.id, false⟩ } })

/-- A table or leaf entry (R338). -/
def xlatEntry (pa : Nat) (typ : Nat) (w : Bool) : Nat := pa + 8 * b2n w + 2 * typ + 1

/-- Writes the leaf of `va` into the tables below `tab`, taking a frame for each table that is missing. -/
def State.mapFrom (s : State) (j : Job) (va pa : Nat) (big w : Bool) : (fuel level tab : Nat) → Option State
  | 0, _, _ => none
  | fuel + 1, level, tab =>
    let idx := if level = 3 then bits va 16 5 else bits va (39 - 9 * level) 9
    let a := tab + 8 * idx
    if (big && level == 2) || level == 3 then some (s.hubPoke a (natLe 8 (xlatEntry pa 2 w)))
    else
      let e := leNat ((s.hubPeek a 8).getD [])
      if bits e 0 1 = 1 ∧ bits e 1 2 = 1 then s.mapFrom j va pa big w fuel (level + 1) (bits e 8 36 * 256)
      else match s.takeFrame j false with
        | none => none
        | some (t, s) => (s.hubPoke a (natLe 8 (xlatEntry t 1 true))).mapFrom j va pa big w fuel (level + 1) t

/-- Maps a page of a job's space (R337): none when a table finds no frame. -/
def State.mapPage (s : State) (j : Job) (va pa : Nat) (big w : Bool) : Option State :=
  let root := s.rootEntry j.ctxId
  s.mapFrom j va pa big w 4 0 ((wd root 1).toNat + 2 ^ 32 * fld (wd root 2) 11 0)

/-- Whether `va` is mapped in a context's space. -/
def State.mapped (s : State) (ctx va : Nat) : Bool := (s.walk ctx va).toOption.isSome

/-- Clears the leaf of `va` in the tables below `tab`. -/
def State.unmapFrom (s : State) (va : Nat) : (fuel level tab : Nat) → State
  | 0, _, _ => s
  | fuel + 1, level, tab =>
    let idx := if level = 3 then bits va 16 5 else bits va (39 - 9 * level) 9
    let a := tab + 8 * idx
    let e := leNat ((s.hubPeek a 8).getD [])
    if bits e 0 1 = 0 then s
    else if bits e 1 2 = 1 ∧ level < 3 then s.unmapFrom va fuel (level + 1) (bits e 8 36 * 256)
    else s.hubPoke a (natLe 8 0)

/-- Removes the mapping of `va` in a context's space. -/
def State.unmapPage (s : State) (ctx va : Nat) : State :=
  let root := s.rootEntry ctx
  s.unmapFrom va 4 0 ((wd root 1).toNat + 2 ^ 32 * fld (wd root 2) 11 0)

/-- Whether an invalidation names a cached level-2 entry: a context and the 2 MiB of its start (R340, R341). -/
def invHits2 (i : Inval) (e : Nat × Nat) : Bool :=
  e.1 == i.ctx && (i.all || (decide (32 * e.2 < i.va / 2 ^ 16 + i.n) && decide (i.va / 2 ^ 16 < 32 * e.2 + 32)))

/-- What a core drops at an invalidation: translations, level-2 entries, and the results of the walks of the context in flight (R341). -/
def Core.dropTlb (c : Core) (i : Inval) : Core :=
  { c with
    tlb := c.tlb.filter (fun t => !(invMatches i t)), l2 := c.l2.filter (fun e => !(invHits2 i e))
    walks := c.walks.map (fun w => if w.1 = i.ctx then (w.1, w.2.1, false) else w) }

/-- Drops the cached translations that an invalidation names, in every core and in the Logbook (R341), counting those of cores. -/
def State.dropTlbs (s : State) (i : Inval) : State :=
  let hits (n : Nat) : Nat := ((s.core n).tlb.filter (invMatches i)).length
  let s' : State := { s with
    cores := s.cores.map (fun c => c.dropTlb i)
    hub := { s.hub with tlb := s.hub.tlb.filter (fun t => !(invMatches i t)) } }
  (List.range 32).foldl (fun s n => if hits n = 0 then s else s.cBump n Reg.coreCntInvdrop (hits n)) s'

/-- The translations that an invalidation names, in every cache of the device. -/
def State.namedTlbs (s : State) (i : Inval) : List Tlb := (s.cores.flatMap (fun c => c.tlb.filter (invMatches i)) ++ s.hub.tlb.filter (invMatches i)).dedup

/-- Starts the invalidation at the head of the queue (R341). -/
def State.startInval (s : State) : State :=
  match s.hub.invQueue with
  | i :: r => ({ s with hub := { s.hub with invQueue := { i with dropped := s.namedTlbs i } :: r } } : State).dropTlbs i
  | [] => s

/-- An invalidation enters the queue of 16, or waits behind it for room; it starts at once when it is alone (R341). (DEDUCED, log entry 12) -/
def State.invalidate (s : State) (i : Inval) : State :=
  if 16 ≤ s.hub.invQueue.length then { s with hub := { s.hub with invWait := s.hub.invWait ++ [i] } }
  else
    let first := s.hub.invQueue.isEmpty
    let s : State := { s with hub := { s.hub with invQueue := s.hub.invQueue ++ [i] } }
    if first then s.startInval else s

/-- Sends a page to the fill engine (R343): into its queue of 64, or behind it to wait for room. -/
def State.toFill (s : State) (f : Fill) : State :=
  if s.hub.fills.length < 64 && s.hub.fillWait.isEmpty then { s with hub := { s.hub with fills := s.hub.fills ++ [f] } }
  else { s with hub := { s.hub with fillWait := s.hub.fillWait ++ [f] } }

/-- Changes the last invalidation of a context that has not completed; none where the context has none. -/
def State.lastInval (s : State) (ctx : Nat) (f : Inval → Inval) : Option State :=
  let upd (l : List Inval) : Option (List Inval) :=
    match l.reverse.findIdx? (fun i => i.ctx == ctx) with
    | some k => some (lmod l (l.length - 1 - k) f)
    | none => none
  match upd s.hub.invWait with
  | some l => some { s with hub := { s.hub with invWait := l } }
  | none => (upd s.hub.invQueue).map (fun l => { s with hub := { s.hub with invQueue := l } })

/-- A page leaves a context for the fill engine, once the invalidations of the context have completed (R343 steps 2 and 3).
(DEDUCED, log entry 12) -/
def State.fillAfter (s : State) (ctx : Nat) (f : Fill) : State :=
  (s.lastInval ctx (fun i => { i with fills := i.fills ++ [f] })).getD (s.toFill f)

end Sys2Proof.Machine
end

