-- ==== Sys2Proof/Machine/Scratchpad.lean ====
section
/-! DEFINITION. The scratchpad: banks, grants and written lines (R165-R178), the revoke (R174) and the tag views (R182). -/

namespace Sys2Proof.Machine

/-- Upper-half lines start here (R165). -/
abbrev upperLine : Nat := 131072

/-- The bank of a line (R165). -/
def bankOf (line : Nat) : Nat := line % 32 + (if upperLine ≤ line then 32 else 0)

/-- The granule of a line. -/
def granuleOf (line : Nat) : Nat := line / 64

/-- The context that owns the core (R107). -/
def State.coreCtx (s : State) (n : Nat) : Nat := fld (s.cReg n Reg.coreCtx) 11 0

/-- Whether a line of core `n` is refused: it lies in B32-B63 while they are dark (R176). -/
def State.darkLine (s : State) (n line : Nat) : Bool := decide (upperLine ≤ line) && !(s.domOpen (32 + n))

/-- Whether the written bit of a line is set. -/
def Core.lineWritten (c : Core) (line : Nat) : Bool := (mgetD c.written (granuleOf line) 0).getLsbD (line % 64)

/-- Grants the granule of a line to the context of the core, when it is not its own (R172). -/
def State.grant (s : State) (n line : Nat) : State :=
  let g := granuleOf line
  let ctx := s.coreCtx n
  if mget (s.core n).tags g = some ctx then s
  else (s.modCore n (fun c => { c with tags := mput c.tags g ctx, written := mdel c.written g })).cBump n Reg.spdCntGrant

/-- Records a refused or failing request (R176, R178, R182): the bit of SPD_ERR, bank, line and port. SPD_FAULT_INFO keeps what it holds while
CORE_FAULT holds an earlier fault. -/
def State.spadEvent (s : State) (n port bit line : Nat) : State :=
  let k := coreKey n Reg.spdErr
  let v := setFld (setFld (s.reg k ||| w32 (2 ^ bit)) 23 18 (bankOf line)) 17 0 line
  let s' := s.setReg k v
  if flag (s.cReg n Reg.coreFault) 31 then s' else s'.setReg (coreKey n Reg.spdFaultInfo) (w32 (port * 2 ^ 29 + line))

/-- Records a corrected error of the 8 B piece `u` (R178). -/
def State.spadCe (s : State) (n u : Nat) : State :=
  let k := coreKey n Reg.spdErr
  let s := s.setReg k (setFld (setFld (s.reg k ||| w32 (2 ^ 30)) 23 18 (bankOf (u / 8))) 17 0 (u / 8))
  (s.modCore n (fun c => { c with spadSoft := sdel c.spadSoft u })).cBump n Reg.spdCntCe

/-- DARK_BANK (R181). -/
abbrev codeDarkBank : Nat := 0x40
/-- DARK_READ (R181). -/
abbrev codeDarkRead : Nat := 0x41
/-- SPD_UE (R181). -/
abbrev codeSpdUe : Nat := 0x42
/-- RANGE_ESCAPE (R106). -/
abbrev codeRangeEscape : Nat := 0x03

/-- The bytes of the scratchpad from byte `a` on as they read: 0 on lines whose written bit is 0 (R172). -/
def Core.spadBytes (c : Core) (a len : Nat) : List Byte :=
  (cellsRead c.spad a len).zipIdx.map (fun b => if c.lineWritten ((a + b.2) / 64) then b.1 else 0)

/-! ### Requests (R167, R168)

A request is a list of runs (first byte, bytes). -/

/-- The lines that a request names, ascending. -/
def reqLines (req : List (Nat × Nat)) : List Nat := (req.flatMap (fun x => linesOf x.1 x.2)).foldl sadd []

/-- The linear requests of `len` bytes from byte `a` on: up to 8 consecutive lines each (R167, R168). -/
def linReqs (a len : Nat) : List (List (Nat × Nat)) :=
  (List.range (ceilDiv (linesOf a len).length 8)).map (fun i =>
    let lo := max a (64 * (a / 64 + 8 * i))
    [(lo, min (a + len) (64 * (a / 64 + 8 * i + 8)) - lo)])

/-- The requests of a list of runs: a run of more than 16 words is linear; the others go in strided requests of up to 8 runs that name at most 8
lines (R168). (DEDUCED, log entry 81) -/
def runReqs : (cur : List (Nat × Nat)) → List (Nat × Nat) → List (List (Nat × Nat))
  | cur, [] => if cur.isEmpty then [] else [cur]
  | cur, x :: r =>
    let done := if cur.isEmpty then [] else [cur]
    if x.2 = 0 then runReqs cur r
    else if 64 < x.2 then done ++ linReqs x.1 x.2 ++ runReqs [] r
    else if cur.length < 8 ∧ (reqLines (cur ++ [x])).length ≤ 8 then runReqs (cur ++ [x]) r
    else done ++ runReqs [x] r

/-- The write requests of a list of runs (first byte, bytes), formed as those of reads. (DEDUCED, log entry 81) -/
def putReqs : (cur : List (Nat × List Byte)) → List (Nat × List Byte) → List (List (Nat × List Byte))
  | cur, [] => if cur.isEmpty then [] else [cur]
  | cur, x :: r =>
    let done := if cur.isEmpty then [] else [cur]
    if x.2.isEmpty then putReqs cur r
    else if 64 < x.2.length then
      done ++ (linReqs x.1 x.2.length).map (fun q => q.map (fun y => (y.1, (x.2.drop (y.1 - x.1)).take y.2))) ++ putReqs [] r
    else if cur.length < 8 ∧ (reqLines ((cur ++ [x]).map (fun y => (y.1, y.2.length)))).length ≤ 8 then putReqs (cur ++ [x]) r
    else done ++ putReqs [x] r

/-- One line of a read request (R178): the uncorrectable errors of its 8 B pieces, else its corrected ones. -/
def State.readLine (s : State) (n port l : Nat) : State × Bool :=
  let c := s.core n
  if !(c.lineWritten l) then (s.cBump n Reg.spdCntUnwritten, true)
  else
    let us := (List.range 8).map (8 * l + ·)
    let s := (us.filter c.spadSoft.contains).foldl (fun s u => s.spadCe n u) s
    let ue := us.filter c.spadBad.contains
    if ue.isEmpty then (s, true) else ((s.spadEvent n port 31 l).cBump n Reg.spdCntUe ue.length, false)

/-- The lines of a read request, with whether all delivered their data and whether a failure has been recorded. -/
def State.readLines (s : State) (n port : Nat) : List Nat → State × Bool
  | [] => (s, true)
  | l :: r =>
    let (t, ok) := s.readLine n port l
    let (u, ok') := State.readLines t n port r
    (if ok then u else u.setReg (coreKey n Reg.spdFaultInfo) (t.cReg n Reg.spdFaultInfo), ok && ok')

/-- A read request through a port, refused whole where one of its lines is dark (R172, R176, R178): the fault code when it fails. -/
def State.readReq (s : State) (n port : Nat) (req : List (Nat × Nat)) : State × Option Nat :=
  let ls := reqLines req
  match ls.find? (s.darkLine n) with
  | some l => ((s.spadEvent n port 29 l).cBump n Reg.spdCntDark, some codeDarkRead)
  | none =>
    let (s, ok) := (ls.foldl (fun s l => s.grant n l) s).readLines n port ls
    (s, if ok then none else some codeSpdUe)

/-- Writes bytes into a core's cells: the first write to an unwritten line clears the rest of it (R172); check bits are written with the data, so
that a line so cleared and a piece wholly covered hold no error (R178). -/
def Core.spadPut (c : Core) (a : Nat) (bs : List Byte) : Core :=
  let ls := linesOf a bs.length
  let fresh := ls.filter (fun l => !(c.lineWritten l))
  let c := fresh.foldl (fun c l =>
    { c with
      spad := cellsWrite c.spad (64 * l) (List.replicate 64 0)
      written := mputD 0 c.written (granuleOf l) (mgetD c.written (granuleOf l) 0 ||| BitVec.ofNat 64 (2 ^ (l % 64))) }) c
  let whole (u : Nat) : Bool := fresh.contains (u / 8) || decide (a ≤ 8 * u ∧ 8 * u + 8 ≤ a + bs.length)
  { c with
    spad := cellsWrite c.spad a bs
    spadBad := c.spadBad.filter (fun u => !(whole u))
    spadSoft := c.spadSoft.filter (fun u => !(whole u)) }

/-- A write request through a port, its runs with their bytes: the fault code when it is refused whole (R172, R176). -/
def State.writeReq (s : State) (n port : Nat) (req : List (Nat × List Byte)) : State × Option Nat :=
  let ls := reqLines (req.map (fun x => (x.1, x.2.length)))
  match ls.find? (s.darkLine n) with
  | some l => ((s.spadEvent n port 29 l).cBump n Reg.spdCntDark, some codeDarkBank)
  | none => ((ls.foldl (fun s l => s.grant n l) s).modCore n (fun c => req.foldl (fun c x => c.spadPut x.1 x.2) c), none)

/-- Whether the words `lo` to `hi` all lie in declared ranges (R86). -/
def inRangesFrom (rs : List (Nat × Nat)) : (fuel lo hi : Nat) → Bool
  | 0, lo, hi => decide (hi < lo)
  | fuel + 1, lo, hi =>
    if hi < lo then true
    else match rs.find? (fun r => decide (r.1 ≤ lo ∧ lo ≤ r.2)) with
      | some r => inRangesFrom rs fuel (r.2 + 1) hi
      | none => false

/-- Whether the words `lo` to `hi` all lie in declared ranges (R86). -/
def inRanges (rs : List (Nat × Nat)) (lo hi : Nat) : Bool := inRangesFrom rs rs.length lo hi

/-- Whether a request lies in declared ranges. -/
def reqInRanges (rs : List (Nat × Nat)) (req : List (Nat × Nat)) : Bool :=
  req.all (fun x => x.2 == 0 || inRanges rs (x.1 / 4) ((x.1 + x.2 - 1) / 4))

/-- Read requests of an engine within its command's read ranges, in order; the first that escapes or fails ends them (R86, R169). -/
def State.engReads (s : State) (n port : Nat) (rs : List (Nat × Nat)) : List (List (Nat × Nat)) → State × Option Nat
  | [] => (s, none)
  | q :: r =>
    if reqInRanges rs q then
      match s.readReq n port q with
      | (s, some e) => (s, some e)
      | (s, none) => State.engReads s n port rs r
    else (s, some codeRangeEscape)

/-- Write requests of an engine within its command's write ranges, in order; the first that escapes or is refused ends them (R86). -/
def State.engWrites (s : State) (n port : Nat) (rs : List (Nat × Nat)) : List (List (Nat × List Byte)) → State × Option Nat
  | [] => (s, none)
  | q :: r =>
    if reqInRanges rs (q.map (fun x => (x.1, x.2.length))) then
      match s.writeReq n port q with
      | (s, some e) => (s, some e)
      | (s, none) => State.engWrites s n port rs r
    else (s, some codeRangeEscape)

/-- A read of an engine within its command's read ranges, in linear requests (R86, R167). -/
def State.engRead (s : State) (n port : Nat) (rs : List (Nat × Nat)) (a len : Nat) : State × Except Nat (List Byte) :=
  match s.engReads n port rs (linReqs a len) with
  | (s, some e) => (s, .error e)
  | (s, none) => (s, .ok ((s.core n).spadBytes a len))

/-- A read of runs within the command's read ranges, in strided or linear requests (R86, R168): the bytes of each run. -/
def State.engRuns (s : State) (n port : Nat) (rs : List (Nat × Nat)) (runs : List (Nat × Nat)) : State × Except Nat (List (List Byte)) :=
  match s.engReads n port rs (runReqs [] runs) with
  | (s, some e) => (s, .error e)
  | (s, none) => (s, .ok (runs.map (fun x => (s.core n).spadBytes x.1 x.2)))

/-- A write of an engine within its command's write ranges, in linear requests (R86, R167). -/
def State.engWrite (s : State) (n port : Nat) (rs : List (Nat × Nat)) (a : Nat) (bs : List Byte) : State × Option Nat :=
  s.engWrites n port rs ((linReqs a bs.length).map (fun q => q.map (fun y => (y.1, (bs.drop (y.1 - a)).take y.2))))

/-- A write of runs (first byte, bytes) within the command's write ranges, in strided or linear requests (R86, R168). -/
def State.engPut (s : State) (n port : Nat) (rs : List (Nat × Nat)) (runs : List (Nat × List Byte)) : State × Option Nat :=
  s.engWrites n port rs (putReqs [] runs)

/-- Every word of the scratchpad. -/
abbrev allWords : List (Nat × Nat) := [(0, 0x3FFFFF)]

/-- A read of `len` bytes from byte `a` on through a port, bound to no command's ranges. -/
def State.spadRead (s : State) (n port a len : Nat) : State × Except Nat (List Byte) := s.engRead n port allWords a len

/-- A write of bytes from byte `a` on through a port, bound to no command's ranges. -/
def State.spadWrite (s : State) (n port a : Nat) (bs : List Byte) : State × Option Nat := s.engWrite n port allWords a bs

/-! ### Errors found on a read, revoke, tests -/

/-- What strikes the cells or registers that a command reads (DESIGN CHOICE, log entry 8): nothing, parity of a tile register in a pass, parity of
a plane at a row, a double-bit or a single-bit error in an 8 B piece. -/
def State.strike (s : State) (n : Nat) : Inject → State
  | .lineUe u => s.modCore n (fun c => { c with spadBad := sadd c.spadBad u })
  | .lineCe u => s.modCore n (fun c => { c with spadSoft := sadd c.spadSoft u })
  | _ => s

/-- A write of SPD_REVOKE with GO = 1 (R174, R182). -/
def State.doSpdRevoke (s : State) (n ctxId : Nat) (idle : Bool) : State :=
  if (s.core n).revoking.isSome then s
  else if !idle && ctxId % 4096 == s.coreCtx n then s.orReg (coreKey n Reg.spdErr) (w32 (2 ^ 28))
  else s.modCore n (fun c => { c with revoking := some (ctxId % 4096) })

/-- The end of the tag pass of a revoke: every granule owned by the context loses its owner (R174). -/
def Core.revokeTags (c : Core) (ctxId : Nat) : Core :=
  { c with tags := c.tags.filter (fun t => decide (t.2 ≠ ctxId)), revoking := none }

/-- Clears the written bits of a bank, whose cells have been overwritten or are those of a spare (R178-R180). What the cells then hold is never
read (R172). -/
def Core.clearBank (c : Core) (bank : Nat) : Core :=
  { c with
    spad := c.spad.filter (fun b => decide (bankOf (b.1 / 64) ≠ bank))
    written := c.written.filterMap (fun w =>
      let m := (List.range 64).foldl (fun (m : BitVec 64) i =>
        if bankOf (64 * w.1 + i) = bank then m &&& ~~~ (BitVec.ofNat 64 (2 ^ i)) else m) w.2
      if m = 0 then none else some (w.1, m))
    spadBad := c.spadBad.filter (fun u => decide (bankOf (u / 8) ≠ bank))
    spadSoft := c.spadSoft.filter (fun u => decide (bankOf (u / 8) ≠ bank)) }

/-- The banks that SPD_SPARE maps onto the spares (R179, R182). -/
def spareBanks (v : Word) : List Nat := (if flag v 31 then [fld v 28 24] else []) ++ (if flag v 23 then [32 + fld v 20 16] else [])

/-- A write of SPD_SPARE: the lines of a bank start unwritten where its cells change, onto the spare or back (R179). (DEDUCED, log entry 44) -/
def State.writeSpare (s : State) (n : Nat) (v : Word) : State :=
  let k := coreKey n Reg.spdSpare
  let old := spareBanks (s.reg k)
  let s := s.plainWrite k v
  let new := spareBanks (s.reg k)
  ((old.filter (fun b => !(new.contains b))) ++ (new.filter (fun b => !(old.contains b)))).foldl (fun s b => s.modCore n (fun c => c.clearBank b)) s

/-- The test `k` runs on a core, on the bank `b` when it is a bank march: a start while it runs starts it anew. -/
def Core.startTest (c : Core) (k b : Nat) : Core := { c with bist := c.bist.filter (fun t => t.1 != k) ++ [(k, b)] }

/-- The test `k` of a core has ended. -/
def Core.endTest (c : Core) (k : Nat) : Core := { c with bist := c.bist.filter (fun t => t.1 != k) }

/-- The bank of the test `k`, when it runs. -/
def Core.testing (c : Core) (k : Nat) : Option Nat := (c.bist.find? (fun t => t.1 == k)).map Prod.snd

/-- What a core loses when domain 32 + n loses its supply: the cells and tags of B32-B63 (R175, R180). -/
def Core.loseUpper (c : Core) : Core :=
  { c with
    spad := c.spad.filter (fun b => decide (b.1 < 64 * upperLine))
    tags := c.tags.filter (fun t => decide (t.1 < upperLine / 64))
    written := c.written.filter (fun t => decide (t.1 < upperLine / 64))
    spadBad := c.spadBad.filter (fun u => decide (u / 8 < upperLine))
    spadSoft := c.spadSoft.filter (fun u => decide (u / 8 < upperLine)) }

end Sys2Proof.Machine
end

