-- ==== Sys2Proof/Machine/CoreCtl.lean ====
section
/-! DEFINITION. The dispatcher of a core: faults (R105, R106), the list fetcher (R79, R82), dispatch, hazards and issue (R93, R94), the control
commands (R89-R92, R97, R98, R444) and the translation of VDN-8E lists (R103, R104). -/

namespace Sys2Proof.Machine

/-! ### Fault codes (R106, R324) -/

/-- MALFORMED (R106). -/
abbrev codeMalformed : Nat := 0x01
/-- HEADER. -/
abbrev codeHeader : Nat := 0x02
/-- LIST_FETCH. -/
abbrev codeListFetch : Nat := 0x04
/-- LOOP. -/
abbrev codeLoop : Nat := 0x05
/-- COMPAT_DISABLED. -/
abbrev codeCompatDisabled : Nat := 0x06
/-- BANK_POWER. -/
abbrev codeBankPower : Nat := 0x07
/-- COMPLETE. -/
abbrev codeComplete : Nat := 0x08
/-- WATCHDOG (R324). -/
abbrev codeWatchdog : Nat := 0x70
/-- REMOTE_PLACE. -/
abbrev codeRemotePlace : Nat := 0x71
/-- LIVEMAP. -/
abbrev codeLivemap : Nat := 0x72
/-- SAVE. -/
abbrev codeSave : Nat := 0x73
/-- CORE_STOPPED. -/
abbrev codeCoreStopped : Nat := 0x74

/-! ### Slices, queues and the scoreboard -/

/-- The slice table entry of a slice. -/
def Core.sliceOf (c : Core) (k : Nat) : Option SliceSt := c.slices.find? (fun x => x.slice == k)

/-- The entry of the slice being dispatched. -/
def Core.curSl (c : Core) : SliceSt := (c.sliceOf c.cur).getD { slice := c.cur }

/-- Replaces a slice table entry. -/
def Core.putSl (c : Core) (x : SliceSt) : Core := { c with slices := c.slices.map (fun y => if y.slice = x.slice then x else y) }

/-- Changes the entry of the slice being dispatched. -/
def Core.modCur (c : Core) (f : SliceSt → SliceSt) : Core := c.putSl (f c.curSl)

/-- Commands dispatched and not retired (R94). -/
def Core.unretired (c : Core) : List Cmd := c.mxQ ++ c.vxQ ++ c.sxQ ++ c.mxA ++ c.vxA ++ c.sxA ++ c.bank.toList

/-- Scoreboard entries in use (R93). -/
def Core.sbUsed (c : Core) : Nat := (c.unretired.map (fun d => d.rds.length + d.wrs.length)).sum

/-- Whether two ranges share a 64 B line (R85). -/
def rangesMeet (a b : Nat × Nat) : Bool := decide (a.1 / 16 ≤ b.2 / 16 ∧ b.1 / 16 ≤ a.2 / 16)

/-- Whether some range of one list meets one of the other. -/
def anyMeet (xs ys : List (Nat × Nat)) : Bool := xs.any (fun x => ys.any (rangesMeet x))

/-- A command of number below `seq` that has not retired stands against ranges to be read and written (R94). -/
def Core.hazard (c : Core) (seq : Nat) (rds wrs : List (Nat × Nat)) : Bool :=
  c.unretired.any (fun d => decide (d.seq < seq) && (anyMeet d.wrs (rds ++ wrs) || anyMeet d.rds wrs))

/-- Whether no list runs and every engine has retired: CORE_STATUS.IDLE (R107). -/
def Core.idle (c : Core) : Bool := (c.run == .idle || c.ctl == .stopped) && c.unretired.isEmpty && c.xlated.isEmpty && c.outs.isEmpty

/-! ### Faults (R105, R131, R212, R235) -/

/-- What stops on a core at a fault or an abort: dispatch; the queued commands; the tile queue, staging, the Loupe; transfers that have
not entered the port, takes and injections. Issued commands run to retirement; a VX command that waits for tiles ends at once. -/
def Core.halt (c : Core) : Core :=
  { c with
    ctl := .stopped, mxQ := [], vxQ := [], sxQ := [], xlated := [], tileQ := [], staging := [], loupe := [],
    waiting := [], arms := [], takes := [], takeQ := [], srcs := [], walks := [], preempt := 0, inSpill := c.inSpill || c.preempt == 2
    mxA := c.mxA.map (fun d => { d with done := true })
    vxA := c.vxA.map (fun d => { d with done := true })
    sxA := c.sxA.map (fun d => { d with done := true })
    descs := c.descs.map (fun d => (d.1, { d.2 with pending := false })) }

/-- Every remote transfer of a context completes at once without effect (R364). -/
def State.dropRemote (s : State) (ctx : Nat) : State :=
  { s with cores := s.cores.map (fun c => { c with
    outs := c.outs.filter (fun x => !(x.cls == 2 && x.ctx == ctx))
    waiting := c.waiting.filter (fun x => !(x.cls == 2 && x.ctx == ctx)) }) }

/-- A fault of core `n` (R105): recorded, or counted when one is recorded already; the core stops, and its fault line
rises and brings the fault's code to the Pilot. -/
def State.coreFault (s : State) (n code va : Nat) : State :=
  let k := coreKey n Reg.coreFault
  let s := if flag (s.reg k) 31 then s.cBump n Reg.coreCntFaultlost
    else (s.setReg k (w32 (2 ^ 31 + code))).setReg2 (coreKey n Reg.coreFaultVaLo) (va % 2 ^ 48)
  (s.modCore n (fun c => { c.halt with faultLine := true, faultCode := if c.faultLine then c.faultCode else code })).dropRemote (s.coreCtx n)

/-- Records a failed translation or read of a core (R350). -/
def State.xlatInfo (s : State) (n : Nat) (e : XErr) (va : Nat) : State :=
  (s.setReg (coreKey n Reg.coreXlatInfo) (w32 (e.detail * 2 ^ 28 + e.level * 2 ^ 26))).setReg2 (coreKey n Reg.coreXlatVaLo) (va % 2 ^ 48)

/-- The fault of a failed read or write of an engine (R339, R347). -/
def State.xlatFault (s : State) (n : Nat) (e : XErr) (va cmdVa : Nat) : State := (s.xlatInfo n e va).coreFault n e.code cmdVa

/-- The fault of a failed read of the list fetcher: LIST_FETCH in place of a translation code (R339). -/
def State.fetchFault (s : State) (n : Nat) (e : XErr) (va cmdVa : Nat) : State :=
  (s.xlatInfo n e va).coreFault n (if e.code ≤ codeXlatMalformed then codeListFetch else e.code) cmdVa

/-! ### Translation caches of a core (R340) -/

/-- Whether the port takes a READ transfer of `k` lines now: the bucket holds its tokens, fewer than 512 transfers are outstanding, and the request
queue has room (R185, R186, R188). -/
def Core.mayRead (c : Core) (k : Nat) : Bool :=
  decide (576 * k ≤ c.buckets.getD 0 0) && decide (c.outs.length < 512) && decide (c.portQ < 64)

/-- The tokens and the count of a READ transfer of `k` lines (R187, R188, R216). -/
def State.spendRead (s : State) (n k : Nat) : State :=
  if k = 0 then s else (s.modCore n (fun c => { c with buckets := lmod c.buckets 0 (· - 576 * k) })).cBump n Reg.sxCntRdlines k

/-- What a finished walk of core `n` leaves: its lines are read as READ transfers and counted, and its translation is cached when it has one
and is `keep`t (R340). -/
def State.endWalk (s : State) (n ctx va : Nat) (keep : Bool) : State :=
  let held := (s.core n).l2.contains (ctx, va / 2 ^ 21)
  let lo := if held then 3 else 0
  let k := ((s.walkLines ctx va).filter (fun l => decide (lo ≤ l.1))).length
  let r := s.walk ctx va
  let s := ((s.noteWalk ctx va lo).spendRead n k).cBump n Reg.coreCntWalklines k
  match r with
  | .ok p =>
    if keep then
      s.modCore n (fun c => { c with
        tlb := tlbAdd c.tlb 128 ctx va p
        l2 := if p.big || held then c.l2 else List.drop (c.l2.length + 1 - 16) (c.l2 ++ [(ctx, va / 2 ^ 21)]) })
    else s
  | .error _ => s

/-- The lines that a walk of core `n` for `va` reads (R340). -/
def State.walkCost (s : State) (n ctx va : Nat) : Nat :=
  ((s.walkLines ctx va).filter (fun l => (!((s.core n).l2.contains (ctx, va / 2 ^ 21))) || l.1 == 3)).length

/-- A translation of a core at `va`: from its cache, or by a walk that fills it; false while the walk waits for its reads. -/
def State.tlbTouch (s : State) (n va : Nat) : State × Bool :=
  let c := s.core n
  let ctx := s.coreCtx n
  if (tlbFind c.tlb ctx va).isSome then (s, true)
  else if c.mayRead (s.walkCost n ctx va) && decide (c.walks.length < 8) then ((s.endWalk n ctx va true).cBump n Reg.coreCntTlbmiss, true)
  else (s, false)

/-- The translations of several pages, as far as the walks may go. -/
def State.tlbTouches (s : State) (n : Nat) : List (Nat × Nat) → State × Bool
  | [] => (s, true)
  | p :: r =>
    match s.tlbTouch n p.1 with
    | (s, true) => State.tlbTouches s n r
    | (s, false) => (s, false)

/-- A READ transfer of a core that it carries out itself, in the space of its context: of the list fetcher, or of Facet map entries (R79, R187,
R227). None while it waits for tokens or for the port. (DEDUCED, log entry 24) -/
def State.fetchRead (s : State) (n va len : Nat) : State × Option (Except (XErr × Nat) (List Byte)) :=
  match s.tlbTouches n (pageParts va len) with
  | (s, false) => (s, none)
  | (s, true) =>
    let tlb := (s.core n).tlb
    let ctx := s.coreCtx n
    let k := (linesOf va len).length
    match s.xlateRange tlb ctx va len false with
    | .error e => (s, some (.error e))
    | .ok _ => if (s.core n).mayRead k then ((s.spendRead n k).vnote tlb ctx va len, some (s.vread tlb ctx va len)) else (s, none)

/-! ### Lists (R79-R82, R103) -/

/-- A word of a list that a scan reads (R82, R90): free on the line `held` (its number plus 1) that the scan has read last. -/
def State.scanWord (s : State) (n va held : Nat) : State × Option (Except (XErr × Nat) Word) :=
  if held = va / 64 + 1 then (s, some (match s.vread (s.core n).tlb (s.coreCtx n) va 4 with
    | .ok bs => .ok (w32 (leNat bs))
    | .error e => .error e))
  else match s.fetchRead n va 4 with
    | (s, some (.ok bs)) => (s, some (.ok (w32 (leNat bs))))
    | (s, some (.error e)) => (s, some (.error e))
    | (s, none) => (s, none)

/-- How a scan of a list ends: at an address, with a fault code at an address, with a failed read at an address, or waiting for its next read
at an address and depth with the line it holds. -/
inductive Scan where
  | found (va : Nat) | bad (code va : Nat) | failed (e : XErr × Nat) (va : Nat) | waits (va depth held : Nat)
  deriving DecidableEq, Repr

/-- Looks for a BANK_POWER command with ON = 1 from `va` on, command by command (R82): code 0 where the list holds none. No word beyond the list
is read. (DEDUCED, log entry 25) -/
def State.scanPower (s : State) (n endVa : Nat) : (fuel va held : Nat) → State × Scan
  | 0, va, _ => (s, .bad 0 va)
  | fuel + 1, va, held =>
    if endVa < va + 4 then (s, .bad 0 va)
    else match s.scanWord n va held with
      | (s, none) => (s, .waits va 0 held)
      | (s, some (.error e)) => (s, .failed e va)
      | (s, some (.ok w)) =>
        let next := va + 4 * hLen w
        let ov := va + 4 * (1 + 2 * (hNrd w + hNwr w))
        if hLen w = 0 ∨ endVa < next then (s, .bad 0 va)
        else if hOp w = opBankPower ∧ ov + 4 ≤ next then
          match s.scanWord n ov (va / 64 + 1) with
          | (s, none) => (s, .waits va 0 (va / 64 + 1))
          | (s, some (.error e)) => (s, .failed e ov)
          | (s, some (.ok o)) => if flag o 31 then (s, .found va) else State.scanPower s n endVa fuel next (ov / 64 + 1)
        else State.scanPower s n endVa fuel next (va / 64 + 1)

/-- The header checks of a contract-1 list (R82), its reserved fields among them (R11, R443). (DEDUCED, log entry 25) -/
def headerOk (slice : Nat) (direct : Bool) (h : List Word) : Bool :=
  decide (fld (wd h 0) 31 24 = 0x5C ∧ fld (wd h 0) 23 16 = 1 ∧ fld (wd h 0) 7 0 = 8 ∧ fld (wd h 2) 31 24 = 32 ∧ fld (wd h 2) 4 0 = slice) &&
  zf (wd h 0) 15 8 && zf (wd h 2) 23 5 && zf (wd h 3) 31 18 && zf (wd h 4) 31 2 && (h.drop 5).all (· == 0) && !(direct && flag (wd h 4) 0)

/-- The header checks of a VDN-8E list (R103), its reserved fields among them (R11, R443). -/
def compatHeaderOk (h : List Word) : Bool :=
  decide (fld (wd h 0) 31 24 = 0xE8 ∧ fld (wd h 0) 23 16 = 3 ∧ (wd h 1).toNat % 4 = 0) && zf (wd h 0) 15 0 && wd h 2 == 0 && wd h 3 == 0

/-- Where the address of the list of slice `k` is stored (R79). -/
def State.listSlot (s : State) (n k : Nat) : Nat :=
  match (s.core n).run with
  | .batch _ => s.reg2 (coreKey n Reg.coreProgBaseLo) + (32 * ((s.core n).wl.map WlDesc.model).getD 0 + k) * 8
  | _ => s.reg2 (coreKey n Reg.coreListBaseLo) + 8 * k

/-- Stands before the first command of a list: header of `h` bytes, `k` command words, WL. No load has yet been delivered, and the first one takes
plane 0 (R110, R111). -/
def Core.beginList (c : Core) (list h k : Nat) (wl : Bool) : Core :=
  { (c.modCur (fun x => { x with list := list, started := true, pc := list + h, wl := wl, endVa := list + h + 4 * k, skip := none, hdr := [] })) with
    fetch := [], loaded := false, firstLoad := true }

/-- What the checked header of a list leads to (R82, R103): HEADER, the first command, or, where UPPER asks for banks that are off, a scan of
the list for the BANK_POWER that turns them on. (DEDUCED, log entry 25) -/
def State.checkHeader (s : State) (n list : Nat) (h : List Word) : State :=
  let c := s.core n
  let words := (wd h 1).toNat
  let begin' (s : State) : State := s.modCore n (fun c => c.beginList list (if c.run = .compat then 16 else 32) words (c.run != .compat && flag (wd h 4) 0))
  if fld (wd h 0) 31 24 = 0xE8 ∧ !(flag (s.cReg n Reg.coreCtrl) 2) then s.coreFault n codeCompatDisabled list
  else if c.run = .compat then if compatHeaderOk h then begin' s else s.coreFault n codeHeader list
  else if !(headerOk c.cur (c.run == .direct) h) then s.coreFault n codeHeader list
  else if flag (wd h 4) 1 && !(s.domOn (32 + n)) then
    let at' := c.curSl.skip.getD (list + 32, 0, 0)
    match s.scanPower n (list + 32 + 4 * words) words at'.1 at'.2.2 with
    | (s, .found _) => begin' s
    | (s, .bad _ _) => s.coreFault n codeHeader list
    | (s, .failed e _) => s.fetchFault n e.1 e.2 list
    | (s, .waits va d held) => s.modCore n (fun c => c.modCur (fun x => { x with skip := some (va, d, held) }))
  else begin' s

/-- Opens a list whose header is at `list`: reads it, checks it and stands before its first command (R82, R103). (DEDUCED, log entry 25) -/
def State.openListAt (s : State) (n list : Nat) : State :=
  if !(s.core n).curSl.hdr.isEmpty then s.checkHeader n list (s.core n).curSl.hdr
  else match s.fetchRead n list (if (s.core n).run = .compat then 16 else 32) with
    | (s, none) => s
    | (s, some (.error e)) => s.fetchFault n e.1 e.2 list
    | (s, some (.ok bs)) => (s.modCore n (fun c => c.modCur (fun x => { x with hdr := wordsOf 8 bs }))).checkHeader n list (wordsOf 8 bs)

/-- Starts the list of the slice being dispatched: its address from the table, then its header (R79, R82). CORE_FAULT_VA of a failed read of the
table is the address of its entry. (DESIGN CHOICE, log entry 80) -/
def State.openList (s : State) (n : Nat) : State :=
  match (s.core n).run with
  | .idle => s
  | .compat => s.openListAt n (s.reg2 (coreKey n Reg.coreListBaseLo))
  | _ =>
    if (s.core n).curSl.tabled then s.openListAt n (s.core n).curSl.list
    else
      let va := s.listSlot n (s.core n).cur
      match s.fetchRead n va 8 with
      | (s, none) => s
      | (s, some (.error e)) => s.fetchFault n e.1 e.2 va
      | (s, some (.ok bs)) =>
        let list := leNat bs % 2 ^ 48
        (s.modCore n (fun c => c.modCur (fun x => { x with list := list, tabled := true }))).openListAt n list

/-! ### The head of the list -/

/-- Words of the command at the head: NWORDS of a contract-1 command, 4 of a VDN-8E one. -/
def Core.headLen (c : Core) : Nat := if c.run = .compat then 4 else hLen (wd c.fetch 0)

/-- The dispatcher can take a command: it runs, no remote wait holds the slice (R312) and no translated command waits (R103). -/
def Core.dispatching (c : Core) : Bool := c.run != .idle && c.ctl == .run && c.curSl.started && c.curSl.wait.isNone && c.xlated.isEmpty

/-- The words of the command at the head when they are all in the buffer. -/
def Core.head (c : Core) : Option (List Word) :=
  if c.dispatching && decide (1 ≤ c.fetch.length) && decide (1 ≤ c.headLen) && decide (c.headLen ≤ c.fetch.length) then
    some (c.fetch.take c.headLen) else none

/-- Opcodes of contract version 1. -/
def opKnown (op : Nat) : Bool := op == opVxChain || opTable.any (fun e => e.1 == op)

/-- Whether the head of the list is MALFORMED before any decoding of fields: the list has ended, the opcode is reserved, or NWORDS is 0 or
passes the list's last word (R82, R87, R103). -/
def Core.headBad (c : Core) : Bool :=
  c.dispatching &&
  (decide (c.curSl.endVa ≤ c.curSl.pc) ||
   (decide (1 ≤ c.fetch.length) &&
    (if c.run = .compat then !(decide (1 ≤ fld (wd c.fetch 0) 31 24 ∧ fld (wd c.fetch 0) 31 24 ≤ 7)) || decide (c.curSl.endVa < c.curSl.pc + 16)
     else !(opKnown (hOp (wd c.fetch 0))) || c.headLen == 0 || decide (c.curSl.endVa < c.curSl.pc + 4 * c.headLen))))

/-- The dispatcher meets the head: MALFORMED where it can be told. (DEDUCED, log entry 24) -/
def State.settle (s : State) (n : Nat) : State := if (s.core n).headBad then s.coreFault n codeMalformed (s.core n).curSl.pc else s

/-- Passes the command at the head: `k` words. -/
def Core.passHead (c : Core) (k : Nat) : Core :=
  { (c.modCur (fun x => { x with pc := x.pc + 4 * k, atStart := false })) with fetch := c.fetch.drop k, seqNo := c.seqNo + 1 }

/-- Passes the command at the head and meets the next one. -/
def State.advance (s : State) (n : Nat) : State :=
  ((s.modCore n (fun c => c.passHead c.headLen)).cBump n Reg.coreCntDispatch).settle n

/-- Moves dispatch of the current slice to an address (R90). -/
def Core.jump (c : Core) (va : Nat) : Core := { (c.modCur (fun x => { x with pc := va })) with fetch := [] }

/-- The list fetcher has a read to make: the core runs, and it stands before a header, or the 4 KiB buffer has room for words of the list that
are still to come (R79). -/
def Core.wantsFetch (c : Core) : Bool :=
  c.run != .idle && c.ctl != .stopped && c.ctl != .preempted &&
  (!c.curSl.started || (decide (c.curSl.pc + 4 * c.fetch.length < c.curSl.endVa) && decide (c.fetch.length ≤ 1008)))

/-- The list fetcher delivers the next line of words (R79): the header first; then, with room in the 4 KiB buffer, what is left of the line the
fetch position lies in; each read waits for its READ tokens and the port (R188). CORE_FAULT_VA of a failed read of list words is the address of
the next command. (DESIGN CHOICE, log entry 80) -/
def State.doListFetchData (s : State) (n : Nat) : State :=
  let c := s.core n
  if c.run = .idle ∨ c.ctl = .stopped ∨ c.ctl = .preempted then s
  else if !c.curSl.started then (s.openList n).settle n
  else if !c.wantsFetch then s.settle n
  else
    let p := c.curSl.pc + 4 * c.fetch.length
    let len := min c.curSl.endVa ((p / 64 + 1) * 64) - p
    match s.fetchRead n p len with
    | (s, none) => s.settle n
    | (s, some (.error e)) => s.fetchFault n e.1 e.2 c.curSl.pc
    | (s, some (.ok bs)) => (s.modCore n (fun c => { c with fetch := c.fetch ++ wordsOf (len / 4) bs })).settle n

/-! ### Loops (R90) -/

/-- COUNT of the core's work list (R57, R195). -/
def Core.wlCount (c : Core) : Nat := fld (wd c.wlBuf 0) 10 0

/-- Entries of the work list of a loop's current iteration: first and number. -/
def Loop.window (l : Loop) (count : Nat) : Nat × Nat := (l.li * l.div, min ((l.li + 1) * l.div) count - l.li * l.div)

/-- The rotation that ROT adds: none outside a loop. -/
def Core.rotation (c : Core) : Option Nat := c.curSl.loops.head?.map (fun l => l.li % 2 * l.rot)

/-- The window of the innermost loop when it is a work-list loop. -/
def Core.window (c : Core) : Option (Nat × Nat) :=
  match c.curSl.loops with
  | l :: _ => if l.wl then some (l.window c.wlCount) else none
  | [] => none

/-- The innermost loop is a work-list loop with DIV = 1. -/
def Core.single (c : Core) : Bool := (c.curSl.loops.head?.map (fun l => l.wl && l.div == 1)).getD false

/-- Finds the command after the ENDLOOP that closes a skipped loop (R90), reading word 0 of each command; `held` as in `scanWord`. -/
def State.skipLoop (s : State) (n endVa : Nat) : (fuel va depth held : Nat) → State × Scan
  | 0, va, _, _ => (s, .bad codeLoop va)
  | fuel + 1, va, depth, held =>
    if endVa ≤ va then (s, .bad codeLoop va)
    else match s.scanWord n va held with
      | (s, none) => (s, .waits va depth held)
      | (s, some (.error e)) => (s, .failed e va)
      | (s, some (.ok w)) =>
        let next := va + 4 * hLen w
        let go (k : Nat) : State × Scan := State.skipLoop s n endVa fuel next k (va / 64 + 1)
        if hLen w = 0 ∨ endVa < next then (s, .bad codeMalformed va)
        else if hOp w = opEnd then (s, .bad codeLoop va)
        else if hOp w = opLoop then go (depth + 1)
        else if hOp w = opEndloop then (if depth = 0 then (s, .found next) else go (depth - 1))
        else go depth

/-! ### Dispatch (R87, R93) -/

/-- The words at the head when the command there has the opcode. -/
def Core.headOp (c : Core) (op : Nat) : Option (List Word) :=
  if c.run = .compat then none
  else match c.head with
    | some ws => if hOp (wd ws 0) = op then some ws else none
    | none => none

/-- The command at the head, or none when it is MALFORMED. -/
def Core.decodeHead (c : Core) (ws : List Word) : Option Cmd :=
  if cmdOk ws c.rotation c.single then some (cmdOf ws c.curSl.pc c.cur c.seqNo (c.rotation.getD 0) c.window c.single) else none

/-- The queue of a command's engine has room, and the scoreboard an entry for each range (R93). -/
def Core.room (c : Core) (d : Cmd) : Bool :=
  decide (c.sbUsed + d.rds.length + d.wrs.length ≤ 128) &&
  (match execOf d.op with
    | 1 => decide (c.mxQ.length < 32)
    | 2 => decide (c.vxQ.length < 32)
    | _ => decide (c.sxQ.length < 64))

/-- Places a command in the queue of its engine. -/
def Core.enqueue (c : Core) (d : Cmd) : Core :=
  match execOf d.op with
  | 1 => { c with mxQ := c.mxQ ++ [d] }
  | 2 => { c with vxQ := c.vxQ ++ [d] }
  | _ => { c with sxQ := c.sxQ ++ [d] }

/-- Dispatches the engine command of opcode `op` when it stands at the head: MALFORMED, or REMOTE_PLACE where `badPlace` says so (R312),
or into its queue when there is room. -/
def State.dispatch (s : State) (n op : Nat) (badPair badPlace : Core → Cmd → Bool) : State :=
  let c := s.core n
  match c.headOp op with
  | none => s
  | some ws =>
    match c.decodeHead ws with
    | none => s.coreFault n codeMalformed c.curSl.pc
    | some d =>
      if badPair c d then s.coreFault n codeMalformed c.curSl.pc
      else if badPlace c d then s.coreFault n codeRemotePlace c.curSl.pc
      else if c.room d then (s.modCore n (fun c => c.enqueue d)).advance n
      else s

/-- No further condition at dispatch. -/
def okHere (_ : Core) (_ : Cmd) : Bool := false

/-- The head of an engine's queue has the opcode and no hazard (R94). -/
def Core.issuable (c : Core) (q : List Cmd) (op : Nat) : Option Cmd :=
  match q with
  | d :: _ => if d.op = op ∧ !(c.hazard d.seq d.rds d.wrs) then some d else none
  | [] => none

/-- MX accepts a command: the earlier ones have delivered their last row to the array (R94). -/
def Core.mxFree (c : Core) : Bool := c.mxA.all Cmd.done

/-- The staging buffers occupied: the row blocks of which tiles are still to be pushed (R128, R135). -/
def Core.buffers (c : Core) : Nat := ((c.staging.map (fun t => (t.1, fld t.2.w1 15 4))).dedup).length

/-- VX accepts a command: the earlier ones have run. -/
def Core.vxFree (c : Core) : Bool := c.vxA.all Cmd.done

/-- SX accepts a command: fewer than 16 are active and none of them is an SX_WAIT (R94, R200). -/
def Core.sxFree (c : Core) : Bool := decide (c.sxA.length < 16) && c.sxA.all (fun d => d.op != opSxWait)

/-- The core runs commands: it is not stopped. -/
def Core.live (c : Core) : Bool := c.run != .idle && c.ctl != .stopped && c.ctl != .preempted

/-! ### Control commands (R88-R92, R97, R98, R444) -/

/-- A control command at the head: its decoded form, or MALFORMED. -/
def State.control (s : State) (n op : Nat) (f : State → Cmd → State) : State :=
  match (s.core n).headOp op with
  | none => s
  | some ws =>
    match (s.core n).decodeHead ws with
    | none => s.coreFault n codeMalformed (s.core n).curSl.pc
    | some d => f s d

/-- The scoreboard has an entry for each range of a command (R93). -/
def Core.sbRoom (c : Core) (d : Cmd) : Bool := decide (c.sbUsed + d.rds.length + d.wrs.length ≤ 128)

/-- NOP: passes when the scoreboard has an entry for each of its ranges and they have no hazard (R88, R93). -/
def State.doNop (s : State) (n : Nat) : State :=
  s.control n opNop (fun s d => if !((s.core n).sbRoom d) || (s.core n).hazard d.seq d.rds d.wrs then s else s.advance n)

/-- The header line of a live-range map is well formed (R309, R443). -/
def livemapOk (h : List Word) : Bool :=
  decide (fld (wd h 0) 31 24 = 0x4D ∧ fld (wd h 0) 23 16 = 0 ∧ 1 ≤ fld (wd h 0) 15 0 ∧ fld (wd h 0) 15 0 ≤ 1024 ∧ fld (wd h 1) 31 19 = 0) &&
  (h.drop 2).all (· == 0)

/-- FENCE: stops dispatch and begins the drain (R97); its live-range map's header line is read and checked, and its LINES kept (R309). It waits
for that read. -/
def State.doFence (s : State) (n : Nat) : State :=
  s.control n opFence (fun s d =>
    let map := va48 d.ops 1
    let pass (s : State) : State :=
      (s.modCore n (fun c => { (c.passHead c.headLen) with ctl := .fence (flag (d.o 1) 31) })).cBump n Reg.coreCntDispatch
    let keep (s : State) (live : Nat) : State :=
      (pass s).modCore n (fun c => c.modCur (fun x => { x with liveMap := map, saved := false, live := live }))
    if map = 0 then (pass s).modCore n (fun c => c.modCur (fun x => { x with liveMap := 0, saved := false }))
    else match s.fetchRead n map 64 with
      | (s, none) => s
      | (s, some (.error e)) => (pass s).fetchFault n e.1 e.2 d.va
      | (s, some (.ok bs)) => if livemapOk (wordsOf 16 bs) then keep s (fld (wd (wordsOf 16 bs) 1) 18 0) else (pass s).coreFault n codeLivemap d.va)

/-- END: LOOP fault inside an open loop, else dispatch stops and the drain begins (R90, R444). -/
def State.doEnd (s : State) (n : Nat) : State :=
  s.control n opEnd (fun s d =>
    if (s.core n).curSl.loops.isEmpty then
      (s.modCore n (fun c => { (c.passHead c.headLen) with ctl := .endDrain })).cBump n Reg.coreCntDispatch
    else s.coreFault n codeLoop d.va)

/-- LOOP: pushes a level, or skips to the command after its ENDLOOP for 0 iterations (R90). A work-list loop waits for COUNT, which comes with the
first line of the work list (R195). -/
def State.doLoop (s : State) (n : Nat) : State :=
  s.control n opLoop (fun s d =>
    let c := s.core n
    let wl := flag (d.o 1) 31
    let next := d.va + 4 * c.headLen
    if wl ∧ !c.curSl.wl then s.coreFault n codeLoop d.va
    else if wl ∧ c.wl.isSome ∧ c.wlBuf.isEmpty then s
    else
      let iter := if wl then ceilDiv c.wlCount (fld (d.o 1) 28 18) else fld (d.o 1) 17 0
      if iter = 0 then
        let at' := c.curSl.skip.getD (next, 0, 0)
        match s.skipLoop n c.curSl.endVa ((c.curSl.endVa - next) / 4 + 1) at'.1 at'.2.1 at'.2.2 with
        | (s, .bad code va) => s.coreFault n code va
        | (s, .failed e va) => s.fetchFault n e.1 e.2 va
        | (s, .waits va k held) => s.modCore n (fun c => c.modCur (fun x => { x with skip := some (va, k, held) }))
        | (s, .found va) =>
          ((s.modCore n (fun c => ((c.passHead c.headLen).jump va).modCur (fun x => { x with skip := none }))).cBump n Reg.coreCntDispatch).settle n
      else if 4 ≤ c.curSl.loops.length then s.coreFault n codeLoop d.va
      else (s.modCore n (fun c => c.modCur (fun x => { x with
        loops := ⟨0, iter, d.va, next, wl, if wl then fld (d.o 1) 28 18 else 1, fld (d.o 2) 21 0⟩ :: x.loops }))).advance n)

/-- ENDLOOP: raises LI and returns to the body, or pops the level (R90). -/
def State.doEndloop (s : State) (n : Nat) : State :=
  s.control n opEndloop (fun s d =>
    match (s.core n).curSl.loops with
    | [] => s.coreFault n codeLoop d.va
    | l :: r =>
      if l.li + 1 < l.iter then
        ((s.modCore n (fun c => ((c.passHead c.headLen).modCur (fun x => { x with loops := { l with li := l.li + 1 } :: r })).jump l.body)).cBump n
          Reg.coreCntDispatch).settle n
      else (s.modCore n (fun c => c.modCur (fun x => { x with loops := r }))).advance n)

/-- The words of banks B32-B63 (R91, R165). -/
abbrev upperWords : Nat × Nat := (0x200000, 0x3FFFFF)

/-- BANK_POWER: once the scoreboard has an entry for each of its ranges and no earlier command holds a range in B32-B63, its request enters the
power queue and the command holds one scoreboard entry (R91, R93). -/
def State.doBankPower (s : State) (n : Nat) : State :=
  s.control n opBankPower (fun s d =>
    let c := s.core n
    if c.hazard d.seq d.rds (d.wrs ++ [upperWords]) then s
    else if 8 ≤ s.pwr.queue.length ∨ 128 < c.sbUsed + 1 ∨ !(c.sbRoom d) then s
    else
      let s := { s with pwr := { s.pwr with queue := s.pwr.queue ++ [(⟨flag (d.o 1) 31, 32 + n, n + 1⟩ : PwrReq)] } }
      (s.modCore n (fun c => { c with bank := some { d with rds := [], wrs := [upperWords] } })).advance n)

/-- An SX command of a slice that writes HBM, or a VX_ATTN that flushes, has not retired (R92, R282). -/
def Core.writesHbm (c : Core) (slice : Nat) : Bool :=
  (c.sxQ ++ c.sxA).any (fun d => d.slice == slice && d.op == opSxArm && fld (d.o 1) 27 26 == 1) ||
  (c.vxQ ++ c.vxA).any (fun d => d.slice == slice && d.op == opVxAttn && flag (d.o 2) 27)

/-- COMPLETE: waits for the slice's HBM writes, then sends one completion for its window (R92). -/
def State.doComplete (s : State) (n : Nat) : State :=
  s.control n opComplete (fun s d =>
    let c := s.core n
    let lw := flag (d.o 1) 31
    if lw ∧ (!c.curSl.wl ∨ d.win.isNone) then s.coreFault n codeLoop d.va
    else if c.writesHbm c.cur then s
    else if 16 ≤ c.cpl.length ∨ (c.wl.isSome ∧ c.wlBuf.isEmpty) then s
    else
      let w := if lw then d.win.getD (0, 0) else (fld (d.o 1) 26 16, fld (d.o 1) 10 0)
      let cnt := min (w.1 + w.2) c.wlCount - w.1
      let batch := match c.run with
        | .batch id => id
        | _ => 0
      let cpl := if cnt = 0 then c.cpl else c.cpl ++ [(⟨batch, c.cur, w.1, cnt⟩ : Cpl)]
      (s.modCore n (fun c => { (c.modCur (fun x => { x with covered := (List.range cnt).foldl (fun l i => sadd l (w.1 + i)) x.covered })) with
        cpl := cpl })).advance n)

/-! ### Kernel boundaries (R97-R101, R444) -/

/-- Sets a bit of the `k`-th mask of a list. -/
def orAt : List (BitVec 32) → Nat → BitVec 32 → List (BitVec 32)
  | [], 0, m => [m]
  | [], k + 1, m => 0 :: orAt [] k m
  | x :: r, 0, m => (x ||| m) :: r
  | x :: r, k + 1, m => x :: orAt r k m

/-- Changes the record of what runs on core `n`: its batch, or its direct job. -/
def State.modWork (s : State) (n : Nat) (f : Batch → Batch) (g : Direct → Direct) : State :=
  match (s.core n).run with
  | .batch id => { s with log := { s.log with batches := s.log.batches.map (fun b => if b.id = id then f b else b) } }
  | .idle => s
  | _ => { s with sched := { s.sched with directs := s.sched.directs.map (fun d => if d.ctxId = s.coreCtx n then g d else d) } }

/-- The barrier masks of what runs on core `n`. -/
def State.barriers (s : State) (n : Nat) : List (BitVec 32) :=
  match (s.core n).run with
  | .batch id => ((s.log.batches.find? (fun b => b.id == id)).map Batch.barr).getD []
  | .direct => ((s.sched.directs.find? (fun d => d.ctxId == s.coreCtx n)).map Direct.barr).getD []
  | _ => []

/-- One bit of a mask of 32. -/
def bit32 (i : Nat) : BitVec 32 := BitVec.ofNat 32 (2 ^ i)

/-- The arrival of a slice at its `k`-th barrier fence (R98). -/
def State.arrive (s : State) (n slice k : Nat) : State :=
  s.modWork n (fun b => { b with barr := orAt b.barr k (bit32 slice) }) (fun d => { d with barr := orAt d.barr k (bit32 slice) })

/-- The next slice after `k` that has not ended and does not wait at a barrier, in ascending order with wrap (R101, R311). -/
def Core.nextSlice (c : Core) (k : Nat) : Option Nat :=
  let alive := (c.slices.filter (fun x => !x.ended && !x.arrived)).map SliceSt.slice
  match (alive.filter (fun x => decide (k < x))).min? with
  | some x => some x
  | none => alive.min?

/-- What the drain of a FENCE or of an END leaves of MX and VX (R111, R139). -/
def Core.clearKernel (c : Core) : Core :=
  { c with plane0 := { c.plane0 with valid := false }, plane1 := { c.plane1 with valid := false }, firstLoad := true, loaded := false, wss := 0 }

/-- The conditions of R97: MX and VX retired, the tile queue empty, the Loupe idle, every SX command without AHEAD retired. -/
def Core.drained (c : Core) : Bool :=
  c.mxQ.isEmpty && c.mxA.isEmpty && c.vxQ.isEmpty && c.vxA.isEmpty && c.tileQ.isEmpty && c.staging.isEmpty && c.loupe.isEmpty &&
  c.xlated.isEmpty && (c.sxQ ++ c.sxA).all Cmd.ahead

/-- The core's own SX commands of a slice have retired. -/
def Core.sxDrained (c : Core) (slice : Nat) : Bool := (c.sxQ ++ c.sxA).all (fun d => d.slice != slice)

/-- Stands at the kernel boundary of a completed fence: at the barrier where every slice that has not ended waits; else pre-emption stops here, or
the next slice goes on (R98, R101, R308). -/
def Core.boundary (c : Core) : Core :=
  match c.nextSlice c.cur with
  | none => { c with ctl := .barrier }
  | some k =>
    let c : Core := { c with wdog := 0 }
    if c.preempt = 1 then { c with ctl := .preempted }
    else if k = c.cur then { c with ctl := .run }
    else { c with ctl := .run, cur := k, fetch := [] }

/-- FENCE_DRAIN_COMPLETE: the drain conditions hold; planes and WSS bits are invalidated, the fence counts, the slice arrives at its
barrier (R97, R98). The fence of a STEP_END goes on to its END (R103). -/
def State.doFenceDrainComplete (s : State) (n : Nat) : State :=
  let c := s.core n
  match c.ctl with
  | .fence barrier =>
    if !c.drained then s
    else
      let sl := c.curSl
      let s := s.modCore n (fun c => c.clearKernel.modCur (fun x => { x with
        fences := (x.fences + 1) % 65536, atStart := true, barriers := x.barriers + b2n barrier, arrived := barrier }))
      let s := s.cBump n Reg.coreCntFence
      let s := if barrier then s.arrive n sl.slice sl.barriers else s
      if sl.stepEnd then s.modCore n (fun c => { c with ctl := .endDrain })
      else (s.modCore n Core.boundary).settle n
  | _ => s

/-- Whether all 32 slices have arrived at the barrier that the core's current slice waits at (R98). -/
def State.barrierFull (s : State) (n : Nat) : Bool :=
  (s.barriers n).getD ((s.core n).curSl.barriers - 1) 0 == BitVec.allOnes 32

/-- BARRIER_OPEN: the barrier opens when all 32 slices have arrived, and dispatch goes on with the core's next slice (R98, R101). -/
def State.doBarrierOpen (s : State) (n : Nat) : State :=
  let c := s.core n
  if c.ctl = .barrier ∧ s.barrierFull n then
    (s.modCore n (fun c =>
      let c : Core := { c with wdog := 0, slices := c.slices.map (fun x => { x with arrived := false }) }
      if c.preempt = 1 then { c with ctl := .preempted, cur := (c.nextSlice c.cur).getD c.cur, fetch := [] }
      else { c with ctl := .run, cur := (c.nextSlice c.cur).getD c.cur, fetch := if c.slices.length = 1 then c.fetch else [] })).settle n
  else s

/-! ### Abort (R107) -/

/-- CORE_ABORT: dispatch stops, unissued commands are discarded, issued commands retire (R107, R131, R212, R235). The slice table is emptied, so that
CORE_PC, CORE_LOOP and CORE_STATUS.FENCES and CUR_SLICE then read 0. (DESIGN CHOICE, log entry 80) -/
def State.doCoreAbort (s : State) (n : Nat) : State :=
  (s.modCore n (fun c => { c.halt with
    run := .idle, slices := [], fetch := [], wl := none, wlBuf := [], wlLines := [], inSpill := false })).dropRemote (s.coreCtx n)

/-! ### VDN-8E lists (R103, R104) -/

/-- The internal opcode of the store that pairs with a GEMM. -/
abbrev opCompatStore : Nat := 0x90
/-- The internal opcode of a VOP chain. -/
abbrev opCompatVop : Nat := 0x91

/-- A VDN-8E command at the head: its four words. -/
def Core.compatHead (c : Core) (op : Nat) : Option (List Word) :=
  if c.run = .compat then
    match c.head with
    | some ws => if fld (wd ws 0) 31 24 = op then some ws else none
    | none => none
  else none

/-- TM of a VDN-8E command. -/
def vTm (ws : List Word) : Nat := fld (wd ws 0) 23 16
/-- TN of a VDN-8E command. -/
def vTn (ws : List Word) : Nat := fld (wd ws 0) 15 8
/-- TK of a VDN-8E command. -/
def vTk (ws : List Word) : Nat := fld (wd ws 0) 7 0
/-- A of a VDN-8E command. -/
def vA (ws : List Word) : Nat := fld (wd ws 1) 31 16
/-- B of a VDN-8E command. -/
def vB (ws : List Word) : Nat := fld (wd ws 1) 15 0
/-- D of a VDN-8E command. -/
def vD (ws : List Word) : Nat := fld (wd ws 2) 31 16
/-- OP of a VDN-8E command. -/
def vOp (ws : List Word) : Nat := fld (wd ws 2) 15 0
/-- FLAGS bit 0: BF16. -/
def vBf (ws : List Word) : Bool := flag (wd ws 3) 0
/-- FLAGS bit 1: accumulate into D. -/
def vAcc (ws : List Word) : Bool := flag (wd ws 3) 1

/-- The word range of `k` lines from line `l` on. -/
def lineRange (l k : Nat) : Nat × Nat := (16 * l, 16 * (l + k) - 1)

/-- The lines lie in lines 0-65,535, and there is at least one (R103). -/
def linesFit (l k : Nat) : Bool := decide (1 ≤ k ∧ l + k ≤ 65536)

/-- The translation of LOADW: an MX_LOAD of TK × 128 by TN × 128 elements from line B (R103). (DEDUCED, log entry 26) -/
def xlateLoadw (ws : List Word) : Option (List Cmd) :=
  let k := vTk ws * 128
  let n := vTn ws * 128
  let lim := if vBf ws then 128 else 256
  let bytes := k * n * (if vBf ws then 2 else 1)
  if k = 0 ∨ n = 0 ∨ lim < k ∨ lim < n ∨ !(linesFit (vB ws) (bytes / 64)) then none
  else some [{ op := opMxLoad, rds := [lineRange (vB ws) (bytes / 64)]
               ops := [w32 ((if vBf ws then 6 else 0) * 2 ^ 28 + 3 * 2 ^ 26 + k * 2 ^ 10 + n), 0, 0, 0] }]

/-- The translation of GEMM: an MX_MATMUL of TM × 128 rows and the chains, of 16 tiles at most, that store its tiles to line D (R103). (DEDUCED, log
entry 26) -/
def xlateGemm (ws : List Word) : Option (List Cmd) :=
  let m := vTm ws * 128
  let n := vTn ws * 128
  let rowBytes := vTk ws * 128 * (if vBf ws then 2 else 1)
  let tiles := vTm ws * 8 * (vTn ws * 8)
  if m = 0 ∨ n = 0 ∨ rowBytes = 0 ∨ !(linesFit (vA ws) (m * rowBytes / 64)) ∨ !(linesFit (vD ws) (16 * tiles)) then none
  else
    let mm : Cmd :=
      { op := opMxMatmul, rds := [lineRange (vA ws) (m * rowBytes / 64)]
        ops := [w32 ((if vBf ws then 3 else 0) * 2 ^ 28 + (if vBf ws then 0 else 1) * 2 ^ 26 + m), w32 (rowBytes / 4), 0, 0, 0, 0] }
    let store (i : Nat) : Cmd :=
      let t := min 16 (tiles - 16 * i)
      { op := opCompatStore, rds := if vAcc ws then [lineRange (vD ws + 256 * i) (16 * t)] else []
        wrs := [lineRange (vD ws + 256 * i) (16 * t)], ops := [w32 t, w32 (b2n (vAcc ws)), w32 (b2n (vBf ws))] }
    some (mm :: (List.range (ceilDiv tiles 16)).map store)

/-- The translation of VOP: one-stage chains of 4,096 elements over TM × TN × 16,384 elements (R103). (DEDUCED, log entry 26) -/
def xlateVop (ws : List Word) : Option (List Cmd) :=
  let lines := vTm ws * vTn ws * 1024
  if 4 < vOp ws ∨ !(linesFit (vA ws) lines) ∨ !(linesFit (vB ws) lines) ∨ !(linesFit (vD ws) lines) then none
  else
    let one (i : Nat) : Cmd :=
      let r (l : Nat) := lineRange (l + 256 * i) 256
      { op := opCompatVop, rds := [r (vA ws), r (vB ws)] ++ (if vOp ws = 2 then [r (vD ws)] else []), wrs := [r (vD ws)]
        ops := [w32 16, w32 (vOp ws), w32 (b2n (vBf ws))] }
    some ((List.range (lines / 256)).map one)

/-- The SX_ARM commands of a move of `lines` lines between HBM at `va` and scratchpad line `l`, of at most 65,535 lines each (R103). (DEDUCED, log
entry 26) -/
def dmaArms (dir va l : Nat) : (fuel lines : Nat) → List Cmd
  | 0, _ => []
  | fuel + 1, lines =>
    if lines = 0 then []
    else
      let k := min lines 65535
      let r := lineRange l k
      { op := opSxArm, rds := if dir = 1 then [r] else [], wrs := if dir = 0 then [r] else []
        ops := [w32 (dir * 2 ^ 26), 1, w32 k, w32 k, w32 va, w32 (va / 2 ^ 32), 0, 0] } :: dmaArms dir (va + 64 * k) (l + k) fuel (lines - k)

/-- The translation of DMA_IN and DMA_OUT (R103). (DEDUCED, log entry 26) -/
def xlateDma (out : Bool) (list : Nat) (ws : List Word) : Option (List Cmd) :=
  let lines := vTm ws * vTn ws * (if vBf ws then 512 else 256)
  let base := list / 2 ^ 21 * 2 ^ 21
  let sp := if out then vA ws else vD ws
  let hb := if out then vD ws else vA ws
  if vTk ws ≠ 0 ∨ !(linesFit sp lines) then none else some (dmaArms (b2n out) (base + 64 * hb) sp 2 lines)

/-- Moves translated commands into the engine queues while there is room. -/
def Core.pump : (fuel : Nat) → Core → Core
  | 0, c => c
  | fuel + 1, c =>
    match c.xlated with
    | [] => c
    | d :: r => if c.room d then Core.pump fuel { (c.enqueue { d with seq := c.seqNo }) with xlated := r, seqNo := c.seqNo + 1 } else c

/-- Moves translated commands of a core (R103). -/
def State.pump (s : State) (n : Nat) : State := s.modCore n (fun c => c.pump c.xlated.length)

/-- A VDN-8E command at the head is translated: into the commands given, or MALFORMED (R103). -/
def State.compat (s : State) (n op : Nat) (f : Core → List Word → Option (List Cmd)) : State :=
  let c := s.core n
  match c.compatHead op with
  | none => s.pump n
  | some ws =>
    match (if fld (wd ws 3) 31 2 = 0 then f c ws else none) with
    | none => s.coreFault n codeMalformed c.curSl.pc
    | some ds =>
      let ds := ds.map (fun d => { d with va := c.curSl.pc, slice := c.cur })
      ((s.modCore n (fun c => { (c.passHead 4) with xlated := ds })).cBump n Reg.coreCntDispatch).pump n |>.settle n

/-- LOADW (R103). -/
def State.doLoadw (s : State) (n : Nat) : State := s.compat n 0x01 (fun _ => xlateLoadw)
/-- GEMM (R103). -/
def State.doGemm (s : State) (n : Nat) : State := s.compat n 0x02 (fun _ => xlateGemm)
/-- VOP (R103). -/
def State.doVop (s : State) (n : Nat) : State := s.compat n 0x03 (fun _ => xlateVop)
/-- DMA_IN (R103). -/
def State.doDmaIn (s : State) (n : Nat) : State := s.compat n 0x04 (fun c => xlateDma false c.curSl.list)
/-- DMA_OUT (R103). -/
def State.doDmaOut (s : State) (n : Nat) : State := s.compat n 0x05 (fun c => xlateDma true c.curSl.list)

/-- SYNC: a FENCE with BARRIER = 0 and LIVEMAP = 0 (R103). (DEDUCED, log entry 26) -/
def State.doSync (s : State) (n : Nat) : State :=
  match (s.core n).compatHead 0x06 with
  | none => s
  | some ws =>
    if fld (wd ws 3) 31 2 ≠ 0 then s.coreFault n codeMalformed (s.core n).curSl.pc
    else (s.modCore n (fun c => { ((c.passHead 4).modCur (fun x => { x with liveMap := 0, saved := false })) with ctl := .fence false })).cBump n Reg.coreCntDispatch

/-- STEP_END: a FENCE with LIVEMAP = 0, then END (R103). (DEDUCED, log entry 26) -/
def State.doStepEnd (s : State) (n : Nat) : State :=
  match (s.core n).compatHead 0x07 with
  | none => s
  | some ws =>
    if fld (wd ws 3) 31 2 ≠ 0 then s.coreFault n codeMalformed (s.core n).curSl.pc
    else (s.modCore n (fun c => { ((c.passHead 4).modCur (fun x => { x with liveMap := 0, saved := false, stepEnd := true })) with ctl := .fence false })).cBump n
      Reg.coreCntDispatch

end Sys2Proof.Machine
end

