-- ==== Sys2Proof/Machine/Facet.lean ====
section
/-! DEFINITION. The Facet block format (R217-R224, R234): CRC-32C, the table of a group, coding and decoding of a block. -/

namespace Sys2Proof.Machine

/-! ### CRC-32C (R218) -/

/-- One bit of the reflected CRC-32C. -/
def crcBit (c : Word) : Word := if flag c 0 then (c >>> 1) ^^^ 0x82F63B78 else c >>> 1

/-- One byte of the CRC-32C. -/
def crcByte (c : Word) (b : Byte) : Word := Nat.repeat crcBit 8 (c ^^^ w32 b.toNat)

/-- CRC-32C of RFC 3720 (R218). -/
def crc32c (bs : List Byte) : Word := (bs.foldl crcByte 0xFFFFFFFF) ^^^ 0xFFFFFFFF

/-! ### Formats (R217) -/

/-- Exponent width. -/
def fctEw : Nat → Nat
  | 0 => 8 | 1 => 5 | 2 => 4 | _ => 5
/-- Sign-mantissa width. -/
def fctSw : Nat → Nat
  | 0 => 8 | 1 => 11 | 2 => 4 | _ => 3
/-- Elements of a block. -/
def fctN : Nat → Nat
  | 0 => 2048 | 1 => 2048 | _ => 4096
/-- Bytes of the sign-mantissa section. -/
def fctSection (fmt : Nat) : Nat := fctN fmt * fctSw fmt / 8

/-- The elements of a raw block. -/
def fctElems (fmt : Nat) (raw : List Byte) : List Nat :=
  let w := 4096 / fctN fmt
  (List.range (fctN fmt)).map (fun e => leNat ((raw.drop (w * e)).take w))

/-- The exponent field of an element. -/
def fctExp (fmt x : Nat) : Nat := bits x (fctSw fmt - 1) (fctEw fmt)

/-- The sign-mantissa field of an element: mantissa from bit 0, sign at bit SW - 1. -/
def fctSm (fmt x : Nat) : Nat :=
  let mw := fctSw fmt - 1
  bits x 0 mw + 2 ^ mw * bits x (mw + fctEw fmt) 1

/-- An element from its exponent and sign-mantissa fields. -/
def fctJoin (fmt ex sm : Nat) : Nat :=
  let mw := fctSw fmt - 1
  bits sm 0 mw + 2 ^ mw * ex + 2 ^ (mw + fctEw fmt) * bits sm mw 1

/-! ### Building the table (R223) -/

/-- A node of the join: weight, whether merged, its age, its leaves. -/
structure FNode where
  w : Nat
  merged : Bool
  age : Nat
  leaves : List Nat
  deriving DecidableEq, Repr, Inhabited

/-- The order in which nodes are taken (R223). -/
def FNode.before (a b : FNode) : Bool :=
  decide (a.w < b.w) || (a.w == b.w && ((!a.merged && b.merged) || (a.merged == b.merged && decide (a.age < b.age))))

/-- Inserts a node into a list in the order of taking. -/
def fnInsert (x : FNode) : List FNode → List FNode
  | [] => [x]
  | y :: r => if x.before y then x :: y :: r else y :: fnInsert x r

/-- Joins nodes until one is left, adding one to the depth of the leaves of each node joined. -/
def fnJoin : (fuel age : Nat) → List FNode → NatMap Nat → NatMap Nat
  | 0, _, _, d => d
  | fuel + 1, age, a :: b :: r, d =>
    let ls := a.leaves ++ b.leaves
    let d := ls.foldl (fun d l => mput d l (mgetD d l 0 + 1)) d
    fnJoin fuel (age + 1) (fnInsert ⟨a.w + b.w, true, age, ls⟩ r) d
  | _, _, _, d => d

/-- The code lengths of 16 weights. -/
def fctDepths (w : List Nat) : List Nat :=
  let leaves := (List.range 16).filter (fun s => decide (0 < w.getD s 0))
  if leaves.length = 1 then (List.range 16).map (fun s => if leaves.contains s then 1 else 0)
  else
    let nodes := leaves.foldr (fun s l => fnInsert ⟨w.getD s 0, false, s, [s]⟩ l) []
    let d := fnJoin 16 0 nodes []
    (List.range 16).map (fun s => mgetD d s 0)

/-- The code lengths, weights halved until the longest is 12 (R223). -/
def fctLengths : (fuel : Nat) → List Nat → List Nat
  | 0, w => fctDepths w
  | fuel + 1, w =>
    let l := fctDepths w
    if l.all (· ≤ 12) then l else fctLengths fuel (w.map (fun x => if 0 < x then (x + 1) / 2 else 0))

/-- A table (R223): format, EBASE and the 16 code lengths. -/
structure FTable where
  fmt : Nat
  ebase : Nat
  len : List Nat
  deriving DecidableEq, Repr, Inhabited

/-- The counts of exponent values in the blocks. -/
def fctCounts (fmt : Nat) (blocks : List (List Byte)) : NatMap Nat :=
  blocks.foldl (fun m b => (fctElems fmt b).foldl (fun m x => mput m (fctExp fmt x) (mgetD m (fctExp fmt x) 0 + 1)) m) []

/-- The table of a group (R223). -/
def fctBuild (fmt : Nat) (blocks : List (List Byte)) : FTable :=
  let c := fctCounts fmt blocks
  let tot (e : Nat) : Nat := ((List.range 15).map (fun s => mgetD c (e + s) 0)).sum
  let eb := ((List.range (2 ^ fctEw fmt - 14)).foldl (fun (b : Nat × Nat) e => if b.2 < tot e then (e, tot e) else b) (0, tot 0)).1
  let win := (List.range 15).map (fun s => mgetD c (eb + s) 0)
  let w := win ++ [blocks.length * fctN fmt - win.sum]
  ⟨fmt, eb, fctLengths 32 w⟩

/-- The 16 B table record (R223). -/
def FTable.record (t : FTable) : List Word :=
  let pack (i : Nat) : Word := w32 (((List.range 8).map (fun k => t.len.getD (8 * i + k) 0 * 16 ^ k)).sum)
  [w32 (2 ^ 31 + t.fmt * 2 ^ 28 + t.ebase * 2 ^ 8), pack 0, pack 1, 0]

/-- The code lengths of two words (R218). -/
def fctLens (a b : Word) : List Nat := (List.range 16).map (fun s => if s < 8 then bits a.toNat (4 * s) 4 else bits b.toNat (4 * (s - 8)) 4)

/-- The table of a record. -/
def fctOfRecord (ws : List Word) : FTable := ⟨fld (wd ws 0) 29 28, fld (wd ws 0) 15 8, fctLens (wd ws 1) (wd ws 2)⟩

/-- The canonical codes (R220): code and length of each symbol. -/
def fctCodes (len : List Nat) : List (Nat × Nat) :=
  let step (x : Nat × NatMap Nat) (l : Nat) : Nat × NatMap Nat :=
    let y := (List.range 16).foldl (fun (y : Nat × NatMap Nat) s => if len.getD s 0 = l then (y.1 + 1, mput y.2 s y.1) else y) x
    (2 * y.1, y.2)
  let m := ((List.range 12).map (· + 1)).foldl step (0, [])
  (List.range 16).map (fun s => (mgetD m.2 s 0, len.getD s 0))

/-! ### Coding (R219, R222, R224) -/

/-- The `n` bits of a number, most significant first. -/
def msbBits (n x : Nat) : List Bool := (List.range n).map (fun i => x.testBit (n - 1 - i))

/-- The code of an exponent under a table: none when it is not codable (R222). -/
def fctCode (t : FTable) (codes : List (Nat × Nat)) (ex : Nat) : Option (List Bool) :=
  if t.ebase ≤ ex ∧ ex < t.ebase + 15 then
    let c := codes.getD (ex - t.ebase) (0, 0)
    if c.2 = 0 then none else some (msbBits c.2 c.1)
  else
    let c := codes.getD 15 (0, 0)
    if c.2 = 0 then none else some (msbBits c.2 c.1 ++ msbBits (fctEw t.fmt) ex)

/-- Bytes of a bit list, each filled from bit 7 down; the last is padded with zeros. -/
def msbBytes : (fuel : Nat) → List Bool → List Byte
  | 0, _ => []
  | _, [] => []
  | fuel + 1, l =>
    BitVec.ofNat 8 (((List.range 8).map (fun i => if l.getD i false then 2 ^ (7 - i) else 0)).sum) :: msbBytes fuel (l.drop 8)

/-- Pads bytes with zeros to a multiple of `n`. -/
def padTo (n : Nat) (bs : List Byte) : List Byte := bs ++ List.replicate (alignUp bs.length n - bs.length) 0

/-- The sign-mantissa section of a block. -/
def fctSmBytes (fmt : Nat) (els : List Nat) : List Byte :=
  natLe (fctSection fmt) (els.foldr (fun x a => fctSm fmt x + 2 ^ fctSw fmt * a) 0)

/-- A coded block (R218-R221), or none when an exponent is not codable. -/
def fctEncodeBlock (t : FTable) (raw : List Byte) : Option (List Byte) :=
  let els := fctElems t.fmt raw
  let codes := fctCodes t.len
  let cs := els.map (fun x => fctCode t codes (fctExp t.fmt x))
  if cs.any Option.isNone then none
  else
    let sub (d : Nat) : List Byte :=
      let bs := (List.range (fctN t.fmt / 16)).flatMap (fun p => (cs.getD (16 * p + d) none).getD [])
      padTo 4 (msbBytes (bs.length + 1) bs)
    let subs := (List.range 16).map sub
    let body := fctSmBytes t.fmt els ++ subs.flatten
    let len32 := ceilDiv (32 + body.length) 32
    let slen (i : Nat) : Word := w32 (((List.range 4).map (fun k => ((subs.getD (4 * i + k) []).length / 4) * 256 ^ k)).sum)
    let rec4 := t.record
    let hdr := [w32 (0xFA000000 + t.fmt * 2 ^ 22 + t.ebase * 2 ^ 8 + len32 % 256), crc32c raw, wd rec4 1, wd rec4 2,
                slen 0, slen 1, slen 2, slen 3]
    some (bytesOf hdr ++ body ++ List.replicate (32 * len32 - 32 - body.length) 0)

/-- A stored block (R222): whether raw, and its bytes; a coded block is stored only when it saves the threshold. -/
def fctStore (t : FTable) (thresh : Nat) (raw : List Byte) : Bool × List Byte :=
  match fctEncodeBlock t raw with
  | some b => if 64 * b.length ≤ (64 - thresh) * 4096 then (false, b) else (true, raw)
  | none => (true, raw)

/-- The lines of a stored block (R228). -/
def fctLines (len32 : Nat) (raw : Bool) : Nat := if raw then 64 else ceilDiv (len32 * 32) 64

/-- An index entry of a packed area (R228). -/
def fctIndex (raw : Bool) (fmt len32 off : Nat) : Word := w32 (2 ^ 31 + b2n raw * 2 ^ 30 + fmt * 2 ^ 26 + len32 * 2 ^ 18 + off)

/-- A packed area (R228): the index, padded to whole lines, then each block from a line boundary. Blocks are (raw, bytes). -/
def fctPack (fmt : Nat) (blocks : List (Bool × List Byte)) : List Byte :=
  let idxLines := ceilDiv (4 * blocks.length) 64
  let r := blocks.foldl (fun (x : Nat × List Word × List Byte) b =>
    let len32 := if b.1 then 128 else ceilDiv b.2.length 32
    let n := fctLines len32 b.1
    (x.1 + n, x.2.1 ++ [fctIndex b.1 fmt len32 x.1], x.2.2 ++ b.2 ++ List.replicate (64 * n - b.2.length) 0)) (idxLines, [], [])
  padTo 64 (bytesOf r.2.1) ++ r.2.2

/-! ### Decoding (R231, R234) -/

/-- Why a block is refused: DETAIL and the first failing sub-stream (R234). -/
abbrev FErr := Nat × Nat

/-- Decodes one symbol: matches the bits against the codes of rising length. DETAIL 4 where no code begins with the bits, 1 where they end
inside a code (R234). -/
def fctSymbol (codes : List (Nat × Nat)) : (fuel len acc : Nat) → List Bool → Except Nat (Nat × List Bool)
  | 0, _, _, _ => .error 4
  | _, _, _, [] => .error 1
  | fuel + 1, len, acc, b :: r =>
    let acc := 2 * acc + b2n b
    match (List.range 16).find? (fun s => codes.getD s (0, 0) == (acc, len + 1)) with
    | some s => .ok (s, r)
    | none =>
      if codes.any (fun c => decide (len + 1 < c.2) && c.1 / 2 ^ (c.2 - (len + 1)) == acc) then fctSymbol codes fuel (len + 1) acc r else .error 4

/-- Takes `n` bits, most significant first. -/
def takeBits (n : Nat) (l : List Bool) : Option (Nat × List Bool) :=
  if l.length < n then none else some ((l.take n).foldl (fun a b => 2 * a + b2n b) 0, l.drop n)

/-- Decodes `n` exponents of a sub-stream: exponents and bits left, or the detail of R234. -/
def fctSub (t : FTable) (codes : List (Nat × Nat)) : (n : Nat) → List Bool → Except Nat (List Nat × List Bool)
  | 0, l => .ok ([], l)
  | n + 1, l =>
    match fctSymbol codes 12 0 0 l with
    | .error d => .error d
    | .ok (s, r) =>
      let next : Except Nat (Nat × List Bool) :=
        if s < 15 then .ok (t.ebase + s, r)
        else match takeBits (fctEw t.fmt) r with
          | none => .error 1
          | some (e, r) =>
            if t.ebase ≤ e ∧ e < t.ebase + 15 ∧ t.len.getD (e - t.ebase) 0 ≠ 0 then .error 4 else .ok (e, r)
      match next with
      | .error d => .error d
      | .ok (e, r) => match fctSub t codes n r with
        | .error d => .error d
        | .ok (es, r) => .ok (e :: es, r)

/-- The bits of bytes, most significant first. -/
def msbOf (bs : List Byte) : List Bool := bs.flatMap (fun b => msbBits 8 b.toNat)

/-- Decodes the sub-streams in order, cutting their bytes from `bs`: their exponents, and the first sub-stream with bits left over, which make
the block long when all its symbols are produced (R234). -/
def fctSubs (t : FTable) (codes : List (Nat × Nat)) (slens : List Nat) : (ds : List Nat) → List Byte → Except FErr (List (List Nat) × Option Nat)
  | [], _ => .ok ([], none)
  | d :: r, bs =>
    let n := 4 * slens.getD d 0
    match fctSub t codes (fctN t.fmt / 16) (msbOf (bs.take n)) with
    | .error e => .error (e, d)
    | .ok (es, left) =>
      match fctSubs t codes slens r (bs.drop n) with
      | .error e => .error e
      | .ok (l, long) => .ok (es :: l, if left.any id || decide (32 ≤ left.length) then some d else long)

/-- The Kraft sum of the lengths, in units of 2^-12. -/
def kraft (len : List Nat) : Nat := (len.map (fun l => if l = 0 then 0 else 2 ^ (12 - l))).sum

/-- Decodes a coded block against the format and length of its index entry: the 4,096 raw bytes, or why it is refused (R234). -/
def fctDecode (fmt len32 : Nat) (b : List Byte) : Except FErr (List Byte) :=
  let h := wordsOf 8 b
  let h0 := wd h 0
  let len := fctLens (wd h 2) (wd h 3)
  let eb := fld h0 15 8
  let slens := (List.range 16).map (fun d => bits (wd h (4 + d / 4)).toNat (8 * (d % 4)) 8)
  if fld h0 31 24 ≠ 0xFA ∨ fld h0 23 22 ≠ fmt ∨ fld h0 7 0 ≠ len32 ∨ fld h0 21 16 ≠ 0 ∨ len.any (12 < ·) ∨ eb + 14 ≥ 2 ^ fctEw fmt ∨
      len32 < 2 ∨ 128 < len32 then .error (3, 0)
  else if kraft len ≠ 4096 ∧ len.filter (· ≠ 0) ≠ [1] then .error (4, 0)
  else
    let used := 32 + fctSection fmt + 4 * slens.sum
    if 32 * len32 < used then .error (1, 0)
    else
      let t : FTable := ⟨fmt, eb, len⟩
      match fctSubs t (fctCodes len) slens (List.range 16) ((b.drop (32 + fctSection fmt)).take (4 * slens.sum)) with
      | .error e => .error e
      | .ok (_, some d) => .error (2, d)
      | .ok (subs, none) =>
        let tail := (b.take (32 * len32)).drop used
        if tail.any (· ≠ 0) ∨ 32 ≤ tail.length then .error (2, 15)
        else
          let sm := leNat ((b.drop 32).take (fctSection fmt))
          let w := 4096 / fctN fmt
          let raw := (List.range (fctN fmt)).flatMap (fun e =>
            natLe w (fctJoin fmt ((subs.getD (e % 16) []).getD (e / 16) 0) (bits sm (fctSw fmt * e) (fctSw fmt))))
          if crc32c raw = wd h 1 then .ok raw else .error (5, 0)

/-- The decode time T of a coded block's symbols is above 8 cycles when a sub-stream holds more than 512 bits (R232). -/
def fctSlow (b : List Byte) : Bool := (List.range 16).any (fun d => decide (16 < bits (wd (wordsOf 8 b) (4 + d / 4)).toNat (8 * (d % 4)) 8))

end Sys2Proof.Machine
end

