-- ==== Sys2Proof/Machine/Loupe.lean ====
section
/-! DEFINITION. The Loupe (R230-R237): requests, the decoding of one block, and the stream that a Facet operand reads. -/

namespace Sys2Proof.Machine

/-- DATA (R236). -/
abbrev codeData : Nat := 0x50
/-- FACET_INDEX. -/
abbrev codeFacetIndex : Nat := 0x51
/-- FACET_MAP. -/
abbrev codeFacetMap : Nat := 0x52
/-- FACET_TABLE. -/
abbrev codeFacetTable : Nat := 0x53
/-- FACET_ORDER. -/
abbrev codeFacetOrder : Nat := 0x54

/-- The request of a command, if it has one. -/
def Core.loupeOf (c : Core) (seq : Nat) : Option LoupeReq := c.loupe.find? (fun r => r.seq == seq)

/-- The request of a command has released all its blocks. -/
def Core.loupeReady (c : Core) (seq : Nat) : Bool := (c.loupeOf seq).any (fun r => decide (r.blocks ≤ r.next))

/-- Ends the request of a command. -/
def Core.loupeEnd (c : Core) (seq : Nat) : Core := { c with loupe := c.loupe.filter (fun r => r.seq != seq) }

/-- Places a request: `blocks` blocks of the packed area in the word range `r`. -/
def Core.loupeAsk (c : Core) (seq req fmt blocks : Nat) (r : Nat × Nat) : Core :=
  { c with loupe := c.loupe ++ [{ seq := seq, req := req, fmt := fmt, line := r.1 / 16, lo := r.1, hi := r.2, blocks := blocks }] }

/-- LPE_FAULT_INFO (R237). -/
def State.lpeInfo (s : State) (n detail sub block : Nat) : State :=
  (s.setReg (coreKey n Reg.lpeFaultInfo) (w32 (detail * 2 ^ 28 + sub * 2 ^ 24 + block % 65536))).nextFree

/-- The first failing sub-stream as LPE_FAULT_INFO reports it: valid for details 1, 2 and 4, elsewhere a free value. (DESIGN CHOICE, log entry 23) -/
def State.lpeSub (s : State) (e : FErr) : Nat := if e.1 = 1 ∨ e.1 = 2 ∨ e.1 = 4 then e.2 else fld s.free 3 0

/-- What a block judged short, long or damaged leaves (R235). -/
def State.loupeBad (s : State) (n block : Nat) (e : FErr) : State := (s.lpeInfo n e.1 (s.lpeSub e) block).cBump n Reg.lpeCntDataflt

/-- Decodes the next block of a request of core `n` (R231-R235): the block, or the fault code with the state that records it. A raw block is not
checked; an index entry with a reserved bit is rejected as FACET_INDEX (R443). -/
def State.loupeBlock (s : State) (n : Nat) (r : LoupeReq) : State × Except Nat (List Byte) :=
  let rs := [(r.lo, r.hi)]
  match s.engRead n 1 rs (64 * r.line + 4 * r.next) 4 with
  | (s, .error e) => (s, .error e)
  | (s, .ok bs) =>
    let w := w32 (leNat bs)
    let len32 := fld w 25 18
    let s := s.cBump n Reg.lpeCntInlines
    if !(flag w 31) || fld w 29 28 != 0 then (s.lpeInfo n 0 (fld s.free 3 0) r.next, .error codeFacetIndex)
    else
      let len := if flag w 30 then 4096 else 32 * len32
      match s.engRead n 1 rs (64 * (r.line + fld w 17 0)) len with
      | (s, .error e) => (s, .error e)
      | (s, .ok raw) =>
        let s := s.cBump n Reg.lpeCntInlines (ceilDiv len 64)
        if flag w 30 then (s.cBump n Reg.lpeCntRawblk, .ok raw)
        else
          match (if fld w 27 26 = r.fmt then fctDecode r.fmt len32 raw else .error (3, 0)) with
          | .error e => (s.loupeBad n r.next e, .error codeData)
          | .ok bs =>
            let s := s.cBump n Reg.lpeCntBlocks
            (if fctSlow raw then s.cBump n Reg.lpeCntSlowblk else s, .ok bs)

/-- Decodes the next block of a refill, out of the packed area read from the save area (R230, R311): the block, or SAVE. -/
def State.refillBlock (s : State) (n : Nat) (r : LoupeReq) : State × Except Nat (List Byte) :=
  let w := w32 (leNat ((r.pack.drop (4 * r.next)).take 4))
  let body := r.pack.drop (64 * fld w 17 0)
  let len := if flag w 30 then 4096 else 32 * fld w 25 18
  if !(flag w 31) || fld w 29 28 != 0 || decide (body.length < len) then (s.lpeInfo n 0 (fld s.free 3 0) r.next, .error codeSave)
  else
    let s := s.cBump n Reg.lpeCntInlines (1 + ceilDiv len 64)
    if flag w 30 then (s.cBump n Reg.lpeCntRawblk, .ok (body.take 4096))
    else match (if fld w 27 26 = r.fmt then fctDecode r.fmt (fld w 25 18) (body.take len) else .error (3, 0)) with
      | .error e => (s.loupeBad n r.next e, .error codeSave)
      | .ok bs =>
        let s := s.cBump n Reg.lpeCntBlocks
        (if fctSlow body then s.cBump n Reg.lpeCntSlowblk else s, .ok bs)

/-- The target plane of the load being executed is invalid (R121). -/
def Core.badPlane (c : Core) : Core :=
  if c.front = 0 then { c with plane0 := { c.plane0 with valid := false } } else { c with plane1 := { c.plane1 with valid := false } }

/-- The release of a decoded block: to an EXPAND, its bytes land through port 4 in the command's write range (R225, R235); in a refill, in the
range restored (R311); else they wait for the matrix engine. Its fault, if any. -/
def State.loupeLand (s : State) (n : Nat) (r : LoupeReq) (bs : List Byte) : State × Option Nat :=
  if r.req = 2 then s.spadWrite n 4 (64 * r.line + 4096 * r.next) bs
  else if r.req = 0 then (s, none)
  else match (s.core n).sxA.find? (fun d => d.seq == r.seq) with
    | some d => s.engWrite n 4 d.wrs (4 * d.wr 0 + 4096 * r.next) bs
    | none => (s, none)

/-- A request of which a block has been released: a refill's ends with its last block. -/
def LoupeReq.released (r : LoupeReq) (bs : List Byte) : List LoupeReq :=
  if r.req = 2 ∧ r.blocks ≤ r.next + 1 then [] else [{ r with next := r.next + 1, out := if r.req = 0 then r.out ++ bs else [] }]

/-- LOUPE_BLOCK_DECODE: the Loupe decodes one block of the requester whose turn it is, and releases it (R230, R233); a bad block faults and
releases nothing (R235). -/
def State.doLoupeBlockDecode (s : State) (n : Nat) : State :=
  let c := s.core n
  match arbitrate c.loupeOrder (fun q => c.loupe.any (fun r => r.req == q && decide (r.next < r.blocks))) with
  | none => s
  | some (q, order) =>
    match c.loupe.find? (fun r => r.req == q && decide (r.next < r.blocks)) with
    | none => s
    | some r =>
      let s := s.modCore n (fun c => { c with loupeOrder := order })
      let va := (((s.core n).mxA ++ (s.core n).sxA).find? (fun d => d.seq == r.seq && q != 2)).elim (s.core n).curSl.pc Cmd.va
      match (if q = 2 then s.refillBlock n r else s.loupeBlock n r) with
      | (s, .error code) =>
        let s := s.coreFault n code va
        if q = 0 ∧ (c.mxA.any (fun d => d.seq == r.seq && d.op == opMxLoad)) then s.modCore n Core.badPlane else s
      | (s, .ok bs) =>
        match s.loupeLand n r bs with
        | (s, some code) => s.coreFault n code va
        | (s, none) =>
          s.modCore n (fun c => { c with loupe := c.loupe.flatMap (fun x => if x.seq = r.seq ∧ x.req = q then x.released bs else [x]) })

/-- Bytes of a decoded stream; `maxBlock` is the highest block read before. FACET_ORDER when a block before the two most recent ones is
needed (R231): the bytes and the highest block, or nothing. -/
def loupeRead (out : List Byte) (maxBlock a len : Nat) : Option (List Byte × Nat) :=
  if len = 0 then some ([], maxBlock)
  else if a / 4096 + 1 < maxBlock then none
  else some ((out.drop a).take len, max maxBlock ((a + len - 1) / 4096))

end Sys2Proof.Machine
end

