-- ==== Sys2Proof/Machine/Matrix.lean ====
section
/-! DEFINITION. The matrix engine (R109-R136): MX_LOAD, MX_MATMUL, staging and the tile queue, and the array BIST. -/

namespace Sys2Proof.Machine

/-- MX_FORMAT (R133). -/
abbrev codeMxFormat : Nat := 0x10
/-- MX_ESCAPE. -/
abbrev codeMxEscape : Nat := 0x11
/-- MX_NOLOAD. -/
abbrev codeMxNoload : Nat := 0x12
/-- MX_INTESC. -/
abbrev codeMxIntesc : Nat := 0x13
/-- MX_PARITY. -/
abbrev codeMxParity : Nat := 0x14
/-- MX_BLOCK. -/
abbrev codeMxBlock : Nat := 0x15

/-- Bits of a weight element (R112). -/
def weightBits (fmt : Nat) : Nat := if fmt = 1 ∨ fmt = 2 then 4 else if 6 ≤ fmt then 16 else 8

/-- Bits of an activation element (R112, R122). -/
def actBits (afmt : Nat) : Nat := if 3 ≤ afmt then 16 else 8

/-- The `count` elements of `w` bits from byte list `bs`, lower-indexed element in the lower bits (R112). -/
def unpackBits (w count : Nat) (bs : List Byte) : List Nat :=
  if w = 4 then (List.range count).map (fun i => bits (bs.getD (i / 2) 0).toNat (4 * (i % 2)) 4)
  else (List.range count).map (fun i => leNat ((bs.drop (w / 8 * i)).take (w / 8)))

/-- MX_FAULT_INFO (R135): detail, column and span; column and span are free values where the check has none. (DESIGN CHOICE, log entry 23) -/
def State.mxInfo (s : State) (n detail : Nat) (pos : Option (Nat × Nat)) : State :=
  let p := pos.getD (fld s.free 23 16, fld s.free 1 0)
  (s.setReg (coreKey n Reg.mxFaultInfo) (w32 (detail * 2 ^ 28 + p.1 % 256 * 2 ^ 16 + p.2 % 4))).nextFree

/-- The plane in use: the one that the most recent MX_LOAD wrote (R110). -/
def Core.frontPlane (c : Core) : Plane := if c.front = 0 then c.plane0 else c.plane1

/-- Replaces the plane in use. -/
def Core.setFront (c : Core) (p : Plane) : Core := if c.front = 0 then { c with plane0 := p } else { c with plane1 := p }

/-- Ends the effect of the command that an engine runs: the active command is done. -/
def markDone (l : List Cmd) (seq : Nat) : List Cmd := l.map (fun d => if d.seq = seq then { d with done := true } else d)

/-- The MX command `seq` is done. -/
def Core.mxDone (c : Core) (seq : Nat) : Core := { (c.loupeEnd seq) with mxA := markDone c.mxA seq }

/-- Issues the head of the MX queue when it has the opcode, no hazard and MX accepts it (R94): it becomes active. -/
def State.mxIssue (s : State) (n op : Nat) (start : Core → Cmd → Core) : State :=
  let c := s.core n
  match c.issuable c.mxQ op with
  | some d => if c.live && c.mxFree then s.modCore n (fun c => start { c with mxQ := c.mxQ.drop 1, mxA := c.mxA ++ [d] } d) else s
  | none => s

/-- The active MX command of an opcode whose effect is not complete. -/
def Core.mxRunning (c : Core) (op : Nat) : Option Cmd := c.mxA.find? (fun d => d.op == op && !d.done)

/-! ### MX_LOAD (R110, R115-R121) -/

/-- The packed operand of MX_LOAD: requester format and blocks; none when it has none. -/
def loadFacet (d : Cmd) : Option (Nat × Nat) :=
  let w := d.o 1
  if flag w 25 then
    some (match fld w 31 28 with
      | 6 => 0 | 7 => 1 | 4 => 2 | _ => 3, ceilDiv (fld w 19 10 * fld w 9 0 * weightBits (fld w 31 28) / 8) 4096)
  else if flag w 24 then (if fld (d.o 3) 15 0 = 0 then none else some (0, ceilDiv (2 * fld (d.o 3) 15 0) 4096))
  else none

/-- What the issue of MX_LOAD changes: the target plane becomes the front one and invalid, and a packed operand is asked for (R110, R230). -/
def Core.loadStart (c : Core) (d : Cmd) : Core :=
  let c := { c with front := if c.firstLoad then 0 else 1 - c.front, firstLoad := false }
  let c := c.badPlane
  match loadFacet d with
  | some (f, k) => c.loupeAsk d.seq 0 f k (if flag (d.o 1) 25 then d.rds.getD 0 (0, 0) else d.rds.getD 2 (0, 0))
  | none => c

/-- Escapes of a column: reduction positions of the 0xF indices, ascending. -/
def escPositions (k : Nat) (elems : List Nat) (col : Nat) : List Nat := (List.range k).filter (fun i => elems.getD (col * k + i) 0 == 15)

/-- The first failing escape check (R119): detail, column and span. -/
def escCheck (k n total : Nat) (elems counts : List Nat) : Option (Nat × Option (Nat × Nat)) :=
  let spans := ceilDiv k 128
  let bad := (List.range (n * spans)).findSome? (fun x =>
    let col := x / spans
    let j := x % spans
    let cnt := counts.getD x 0
    let seen := ((escPositions k elems col).filter (fun i => i / 128 == j)).length
    if 8 < cnt then some (1, some (col, j)) else if cnt ≠ seen then some (2, some (col, j)) else none)
  match bad with
  | some b => some b
  | none => if counts.sum = total then none else some (3, none)

/-- Assigns the escape values, which are ordered by column and ascending position (R119). -/
def escAssign (k n : Nat) (elems vals : List Nat) : List (Nat × Nat × Nat) :=
  let pos := (List.range n).flatMap (fun col => (escPositions k elems col).map (fun i => (col, i)))
  pos.zipIdx.map (fun p => (p.1.1, p.1.2, vals.getD p.2 0))

/-- The bytes of side tables and escapes that MX_LOAD reads, in order: scales, codebooks, counts, escape values (R118, R119, R121). -/
def loadParts (d : Cmd) : List Nat :=
  let w := d.o 1
  let fmt := fld w 31 28
  let k := fld w 19 10
  let n := fld w 9 0
  let g := groupLen (fld w 27 26)
  [if g = 0 then 0 else n * (k / g), if fmt = 2 then n * 16 else if fmt = 3 then 256 else 0, if fmt = 2 then n * ceilDiv k 128 else 0,
   if fmt = 2 then 2 * fld (d.o 3) 15 0 else 0]

/-- A part of a load is delivered, at 512 B a cycle (R121, R136). -/
def State.loadCyc (s : State) (n bytes : Nat) : State := if bytes = 0 then s else s.cBump n Reg.mxCntLoadcyc (ceilDiv bytes 512)

/-- A part of a load that the scratchpad delivers. -/
def State.loadPart (s : State) (n : Nat) (rs : List (Nat × Nat)) (a len : Nat) : State × Except Nat (List Byte) :=
  match s.engRead n 0 rs a len with
  | (s, .error e) => (s, .error e)
  | (s, .ok bs) => (s.loadCyc n len, .ok bs)

/-- Reads consecutive parts of the side table, each from a 64 B boundary (R118). -/
def State.readSide (s : State) (n : Nat) (rs : List (Nat × Nat)) : (a : Nat) → List Nat → State × Except Nat (List (List Byte))
  | _, [] => (s, .ok [])
  | a, len :: r =>
    match s.loadPart n rs a len with
    | (s, .error e) => (s, .error e)
    | (s, .ok bs) =>
      match State.readSide s n rs (a + alignUp len 64) r with
      | (s, .error e) => (s, .error e)
      | (s, .ok l) => (s, .ok (bs :: l))

/-- A faulting load: its target plane stays invalid (R119, R120). -/
def State.loadFault (s : State) (n code va : Nat) : State := (s.coreFault n code va).modCore n Core.badPlane

/-- The effect of MX_LOAD once its packed operand has been decoded (R117-R121). -/
def State.runLoad (s : State) (n : Nat) (d : Cmd) (inj : Inject) : State :=
  let s := s.strike n inj
  let w := d.o 1
  let fmt := fld w 31 28
  let g := groupLen (fld w 27 26)
  let k := fld w 19 10
  let cols := fld w 9 0
  let total := fld (d.o 3) 15 0
  let koff := fld (d.o 2) 15 0
  if flag (d.o 2) 31 ∧ koff % g ≠ 0 then (s.mxInfo n 1 none).loadFault n codeMxBlock d.va
  else if flag (d.o 2) 31 ∧ koff / (16 * g) ≠ (koff + k - 1) / (16 * g) then (s.mxInfo n 2 none).loadFault n codeMxBlock d.va
  else
    let out := ((s.core n).loupeOf d.seq).map LoupeReq.out
    let dataLen := k * cols * weightBits fmt / 8
    let escLen := (loadParts d).getD 3 0
    let rd0 : State × Except Nat (List Byte) :=
      if flag w 25 then (s.loadCyc n dataLen, .ok ((out.getD []).take dataLen)) else s.loadPart n d.rds (4 * d.rd 0) dataLen
    match rd0 with
    | (s, .error e) => s.loadFault n e d.va
    | (s, .ok data) =>
      match s.readSide n d.rds (4 * d.rd 1) ((loadParts d).take 3) with
      | (s, .error e) => s.loadFault n e d.va
      | (s, .ok side) =>
        let rdE : State × Except Nat (List Byte) :=
          if flag w 24 then (s.loadCyc n escLen, .ok (out.getD [])) else s.loadPart n d.rds (4 * d.rd 2) escLen
        match rdE with
        | (s, .error e) => s.loadFault n e d.va
        | (s, .ok ebs) =>
          let elems := unpackBits (weightBits fmt) (k * cols) data
          let counts := (side.getD 2 []).map BitVec.toNat
          match (if fmt = 2 then escCheck k cols total elems counts else none) with
          | some (detail, pos) => (s.mxInfo n detail pos).loadFault n codeMxEscape d.va
          | none =>
            let escs := if fmt = 2 then escAssign k cols elems (unpackBits 16 total ebs) else []
            let emax := ((List.range cols).map (fun col => (escs.filter (fun e => e.1 == col)).length)).foldl max 0
            let p : Plane :=
              { valid := true, fmt := fmt, gsize := fld w 27 26, k := k, n := cols, elems := elems
                scales := (side.getD 0 []).map BitVec.toNat, books := (side.getD 1 []).map BitVec.toNat, escs := escs, emax := emax
                escTotal := total }
            s.modCore n (fun c => ({ c.setFront p with loaded := true }).mxDone d.seq)

/-- MX_LOAD at the dispatcher, at issue, and its effect (R115). -/
def State.doMxLoad (s : State) (n : Nat) (inj : Inject) : State :=
  let s := s.dispatch n opMxLoad okHere okHere
  let s := s.mxIssue n opMxLoad Core.loadStart
  match (s.core n).mxRunning opMxLoad with
  | some d => if (loadFacet d).isNone || (s.core n).loupeReady d.seq then s.runLoad n d inj else s
  | none => s

/-! ### MX_MATMUL (R114, R122-R127) -/

/-- The value of an integer or codebook weight of a plane: the escape index adds 0 (R124). -/
def Plane.weight (p : Plane) (col k : Nat) : Int :=
  let x := p.elems.getD (col * p.k + k) 0
  match p.fmt with
  | 0 => sint 8 x
  | 1 => sint 4 x
  | 2 => if x = 15 then 0 else sint 8 (p.books.getD (16 * col + x) 0)
  | _ => sint 8 (p.books.getD x 0)

/-- The value of a floating weight element. -/
def Plane.weightF (p : Plane) (col k : Nat) : Fp :=
  let x := p.elems.getD (col * p.k + k) 0
  match p.fmt with
  | 4 => decE4m3 x
  | 5 => decIeee 5 2 x
  | 6 => decIeee 8 7 x
  | _ => decIeee 5 10 x

/-- The value of a floating activation element (R122). -/
def actF (afmt x : Nat) : Fp :=
  match afmt with
  | 1 => decE4m3 x
  | 2 => decIeee 5 2 x
  | 3 => decIeee 8 7 x
  | _ => decIeee 5 10 x

/-- An exact value added to an FP32 accumulator with one rounding. -/
def accAdd (acc : Word) (x : Fp) : Word := enc32 ((dec32 acc).add x)

/-- The scale of group `g` as an exact value: 1 where the group scales are absent (R125). -/
def groupScale (codes : List Nat) (has : Bool) (i : Nat) : Fp := if has then s8Val (codes.getD i 0) else .fin false 1 0

/-- The exact integer of a group (R124). -/
def Plane.groupSum (p : Plane) (acts : List Int) (col lo len : Nat) : Int :=
  ((List.range len).map (fun i => acts.getD (lo + i) 0 * p.weight col (lo + i))).sum

/-- The result of an integer or codebook plane in FP32 (R124, R125). -/
def Plane.dotInt (p : Plane) (acts : List Int) (sa : List Nat) (col : Nat) : Word :=
  let has := p.gsize != 3
  let g := if has then groupLen p.gsize else p.k
  let escs := p.escs.filter (fun e => e.1 == col)
  (List.range (p.k / g)).foldl (fun acc i =>
    let a := groupScale sa has i
    let c := a.mul (groupScale p.scales has (col * (p.k / g) + i))
    let t := dec32 (enc32 ((fpOfInt (p.groupSum acts col (g * i) g)).mul c))
    (escs.filter (fun e => decide (g * i ≤ e.2.1 ∧ e.2.1 < g * i + g))).foldl (fun acc e =>
      accAdd acc (((fpOfInt (acts.getD e.2.1 0)).mul a).mul (decIeee 8 7 e.2.2))) (accAdd acc t)) 0

/-- The result of a floating plane (R126). -/
def Plane.dotF (p : Plane) (acts : List Fp) (col : Nat) : Word :=
  (List.range (p.k / 16)).foldl (fun acc c =>
    accAdd acc (chunkSum ((List.range 16).map (fun i => (acts.getD (16 * c + i) .nan).mul (p.weightF col (16 * c + i)))))) 0

/-- The results of one activation row (R124-R126). -/
def Plane.row (p : Plane) (afmt : Nat) (int32 : Bool) (els sa : List Nat) : List Word :=
  if intFormat p.fmt then
    let acts := els.map (sint 8)
    (List.range p.n).map (fun col => if int32 then BitVec.ofInt 32 (p.groupSum acts col 0 p.k) else p.dotInt acts sa col)
  else (List.range p.n).map (p.dotF (els.map (actF afmt)))

/-- Whether the activation format suits the weight format (R114). -/
def formatPair (fmt afmt : Nat) : Bool :=
  if fmt ≤ 3 then afmt == 0 else if fmt ≤ 5 then afmt == 1 || afmt == 2 else if fmt = 6 then afmt == 3 else afmt == 4

/-- The check of MX_MATMUL at issue against the plane in use (R111, R114, R122, R125): the fault, if any. -/
def matmulCheck (c : Core) (d : Cmd) : Option Nat :=
  let p := c.frontPlane
  let acc := fld (d.o 1) 27 26
  if !c.loaded then some codeMxNoload
  else if !(formatPair p.fmt (fld (d.o 1) 31 28)) ∨ (d.rds.length = 2) ≠ (p.gsize ≠ 3) ∨ (acc = 1 ∧ (p.gsize ≠ 3 ∨ 4 ≤ p.fmt)) then
    some codeMxFormat
  else if acc = 1 ∧ p.fmt = 2 ∧ p.escTotal ≠ 0 then some codeMxIntesc
  else none

/-- The blocks that a packed activation operand takes: up to the last byte that the rows need (R231). -/
def matmulBlocks (d : Cmd) (k : Nat) : Nat :=
  let w := d.o 1
  let m := fld w 15 0
  let eb := actBits (fld w 31 28) / 8
  let st := 4 * fld (d.o 2) 21 0
  ceilDiv (if flag w 24 then (k - 1) * st + m * eb else (m - 1) * st + k * eb) 4096

/-- The start of MX_MATMUL: asks for its packed operand. -/
def Core.matmulStart (c : Core) (d : Cmd) : Core :=
  if flag (d.o 1) 25 then
    let f := match fld (d.o 1) 31 28 with
      | 1 => 2 | 2 => 3 | 3 => 0 | _ => 1
    c.loupeAsk d.seq 0 f (matmulBlocks d c.frontPlane.k) (d.rds.getD 0 (0, 0))
  else c

/-- The rows that one read brings (R123, R168): with TRANS, as many as 16 words of a run hold elements, for a run is read whole into the transpose
buffer of 64 runs of 16 words; else 8, which strided requests take together. (DEDUCED, log entry 81) -/
def rowGroup (trans : Bool) (eb : Nat) : Nat := if trans then 64 / eb else 8

/-- Where the bytes of rows `r` to `r + k - 1` lie, relative to START: runs of (byte offset, length) (R123). -/
def rowRuns (trans : Bool) (stride kk eb r k : Nat) : List (Nat × Nat) :=
  if trans then (List.range kk).map (fun i => (4 * stride * i + eb * r, k * eb)) else (List.range k).map (fun i => (4 * stride * (r + i), kk * eb))

/-- The elements of the rows in a read's runs, row by row (R123). -/
def rowElems (trans : Bool) (eb kk k : Nat) (runs : List (List Byte)) : List (List Nat) :=
  let xs := runs.map (unpackBits (8 * eb) (if trans then k else kk))
  if trans then (List.range k).map (fun i => xs.map (fun l => l.getD i 0)) else xs

/-- Reads runs of a decoded stream in order; the highest block read comes with them. -/
def streamRuns (out : List Byte) : (maxBlock : Nat) → List (Nat × Nat) → Option (List (List Byte) × Nat)
  | m, [] => some ([], m)
  | m, x :: r =>
    match loupeRead out m x.1 x.2 with
    | none => none
    | some (bs, m) => (streamRuns out m r).map (fun y => (bs :: y.1, y.2))

/-- Reads rows `r` to `r + k - 1`: their elements, and the highest block of a packed operand read so far (R123, R231). -/
def State.readRows (s : State) (n : Nat) (d : Cmd) (p : Plane) (out : Option (List Byte)) (mb r k : Nat) :
    State × Except Nat (List (List Nat) × Nat) :=
  let w := d.o 1
  let eb := actBits (fld w 31 28) / 8
  let runs := rowRuns (flag w 24) (fld (d.o 2) 21 0) p.k eb r k
  match out with
  | some o => (match streamRuns o mb runs with
    | some x => (s, .ok (rowElems (flag w 24) eb p.k k x.1, x.2))
    | none => (s.lpeInfo n 0 (fld s.free 3 0) mb, .error codeFacetOrder))
  | none => (match s.engRuns n 0 d.rds (runs.map (fun x => (4 * d.rd 0 + x.1, x.2))) with
    | (s, .ok bs) => (s, .ok (rowElems (flag w 24) eb p.k k bs, mb))
    | (s, .error e) => (s, .error e))

/-- Reads the scale rows of rows `r` to `r + k - 1` (R123). -/
def State.readScales (s : State) (n : Nat) (d : Cmd) (p : Plane) (r k : Nat) : State × Except Nat (List (List Nat)) :=
  if p.gsize = 3 then (s, .ok (List.replicate k []))
  else match s.engRuns n 0 d.rds ((List.range k).map (fun i => (4 * (d.rd 1 + (r + i) * fld (d.o 3) 21 0), p.k / groupLen p.gsize))) with
    | (s, .ok bs) => (s, .ok (bs.map (fun l => l.map BitVec.toNat)))
    | (s, .error e) => (s, .error e)

/-- A row enters the array (R132, R136): it is counted, with the cycles that escapes add. -/
def State.enterRow (s : State) (n : Nat) (p : Plane) : State :=
  let s := s.cBump n Reg.mxCntRows
  if p.fmt = 2 ∧ 8 < p.emax then s.cBump n Reg.mxCntEscstall (ceilDiv p.emax 8 - 1) else s

/-- Rows that have been read enter the array one by one: their results; a parity error of the plane stops at its row (R134). -/
def State.enterRows (s : State) (n : Nat) (d : Cmd) (p : Plane) (par : Option Nat) : (r : Nat) → List (List Nat × List Nat) → State × Option (List (List Word))
  | _, [] => (s, some [])
  | r, x :: l =>
    let t := s.enterRow n p
    if par = some r then (t, none)
    else
      let (u, rest) := State.enterRows t n d p par (r + 1) l
      (u, rest.map (p.row (fld (d.o 1) 31 28) (fld (d.o 1) 27 26 == 1) x.1 x.2 :: ·))

/-- The rows `r` to `r + left - 1` of MX_MATMUL, read group by group: their results and the highest block read, or the fault that ends them. -/
def State.matmulRows (s : State) (n : Nat) (d : Cmd) (p : Plane) (out : Option (List Byte)) (par : Option Nat) :
    (fuel left mb r : Nat) → State × Except Nat (List (List Word) × Nat)
  | 0, _, mb, _ => (s, .ok ([], mb))
  | fuel + 1, left, mb, r =>
    if left = 0 then (s, .ok ([], mb))
    else
      let k := min left (rowGroup (flag (d.o 1) 24) (actBits (fld (d.o 1) 31 28) / 8))
      match s.readRows n d p out mb r k with
      | (s, .error e) => (s, .error e)
      | (s, .ok (els, mb)) =>
        match s.readScales n d p r k with
        | (s, .error e) => (s, .error e)
        | (s, .ok sas) =>
          match s.enterRows n d p par r (els.zip sas) with
          | (s, none) => (s, .error codeMxParity)
          | (s, some ws) =>
            match State.matmulRows s n d p out par fuel (left - k) mb (r + k) with
            | (s, .error e) => (s, .error e)
            | (s, .ok (l, mb)) => (s, .ok (ws ++ l, mb))

/-- A tile of the results of row block `rb` (R129). -/
def tileOf (rows : List (List Word)) (m cols tag rb cb : Nat) (int32 : Bool) : Tile :=
  let last := rb + 1 = ceilDiv m 16 ∧ cb + 1 = ceilDiv cols 16
  { w0 := w32 (tag * 2 ^ 16 + b2n int32 * 2 ^ 15 + b2n (decide last) * 2 ^ 14 + min 16 (m - 16 * rb) * 32 + min 16 (cols - 16 * cb))
    w1 := w32 (rb * 16 + cb)
    el := (List.range 256).map (fun e => (rows.getD (e / 16) []).getD (16 * cb + e % 16) 0) }

/-- The tiles of row block `rb` in push order (R129). -/
def tilesOf (rows : List (List Word)) (m cols tag rb : Nat) (int32 : Bool) : List Tile :=
  (List.range (ceilDiv cols 16)).map (fun cb => tileOf rows m cols tag rb cb int32)

/-- What a parity error of the plane leaves (R134). -/
def State.mxParity (s : State) (n : Nat) : State :=
  let c := s.core n
  let s := s.setReg (coreKey n Reg.mxErr) (w32 (256 * c.front + 1))
  (s.modCore n (fun c => { c with plane0 := { c.plane0 with valid := false }, plane1 := { c.plane1 with valid := false } })).cBump n
    Reg.mxCntParity

/-- The MX command `seq` has come further: rows entered, highest block read. -/
def Core.mxAt (c : Core) (seq prog mark : Nat) : Core := { c with mxA := c.mxA.map (fun d => if d.seq = seq then { d with prog := prog, mark := mark } else d) }

/-- The rows of MX_MATMUL from its next one on (R122-R129): a row enters only while one of the two staging buffers of 16 rows has room for it, and
a full buffer, or that of the last row, is cut into tiles (R128). `fuel` bounds the row blocks. -/
def State.runMatmul (s : State) (n : Nat) (inj : Inject) : (fuel : Nat) → (d : Cmd) → State
  | 0, _ => s
  | fuel + 1, d =>
    let c := s.core n
    let p := c.frontPlane
    let w := d.o 1
    let m := fld w 15 0
    let rb := d.prog / 16
    if 2 ≤ c.buffers ∨ m ≤ d.prog then s
    else
      let out := if flag w 25 then (c.loupeOf d.seq).map LoupeReq.out else none
      let par := match inj with
        | .planeParity r => some r
        | _ => none
      match s.matmulRows n d p out par 16 (min 16 (m - 16 * rb)) d.mark (16 * rb) with
      | (s, .error e) =>
        let s := if e = codeMxParity then (s.mxParity n).mxInfo n 0 none else s
        s.coreFault n e d.va
      | (s, .ok (rows, mb)) =>
        let s := s.modCore n (fun c => ({ c with
          staging := c.staging ++ (tilesOf rows m p.n (fld (d.o 4) 15 0) rb (fld w 27 26 == 1)).map (fun t => (d.seq, t)) }).mxAt d.seq (16 * rb + 16) mb)
        if m ≤ 16 * rb + 16 then s.modCore n (fun c => c.mxDone d.seq)
        else State.runMatmul s n inj fuel { d with prog := 16 * rb + 16, mark := mb }

/-- The running MX_MATMUL goes on while staging has room, once its packed operand has been decoded. -/
def State.stepMatmul (s : State) (n : Nat) (inj : Inject) : State :=
  match (s.core n).mxRunning opMxMatmul with
  | some d => if !(flag (d.o 1) 25) || (s.core n).loupeReady d.seq then (s.strike n inj).runMatmul n inj 2 d else s
  | none => s

/-- MX_MATMUL at the dispatcher, at issue with its checks, and its effect (R122). -/
def State.doMxMatmul (s : State) (n : Nat) (inj : Inject) : State :=
  let s := s.dispatch n opMxMatmul okHere okHere
  let c := s.core n
  match (if c.live && c.mxFree then c.issuable c.mxQ opMxMatmul else none) with
  | some d =>
    match matmulCheck c d with
    | some e => (s.mxInfo n 0 none).coreFault n e d.va
    | none =>
      let s := s.mxIssue n opMxMatmul Core.matmulStart
      if flag (d.o 1) 25 then s else s.stepMatmul n inj
  | none => s.stepMatmul n inj

/-! ### The tile queue (R128-R131) -/

/-- Tiles of the oldest full staging buffer enter the tile queue while it has room (R129, R130). -/
def Core.pushTiles (c : Core) : Core :=
  match c.staging with
  | [] => c
  | t :: _ =>
    let buf := c.staging.takeWhile (fun x => x.1 == t.1 && fld x.2.w1 15 4 == fld t.2.w1 15 4)
    let k := min buf.length (16 - c.tileQ.length)
    { c with tileQ := c.tileQ ++ (buf.take k).map Prod.snd, staging := c.staging.drop k }

/-- TILE_PUSH: tiles of the oldest full staging buffer enter the tile queue, and rows that waited for a staging buffer enter the array (R128-R130). -/
def State.doTilePush (s : State) (n : Nat) : State := (s.modCore n Core.pushTiles).stepMatmul n .none

/-! ### The array BIST (R134, R135) -/

/-- MX_BIST: starts the array BIST on an idle core; DONE falls until it ends (R135). (DEDUCED, log entry 27) -/
def State.doMxBist (s : State) (n : Nat) : State :=
  if (s.core n).idle then (s.modCore n (fun c => c.startTest 1 0)).clrReg (coreKey n Reg.mxBist) 0x40000000 else s

/-- What the end of the array BIST leaves: DONE, PASS, both planes invalid (R135). -/
def State.endMxBist (s : State) (n : Nat) (pass : Bool) : State :=
  (s.modCore n (fun c => { c.endTest 1 with
    plane0 := { c.plane0 with valid := false }, plane1 := { c.plane1 with valid := false } })).setReg (coreKey n Reg.mxBist)
      (w32 (2 ^ 30 + b2n pass * 2 ^ 29))

end Sys2Proof.Machine
end

