-- ==== Sys2Proof/Machine/Vector.lean ====
section
/-! DEFINITION. The vector engine (R137-R164): tile registers, VX_CHAIN, VX_REDUCE, VX_SCAN, VX_LOAD, VX_STORE, and the register march test. -/

namespace Sys2Proof.Machine

/-- VX_PARITY (R161). -/
abbrev codeVxParity : Nat := 0x20

/-! ### Tile registers (R137-R140) -/

/-- Element `e` of register `t` as a read returns it: 0 while WSS is 0 (R139). -/
def Core.treg (c : Core) (t e : Nat) : Word := if c.wss.getLsbD t then mgetD c.tregs (256 * t + e) 0 else 0

/-- Element `e` of the group at `base` (R138). -/
def Core.group (c : Core) (base e : Nat) : Word := c.treg (base + e / 256) (e % 256)

/-- Writes elements of one register: the first write to a register whose WSS is 0 zeroes the elements it does not cover (R139). -/
def Core.putTreg (c : Core) (t : Nat) (es : List (Nat × Word)) : Core :=
  let m := if c.wss.getLsbD t then c.tregs else mclear c.tregs (256 * t) (256 * t + 256)
  { c with wss := c.wss ||| bit32 t, tregs := es.foldl (fun m e => mputD 0 m (256 * t + e.1) e.2) m }

/-- Writes all 256 elements of a register. -/
def Core.fillTreg (c : Core) (t : Nat) (f : Nat → Word) : Core := c.putTreg t ((List.range 256).map (fun e => (e, f e)))

/-- A pass enters and reads registers: passes and reads of unwritten registers are counted (R139, R164). (DEDUCED, log entry 27) -/
def State.enterPass (s : State) (n : Nat) (regs : List Nat) : State :=
  let u := (regs.dedup.filter (fun t => !((s.core n).wss.getLsbD t))).length
  let s := s.cBump n Reg.vxCntPasses
  if u = 0 then s else s.cBump n Reg.vxCntUnwritten u

/-- A parity error of a register (R162). -/
def State.vxParity (s : State) (n reg va : Nat) : State :=
  ((s.setReg (coreKey n Reg.vxErr) (w32 (256 * (reg % 32) + 1))).cBump n Reg.vxCntParity).coreFault n codeVxParity va

/-- The register whose parity fails in a pass, when the pass reads it (R162). -/
def parityAt (inj : Inject) (pass : Nat) (regs : List Nat) : Option Nat :=
  match inj with
  | .regParity r p => if p = pass ∧ regs.contains r then some r else none
  | _ => none

/-- The VX command `seq` is done. -/
def Core.vxDone (c : Core) (seq : Nat) : Core := { c with vxA := markDone c.vxA seq }

/-- Issues the head of the VX queue when it has the opcode, no hazard and VX accepts it (R94). -/
def State.vxIssue (s : State) (n op : Nat) : State :=
  let c := s.core n
  match c.issuable c.vxQ op with
  | some d => if c.live && c.vxFree then s.modCore n (fun c => { c with vxQ := c.vxQ.drop 1, vxA := c.vxA ++ [d] }) else s
  | none => s

/-- The active VX command of an opcode whose effect is not complete. -/
def Core.vxRunning (c : Core) (op : Nat) : Option Cmd := c.vxA.find? (fun d => d.op == op && !d.done)

/-! ### Operations (R147, R148, R150) -/

/-- CMP (R148). -/
def cmpHolds (code : Nat) (d : Option Int) : Bool :=
  match d with
  | none => code == 1
  | some x =>
    match code with
    | 0 => x == 0
    | 1 => x != 0
    | 2 => decide (x < 0)
    | 3 => decide (x ≤ 0)
    | 4 => decide (0 < x)
    | _ => decide (0 ≤ x)

/-- The order of two signed integers. -/
def icmp (a b : Word) : Int := if a.toInt < b.toInt then -1 else if a = b then 0 else 1

/-- One operation with TYPE FP32 (R148); WFMA is computed apart. -/
def chainFp (op cmp : Nat) (a b c : Word) : Word :=
  match op with
  | 0x01 => a
  | 0x02 => fadd a b
  | 0x03 => fsub a b
  | 0x04 => fmul a b
  | 0x05 => ffma a b c
  | 0x06 => fmin a b
  | 0x07 => fmax a b
  | 0x08 => if cmpHolds cmp ((dec32 a).cmp (dec32 b)) then 0x3F800000 else 0
  | 0x09 => if c = 0 then b else a
  | _ => cvti a

/-- One operation with TYPE INT32 (R148). -/
def chainInt (op cmp : Nat) (a b c : Word) : Word :=
  match op with
  | 0x01 => a
  | 0x02 => a + b
  | 0x03 => a - b
  | 0x04 => a * b
  | 0x05 => a * b + c
  | 0x06 => if icmp a b ≤ 0 then a else b
  | 0x07 => if 0 ≤ icmp a b then a else b
  | 0x08 => if cmpHolds cmp (some (icmp a b)) then 1 else 0
  | 0x09 => if c = 0 then b else a
  | 0x0A => a &&& b
  | 0x0B => a ||| b
  | 0x0C => a ^^^ b
  | 0x0D => a <<< (b.toNat % 32)
  | 0x0E => a >>> (b.toNat % 32)
  | 0x0F => a.sshiftRight (b.toNat % 32)
  | _ => enc32 (fpOfInt a.toInt)

/-! ### VX_CHAIN (R141-R146) -/

/-- What one element meets: its tile and position, X and Y, and how a stage reads register R. -/
structure ElemIn where
  x : Word
  y : Word
  r : Stage → Word

/-- The element of register R that a stage reads at tile `t`, position `e` (R142). -/
def Core.stageR (c : Core) (t e : Nat) (st : Stage) : Word :=
  match st.bcast with
  | 0 => c.treg (st.sreg + t) e
  | 1 => c.treg st.sreg (e / 16 * 16)
  | 2 => c.treg (st.sreg + t) (e % 16)
  | _ => c.treg st.sreg 0

/-- The value of a selector (R142); `res` holds the results of the stages so far. -/
def selValue (i : ElemIn) (h0 h1 : Nat) (res : List Word) (st : Stage) (sel : Nat) : Word :=
  match sel with
  | 0 => res.getLastD i.x
  | 1 => i.x
  | 2 => i.y
  | 3 => i.r st
  | 4 => if st.imode then widenBf16 (fld st.imm 31 16) else st.imm
  | 5 => res.getD h0 0
  | 6 => res.getD h1 0
  | _ => widenBf16 (fld st.imm 15 0)

/-- The results of the stages on one element, and the low word of WFMA (R141, R148, R150). -/
def chainElem (i : ElemIn) (h0 h1 : Nat) (sts : List Stage) : List Word × Word :=
  sts.foldl (fun (x : List Word × Word) st =>
    let v (j : Nat) := selValue i h0 h1 x.1 st (st.sel.getD j 0)
    if st.op = opWfma then
      let w := wfma (v 0) (v 1) i.y (v 2) 0
      (x.1 ++ [w.1], w.2)
    else (x.1 ++ [if st.int then chainInt st.op st.cmp (v 0) (v 1) (v 2) else chainFp st.op st.cmp (v 0) (v 1) (v 2)], x.2)) ([], 0)

/-- Selectors that a stage uses. -/
def Stage.used (st : Stage) : List Nat := st.sel.take (chainArity st.op)

/-- The registers that pass `p` of a chain reads (R140, R142, R144). -/
def chainReads (d : Cmd) (p : Nat) : List Nat :=
  let w := d.o 1
  let v := d.o 2
  let sts := chainStages d.ops
  let useX := (sts.any (fun st => st.used.contains 1)) || ((sts.head?.map (fun st => st.used.contains 0)).getD false)
  let useY := sts.any (fun st => st.used.contains 2 || st.op == opWfma)
  let keep := flag v 20 && !(flag v 19)
  (if fld w 31 30 = 0 ∧ useX then [fld w 29 25 + p] else []) ++ (if useY then [fld w 23 19 + p] else []) ++
  (sts.filter (fun st => st.used.contains 3)).map (fun st => if st.bcast % 2 = 0 then st.sreg + p else st.sreg) ++
  (if flag v 20 then [fld v 18 14 + p] else []) ++ (if keep ∧ !(flag v 31) then [fld v 30 26 + p] else []) ++
  (if keep ∧ sts.any (fun st => st.op == opWfma) then [fld v 25 21 + p] else [])

/-- The runs of consecutive words among elements in ascending order: first byte and bytes (R168). -/
def wordRuns : List (Nat × Word) → List (Nat × List Byte)
  | [] => []
  | x :: r =>
    match wordRuns r with
    | y :: l => if y.1 = 4 * x.1 + 4 then (4 * x.1, natLe 4 x.2.toNat ++ y.2) :: l else (4 * x.1, natLe 4 x.2.toNat) :: y :: l
    | [] => [(4 * x.1, natLe 4 x.2.toNat)]

/-- Writes 32-bit elements to their words through port 3, within the command's write ranges; stops at the first fault. -/
def State.putWords (s : State) (n : Nat) (d : Cmd) (l : List (Nat × Word)) : State × Option Nat := s.engPut n 3 d.wrs (wordRuns l)

/-- Pops the head of the tile queue; its TAG and LAST go to VX_TAG (R143). -/
def Core.popTile (c : Core) : Core × Tile :=
  match c.tileQ with
  | t :: r => ({ c with tileQ := r, vxTag := w32 (b2n (flag t.w0 14) * 2 ^ 16 + fld t.w0 31 16) }, t)
  | [] => (c, default)

/-- The tile that a pass pops when its input is the tile queue, else an empty one (R143). -/
def State.passTile (s : State) (n : Nat) (pop : Bool) : State × Tile :=
  if pop then (s.modCore n (fun c => c.popTile.1), (s.core n).popTile.2) else (s, default)

/-- Pass `p` of a chain (R140-R144): the state after it, or the fault that ends the command with the passes before it standing. -/
def State.chainPass (s : State) (n : Nat) (d : Cmd) (inj : Inject) (p : Nat) : State × Option Nat :=
  let w := d.o 1
  let v := d.o 2
  let e0 := 256 * p
  let cnt := min 256 (chainE d.ops - e0)
  let regs := chainReads d p
  match parityAt inj p regs with
  | some r => ((s.enterPass n regs).vxParity n r d.va, some codeVxParity)
  | none =>
    let (s, tile) := s.passTile n (fld w 31 30 == 1)
    let rdX : State × Except Nat (List Byte) := if fld w 31 30 = 2 then s.engRead n 2 d.rds (4 * (d.rd 0 + e0)) (4 * cnt) else (s, .ok [])
    match rdX with
    | (s, .error e) => (s.coreFault n e d.va, some e)
    | (s, .ok bs) =>
      let s := s.enterPass n regs
      let c := s.core n
      let xs := wordsOf cnt bs
      let sts := chainStages d.ops
      let one (i : Nat) : List Word × Word :=
        let x := match fld w 31 30 with
          | 0 => c.treg (fld w 29 25 + p) i
          | 1 => wd tile.el i
          | _ => wd xs i
        chainElem ⟨x, if flag w 24 then c.treg (fld w 23 19 + p) i else 0, c.stageR p i⟩ (fld w 18 16) (fld w 15 13) sts
      let active (i : Nat) : Bool := !(flag v 20) || c.treg (fld v 18 14 + p) i != 0
      let res := (List.range cnt).map (fun i => (i, active i, one i))
      let outs (f : List Word × Word → Word) : List (Nat × Word) :=
        res.filterMap (fun x => if x.2.1 then some (x.1, f x.2.2) else if flag v 19 then some (x.1, (0 : Word)) else none)
      let hi := outs (fun y => y.1.getLastD 0)
      let s := if sts.any (fun st => st.op == opWfma) then s.modCore n (fun c => c.putTreg (fld v 25 21 + p) (outs Prod.snd)) else s
      if flag v 31 then
        match s.putWords n d (hi.map (fun x => (d.wr 0 + e0 + x.1, x.2))) with
        | (s, some e) => (s.coreFault n e d.va, some e)
        | (s, none) => (s, none)
      else (s.modCore n (fun c => c.putTreg (fld v 30 26 + p) hi), none)

/-- A pass of the store that pairs with a GEMM: the tile, or D + tile, to line D (R103). -/
def State.compatStorePass (s : State) (n : Nat) (d : Cmd) (p : Nat) : State × Option Nat :=
  let (s, tile) := s.passTile n true
  let rdD : State × Except Nat (List Byte) :=
    if d.o 2 = 1 then s.engRead n 2 d.rds (4 * (d.rd 0 + 256 * p)) 1024 else (s, .ok [])
  match rdD with
  | (s, .error e) => (s.coreFault n e d.va, some e)
  | (s, .ok bs) =>
    let old := wordsOf 256 bs
    let ws := (List.range 256).map (fun i =>
      let x := wd tile.el i
      if d.o 2 = 1 then (if d.o 3 = 1 then fadd (wd old i) x else wd old i + x) else x)
    match s.engWrite (n := n) 3 d.wrs (4 * (d.wr 0 + 256 * p)) (bytesOf ws) with
    | (s, some e) => (s.coreFault n e d.va, some e)
    | (s, none) => (s.enterPass n [], none)

/-- A pass of a VOP chain (R103): FP32 elements under BF16, INT32 otherwise. -/
def State.compatVopPass (s : State) (n : Nat) (d : Cmd) (p : Nat) : State × Option Nat :=
  let rd (s : State) (i : Nat) : State × Except Nat (List Byte) := s.engRead n 2 d.rds (4 * (d.rd i + 256 * p)) 1024
  let op := (d.o 2).toNat
  match rd s 0 with
  | (s, .error e) => (s.coreFault n e d.va, some e)
  | (s, .ok a) =>
    match rd s 1 with
    | (s, .error e) => (s.coreFault n e d.va, some e)
    | (s, .ok b) =>
      match (if op = 2 then rd s 2 else (s, .ok [])) with
      | (s, .error e) => (s.coreFault n e d.va, some e)
      | (s, .ok c) =>
        let (wa, wb, wc) := (wordsOf 256 a, wordsOf 256 b, wordsOf 256 c)
        let code := match op with
          | 0 => 0x02 | 1 => 0x04 | 2 => 0x05 | 3 => 0x07 | _ => 0x06
        let f := if d.o 3 = 1 then chainFp code 0 else chainInt code 0
        let ws := (List.range 256).map (fun i => f (wd wa i) (wd wb i) (wd wc i))
        match s.engWrite n 3 d.wrs (4 * (d.wr 0 + 256 * p)) (bytesOf ws) with
        | (s, some e) => (s.coreFault n e d.va, some e)
        | (s, none) => (s.enterPass n [], none)

/-- Whether a command's passes pop the tile queue. -/
def popsTiles (d : Cmd) : Bool := d.op == opCompatStore || (d.op == opVxChain && fld (d.o 1) 31 30 == 1)

/-- The passes of a chain. -/
def chainPasses (d : Cmd) : Nat := if d.op = opVxChain then chainT d.ops else (d.o 1).toNat

/-- Runs passes of a chain from `p` on while there is a tile for each that pops one (R143): the next pass, none after a fault. -/
def State.chainRun (s : State) (n : Nat) (d : Cmd) (inj : Inject) : (left p : Nat) → State × Option Nat
  | 0, p => (s, some p)
  | left + 1, p =>
    if popsTiles d && (s.core n).tileQ.isEmpty then (s, some p)
    else
      match (if d.op = opVxChain then s.chainPass n d inj p else if d.op = opCompatStore then s.compatStorePass n d p else s.compatVopPass n d p) with
      | (s, some _) => (s, none)
      | (s, none) => State.chainRun s n d inj left (p + 1)

/-- Runs the active chain as far as the tile queue lets it. -/
def State.runChain (s : State) (n : Nat) (d : Cmd) (inj : Inject) : State :=
  let t := chainPasses d
  match (s.strike n inj).chainRun n d inj (t - d.prog) d.prog with
  | (s, none) => s
  | (s, some p) =>
    if t ≤ p then s.modCore n (fun c => c.vxDone d.seq)
    else s.modCore n (fun c => { c with vxA := c.vxA.map (fun x => if x.seq = d.seq then { x with prog := p } else x) })

/-- The opcode of a chain of any kind. -/
def isChain (op : Nat) : Bool := op == opVxChain || op == opCompatStore || op == opCompatVop

/-- VX_CHAIN at the dispatcher, at issue, and its passes (R141). The chains of translated commands issue and run the same way (R103). -/
def State.doVxChain (s : State) (n : Nat) (inj : Inject) : State :=
  let s := s.dispatch n opVxChain okHere okHere
  let s := match (s.core n).vxQ with
    | d :: _ => if isChain d.op then s.vxIssue n d.op else s
    | [] => s
  match (s.core n).vxA.find? (fun d => isChain d.op && !d.done) with
  | some d => s.runChain n d inj
  | none => s

/-! ### VX_REDUCE (R151, R152) -/

/-- The value that a reduction carries: a pattern and its index (MAXI). -/
abbrev RVal := Word × Word

/-- The order of MAXI: a NaN above every number, -0 below +0 (R152). -/
def maxiCmp (int : Bool) (a b : Word) : Int :=
  if int then icmp a b
  else match dec32 a == .nan, dec32 b == .nan with
    | true, true => 0
    | true, false => 1
    | false, true => -1
    | false, false => (fltTotal a b).getD 0

/-- One node of a reduction (R152). -/
def redNode (op : Nat) (int : Bool) (a b : RVal) : RVal :=
  match op with
  | 0 => (if int then a.1 + b.1 else fadd a.1 b.1, 0)
  | 1 => (if int then (if 0 ≤ icmp a.1 b.1 then a.1 else b.1) else fmax a.1 b.1, 0)
  | 2 => (if int then (if icmp a.1 b.1 ≤ 0 then a.1 else b.1) else fmin a.1 b.1, 0)
  | _ =>
    let d := maxiCmp int a.1 b.1
    if 0 < d then a else if d < 0 then b else if a.2.toInt ≤ b.2.toInt then a else b

/-- A node with operands that may be absent. -/
def redOpt (op : Nat) (int : Bool) : Option RVal → Option RVal → Option RVal
  | some a, some b => some (redNode op int a b)
  | some a, none => some a
  | none, b => b

/-- One level of the pairwise tree. -/
def redLevel (op : Nat) (int : Bool) : List (Option RVal) → List (Option RVal)
  | a :: b :: r => redOpt op int a b :: redLevel op int r
  | l => l

/-- The partial of a tile's 16 positions (R152). -/
def redTile (op : Nat) (int : Bool) (l : List (Option RVal)) : Option RVal :=
  ((redLevel op int (redLevel op int (redLevel op int (redLevel op int l)))).head?).join

/-- The result of a line: its partials combined in ascending tile order. -/
def redLine (op : Nat) (int : Bool) (tiles : Nat) (f : Nat → Option RVal) : Option RVal :=
  ((List.range tiles).map (fun t => redTile op int ((List.range 16).map (fun j => f (16 * t + j))))).foldl (redOpt op int) none

/-- The element of a group at position `k` of line `i` along an axis (R138). -/
def Core.lineElem (c : Core) (base axis i k : Nat) : Word :=
  if axis = 0 then c.treg (base + k / 16) (16 * i + k % 16) else c.treg (base + k / 16) (16 * (k % 16) + i)

/-- The effect of VX_REDUCE (R152). -/
def State.runReduce (s : State) (n : Nat) (d : Cmd) (inj : Inject) : State :=
  let w := d.o 1
  let op := fld w 31 28
  let int := flag w 27
  let axis := fld w 26 26
  let acc := flag w 25
  let src := fld w 24 20
  let t := fld w 19 16 + 1
  let dst := fld w 15 11
  let reads (p : Nat) : List Nat := [src + p] ++ (if acc ∧ p + 1 = t then (if op = 3 then [dst, dst + 1] else [dst]) else [])
  match (List.range t).findSome? (fun p => (parityAt inj p (reads p)).map (fun r => (p, r))) with
  | some (p, r) => ((List.range (p + 1)).foldl (fun s q => s.enterPass n (reads q)) s).vxParity n r d.va
  | none =>
    let s := (List.range t).foldl (fun s q => s.enterPass n (reads q)) s
    let c := s.core n
    let line (i : Nat) : RVal :=
      let v := redLine op int t (fun k => if k < fld (d.o 3) 8 0 then some (c.lineElem src axis i k, w32 k + d.o 2) else none)
      let at' := if axis = 0 then 16 * i else i
      let old : Option RVal := if acc then some (c.treg dst at', if op = 3 then c.treg (dst + 1) at' else 0) else none
      (redOpt op int old v).getD (0, 0)
    let res := (List.range 16).map line
    let pick (f : RVal → Word) (e : Nat) : Word :=
      if axis = 0 then (if e % 16 = 0 then f (res.getD (e / 16) (0, 0)) else 0) else (if e < 16 then f (res.getD e (0, 0)) else 0)
    s.modCore n (fun c =>
      let c := c.fillTreg dst (pick Prod.fst)
      (if op = 3 then c.fillTreg (dst + 1) (pick Prod.snd) else c).vxDone d.seq)

/-- VX_REDUCE at the dispatcher, at issue, and its effect (R151). -/
def State.doVxReduce (s : State) (n : Nat) (inj : Inject) : State :=
  let s := (s.dispatch n opVxReduce okHere okHere).vxIssue n opVxReduce
  match (s.core n).vxRunning opVxReduce with
  | some d => s.runReduce n d inj
  | none => s

/-! ### VX_SCAN (R153-R155) -/

/-- An element of a scan: a value or the a component, and the b component with its low word. -/
structure SVal where
  a : Word
  b : Word
  l : Word
  deriving DecidableEq, Repr, Inhabited

/-- comb(earlier, later) of R154. -/
def scanComb (op : Nat) (int : Bool) (u v : SVal) : SVal :=
  match op with
  | 0 => { u with a := if int then u.a + v.a else fadd u.a v.a }
  | 1 => { u with a := fmul u.a v.a }
  | 2 => { u with a := if int then (if 0 ≤ icmp u.a v.a then u.a else v.a) else fmax u.a v.a }
  | 3 => { u with a := if int then (if icmp u.a v.a ≤ 0 then u.a else v.a) else fmin u.a v.a }
  | 4 => ⟨fmul v.a u.a, ffma v.a u.b v.b, 0⟩
  | _ =>
    let w := wfma v.a u.b u.l v.b v.l
    ⟨fmul v.a u.a, w.1, w.2⟩

/-- One level of the network at distance `dist`: values and flags (R154). -/
def scanLevel (op : Nat) (int : Bool) (dist : Nat) (y : List (SVal × Bool)) : List (SVal × Bool) :=
  y.zipIdx.map (fun e =>
    if dist ≤ e.2 ∧ !e.1.2 then
      let u := y.getD (e.2 - dist) default
      (scanComb op int u.1 e.1.1, u.2)
    else e.1)

/-- The scan of a line: levels at distances 1, 2, 4, ... below its length (R154). -/
def scanLine (op : Nat) (int : Bool) : (fuel dist : Nat) → List (SVal × Bool) → List (SVal × Bool)
  | 0, _, y => y
  | fuel + 1, dist, y => if y.length ≤ dist then y else scanLine op int fuel (2 * dist) (scanLevel op int dist y)

/-- The effect of VX_SCAN (R154). -/
def State.runScan (s : State) (n : Nat) (d : Cmd) (inj : Inject) : State :=
  let w := d.o 1
  let v := d.o 2
  let o := d.o 3
  let op := fld w 31 28
  let axis := fld w 26 26
  let fen := flag w 25
  let t := fld w 23 20 + 1
  let reads (p : Nat) : List Nat :=
    [fld v 31 27 + p] ++ (if 4 ≤ op then [fld v 26 22 + p] else []) ++ (if op = 5 then [fld v 21 17 + p] else []) ++
    (if fen then [fld v 16 12 + p] else [])
  match (List.range t).findSome? (fun p => (parityAt inj p (reads p)).map (fun r => (p, r))) with
  | some (p, r) => ((List.range (p + 1)).foldl (fun s q => s.enterPass n (reads q)) s).vxParity n r d.va
  | none =>
    let s := (List.range t).foldl (fun s q => s.enterPass n (reads q)) s
    let c := s.core n
    let line (i : Nat) : List SVal :=
      (scanLine op (flag w 27) 9 1 ((List.range (16 * t)).map (fun k =>
        ((⟨c.lineElem (fld v 31 27) axis i k, if 4 ≤ op then c.lineElem (fld v 26 22) axis i k else 0,
          if op = 5 then c.lineElem (fld v 21 17) axis i k else 0⟩ : SVal), fen && c.lineElem (fld v 16 12) axis i k != 0)))).map Prod.fst
    let res := (List.range 16).map line
    let at' (f : SVal → Word) (q e : Nat) : Word :=
      if axis = 0 then f ((res.getD (e / 16) []).getD (16 * q + e % 16) default) else f ((res.getD (e % 16) []).getD (16 * q + e / 16) default)
    let put (c : Core) (base : Nat) (f : SVal → Word) : Core := (List.range t).foldl (fun c q => c.fillTreg (base + q) (at' f q)) c
    s.modCore n (fun c =>
      let c := if op < 4 ∨ flag w 24 then put c (fld o 31 27) SVal.a else c
      let c := if 4 ≤ op then put c (fld o 26 22) SVal.b else c
      (if op = 5 then put c (fld o 21 17) SVal.l else c).vxDone d.seq)

/-- VX_SCAN at the dispatcher, at issue, and its effect (R153). -/
def State.doVxScan (s : State) (n : Nat) (inj : Inject) : State :=
  let s := (s.dispatch n opVxScan okHere okHere).vxIssue n opVxScan
  match (s.core n).vxRunning opVxScan with
  | some d => s.runScan n d inj
  | none => s

/-! ### VX_LOAD and VX_STORE (R156-R160) -/

/-- Bytes of `k` elements of `w` bits. -/
def packedLen (w k : Nat) : Nat := ceilDiv (w * k) 8

/-- The byte runs that VX_LOAD reads for its tile `q`, relative to START: a row's 16 columns each, or with TRANS a column each (R156, R168). -/
def loadRuns (trans : Bool) (stride rows cols w q : Nat) : List (Nat × Nat) :=
  let k := min 16 (cols - 16 * q)
  if trans then (List.range k).map (fun c => (4 * stride * (16 * q + c), packedLen w rows))
  else (List.range rows).map (fun i => (4 * stride * i + 2 * w * q, packedLen w k))

/-- Element `e` of the tile that VX_LOAD makes of the runs it read: 0 outside ROWS and COLS (R156). -/
def loadElem (fmt : Nat) (trans : Bool) (rows k : Nat) (runs : List (List Nat)) (e : Nat) : Word :=
  if e / 16 < rows ∧ e % 16 < k then vxWiden fmt (if trans then (runs.getD (e % 16) []).getD (e / 16) 0 else (runs.getD (e / 16) []).getD (e % 16) 0)
  else 0

/-- Pass `q` of VX_LOAD: its tile is read and written to its register (R140, R156). Its fault, if any. -/
def State.loadTile (s : State) (n : Nat) (d : Cmd) (q : Nat) : State × Option Nat :=
  let w := d.o 1
  let fmt := fld w 22 19
  let rows := fld w 17 14 + 1
  let cols := fld w 7 0 + 1
  let wb := vxBits fmt
  match s.engRuns n 2 d.rds ((loadRuns (flag w 18) (fld (d.o 2) 21 0) rows cols wb q).map (fun x => (4 * d.rd 0 + x.1, x.2))) with
  | (s, .error e) => (s, some e)
  | (s, .ok bs) =>
    let runs := bs.map (fun b => unpackBits wb (8 * b.length / wb) b)
    ((s.enterPass n []).modCore n (fun c => c.fillTreg (fld w 31 27 + q) (loadElem fmt (flag w 18) rows (min 16 (cols - 16 * q)) runs)), none)

/-- Passes of a VX command from `p` on, up to the first that faults (R140). -/
def State.vxPasses (s : State) (pass : State → Nat → State × Option Nat) : (left p : Nat) → State × Option Nat
  | 0, _ => (s, none)
  | left + 1, p =>
    match pass s p with
    | (s, some e) => (s, some e)
    | (s, none) => State.vxPasses s pass left (p + 1)

/-- The effect of VX_LOAD, tile by tile (R156). -/
def State.runVload (s : State) (n : Nat) (d : Cmd) (inj : Inject) : State :=
  match (s.strike n inj).vxPasses (fun s q => s.loadTile n d q) (fld (d.o 1) 26 23 + 1) 0 with
  | (s, some e) => s.coreFault n e d.va
  | (s, none) => s.modCore n (fun c => c.vxDone d.seq)

/-- VX_LOAD at the dispatcher, at issue, and its effect (R156). -/
def State.doVxLoad (s : State) (n : Nat) (inj : Inject) : State :=
  let s := (s.dispatch n opVxLoad okHere okHere).vxIssue n opVxLoad
  match (s.core n).vxRunning opVxLoad with
  | some d => s.runVload n d inj
  | none => s

/-- Q of an integer store format (R159). -/
def storeQ (fmt : Nat) : Nat := if fmt = 5 then 127 else 7

/-- The largest absolute value of a list, NaN apart (R159). -/
def maxAbsOf (l : List Word) : Fp := l.foldl (fun m x => match absVal x with
  | some a => maxAbs m a
  | none => m) (.fin false 0 0)

/-- The S8 code computed for a group (R159). -/
def groupCode (q : Nat) (l : List Word) : Nat := s8CodeFor q (maxAbsOf l)

/-- Elements of `w` bits packed into whole bytes, the lower-indexed in the lower bits (R112, R157). -/
def packBits (w : Nat) (l : List Nat) : List Byte := natLe (packedLen w l.length) (l.foldr (fun x a => x % 2 ^ w + 2 ^ w * a) 0)

/-- A stored row: its bytes, its scale codes, and of each element whether it saturated and whether it is a NaN quantised to 0 (R157-R159). -/
structure StoredRow where
  data : List Byte
  codes : List Nat
  sat : List Bool
  nan : List Bool
  deriving DecidableEq, Repr, Inhabited

/-- How many of the elements `lo` to `hi - 1` are marked. -/
def marked (l : List Bool) (lo hi : Nat) : Nat := (((l.take hi).drop lo).filter id).length

/-- Stores one row of values (R158, R159); `given` are the codes of SMODE 0, `g` the group length, 0 for none. -/
def storeRow (fmt g : Nat) (given : Option (List Nat)) (xs : List Word) : StoredRow :=
  if storeInt fmt then
    let q := storeQ fmt
    let gl := if g = 0 then xs.length else g
    let groups := (List.range (xs.length / max 1 gl)).map (fun i => (xs.drop (gl * i)).take gl)
    let codes := if g = 0 then [] else match given with
      | some c => (List.range groups.length).map (fun i => c.getD i 0)
      | none => groups.map (groupCode q)
    let qs := (groups.zipIdx.map (fun gi => gi.1.map (quantInt q (if g = 0 then (1, 0) else s8 (codes.getD gi.2 0))))).flatten
    { data := packBits (vxBits fmt) (qs.map (fun x => (BitVec.ofInt 32 x.1).toNat)), codes := codes, sat := qs.map (fun x => x.2.1)
      nan := qs.map (fun x => x.2.2) }
  else
    let l := xs.map (vxNarrow fmt)
    { data := packBits (vxBits fmt) (l.map Prod.fst), codes := [], sat := l.map Prod.snd, nan := l.map (fun _ => false) }

/-- The columns that pass `p` of a store writes: its tile; with SMODE 1, a whole group in the pass that reads its last tile, for its codes depend
on all of it (R157, R159). (DEDUCED, log entry 27) -/
def storeCols (g : Nat) (computed : Bool) (cols p : Nat) : Nat × Nat :=
  let hi := min cols (16 * p + 16)
  if computed ∧ g ≠ 0 then (if hi % g = 0 then (hi - g, hi) else (hi, hi)) else (16 * p, hi)

/-- The data runs and the code runs that pass `p` of a store writes (R157, R168): a group's codes go with the tile that ends it. -/
def storeRuns (d : Cmd) (wb g : Nat) (x : Nat × Nat) (out : List StoredRow) : List (Nat × List Byte) × List (Nat × List Byte) :=
  (out.zipIdx.map (fun r => (4 * (d.wr 0 + r.2 * fld (d.o 2) 21 0) + wb * x.1 / 8, (r.1.data.take (ceilDiv (wb * x.2) 8)).drop (wb * x.1 / 8))),
    if g = 0 then []
    else out.zipIdx.map (fun r => (4 * (d.wr 1 + r.2 * fld (d.o 3) 21 0) + x.1 / g, ((r.1.codes.take (x.2 / g)).drop (x.1 / g)).map (BitVec.ofNat 8))))

/-- The required codes and counts of a store go to REQREG (R160). -/
def Core.putReq (c : Core) (d : Cmd) (codes sat : List Nat) : Core :=
  let w := d.o 1
  let reg := fld w 14 10
  let gb := fld (d.o 4) 19 16
  if flag (d.o 4) 31 then
    let row0 := codes.zipIdx.map (fun x => (x.2 + gb, BitVec.ofInt 32 (max (x.1 : Int) (c.treg reg (x.2 + gb)).toInt)))
    let row1 := sat.zipIdx.map (fun x => (16 + x.2 + gb, w32 x.1 + c.treg reg (16 + x.2 + gb)))
    c.putTreg reg (row0 ++ row1)
  else
    c.fillTreg reg (fun e =>
      if e < 16 then (if gb ≤ e then w32 (codes.getD (e - gb) 0) else 0)
      else if e < 32 then (if gb ≤ e - 16 then w32 (sat.getD (e - 16 - gb) 0) else 0) else 0)

/-- The group length of a store: 0 where it has no groups (R157). -/
def storeGroup (d : Cmd) : Nat := if storeInt (fld (d.o 1) 22 19) then groupLen (fld (d.o 1) 18 17) else 0

/-- SMODE 0 with groups: the codes are given in read range 0 (R157). -/
def storeGiven (d : Cmd) : Bool := storeInt (fld (d.o 1) 22 19) && storeGroup d != 0 && !(flag (d.o 1) 16)

/-- Row `i` of the group that a store reads, in the AXIS 0 view (R138). -/
def Core.storeVals (c : Core) (d : Cmd) (i : Nat) : List Word :=
  (List.range (fld (d.o 4) 7 0 + 1)).map (fun k => c.treg (fld (d.o 1) 31 27 + k / 16) (16 * i + k % 16))

/-- The registers that pass `p` of a store reads (R157, R160). -/
def storeReads (d : Cmd) (p : Nat) : List Nat :=
  let w := d.o 1
  [fld w 31 27 + p] ++ (if flag w 15 ∧ flag (d.o 4) 31 ∧ p = fld w 26 23 then [fld w 14 10] else [])

/-- Pass `p` of VX_STORE: it reads its tile, counts what saturated, and writes its data and codes (R140, R157-R159, R162). Its fault, if any; a
parity error has been taken. -/
def State.storePass (s : State) (n : Nat) (d : Cmd) (inj : Inject) (out : List StoredRow) (p : Nat) : State × Option Nat :=
  let w := d.o 1
  let s := s.enterPass n (storeReads d p)
  match parityAt inj p (storeReads d p) with
  | some r => (s.vxParity n r d.va, some codeVxParity)
  | none =>
    let x := storeCols (storeGroup d) (flag w 16) (fld (d.o 4) 7 0 + 1) p
    let s := (s.cBump n Reg.vxCntSat ((out.map (fun r => marked r.sat x.1 x.2)).sum)).cBump n Reg.vxCntNan ((out.map (fun r => marked r.nan x.1 x.2)).sum)
    let runs := storeRuns d (vxBits (fld w 22 19)) (storeGroup d) x out
    match s.engPut n 3 d.wrs runs.1 with
    | (s, some e) => (s.coreFault n e d.va, some e)
    | (s, none) =>
      match s.engPut n 3 d.wrs runs.2 with
      | (s, some e) => (s.coreFault n e d.va, some e)
      | (s, none) => (s, none)

/-- The required codes of a store's groups and their counts of saturated elements (R160). -/
def Core.storeReq (c : Core) (d : Cmd) (out : List StoredRow) : List Nat × List Nat :=
  let g := max 1 (storeGroup d)
  let ng := (fld (d.o 4) 7 0 + 1) / g
  ((List.range ng).map (fun j => groupCode (storeQ (fld (d.o 1) 22 19)) ((List.range out.length).flatMap (fun i => ((c.storeVals d i).drop (g * j)).take g))),
    (List.range ng).map (fun j => (out.map (fun r => marked r.sat (g * j) (g * j + g))).sum))

/-- The effect of VX_STORE: the given codes are read, then its passes run (R157-R160). -/
def State.runVstore (s : State) (n : Nat) (d : Cmd) (inj : Inject) : State :=
  let w := d.o 1
  let s := s.strike n inj
  let rdC : State × Except Nat (List Byte) :=
    if storeGiven d then s.engRead n 2 d.rds (4 * d.rd 0) ((fld (d.o 4) 7 0 + 1) / max 1 (storeGroup d)) else (s, .ok [])
  match rdC with
  | (s, .error e) => s.coreFault n e d.va
  | (s, .ok cb) =>
    let c := s.core n
    let given := if storeGiven d then some (cb.map BitVec.toNat) else none
    let out := (List.range (fld w 9 6 + 1)).map (fun i => storeRow (fld w 22 19) (storeGroup d) given (c.storeVals d i))
    match s.vxPasses (fun s p => s.storePass n d inj out p) (fld w 26 23 + 1) 0 with
    | (s, some _) => s
    | (s, none) =>
      let rq := c.storeReq d out
      s.modCore n (fun c => (if flag w 15 then c.putReq d rq.1 rq.2 else c).vxDone d.seq)

/-- VX_STORE at the dispatcher, at issue, and its effect (R157). -/
def State.doVxStore (s : State) (n : Nat) (inj : Inject) : State :=
  let s := (s.dispatch n opVxStore okHere okHere).vxIssue n opVxStore
  match (s.core n).vxRunning opVxStore with
  | some d => s.runVstore n d inj
  | none => s

/-! ### The register march test (R162, R163) -/

/-- VX_BIST: starts the register march test on an idle core; DONE falls until it ends (R163). (DEDUCED, log entry 27) -/
def State.doVxBist (s : State) (n : Nat) : State :=
  if (s.core n).idle then (s.modCore n (fun c => c.startTest 2 0)).clrReg (coreKey n Reg.vxBist) 0x40000000 else s

/-- What the end of the register march test leaves: DONE, PASS, every register overwritten and every WSS bit clear (R163); what the registers then
hold is never read (R139). -/
def State.endVxBist (s : State) (n : Nat) (pass : Bool) : State :=
  (s.modCore n (fun c => { c.endTest 2 with wss := 0, tregs := [] })).setReg (coreKey n Reg.vxBist) (w32 (2 ^ 30 + b2n pass * 2 ^ 29))

end Sys2Proof.Machine
end

