-- ==== Sys2Proof/Machine/Stream.lean ====
section
/-! DEFINITION. The stream engine (R184-R201, R211-R214): transfers, classes and buckets, SX_ARM with its index sources and Facet blocks
(R226-R228), generations, SX_WAIT, and the entry and completion of transfers. The choice of the next hop and of takes is in Necklace;
remote transfers are in Rhumb. -/

namespace Sys2Proof.Machine

/-- SX_INDEX (R211). -/
abbrev codeSxIndex : Nat := 0x30
/-- SX_WLSRC. -/
abbrev codeSxWlsrc : Nat := 0x31
/-- NKL_MISMATCH. -/
abbrev codeNklMismatch : Nat := 0x32

/-! ### Transfers (R184) -/

/-- The transfers of `lines` lines from byte address `va` on, cut at 512 B boundaries: address, lines, first line counted from the
first of all (R184). -/
def cutSpan (va lines : Nat) : List (Nat × Nat × Nat) :=
  if lines = 0 then [] else
  let v := va / 64
  (List.range ((v + lines - 1) / 8 - v / 8 + 1)).map (fun i =>
    let b := v / 8 + i
    let a := max v (8 * b)
    (64 * a, min (v + lines) (8 * b + 8) - a, a - v))

/-- Places transfers among the waiting ones, in the issue order of their commands (R190). -/
def placeXfers (w xs : List Xfer) (seq : Nat) : List Xfer :=
  w.takeWhile (fun x => decide (x.seq ≤ seq)) ++ xs ++ w.dropWhile (fun x => decide (x.seq ≤ seq))

/-- Some transfer of a command waits or is outstanding; the reads of a work list belong to none (R195). -/
def Core.moving (c : Core) (seq : Nat) : Bool := (c.waiting ++ c.outs).any (fun x => x.seq == seq && x.kind != .workList)

/-- Places transfers of a command of core `n`. -/
def State.place (s : State) (n seq : Nat) (xs : List Xfer) : State := s.modCore n (fun c => { c with waiting := placeXfers c.waiting xs seq })

/-- READ transfers wait that stand before the next one of command `seq`: those of earlier commands and of its own earlier elements (R190). -/
def Core.readsAhead (c : Core) (seq : Nat) : Bool := c.waiting.any (fun x => x.cls == 0 && !x.held && decide (x.seq ≤ seq))

/-- The active command of a number whose transfers these are: an SX command, or a half of an attention pair. -/
def Core.sxCmd (c : Core) (seq : Nat) : Option Cmd := (c.sxA ++ c.mxA ++ c.vxA).find? (fun d => d.seq == seq)

/-- The address of an SX command, for its faults. -/
def Core.sxVa (c : Core) (seq : Nat) : Nat := ((c.sxCmd seq).map Cmd.va).getD 0

/-- The SX command `seq` has done its own part. -/
def Core.sxDone (c : Core) (seq : Nat) : Core := { (c.loupeEnd seq) with sxA := markDone c.sxA seq }

/-- Issues the head of the SX queue when it has the opcode, no hazard, room in the active set and `may` (R94). -/
def State.sxIssue (s : State) (n op : Nat) (may : Core → Cmd → Bool) (start : State → Cmd → State) : State :=
  let c := s.core n
  match c.issuable c.sxQ op with
  | some d =>
    if (c.live || c.ctl == .preempted) && c.sxFree && may c d then start (s.modCore n (fun c => { c with sxQ := c.sxQ.drop 1, sxA := c.sxA ++ [d] })) d else s
  | none => s

/-- BATCH_ID of what runs on a core: 0 for directly started lists (R202). -/
def Core.batchId (c : Core) : Nat :=
  match c.run with
  | .batch id => id % 65536
  | _ => 0

/-! ### Generations (R198, R199) -/

/-- The key of a descriptor slot. -/
def slotKey (slice slot : Nat) : Nat := 16 * slice + slot

/-- A descriptor slot. -/
def Core.desc (c : Core) (slice slot : Nat) : DescSlot := mgetD c.descs (slotKey slice slot) {}

/-- Whether a generation has ended: every element has issued and none of its transfers is left. -/
def Core.genOver (c : Core) (seq : Nat) : Bool := !(c.moving seq) && c.arms.all (fun a => a.seq != seq)

/-- Retires the generations whose transfers have all completed; one that has not started stays (R198, R199). -/
def Core.settleGens (c : Core) : Core :=
  { c with descs := c.descs.map (fun d =>
      (d.1, { d.2 with live := d.2.live.filter (fun g =>
        !(c.genOver g.2) || (d.2.pending && d.2.live.getLast?.map Prod.snd == some g.2)) })) }

/-- The ranges of an active command. -/
def Core.sxRanges (c : Core) (seq : Nat) : List (Nat × Nat) := ((c.sxCmd seq).map (fun d => d.rds ++ d.wrs)).getD []

/-- The slot of an SX_ARM can be armed: it is IDLE or ACTIVE (R199). -/
def Core.canArm (c : Core) (d : Cmd) : Bool :=
  let x := c.desc d.slice (fld (d.o 1) 31 28)
  !x.pending && decide (x.live.length ≤ 1)

/-- A transfer is a write of map entries. -/
def XKind.isMap : XKind → Bool
  | .mapWrite _ => true
  | _ => false

/-- Map writes of a command may start once its data is acknowledged (R227). -/
def Core.releaseMaps (c : Core) (seq : Nat) : Core :=
  if (c.waiting ++ c.outs).any (fun y => y.seq == seq && decide (y.kind = .write)) then c
  else { c with waiting := c.waiting.map (fun y => if y.seq = seq ∧ y.kind.isMap then { y with held := false } else y) }

/-! ### Index sources (R194-R196) -/

/-- SX_FAULT_INFO (R214). -/
def State.sxInfo (s : State) (n slice slot elem : Nat) : State :=
  s.setReg (coreKey n Reg.sxFaultInfo) (w32 (slice * 2 ^ 27 + slot * 2 ^ 23 + elem % 65536))

/-- Words of the work-list entry `i` in the core's buffer (R57). -/
def Core.wlEntry (c : Core) (i : Nat) : List Word := (c.wlBuf.drop (8 + 4 * i)).take 4

/-- Number of elements of an SX_ARM. -/
def armCount (d : Cmd) : Nat := if fld (d.o 1) 25 24 = 1 then (d.win.getD (0, 0)).2 else fld (d.o 2) 15 0

/-- The size of an element of a pool; none for ENTRY (R196). -/
def poolSize (w : WlDesc) : Nat → Option Nat
  | 0 => some w.stateBytes
  | 1 => some w.slotBytes
  | 2 => some w.resultBytes
  | _ => none

/-- The address of a window entry's pool element (R194). -/
def poolAddr (w : WlDesc) (pool dir : Nat) (e : List Word) : Nat :=
  let idx := fld (wd e 0) 15 0
  let rv := b2n (flag (wd e 2) 31)
  let q := (wd e 1).toNat
  match pool with
  | 0 => w.statePool + (2 * idx + (if dir = 0 then rv else 1 - rv)) * w.stateBytes
  | 1 => w.ringPool + (8 * idx + q % 8) * w.slotBytes
  | _ => w.resultPool + (16 * idx + q % 16) * w.resultBytes

/-- The read range that holds the index table of an SX_ARM (R193). -/
def indexRange (d : Cmd) : Nat × Nat := if fld (d.o 1) 27 26 = 0 ∨ fld (d.o 1) 27 26 = 3 then d.rds.getD 0 (0, 0) else d.rds.getD 1 (0, 0)

/-- The line of a work-list entry has arrived (R195). -/
def Core.wlThere (c : Core) (i : Nat) : Bool := c.wlLines.contains ((32 + 16 * i) / 64)

/-- The work-list entry that element `i` of a window names. -/
def winEntry (d : Cmd) (i : Nat) : Nat := (d.win.getD (0, 0)).1 + i

/-- The address of element `i` of an SX_ARM, or the fault code (R194, R196); an index-table word is read through port 6. None while the entry that
it names has not arrived (R195). -/
def State.elemAddr (s : State) (n : Nat) (d : Cmd) (i : Nat) : State × Option (Except Nat Nat) :=
  let w := d.o 1
  let base := va48 d.ops 4
  let lines := fld (d.o 3) 15 0
  let stride := (d.o 7).toNat
  let fit (a : Nat) : Option (Except Nat Nat) := some (if a + 64 * lines ≤ 2 ^ 48 then .ok a else .error codeSxIndex)
  match fld w 25 24 with
  | 0 => (s, fit (base + 64 * stride * i))
  | 1 =>
    let c := s.core n
    let wl := c.wl.getD default
    let pool := fld w 23 22
    if !(c.wlThere (winEntry d i)) then (s, none)
    else match poolSize wl pool with
      | none => (s, some (.ok 0))
      | some sz =>
        if sz < base + 64 * lines then (s, some (.error codeSxIndex))
        else (s, fit (poolAddr wl pool (fld w 27 26) (c.wlEntry (winEntry d i)) + base))
  | _ =>
    let r := indexRange d
    if r.2 < r.1 + i then (s, some (.error codeSxIndex))
    else match s.engRead n 6 d.rds (4 * (r.1 + i)) 4 with
      | (s, .error e) => (s, some (.error e))
      | (s, .ok bs) => (s, fit (base + 64 * stride * leNat bs))

/-! ### The Facet map (R226, R227) -/

/-- The address of the map entry of a slot. -/
def State.mapEntryVa (s : State) (n va : Nat) : Nat := s.reg2 (coreKey n Reg.lpeMapBaseLo) % 2 ^ 48 + 4 * (va / 4096)

/-- Reads the map entry of a slot for command `seq`: the line is a READ transfer in its turn, unless it is among the 8 most recent ones (R187, R190,
R227). None while it waits. (DEDUCED, log entry 28) -/
def State.mapEntry (s : State) (n seq va : Nat) : State × Option (Except (XErr × Nat) Word) :=
  let a := s.mapEntryVa n va
  let word (r : Except (XErr × Nat) (List Byte)) : Option (Except (XErr × Nat) Word) :=
    some (match r with
      | .ok bs => .ok (w32 (leNat bs))
      | .error e => .error e)
  if (s.core n).mapLines.contains (a / 64) then (s, word (s.vread (s.core n).tlb (s.coreCtx n) a 4))
  else if (s.core n).readsAhead seq then (s, none)
  else match s.fetchRead n a 4 with
    | (s, none) => (s, none)
    | (s, some r) =>
      ((s.modCore n (fun c => { c with mapLines := List.drop (c.mapLines.length + 1 - 8) (c.mapLines ++ [a / 64]) })).cBump n Reg.lpeCntMaprd, word r)

/-- A map entry that can be used: VALID, and no reserved bit set (R227, R443). -/
def mapOk (e : Word) : Bool := flag e 31 && fld e 29 10 == 0

/-- Lines of the block of a map entry: the first lines of its slot, or all 64 (R227). -/
def mapLinesOf (e : Word) : Nat := if flag e 30 then 64 else ceilDiv (fld e 7 0) 2

/-- The index entry of a block whose map entry is `e`, at line `off` of its area (R228). -/
def indexOfMap (e : Word) (off : Nat) : Word := fctIndex (flag e 30) (fld e 9 8) (fld e 7 0) off

/-- Lines of the index of `k` blocks (R228). -/
def indexLines (k : Nat) : Nat := ceilDiv (4 * k) 64

/-- A map entry that cannot be used faults FACET_MAP (R227); LPE_FAULT_INFO names the block. -/
def State.facetMapFault (s : State) (n block va : Nat) : State := (s.lpeInfo n 0 (fld s.free 3 0) block).coreFault n codeFacetMap va

/-! ### SX_ARM (R192-R199) -/

/-- What ends an SX_ARM early: a fault code, or a failed translation with its address. -/
inductive ArmStop where
  | code (c block : Nat) | xlat (e : XErr) (va : Nat)
  deriving DecidableEq, Repr

/-- The class of a direction (R187). -/
def dirClass (dir : Nat) : Nat := if dir = 0 then 0 else if dir = 1 then 1 else 2

/-- The kind of a direction's transfers. -/
def dirKind (dir : Nat) : XKind := if dir = 0 then .read else if dir = 1 then .write else if dir = 2 then .put else .get

/-- The transfers of a span of an SX_ARM. -/
def armSpan (d : Cmd) (ctx : Nat) (kind : XKind) (va lines line : Nat) : List Xfer :=
  (cutSpan va lines).map (fun t =>
    { seq := d.seq, slice := d.slice, cls := dirClass (fld (d.o 1) 27 26), kind := kind, ctx := ctx, va := t.1, lines := t.2.1
      spLine := line + t.2.2 })

/-- The first scratchpad word of the landing or source area. -/
def armArea (d : Cmd) : Nat × Nat := if fld (d.o 1) 27 26 = 0 ∨ fld (d.o 1) 27 26 = 3 then d.wrs.getD 0 (0, 0) else d.rds.getD 0 (0, 0)

/-- Places block `a.block` of a Facet element read from HBM, whose map entry is `e` (R227, R228), or why it cannot be. -/
def State.armBlockIn (s : State) (n : Nat) (d : Cmd) (slot : Nat) (e : Word) (a : ArmSt) : State × Except ArmStop ArmSt :=
  let area := (armArea d).1 / 16
  let k := mapLinesOf e
  let word := 16 * area + a.block
  let b : ArmSt := { a with off := a.off + k, block := a.block + 1 }
  if (armArea d).2 < 16 * (area + a.off + k) - 1 then (s, .error (.code codeRangeEscape a.block))
  else if k = 0 then
    match s.engWrite n 4 d.wrs (4 * word) (natLe 4 (indexOfMap e a.off).toNat) with
    | (s, some c) => (s, .error (.code c a.block))
    | (s, none) => (s, .ok b)
  else (s.place n d.seq (armSpan d (s.coreCtx n) (.block word (indexOfMap e a.off)) slot k (area + a.off)), .ok b)

/-- Places block `a.block` written from the packed area to HBM (R227): its index entry is read through port 6. -/
def State.armBlockOut (s : State) (n : Nat) (d : Cmd) (slot : Nat) (a : ArmSt) : State × Except ArmStop ArmSt :=
  let area := (armArea d).1 / 16
  match s.engRead n 6 d.rds (4 * (16 * area + a.block)) 4 with
  | (s, .error e) => (s, .error (.code e a.block))
  | (s, .ok bs) =>
    let x := w32 (leNat bs)
    if !(flag x 31) || fld x 29 28 != 0 then (s, .error (.code codeFacetIndex a.block))
    else
      let raw := flag x 30
      let len := if raw then 128 else fld x 25 18
      let e := w32 (2 ^ 31 + b2n raw * 2 ^ 30 + fld x 27 26 * 2 ^ 8 + len)
      (s.place n d.seq (armSpan d (s.coreCtx n) .write slot (fctLines len raw) (area + fld x 17 0)),
        .ok { a with block := a.block + 1, maps := a.maps ++ [(s.mapEntryVa n slot, e)] })

/-- Places `left` blocks of the Facet element at `va` from its slot `j` on: what remains of the arm, or what stops it with the blocks before
placed. (DEDUCED, log entry 28) -/
def State.armBlocks (s : State) (n : Nat) (d : Cmd) (va : Nat) : (left j : Nat) → ArmSt → State × Except (ArmStop × ArmSt) ArmSt
  | 0, _, a => (s, .ok a)
  | left + 1, j, a =>
    match (if fld (d.o 1) 27 26 = 0 then s.armBlockIn n d (va + 4096 * j) (wd a.ents j) a else s.armBlockOut n d (va + 4096 * j) a) with
    | (s, .error e) => (s, .error (e, a))
    | (s, .ok a) => State.armBlocks s n d va left (j + 1) a

/-- The check of a remote address at issue (R363, detail 7): PEER names a valid entry of the context's peer table (R362). -/
def State.peerOk (s : State) (ctx ra : Nat) : Bool :=
  let e := bits ra 44 4
  e != 0 && flag (s.hubWord (s.reg2 (rhbKey 0 Reg.rhbPeertabLo) + 256 * ctx + 16 * e)) 31

/-- Lands the work-list entry of an ENTRY element: 16 B followed by zeros (R194). -/
def State.armEntry (s : State) (n : Nat) (d : Cmd) (i line : Nat) : State × Option Nat :=
  s.engWrite n 4 d.wrs (64 * line) (bytesOf ((s.core n).wlEntry (winEntry d i)) ++ List.replicate 48 0)

/-- The arm after its element at hand. -/
def ArmSt.nextElem (a : ArmSt) : ArmSt := { a with elem := a.elem + 1, addr := none, ents := [] }

/-- Blocks of the Facet element at hand, then the element is issued; or the stop `e` once the blocks whose entries were read are placed. -/
def State.armPlace (s : State) (n : Nat) (d : Cmd) (va k : Nat) (e : Option ArmStop) (a : ArmSt) : State × Option (Except (ArmStop × ArmSt) ArmSt) :=
  match s.armBlocks n d va k 0 a with
  | (s, .error x) => (s, some (.error x))
  | (s, .ok a) => (s, some (match e with
    | some e => .error (e, a)
    | none => .ok a.nextElem))

/-- The next thing that the issue of an SX_ARM does (R194, R196, R227): the element's address; the map entries of a Facet element, one by one,
then its blocks; or its transfers. None while it waits for a work-list entry or for a map read. (DEDUCED, log entry 28) -/
def State.armElem (s : State) (n : Nat) (d : Cmd) (a : ArmSt) : State × Option (Except (ArmStop × ArmSt) ArmSt) :=
  let w := d.o 1
  let dir := fld w 27 26
  let lines := fld (d.o 3) 15 0
  let line := (armArea d).1 / 16 + a.elem * fld (d.o 4) 17 0
  match a.addr with
  | none =>
    (match s.elemAddr n d a.elem with
    | (s, none) => (s, none)
    | (s, some (.error c)) => (s, some (.error (.code c a.block, a)))
    | (s, some (.ok va)) =>
      if fld w 25 24 = 1 ∧ fld w 23 22 = 3 then
        match s.armEntry n d a.elem line with
        | (s, some c) => (s, some (.error (.code c a.block, a)))
        | (s, none) => (s, some (.ok a.nextElem))
      else if flag w 20 then (s, some (.ok { a with addr := some va, ents := [] }))
      else if 2 ≤ dir ∧ !(s.peerOk (s.coreCtx n) va) then (s, some (.error (.xlat ⟨codeTranslation, 7, 0⟩ va, a)))
      else (s.place n d.seq (armSpan d (s.coreCtx n) (dirKind dir) va lines line), some (.ok a.nextElem)))
  | some va =>
    let k := lines / 64
    if dir = 0 ∧ a.ents.length < k then
      match s.mapEntry n d.seq (va + 4096 * a.ents.length) with
      | (s, none) => (s, none)
      | (s, some (.ok e)) =>
        if mapOk e then (s, some (.ok { a with ents := a.ents ++ [e] }))
        else s.armPlace n d va a.ents.length (some (.code codeFacetMap (a.block + a.ents.length))) a
      | (s, some (.error e)) => s.armPlace n d va a.ents.length (some (.xlat e.1 e.2)) a
    else s.armPlace n d va k none a

/-- The map writes of a command, entries that share a line merged into one write (R227). -/
def mapWrites (d : Cmd) (ctx : Nat) (maps : List (Nat × Word)) : List Xfer :=
  ((maps.map (fun m => m.1 / 64)).dedup).map (fun l =>
    { seq := d.seq, slice := d.slice, cls := 1, kind := .mapWrite (maps.filter (fun m => m.1 / 64 == l)), ctx := ctx, va := 64 * l
      lines := 1, spLine := 0, held := true })

/-- A remote SX_ARM with AHEAD is misplaced (R312). -/
def remoteAhead (_ : Core) (d : Cmd) : Bool := d.ahead && decide (2 ≤ fld (d.o 1) 27 26)

/-! ### SX_WAIT (R200) -/

/-- SX_WAIT at the dispatcher, and its issue; it retires under its condition (`Core.sxReady`). -/
def State.doSxWait (s : State) (n : Nat) : State :=
  let s := s.dispatch n opSxWait okHere okHere
  s.sxIssue n opSxWait (fun _ _ => true) (fun s d => s.modCore n (fun c => c.sxDone d.seq))

/-- Whether an SX_WAIT's condition holds: every generation of its masked slots armed before it has retired and, with NKL, every earlier
take of its slice (R200). -/
def Core.waitOver (c : Core) (d : Cmd) : Bool :=
  (setBits 16 (fld (d.o 1) 15 0)).all (fun k => (c.desc d.slice k).live.all (fun g => decide (d.seq ≤ g.2))) &&
  !(flag (d.o 1) 16 && c.takes.any (fun t => t.slice == d.slice && decide (t.seq < d.seq)))

/-- The retirement condition of an active SX command (R95, R198, R200, R205, R206). -/
def Core.sxReady (c : Core) (d : Cmd) : Bool :=
  d.done && !(c.moving d.seq) && c.takes.all (fun t => t.seq != d.seq) && c.srcs.all (fun t => t.seq != d.seq) &&
  c.descs.all (fun x => x.2.live.all (fun g => g.2 != d.seq)) && !(d.op == opSxWait && !(c.waitOver d))

/-! ### The shares (R188, R191, R214) -/

/-- SX_SHARE_WRITE: sets the shares, or is ignored with SX_ERR.SHARE when they exceed 16 (R214). -/
def State.doSxShareWrite (s : State) (n : Nat) (v : Word) : State :=
  if 16 < fld v 20 16 + fld v 12 8 + fld v 4 0 then s.orReg (coreKey n Reg.sxErr) 1
  else s.plainWrite (coreKey n Reg.sxShare) v

/-- The shares in force: of READ, WRITE and REMOTE, under SX_CTRL.SAVE (R191). -/
def State.shares (s : State) (n : Nat) : List Nat :=
  let v := s.cReg n Reg.sxShare
  match (if (s.core n).preempt = 2 then 1 else if (s.core n).preempt = 3 then 2 else fld (s.cReg n Reg.sxCtrl) 1 0) with
  | 1 => [0, 16, 0]
  | 2 => [16, 0, 0]
  | _ => [fld v 20 16, fld v 12 8, fld v 4 0]

/-- What a bucket holds at most (R188). -/
def State.bucketCap (s : State) (n : Nat) : Nat := fld (s.cReg n Reg.sxBurst) 6 0 * 4608

/-- `cycles` CCLK cycles pass at the port: the buckets gain their tokens and the request queue drains (R186, R188). -/
def State.refillBuckets (s : State) (n cycles : Nat) : State :=
  s.modCore n (fun c => { c with
    portQ := 0
    buckets := (c.buckets.zip (s.shares n)).map (fun b => min (s.bucketCap n) (b.1 + cycles * 400 * b.2)) })

/-! ### Entry (R185, R188, R190) -/

/-- The oldest waiting transfer of a class that may start. -/
def Core.nextXfer (c : Core) (cls : Nat) : Option Xfer := c.waiting.find? (fun x => x.cls == cls && !x.held)

/-- Removes a waiting transfer: the first equal one. -/
def Core.dropWaiting (c : Core) (x : Xfer) : Core := { c with waiting := c.waiting.erase x }

/-- The transfer enters the port: it spends its tokens, becomes outstanding and stands in the port's request queue (R185, R186, R188). -/
def Core.enter (c : Core) (x y : Xfer) : Core :=
  { (c.dropWaiting x) with outs := c.outs ++ [y], portQ := c.portQ + 1, buckets := lmod c.buckets x.cls (fun b => b - 576 * x.lines) }

/-- Starts a walk of the core for a page, when none runs for it and fewer than 8 run (R340). (DEDUCED, log entry 28) -/
def State.startWalk (s : State) (n ctx va : Nat) : State :=
  let c := s.core n
  if c.walks.any (fun w => w.1 == ctx && w.2.1 / 2 ^ 16 == va / 2 ^ 16) || decide (8 ≤ c.walks.length) then s
  else (s.modCore n (fun c => { c with walks := c.walks ++ [(ctx, va, true)] })).cBump n Reg.coreCntTlbmiss

/-- Whether the port takes a transfer now: fewer than 512 are outstanding, its request queue of 64 has room, and the class's bucket holds the
tokens (R185, R186, R188). -/
def Core.mayEnter (c : Core) (x : Xfer) : Bool :=
  decide (c.outs.length < 512) && decide (c.portQ < 64) && decide (576 * x.lines ≤ c.buckets.getD x.cls 0)

/-- The data that a transfer carries away: scratchpad lines of a write, map entries are their own (R197). -/
def State.xferData (s : State) (n port : Nat) (x : Xfer) : State × Except Nat (List Byte) :=
  match x.kind with
  | .write => s.engRead n port ((s.core n).sxRanges x.seq) (64 * x.spLine) (64 * x.lines)
  | .put => s.engRead n port ((s.core n).sxRanges x.seq) (64 * x.spLine) (64 * x.lines)
  | .pageWrite _ src len => s.engRead n port ((s.core n).sxRanges x.seq) src len
  | _ => (s, .ok [])

/-- Whether a transfer is addressed by frame (R291). -/
def XKind.direct : XKind → Bool
  | .page b => b
  | .pageWrite b _ _ => b
  | _ => false

/-- A transfer addressed by frame, as a page: its frame is the page (R291). -/
def Xfer.framePage (x : Xfer) : Page := ⟨x.pa - x.va % 2 ^ 16, false, true⟩

/-- The page of a transfer to or from HBM: a frame or a work list is addressed physically (R195, R291), else it is the cached translation. -/
def Core.pageOf (c : Core) (x : Xfer) : Option Page :=
  if x.kind = .workList then some ⟨x.va - x.va % 2 ^ 16, false, true⟩ else if x.kind.direct then some x.framePage else tlbFind c.tlb x.ctx x.va

/-- A transfer to or from HBM enters, once its translation is cached; otherwise its walk starts (R188, R340). A stack that takes no request any
more refuses it (R20, R346). -/
def State.enterLocal (s : State) (n : Nat) (x : Xfer) : State :=
  let c := s.core n
  match c.pageOf x with
  | none => s.startWalk n x.ctx x.va
  | some p =>
    if x.cls = 1 ∧ !p.w then (s.modCore n (fun c => c.dropWaiting x)).xlatFault n ⟨codeTranslation, 2, if p.big then 2 else 3⟩ x.va
        (c.sxVa x.seq)
    else if !(s.reachable (p.addr x.va) (64 * x.lines)) then
      (s.modCore n (fun c => c.dropWaiting x)).xlatFault n ⟨codeMemStack, 5, 3⟩ x.va (c.sxVa x.seq)
    else match s.xferData n 6 x with
      | (s, .error e) => (s.modCore n (fun c => c.dropWaiting x)).coreFault n e (c.sxVa x.seq)
      | (s, .ok bs) => s.modCore n (fun c => c.enter x { x with pa := p.addr x.va, data := bs })

/-! ### Walks (R339, R340) -/

/-- WALK_COMPLETE: the oldest walk, whose reads are READ transfers and wait for their tokens, ends with a translation, which is cached unless an
invalidation fell into the walk (R341), or faults the command of the oldest transfer that needs it. -/
def State.doWalkComplete (s : State) (n : Nat) : State :=
  let c := s.core n
  match c.walks with
  | [] => s
  | (ctx, va, keep) :: r =>
    if !(c.mayRead (s.walkCost n ctx va)) then s
    else
      let s := (s.modCore n (fun c => { c with walks := r })).endWalk n ctx va keep
      match s.walk ctx va with
      | .ok _ => s
      | .error e =>
        match c.waiting.find? (fun x => decide (x.cls < 2) && x.ctx == ctx && x.va / 2 ^ 16 == va / 2 ^ 16) with
        | some x => s.xlatFault n e x.va (c.sxVa x.seq)
        | none => s

/-! ### Completion (R185, R197) -/

/-- What strikes the memory line that a transfer reads (R334): a double-bit or a single-bit error in its primary copy. -/
def State.strikeMem (s : State) : Inject → State
  | .lineUe l => { s with mem := { s.mem with bad := sadd s.mem.bad (2 * l) } }
  | .lineCe l => { s with mem := { s.mem with soft := sadd s.mem.soft (2 * l) } }
  | _ => s

/-- The counter of a class's lines (R216). -/
def classCounter (cls : Nat) : Nat := if cls = 0 then Reg.sxCntRdlines else if cls = 1 then Reg.sxCntWrlines else Reg.sxCntRmlines

/-- Lands bytes in the scratchpad for a command: a refused or escaping landing faults it (R86, R197). -/
def State.land (s : State) (n port : Nat) (seq a : Nat) (bs : List Byte) : State :=
  match s.engWrite n port (((s.core n).sxCmd seq).map Cmd.wrs |>.getD []) a bs with
  | (s, none) => s
  | (s, some e) => s.coreFault n e ((s.core n).sxVa seq)

/-- After a part of a Facet block has landed: writes the block's index entry when no other part is left (R228). -/
def State.landBlock (s : State) (n : Nat) (x : Xfer) (word : Nat) (entry : Word) : State :=
  if ((s.core n).waiting ++ (s.core n).outs).any (fun y => y.seq == x.seq && decide (y.kind = x.kind)) then s
  else s.land n 4 x.seq (4 * word) (natLe 4 entry.toNat)

/-- The address that a failed transfer's fault names: its command's, or the core's next command for a work list. -/
def Core.xferVa (c : Core) (x : Xfer) : Nat := if x.kind = .workList then c.curSl.pc else c.sxVa x.seq

/-- A write of a transfer's bytes to HBM, taken before any fence: its fault where it cannot be carried out (R20, R334, R346). -/
def State.xferPoke (s : State) (n : Nat) (x : Xfer) (pa : Nat) (bs : List Byte) : State :=
  let t := s.poke x.ctx pa bs true
  if s.writable pa bs.length true then t else t.xlatFault n (s.partErr pa bs.length true) x.va ((s.core n).xferVa x)

/-- An outstanding transfer completes: it and those that entered before it have left the request queue (R185, R186). -/
def Core.dropOut (c : Core) (x : Xfer) : Core := { c with outs := c.outs.erase x, portQ := min c.portQ (c.outs.length - 1 - c.outs.idxOf x) }

/-- The data of a read transfer, taken before any fence, or its fault (R20, R334, R346). -/
def State.xferPeek (s : State) (n : Nat) (x : Xfer) : State × Option (List Byte) :=
  let s' := s.noteRead x.pa (64 * x.lines) true
  match s.peek x.ctx x.pa (64 * x.lines) true with
  | some bs => (s', some bs)
  | none => (s'.xlatFault n (s.partErr x.pa (64 * x.lines) true) x.va ((s.core n).xferVa x), none)

/-- The data of a source's flit has arrived (R205). -/
def Core.gotFlit (c : Core) (seq seg flit : Nat) (bs : List Byte) : Core :=
  { c with srcs := c.srcs.map (fun t => if t.seq = seq then { t with data := mput t.data (8 * seg + flit) bs } else t) }

end Sys2Proof.Machine
end

