-- ==== Sys2Proof/Machine/Necklace.lean ====
section
/-! DEFINITION. The Necklace (R202-R210): the ring, flits, the seen table, takes with their refetch lists, take queue and timeouts, the injection of
sources; and SX_FACET_ENC (R222-R225). -/

namespace Sys2Proof.Machine

/-! ### The ring (R202-R204) -/

/-- Whether the hop of core `n` is in the ring and not bypassed (R202, R204). -/
def State.hopOn (s : State) (n : Nat) : Bool := s.domOn n && !((s.core n).bypass)

/-- The hop that a flit of `origin` reaches after hop `n`; none where it would re-enter its origin (R202). -/
def State.nextHop (s : State) (n origin : Nat) : Option Nat :=
  (((List.range 32).map (fun i => (n + 1 + i) % 32)).takeWhile (fun m => decide (m ≠ origin))).find? s.hopOn

/-- Whether the hop after `n` has room for a flit of `origin`: its forward buffer of 64 flits, or the flit leaves the ring (R203). -/
def State.hopRoom (s : State) (n origin : Nat) : Bool :=
  match s.nextHop n origin with
  | some m => decide ((s.core m).inbox.length < 64)
  | none => true

/-- Sends a flit from hop `n` on. -/
def State.sendFlit (s : State) (n : Nat) (f : Flit) : State :=
  match s.nextHop n f.origin with
  | some m => s.modCore m (fun c => { c with inbox := c.inbox ++ [f] })
  | none => s

/-- Forwards what stands in the forward buffer of hop `n` while the next hop has room, at most `k` flits (R203, R204). -/
def State.flushHop (s : State) (n : Nat) : (k : Nat) → State
  | 0 => s
  | k + 1 =>
    match (s.core n).inbox with
    | [] => s
    | f :: r =>
      if s.hopRoom n f.origin then
        State.flushHop ((((s.modCore n (fun c => { c with inbox := r })).sendFlit n f)).cBump n Reg.nklCntFwd) n k
      else s

/-- Engages the bypass of a hop once its forward buffer is empty: it first forwards what stands there (R204). -/
def State.engageBypass (s : State) (n : Nat) : State :=
  let s := s.flushHop n (s.core n).inbox.length
  if (s.core n).inbox.isEmpty then s.modCore n (fun c => { c with bypass := true }) else s

/-! ### The seen table (R208) -/

/-- Updates the entry of a flit's stream, which becomes the most recently updated one; the least recently updated one gives way. -/
def seenUpdate (t : List Seen) (f : Flit) : List Seen :=
  let same (e : Seen) : Bool := e.ctx == f.ctx && e.batch == f.batch && e.ntag == f.ntag
  let old := t.find? same
  let e : Seen := ⟨f.ctx, f.batch, f.ntag, f.seg, (old.map Seen.done).getD false || f.lastSeg⟩
  let rest := t.filter (fun x => !(same x))
  List.drop (rest.length + 1 - 16) (rest ++ [e])

/-! ### Takes (R206-R209) -/

/-- The end of a take's range. -/
def Take.stop (t : Take) : Nat := t.first + t.count

/-- A segment of a take is on its refetch list, or the take has fallen back. -/
def Take.listed (t : Take) (j : Nat) : Bool := t.fallback || t.refetch.any (fun r => decide (r.1 ≤ j ∧ j < r.2))

/-- A segment of the range that neither the ring nor a refetch has yet to bring. -/
def Take.open_ (t : Take) (j : Nat) : Bool := !(t.landed.contains j) && !(t.listed j)

/-- Lines of segment `j`, and its first line. -/
def Take.place (t : Take) (j : Nat) : Nat × Nat :=
  if t.facet then
    match mget t.blocks j with
    | some b => (t.line + b.off, b.lines)
    | none => (t.line, 0)
  else (t.line + 64 * (j - t.first), 64)

/-- A take of a core by its command. -/
def Core.takeOf (c : Core) (seq : Nat) : Option Take := c.takes.find? (fun t => t.seq == seq)

/-- Changes a take. -/
def Core.modTake (c : Core) (seq : Nat) (f : Take → Take) : Core :=
  { c with takes := c.takes.map (fun t => if t.seq = seq then f t else t) }

/-- Adds a run to a refetch list, extending the last one when it adjoins. -/
def addRun (l : List (Nat × Nat)) (lo hi : Nat) : List (Nat × Nat) :=
  match l.getLast? with
  | some r => if r.2 = lo then l.dropLast ++ [(r.1, hi)] else l ++ [(lo, hi)]
  | none => [(lo, hi)]

/-- Whether a run finds a place in the refetch list of 64 (R208). -/
def runFits (l : List (Nat × Nat)) (lo : Nat) : Bool := decide (l.length < 64) || (l.getLast?.any (fun r => r.2 == lo))

/-- Lands the index entry of a Facet segment through a port (R228). -/
def State.takeIndex (s : State) (n port : Nat) (t : Take) (j : Nat) : State :=
  match mget t.blocks j with
  | some b => if t.facet then s.land n port t.seq (4 * (16 * t.line + (j - t.first))) (natLe 4 b.entry.toNat) else s
  | none => s

/-- A segment of a take has landed: the take retires with the last one (R206). -/
def State.segLanded (s : State) (n port : Nat) (t : Take) (j : Nat) : State :=
  let s := s.takeIndex n port t j
  s.modCore n (fun c =>
    let c := c.modTake t.seq (fun t => { t with landed := sadd t.landed j })
    { c with takes := c.takes.filter (fun t => decide (t.landed.length < t.count)) })

/-- Starts the READ transfers of segments on the refetch list, each counted (R208). -/
def State.fetchSegs (s : State) (n : Nat) (t : Take) (segs : List Nat) : State :=
  let xs := segs.flatMap (fun j =>
    (cutSpan (t.base + 4096 * j) (t.place j).2).map (fun p =>
      ({ seq := t.seq, slice := t.slice, cls := 0, kind := .refetch j (p.2.2 / 8), ctx := t.ctx, va := p.1, lines := p.2.1
         spLine := (t.place j).1 + p.2.2 } : Xfer)))
  let s := (s.modCore n (fun c => { c with waiting := placeXfers c.waiting xs t.seq })).cBump n Reg.nklCntRefetch segs.length
  (segs.filter (fun j => (t.place j).2 == 0)).foldl (fun s j => s.segLanded n 4 t j) s

/-- Lands a flit of the take queue through port 5; its segment has landed with its last flit, unless the take has moved it to its refetch list
meanwhile (R206, R207). -/
def State.landFlit (s : State) (n : Nat) (q : Nat × Flit) : State :=
  match (s.core n).takeOf q.1 with
  | none => s
  | some t =>
    let f := q.2
    let pl := t.place f.seg
    let s := s.land n 5 t.seq (64 * (pl.1 + 8 * f.idx)) (f.data.take (64 * min f.lines (pl.2 - 8 * f.idx)))
    if pl.2 ≤ 8 * (f.idx + 1) ∧ t.open_ f.seg then s.segLanded n 5 t f.seg else s

/-- Port 5 takes everything from the take queue (R207). -/
def State.drainTakeQ (s : State) (n : Nat) : State :=
  (s.core n).takeQ.foldl (fun s q => s.landFlit n q) (s.modCore n (fun c => { c with takeQ := [] }))

/-- The take falls back: it takes nothing more from the ring and refetches what it has not taken, in order (R208). -/
def State.fallBack (s : State) (n seq : Nat) : State :=
  let s := s.drainTakeQ n
  match (s.core n).takeOf seq with
  | none => s
  | some t =>
    let rest := ((List.range t.count).map (t.first + ·)).filter t.open_
    ((s.modCore n (fun c => c.modTake t.seq (fun t => { t with fallback := true, part := none }))).cBump n Reg.nklCntFallback).fetchSegs n t rest

/-- Segments `lo` to `hi - 1` of a take go to the refetch list, those that are neither landed nor on it, counted in a counter; the take falls
back when the list is full or it is a FACET take (R208). -/
def State.toRefetch (s : State) (n seq lo hi : Nat) (cnt : Option Nat) : State :=
  match (s.core n).takeOf seq with
  | none => s
  | some t =>
    let segs := ((List.range (hi - lo)).map (lo + ·)).filter t.open_
    if segs.isEmpty then s
    else
      let s := match cnt with
        | some k => s.cBump n k segs.length
        | none => s
      if t.facet || !(runFits t.refetch lo) then s.fallBack n seq
      else
        (s.modCore n (fun c => c.modTake seq (fun t => { t with
          refetch := addRun t.refetch lo hi, part := if t.part.any (fun p => decide (lo ≤ p.1 ∧ p.1 < hi)) then none else t.part }))).fetchSegs n t segs

/-- NEXT of a take becomes at least `k`. -/
def State.raiseNext (s : State) (n seq k : Nat) : State := s.modCore n (fun c => c.modTake seq (fun t => { t with next := max t.next k }))

/-- A segment whose flits have stopped half way goes to the list when another one arrives. -/
def State.dropPart (s : State) (n : Nat) (t : Take) (j : Nat) : State :=
  match t.part with
  | some (p, _) => if p = j then s else s.toRefetch n t.seq p (p + 1) (some Reg.nklCntLate)
  | none => s

/-- A flit is taken: it enters the take queue, behind the earlier flits of its segment (R206, R207). -/
def State.queueFlit (s : State) (n : Nat) (t : Take) (f : Flit) : State :=
  let part := if (t.place f.seg).2 ≤ 8 * (f.idx + 1) then none else some (f.seg, f.idx + 1)
  (s.modCore n (fun c => ({ c with takeQ := c.takeQ ++ [(t.seq, f)] }).modTake t.seq (fun t => { t with part := part }))).cBump n Reg.nklCntTaken

/-- A take meets a flit of its tag (R206-R209); `good`: its check holds. One that finds 32 flits in the take queue is skipped (R207). -/
def State.takeFlit (s : State) (n seq : Nat) (f : Flit) (good : Bool) : State :=
  let s := if good then s.modCore n (fun c => c.modTake seq (fun t => { t with arrival := some s.now })) else s
  match (s.core n).takeOf seq with
  | none => s
  | some t =>
    if f.seg < t.first ∨ t.stop ≤ f.seg then s
    else if good ∧ f.va ≠ t.base + 4096 * f.seg then
      (s.sxInfo n t.slice 0 f.seg).coreFault n codeNklMismatch ((s.core n).sxVa seq)
    else
      let s := (s.dropPart n t f.seg).toRefetch n seq t.next f.seg (some Reg.nklCntLate)
      let s := s.raiseNext n seq (f.seg + 1)
      match (s.core n).takeOf seq with
      | none => s
      | some t =>
        if !(t.open_ f.seg) then s
        else if !good || decide (32 ≤ (s.core n).takeQ.length) then s.toRefetch n seq f.seg (f.seg + 1) (some Reg.nklCntSkip)
        else if f.idx = 0 ∨ t.part = some (f.seg, f.idx) then s.queueFlit n t f
        else s.toRefetch n seq f.seg (f.seg + 1) (some Reg.nklCntLate)

/-- A flit passes the hop of core `n`: the seen table and the takes of its tag (R206-R209). The take queue then drains to port 5, unless the banks
`stall` it (R207). (DEDUCED, log entry 29) -/
def State.passFlit (s : State) (n : Nat) (f : Flit) (good stall : Bool) : State :=
  let s := if stall then s else s.drainTakeQ n
  let s := if good then s.modCore n (fun c => { c with seen := seenUpdate c.seen f })
    else ((s.cBump n Reg.nklCntCrc).orReg (coreKey n Reg.nklErr) 1).modCore n (fun c => { c with errLine := true })
  let s := (((s.core n).takes.filter (fun t => t.ntag == f.ntag && t.ctx == f.ctx && t.batch == f.batch)).map Take.seq).foldl
    (fun s q => s.takeFlit n q f good) s
  if stall then s else s.drainTakeQ n

/-- FLIT_ARRIVE: the oldest flit reaches the hop, is taken by matching takes, and goes on (R203, R206-R209). (DEDUCED, log entry 29) -/
def State.doFlitArrive (s : State) (n : Nat) (crcOk stall : Bool) : State :=
  match (s.core n).inbox with
  | [] => s
  | f :: r =>
    if !(s.hopRoom n f.origin) then s
    else
      let s := (s.modCore n (fun c => { c with inbox := r })).passFlit n f crcOk stall
      match s.nextHop n f.origin with
      | some _ => (s.sendFlit n f).cBump n Reg.nklCntFwd
      | none => s

/-! ### Sources (R205) -/

/-- The flits of a segment of `lines` lines. -/
def flitsOf (j lines : Nat) : List (Nat × Nat × Nat) :=
  (List.range (ceilDiv lines 8)).map (fun i => (j, i, min 8 (lines - 8 * i)))

/-- The flit at the head of a source. -/
def Source.flit (t : Source) (n : Nat) (f : Nat × Nat × Nat) (data : List Byte) : Flit :=
  { origin := n, ctx := t.ctx, batch := t.batch, ntag := t.ntag, seg := f.1, idx := f.2.1, lines := f.2.2, lastSeg := f.1 == t.last
    va := t.base + 4096 * f.1, data := data }

/-- Whether hop `n` may inject: the next hop has room, and no flit in its own forward buffer is to be forwarded, which would win (R203). -/
def State.mayInject (s : State) (n : Nat) : Bool :=
  s.hopRoom n n && (s.core n).inbox.head?.all (fun f => (s.nextHop n f.origin).isNone)

/-- Injects the next flit of the oldest source whose data has arrived, when it may (R203, R205). -/
def State.inject (s : State) (n : Nat) : State :=
  if !(s.mayInject n) then s
  else
    match (s.core n).srcs.findSome? (fun t => match t.flits with
      | f :: r => (mget t.data (8 * f.1 + f.2.1)).map (fun bs => (t, f, r, bs))
      | [] => none) with
    | none => s
    | some (t, f, r, bs) =>
      let fl := t.flit n f bs
      let s := s.modCore n (fun c => { c with srcs := (c.srcs.map (fun u =>
        if u.seq = t.seq then { u with flits := r, data := mdel u.data (8 * f.1 + f.2.1) } else u)).filter (fun u =>
          !u.flits.isEmpty || c.arms.any (fun a => a.seq == u.seq)) })
      ((s.passFlit n fl true false).sendFlit n fl).cBump n Reg.nklCntInj

/-! ### Issue of a take (R206, R208) -/

/-- The blocks of a FACET take from the map entries of its range (R228). -/
def takeBlocks (first count : Nat) (es : List Word) : NatMap BlockAt :=
  (es.foldl (fun (a : Nat × Nat × NatMap BlockAt) e =>
    (a.1 + 1, a.2.1 + mapLinesOf e, a.2.2 ++ [(first + a.1, (⟨a.2.1, mapLinesOf e, indexOfMap e a.2.1⟩ : BlockAt))]))
    (0, indexLines count, [])).2.2

/-- The segments that the seen table shows as passed go to the refetch list; with DONE, the rest too (R208). -/
def State.takeLate (s : State) (n : Nat) (t : Take) : State :=
  match (s.core n).seen.find? (fun e => e.ctx == t.ctx && e.batch == t.batch && e.ntag == t.ntag) with
  | none => s
  | some e =>
    let passed := min t.stop (max t.first (e.last + 1))
    let s := (s.toRefetch n t.seq t.first passed (some Reg.nklCntLate)).raiseNext n t.seq passed
    if e.done then (s.toRefetch n t.seq passed t.stop none).raiseNext n t.seq t.stop else s

/-- The rest of a take's range goes to the refetch list by timeout (R208). -/
def State.takeTimeout (s : State) (n : Nat) (t : Take) : State :=
  (s.toRefetch n t.seq t.next t.stop (some Reg.nklCntTimeout)).raiseNext n t.seq t.stop

/-- Whether `units` of 256 CCLK cycles have passed since `t` (900 CCLK cycles in each µs of LOG_TIME). -/
def State.passedUnits (s : State) (t units : Nat) : Bool := decide (units * 256 ≤ (s.now - t) * 900)

/-- TAKE_FIRST_TIMEOUT (R208). -/
def State.doTakeFirstTimeout (s : State) (n k : Nat) : State :=
  match (s.core n).takes[k]? with
  | some t => if t.arrival.isNone && s.passedUnits t.issued (fld (s.cReg n Reg.nklCtrl) 31 16) then s.takeTimeout n t else s
  | none => s

/-- TAKE_GAP_TIMEOUT (R208). -/
def State.doTakeGapTimeout (s : State) (n k : Nat) : State :=
  match (s.core n).takes[k]? with
  | some t =>
    match t.arrival with
    | some a => if s.passedUnits a (fld (s.cReg n Reg.nklCtrl) 15 0) then s.takeTimeout n t else s
    | none => s
  | none => s

/-! ### SX_FACET_ENC (R222-R225) -/

/-- The raw blocks of HIST, read through port 6. -/
def State.encBlocks (s : State) (n : Nat) (d : Cmd) : (k i : Nat) → State × Except Nat (List (List Byte))
  | 0, _ => (s, .ok [])
  | k + 1, i =>
    match s.engRead n 6 d.rds (4 * d.rd 0 + 4096 * i) 4096 with
    | (s, .error e) => (s, .error e)
    | (s, .ok b) =>
      match State.encBlocks s n d k (i + 1) with
      | (s, .error e) => (s, .error e)
      | (s, .ok l) => (s, .ok (b :: l))

/-- ENCODE of the blocks from `i` on: each is coded or stored raw, written from line `off` of the area on, and then its index entry is written
(R222, R224, R228). The fault, if any; blocks written before it stand. -/
def State.encodeBlocks (s : State) (n : Nat) (d : Cmd) (t : FTable) (th : Nat) : (left i off : Nat) → State × Option Nat
  | 0, _, _ => (s, none)
  | left + 1, i, off =>
    match s.engRead n 6 d.rds (4 * d.rd 0 + 4096 * i) 4096 with
    | (s, .error e) => (s, some e)
    | (s, .ok raw) =>
      let b := fctStore t th raw
      let len32 := if b.1 then 128 else ceilDiv b.2.length 32
      let k := fctLines len32 b.1
      match s.engWrite n 4 d.wrs (64 * (d.wr 0 / 16 + off)) (padTo 64 b.2) with
      | (s, some e) => (s, some e)
      | (s, none) =>
        match s.engWrite n 4 d.wrs (4 * (d.wr 0 / 16 * 16 + i)) (natLe 4 (fctIndex b.1 t.fmt len32 off).toNat) with
        | (s, some e) => (s, some e)
        | (s, none) =>
          let s := s.cBump n Reg.lpeCntEncblk
          State.encodeBlocks (if b.1 then s.cBump n Reg.lpeCntEncraw else s) n d t th left (i + 1) (off + k)

/-- HIST: the table of the blocks is written (R223, R225). -/
def State.runHist (s : State) (n : Nat) (d : Cmd) : State :=
  let w := d.o 1
  match s.encBlocks n d (fld w 6 0) 0 with
  | (s, .error e) => s.coreFault n e d.va
  | (s, .ok blocks) =>
    match s.engWrite n 4 d.wrs (4 * d.wr 0) (bytesOf (fctBuild (fld w 29 28) blocks).record) with
    | (s, some e) => s.coreFault n e d.va
    | (s, none) => s.modCore n (fun c => c.sxDone d.seq)

/-- ENCODE: its table record is read and checked, then the blocks are coded one by one (R224, R225). -/
def State.runEncode (s : State) (n : Nat) (d : Cmd) : State :=
  let w := d.o 1
  match s.engRead n 6 d.rds (4 * d.rd 1) 16 with
  | (s, .error e) => s.coreFault n e d.va
  | (s, .ok bs) =>
    let r := wordsOf 4 bs
    if !(flag (wd r 0) 31) ∨ fld (wd r 0) 29 28 ≠ fld w 29 28 then (s.lpeInfo n 0 (fld s.free 3 0) 0).coreFault n codeFacetTable d.va
    else
      let th := if fld (d.o 2) 5 0 = 0 then fld (s.cReg n Reg.lpeCtrl) 5 0 else fld (d.o 2) 5 0
      match s.encodeBlocks n d (fctOfRecord r) th (fld w 6 0) 0 (indexLines (fld w 6 0)) with
      | (s, some e) => s.coreFault n e d.va
      | (s, none) => s.modCore n (fun c => c.sxDone d.seq)

/-- The start of SX_FACET_ENC: HIST and ENCODE run; EXPAND asks the Loupe (R225, R230). -/
def State.startEnc (s : State) (n : Nat) (d : Cmd) : State :=
  let w := d.o 1
  if fld w 31 30 = 2 then s.modCore n (fun c => c.loupeAsk d.seq 1 (fld w 29 28) (fld w 6 0) (d.rds.getD 0 (0, 0)))
  else if fld w 31 30 = 0 then s.runHist n d
  else s.runEncode n d

/-- SX_FACET_ENC at the dispatcher, at issue, and its effect (R225); an EXPAND ends when the Loupe has released all its blocks. -/
def State.doSxFacetEnc (s : State) (n : Nat) : State :=
  let s := s.dispatch n opSxFacetEnc okHere okHere
  let s := s.sxIssue n opSxFacetEnc (fun _ _ => true) (fun s d => s.startEnc n d)
  match (s.core n).sxA.find? (fun d => d.op == opSxFacetEnc && !d.done) with
  | some d => if (s.core n).loupeReady d.seq then s.modCore n (fun c => c.sxDone d.seq) else s
  | none => s

end Sys2Proof.Machine
end

