-- ==== Sys2Proof/Machine/Arm.lean ====
section
/-! DEFINITION. The issue of the elements of SX_ARM, SX_NKL_SOURCE and SX_NKL_TAKE (R192-R199, R205, R206, R227), generations (R199), and the
completion of the transfers to and from HBM (R185). -/

namespace Sys2Proof.Machine

/-! ### Segments of sources and takes (R205, R206, R227) -/

/-- The READ transfers of the flits of a source. -/
def srcXfers (d : Cmd) (ctx : Nat) (flits : List (Nat × Nat × Nat)) : List Xfer :=
  flits.map (fun f =>
    { seq := d.seq, slice := d.slice, cls := 0, kind := .source f.1 f.2.1, ctx := ctx, va := va48 d.ops 2 + 4096 * f.1 + 512 * f.2.1
      lines := f.2.2, spLine := 0 })

/-- Flits of a source are to be injected, and their reads are placed (R205). -/
def State.addFlits (s : State) (n : Nat) (d : Cmd) (flits : List (Nat × Nat × Nat)) : State :=
  (s.modCore n (fun c => { c with srcs := c.srcs.map (fun u => if u.seq = d.seq then { u with flits := u.flits ++ flits } else u) })).place n d.seq
    (srcXfers d (s.coreCtx n) flits)

/-- The next segment of a FACET source or take: its map entry is read, and the reads of a source's segment are placed (R227). -/
def State.segElem (s : State) (n : Nat) (d : Cmd) (a : ArmSt) : State × Option (Except (ArmStop × ArmSt) ArmSt) :=
  let src := d.op == opSxSource
  let j := if src then a.elem else fld (d.o 2) 15 0 + a.elem
  match s.mapEntry n d.seq (va48 d.ops 2 + 4096 * j) with
  | (s, none) => (s, none)
  | (s, some (.error e)) => (s, some (.error (.xlat e.1 e.2, a)))
  | (s, some (.ok e)) =>
    if !(mapOk e) then (s, some (.error (.code codeFacetMap j, a)))
    else if src then (s.addFlits n d (flitsOf j (mapLinesOf e)), some (.ok { a with elem := a.elem + 1 }))
    else (s, some (.ok { a with elem := a.elem + 1, ents := a.ents ++ [e] }))

/-- A take whose places are known begins: it is late for what has passed (R206, R208). -/
def State.putTake (s : State) (n : Nat) (d : Cmd) (es : List Word) : State :=
  let first := fld (d.o 2) 15 0
  let count := fld (d.o 1) 15 0
  let t : Take :=
    { seq := d.seq, slice := d.slice, ntag := fld (d.o 1) 31 16, ctx := s.coreCtx n, batch := (s.core n).batchId, first := first, count := count
      base := va48 d.ops 2, facet := flag (d.o 2) 31, line := d.wr 0 / 16, next := first, issued := s.now
      blocks := if flag (d.o 2) 31 then takeBlocks first count es else [] }
  (s.modCore n (fun c => ({ c with takes := c.takes ++ [t] }).sxDone d.seq)).takeLate n t

/-! ### The issue of elements -/

/-- Elements of an SX_ARM, or segments of a source or a take. -/
def issueCount (d : Cmd) : Nat := if d.op = opSxArm then armCount d else fld (d.o 1) 15 0

/-- Every element of a command has issued: the map writes of an SX_ARM are placed behind its data, a take begins (R199, R206, R227). -/
def State.armOver (s : State) (n : Nat) (d : Cmd) (a : ArmSt) : State :=
  let s := s.modCore n (fun c => { c with arms := c.arms.filter (fun x => x.seq != d.seq) })
  if d.op = opSxTake then s.putTake n d a.ents
  else if d.op = opSxSource then
    s.modCore n (fun c => ({ c with srcs := c.srcs.filter (fun u => u.seq != d.seq || !u.flits.isEmpty) }).sxDone d.seq)
  else (s.place n d.seq (mapWrites d (s.coreCtx n) a.maps)).modCore n (fun c => ((c.releaseMaps d.seq).sxDone d.seq).settleGens)

/-- The issue stops: the fault is taken; the transfers and flits of the elements before it stand, with the map writes of their blocks (R196, R211,
R236). (DEDUCED, log entry 28) -/
def State.armStop (s : State) (n : Nat) (d : Cmd) (stop : ArmStop) (a : ArmSt) : State :=
  let c := s.core n
  let mine := c.waiting.filter (fun x => x.seq == d.seq) ++ mapWrites d (s.coreCtx n) a.maps
  let srcs := c.srcs.filter (fun u => u.seq == d.seq && !u.flits.isEmpty)
  let s := match stop with
    | .code c b =>
      if c = codeFacetMap then s.facetMapFault n b d.va
      else if d.op = opSxArm then (s.sxInfo n d.slice (fld (d.o 1) 31 28) a.elem).coreFault n c d.va else s.coreFault n c d.va
    | .xlat e va => s.xlatFault n e va d.va
  s.modCore n (fun c => (({ c with waiting := mine, srcs := srcs }).releaseMaps d.seq).settleGens)

/-- Issues elements of a command until it waits, stops or is over (R190, R196). -/
def State.armRun (s : State) (n : Nat) (d : Cmd) : (fuel : Nat) → ArmSt → State
  | 0, _ => s
  | fuel + 1, a =>
    if issueCount d ≤ a.elem then s.armOver n d a
    else match (if d.op = opSxArm then s.armElem n d a else s.segElem n d a) with
      | (s, none) => s.modCore n (fun c => { c with arms := c.arms.map (fun x => if x.seq = a.seq then a else x) })
      | (s, some (.error e)) => s.armStop n d e.1 e.2
      | (s, some (.ok a)) => State.armRun s n d fuel a

/-- The most steps that the issue of a command takes: for each element its address, its map entries and its blocks. -/
def issueSteps (d : Cmd) : Nat := issueCount d * (fld (d.o 3) 15 0 / 64 + 2) + 1

/-- An arm waits for the older generation of its slot (R199). -/
def Core.armHeld (c : Core) (seq : Nat) : Bool :=
  c.descs.any (fun x => x.2.pending && x.2.live.getLast?.map Prod.snd == some seq)

/-- The commands whose elements are being issued go on, in issue order (R190). -/
def State.armsGo (s : State) (n : Nat) : State :=
  ((s.core n).arms.map ArmSt.seq).foldl (fun s q =>
    match (s.core n).arms.find? (fun a => a.seq == q), (s.core n).sxA.find? (fun d => d.seq == q) with
    | some a, some d => if (s.core n).armHeld q then s else s.armRun n d (issueSteps d) a
    | _, _ => s) s

/-- A command begins to issue its elements. -/
def State.armBegin (s : State) (n : Nat) (a : ArmSt) : State := (s.modCore n (fun c => { c with arms := c.arms ++ [a] })).armsGo n

/-! ### SX_ARM and its generations (R192-R199) -/

/-- SX_ARM issues (R196-R199): GEN rises, and the generation starts, runs beside the older one, or waits for it. (DEDUCED, log entry 28) -/
def State.startArm (s : State) (n : Nat) (d : Cmd) : State :=
  let slot := fld (d.o 1) 31 28
  let x := (s.core n).desc d.slice slot
  let old := (x.live.map (fun g => (s.core n).sxRanges g.2)).flatten
  let wait := !x.live.isEmpty && !(flag (d.o 1) 21 && !(anyMeet old (d.rds ++ d.wrs)))
  if fld (d.o 1) 25 24 = 1 ∧ d.win.isNone then (s.sxInfo n d.slice slot 0).coreFault n codeSxWlsrc d.va
  else
    let y : DescSlot := { gen := (x.gen + 1) % 256, live := x.live ++ [((x.gen + 1) % 256, d.seq)], pending := wait }
    let s := s.modCore n (fun c => { c with descs := mput c.descs (slotKey d.slice slot) y })
    let s := if wait then s.cBump n Reg.sxCntArmpend else s
    let blocks := armCount d * (fld (d.o 3) 15 0 / 64)
    s.armBegin n { seq := d.seq, off := if flag (d.o 1) 20 ∧ fld (d.o 1) 27 26 = 0 then indexLines blocks else 0 }

/-- SX_ARM at the dispatcher, and its issue (R192). -/
def State.doSxArm (s : State) (n : Nat) : State :=
  let s := s.dispatch n opSxArm okHere remoteAhead
  s.sxIssue n opSxArm Core.canArm (fun s d => s.startArm n d)

/-- GENERATION_START: the older generation has retired, and the pending one starts to issue its elements (R199). -/
def State.doGenerationStart (s : State) (n slice slot : Nat) : State :=
  let x := (s.core n).desc slice slot
  match x.pending, x.live with
  | true, [_] => ((s.modCore n (fun c => { c with descs := mput c.descs (slotKey slice slot) { x with pending := false } })).armsGo n).modCore n Core.settleGens
  | _, _ => s

/-! ### The issue of sources and takes (R205, R206) -/

/-- SX_NKL_SOURCE issues: its READ transfers are issued segment by segment, and its flits are to be injected in order (R205). -/
def State.startSource (s : State) (n : Nat) (d : Cmd) : State :=
  let count := fld (d.o 1) 15 0
  let src : Source :=
    { seq := d.seq, slice := d.slice, ntag := fld (d.o 1) 31 16, ctx := s.coreCtx n, batch := (s.core n).batchId, base := va48 d.ops 2
      last := count - 1, flits := [] }
  let s := s.modCore n (fun c => { c with srcs := c.srcs ++ [src] })
  if flag (d.o 2) 31 then s.armBegin n { seq := d.seq }
  else (s.addFlits n d ((List.range count).flatMap (fun j => flitsOf j 64))).modCore n (fun c => c.sxDone d.seq)

/-- SX_NKL_SOURCE at the dispatcher, its issue, and its next injection (R205). (DEDUCED, log entry 29) -/
def State.doSxNklSource (s : State) (n : Nat) : State :=
  let s := s.dispatch n opSxSource okHere okHere
  (s.sxIssue n opSxSource (fun _ _ => true) (fun s d => s.startSource n d)).inject n

/-- SX_NKL_TAKE issues; a FACET take first reads the map entries of its range (R206, R208, R227). -/
def State.startTake (s : State) (n : Nat) (d : Cmd) : State := if flag (d.o 2) 31 then s.armBegin n { seq := d.seq } else s.putTake n d []

/-- SX_NKL_TAKE at the dispatcher, and its issue (R206). -/
def State.doSxNklTake (s : State) (n : Nat) : State :=
  let s := s.dispatch n opSxTake okHere okHere
  s.sxIssue n opSxTake (fun _ _ => true) (fun s d => s.startTake n d)

/-! ### Work lists (R195) -/

/-- The transfers of a part of a work list, in the READ class, by physical address (R187, R195): `lines` lines from line `first` on. -/
def wlXfers (d : WlDesc) (first lines : Nat) : List Xfer :=
  (cutSpan (d.listPa + 64 * first) lines).map (fun t =>
    { seq := 0, slice := 0, cls := 0, kind := .workList, ctx := hubIdent, va := t.1, lines := t.2.1, spLine := first + t.2.2, pa := t.1 })

/-- The stream engine begins to read the work list of a descriptor into the core's buffer: the line that holds COUNT first (R195). -/
def State.readWorkList (s : State) (n : Nat) (d : WlDesc) : State :=
  s.modCore n (fun c => { c with wlBuf := [], wlLines := [], waiting := wlXfers d 0 1 ++ c.waiting })

/-- Lines of a work list of `count` entries. -/
def wlLength (count : Nat) : Nat := ceilDiv (32 + 16 * count) 64

/-- Lines of the work list have arrived: they fill the buffer, the line of COUNT lets the rest be read, and elements that waited for their entries
issue (R195). A read for a descriptor that has left the core lands nothing. -/
def State.landWorkList (s : State) (n : Nat) (x : Xfer) (bs : List Byte) : State :=
  let c := s.core n
  match c.wl with
  | none => s
  | some d =>
    if x.pa ≠ d.listPa + 64 * x.spLine then s
    else
      let ws := wordsOf (16 * x.lines) bs
      let at' := 16 * x.spLine
      let buf := c.wlBuf.take at' ++ List.replicate (at' - c.wlBuf.length) 0 ++ ws ++ c.wlBuf.drop (at' + ws.length)
      let rest := if x.spLine = 0 then wlXfers d 1 (wlLength (fld (wd ws 0) 10 0) - 1) else []
      (s.modCore n (fun c => { c with
        wlBuf := buf, wlLines := (List.range x.lines).foldl (fun l i => sadd l (x.spLine + i)) c.wlLines, waiting := rest ++ c.waiting })).armsGo n

/-! ### Completion of transfers (R185) -/

/-- A refetched part has landed: with the last part its segment has landed (R208). (DEDUCED, log entry 29) -/
def State.refetched (s : State) (n : Nat) (x : Xfer) (j : Nat) : State :=
  let more := ((s.core n).waiting ++ (s.core n).outs).any (fun y => y.seq == x.seq && (match y.kind with
    | .refetch k _ => k == j
    | _ => false))
  match (s.core n).takeOf x.seq with
  | some t => if more then s else s.segLanded n 4 t j
  | none => s

/-- What a transfer does at its end, its data at hand (R185, R197, R205, R208, R227). -/
def State.finishRead (s : State) (n : Nat) (x : Xfer) (bs : List Byte) : State :=
  let s := s.cBump n (classCounter x.cls) x.lines
  match x.kind with
  | .read => s.land n 4 x.seq (64 * x.spLine) bs
  | .block w e => (s.land n 4 x.seq (64 * x.spLine) bs).landBlock n x w e
  | .source seg flit => s.modCore n (fun c => c.gotFlit x.seq seg flit bs)
  | .refetch j _ => (s.land n 4 x.seq (64 * x.spLine) bs).refetched n x j
  | .page _ => s.land n 4 x.seq (64 * x.spLine) bs
  | .workList => s.landWorkList n x bs
  | _ => s

/-- The end of a write to HBM (R185, R227). -/
def State.finishWrite (s : State) (n : Nat) (x : Xfer) : State :=
  let s := s.cBump n (classCounter x.cls) x.lines
  match x.kind with
  | .mapWrite es => es.foldl (fun s e => s.xferPoke n x (x.pa + e.1 % 64) (natLe 4 e.2.toNat)) s
  | _ => (s.xferPoke n x x.pa x.data).modCore n (fun c => c.releaseMaps x.seq)

/-- TRANSFER_COMPLETE of a transfer to or from HBM: it ends, and its generation retires when it was the last (R185, R198). A remote transfer
ends by its answer (R364). -/
def State.doTransferComplete (s : State) (n idx : Nat) (inj : Inject) : State :=
  match (s.core n).outs[idx]? with
  | none => s
  | some x =>
    if x.cls = 2 then s
    else
      let s := s.modCore n (fun c => c.dropOut x)
      let s := if x.cls = 1 then s.finishWrite n x
        else match (s.strikeMem inj).xferPeek n x with
          | (s, some bs) => s.finishRead n x bs
          | (s, none) => s
      (s.modCore n Core.settleGens).armsGo n

end Sys2Proof.Machine
end

