-- ==== Sys2Proof/Machine/PageTable.lean ====
section
/-! DEFINITION. The page-table unit of the Logbook (R273, R277-R280, R297): pools, counts, mappings of KV ranges and the requests it serves. -/

namespace Sys2Proof.Machine

/-- KV_PIN (R296). -/
abbrev codeKvPin : Nat := 0x6C
/-- KV_NOPAGE. -/
abbrev codeKvNopage : Nat := 0x6D
/-- KV_RECORD. -/
abbrev codeKvRecord : Nat := 0x6E

/-- Changes the page-table unit. -/
def State.modKv (s : State) (f : Kv → Kv) : State := { s with log := { s.log with kv := f s.log.kv } }

/-! ### Pools and counts (R273) -/

/-- The loaded entry of a pool. -/
def State.pool (s : State) (p : Nat) : List Word := mgetD s.log.kv.pools p []

/-- VALID of a pool. -/
def poolValid (e : List Word) : Bool := flag (wd e 0) 31
/-- CTX_ID of a pool. -/
def poolCtx (e : List Word) : Nat := fld (wd e 0) 11 0
/-- NPAGES of a pool. -/
def poolPages (e : List Word) : Nat := fld (wd e 1) 19 0
/-- FRAME_BASE of a pool. -/
def poolBase (e : List Word) : Nat := fld (wd e 2) 31 16 * 2 ^ 16 + fld (wd e 3) 11 0 * 2 ^ 32
/-- SCALE_VBASE of a pool. -/
def poolScale (e : List Word) : Nat := va48 e 4
/-- COUNT_BASE of a pool. -/
def poolCounts (e : List Word) : Nat := fld (wd e 6) 31 6 * 64 + fld (wd e 7) 11 0 * 2 ^ 32

/-- Whether pool `p` is a valid pool of a context. -/
def State.poolOf (s : State) (p ctx : Nat) : Bool := poolValid (s.pool p) && poolCtx (s.pool p) == ctx

/-- The pool of a context that holds a frame, with the frame's index. -/
def State.poolOfFrame (s : State) (ctx pa : Nat) : Option (Nat × Nat) :=
  s.log.kv.pools.findSome? (fun e =>
    if poolValid e.2 && poolCtx e.2 == ctx && decide (poolBase e.2 ≤ pa ∧ pa < poolBase e.2 + 65536 * poolPages e.2) then
      some (e.1, (pa - poolBase e.2) / 65536) else none)

/-- Where the count of a frame is stored. -/
def countAddr (e : List Word) (f : Nat) : Nat := poolCounts e + 2 * f

/-- The count of frame `f` of pool `p`. -/
def State.count (s : State) (p f : Nat) : Nat := leNat ((s.hubPeek (countAddr (s.pool p) f) 2).getD [])

/-- Sets the count of a frame. -/
def State.setCount (s : State) (p f k : Nat) : State := s.hubPoke (countAddr (s.pool p) f) (natLe 2 k)

/-- Where the free bitmap of a pool starts: the next 64 B boundary after its counts. -/
def bitmapAddr (e : List Word) : Nat := alignUp (poolCounts e + 2 * poolPages e) 64

/-- Whether frame `f` of pool `p` is free. -/
def State.frameFree (s : State) (p f : Nat) : Bool :=
  (leNat ((s.hubPeek (bitmapAddr (s.pool p) + f / 8) 1).getD [])).testBit (f % 8)

/-- Sets or clears the free bit of a frame. -/
def State.setFree (s : State) (p f : Nat) (v : Bool) : State :=
  let a := bitmapAddr (s.pool p) + f / 8
  let b := leNat ((s.hubPeek a 1).getD [])
  let m := 2 ^ (f % 8)
  s.hubPoke a (natLe 1 (b - (if b.testBit (f % 8) then m else 0) + (if v then m else 0)))

/-- The lowest free frame of a pool: its free bit is set, and its count is 0 (R277, R279). -/
def State.lowestFree (s : State) (p : Nat) : Option Nat :=
  (List.range (poolPages (s.pool p))).find? (fun f => s.frameFree p f && s.count p f == 0)

/-- The 64 KiB frame that a virtual page of a context maps, if any (R274). -/
def State.kvMap (s : State) (ctx va : Nat) : Option Nat := (s.xlate [] ctx (va / 2 ^ 16 * 2 ^ 16) false).toOption

/-- The physical address of the scale area of a frame, through SCALE_VBASE (R273). -/
def State.scalePa (s : State) (p f : Nat) : Option Nat :=
  (s.xlate [] (poolCtx (s.pool p)) (poolScale (s.pool p) + 2048 * f) false).toOption

/-- Lowers the count of a frame; at 0 the frame goes to the scrubber with its scale area, after the invalidations of its context (R279, R343).
(DEDUCED, log entry 31) -/
def State.lowerCount (s : State) (p f k : Nat) : State :=
  let c := s.count p f - k
  let s := s.setCount p f c
  if c = 0 then
    s.fillAfter (poolCtx (s.pool p)) { pa := poolBase (s.pool p) + 65536 * f, big := false, kv := true, pool := p, frame := f, scale := s.scalePa p f }
  else s

/-- Takes frame `f` of pool `p` out of the scrubber: a frame whose count is raised again is not scrubbed (R279). (DEDUCED, log entry 31) -/
def State.unscrub (s : State) (p f : Nat) : State :=
  let keep (l : List Fill) : List Fill := l.filter (fun x => !(x.kv && x.pool == p && x.frame == f))
  let keepI (l : List Inval) : List Inval := l.map (fun i => { i with fills := keep i.fills })
  let h := s.hub
  let fs := keep h.fills
  let room := 64 - fs.length
  let ws := keep h.fillWait
  { s with hub := { h with
    fills := fs ++ ws.take room, fillWait := ws.drop room, invQueue := keepI h.invQueue, invWait := keepI h.invWait } }

/-- Lowers the count of a frame given by its address. -/
def State.lowerFrame (s : State) (ctx pa k : Nat) : State :=
  match s.poolOfFrame ctx pa with
  | some (p, f) => s.lowerCount p f k
  | none => s

/-- The job of a context. -/
def State.jobOfCtx (s : State) (ctx : Nat) : Option Job := s.pilot.jobs.find? (fun j => j.ctxId == ctx && !j.ended)

/-- Maps a KV page and invalidates it (R277, R341): none where a missing table finds no frame. (DEDUCED, log entry 31) -/
def State.kvMapTo (s : State) (ctx va pa : Nat) : Option State :=
  match s.jobOfCtx ctx with
  | none => none
  | some j => (s.mapPage j va pa false true).map (fun s => s.invalidate { ctx := ctx, all := false, va := va / 2 ^ 16 * 2 ^ 16, n := 1 })

/-- Unmaps a KV page, and invalidates it. -/
def State.kvUnmap (s : State) (ctx va : Nat) : State := 
  (s.unmapPage ctx va).invalidate { ctx := ctx, all := false, va := va / 2 ^ 16 * 2 ^ 16, n := 1 }

/-! ### The queue (R278) -/

/-- One request enters the queue from the crossing of the core that the rotating order names (R29, R278): the oldest of that core. -/
def Kv.admit1 (k : Kv) : Kv :=
  match arbitrate k.order (fun r => k.crossing.any (fun x => x.src == some (r - 1) && r != 0)) with
  | none => k
  | some (w, o) =>
    match k.crossing.find? (fun x => x.src == some (w - 1)) with
    | none => k
    | some x => { k with queue := k.queue ++ [x], crossing := k.crossing.erase x, order := o }

/-- Core requests waiting at their crossings enter the queue while it has room and the unit is enabled (R278, R297). (DEDUCED, log entry 31) -/
def State.kvAdmit (s : State) : State :=
  if flag (s.reg Reg.logKvCtrl) 0 then
    s.modKv (fun k => (List.range (64 - k.queue.length)).foldl (fun k _ => k.admit1) k)
  else s

/-- A core sends requests. -/
def State.kvSend (s : State) (rs : List KvReq) : State := (s.modKv (fun k => { k with crossing := k.crossing ++ rs })).kvAdmit

/-- The request at the head of the queue when it has the operation and the unit serves (R297). -/
def State.kvHead (s : State) (op : KvOp) : Option KvReq :=
  if flag (s.reg Reg.logKvCtrl) 0 then
    match s.log.kv.queue with
    | r :: _ => if r.op = op then some r else none
    | [] => none
  else none

/-- Takes the request at the head off the queue. -/
def State.kvPop (s : State) : State := (s.modKv (fun k => { k with queue := k.queue.drop 1 })).kvAdmit

/-- The completion of a Pilot request (R297). -/
def State.kvResult (s : State) (err : Nat) : State :=
  (s.setReg Reg.logKvResult (w32 (2 ^ 31 + err))).modKv (fun k => { k with line := true })

/-- A refused request (R280): counted; COUNTSAT for a saturated count; the Pilot's goes to its result, a core's faults it. -/
def State.kvRefuse (s : State) (r : KvReq) (err : Nat) : State :=
  let s := s.bump Reg.logKvCntRefused
  let s := if err = 3 then s.orReg Reg.logKvErr 2 else s
  match r.src with
  | none => s.kvResult err
  | some n =>
    let s := s.modCore n (fun c => { c with attn := c.attn.map (fun a => { a with asked := a.asked - 1 }) })
    s.coreFault n (if r.op = .pin then codeKvPin else codeKvNopage) ((s.core n).sxVa r.seq)

/-- A request served for a core: one answer less is awaited, and `f` records it. -/
def State.kvAnswer (s : State) (r : KvReq) (f : Attn → Attn) : State :=
  match r.src with
  | none => s.kvResult 0
  | some n => s.modCore n (fun c => { c with attn := c.attn.map (fun a =>
      if a.mx = r.seq ∨ a.vx = some r.seq then f { a with asked := a.asked - 1 } else a) })

/-- A request that changed a mapping completes when the invalidation of its page does, and returns `frame` (R277). (DEDUCED, log entry 12) -/
def State.kvLater (s : State) (r : KvReq) (frame : Option Nat) : State :=
  (s.lastInval r.ctx (fun i => { i with answers := i.answers ++ [(r, frame)] })).getD
    (s.kvAnswer r (fun a => { a with frame := frame <|> a.frame }))

/-! ### The requests (R277) -/

/-- PIN: raises the count of the mapped frame and records the pin, or is refused (R277, R280). -/
def State.doPin (s : State) : State :=
  match s.kvHead .pin with
  | none => s
  | some r =>
    let s := s.kvPop
    match s.kvMap r.ctx r.va with
    | none => s.kvRefuse r 1
    | some pa =>
      match s.poolOfFrame r.ctx pa with
      | none => s.kvRefuse r 2
      | some (p, f) =>
        if s.count p f = 0xFFFF then s.kvRefuse r 3
        else
          let s := (s.setCount p f (s.count p f + 1)).bump Reg.logKvCntPin
          (s.modKv (fun k => { k with pins := k.pins ++ [(r.src.getD 0, r.seq, pa)] })).kvAnswer r
            (fun a => { a with pins := mput a.pins r.page pa })

/-- UNPIN: lowers the count and removes the core's pin record (R277). (DEDUCED, log entry 31) -/
def State.doUnpin (s : State) : State :=
  match s.kvHead .unpin with
  | none => s
  | some r =>
    let s := s.kvPop
    let rec_ := (r.src.getD 0, r.seq, r.frame)
    if s.log.kv.pins.contains rec_ then
      (s.modKv (fun k => { k with pins := k.pins.erase rec_ })).lowerFrame r.ctx r.frame 1
    else s

/-- MAP_FRESH: drops the old mapping, takes the lowest free frame with count 1 and maps it; a page mapped outside a valid pool of the context is
refused (R277, R280). -/
def State.doMapFresh (s : State) : State :=
  match s.kvHead .mapFresh with
  | none => s
  | some r =>
    let s := s.kvPop
    if !(s.poolOf r.pool r.ctx) then s.kvRefuse r 4
    else if (s.kvMap r.ctx r.va).any (fun old => (s.poolOfFrame r.ctx old).isNone) then s.kvRefuse r 2
    else match s.lowestFree r.pool with
      | none => s.kvRefuse r 2
      | some g =>
        let pa := poolBase (s.pool r.pool) + 65536 * g
        let s' := match s.kvMap r.ctx r.va with
          | some old => (s.kvUnmap r.ctx r.va).lowerFrame r.ctx old 1
          | none => s
        match ((s'.setFree r.pool g false).setCount r.pool g 1).kvMapTo r.ctx r.va pa with
        | none => s.kvRefuse r 2
        | some s => (s.bump Reg.logKvCntAlloc).kvLater r (some pa)

/-- COW: raises the count of the mapped frame, takes the lowest free frame with count 1 and starts the copy (R277). -/
def State.doCow (s : State) : State :=
  match s.kvHead .cow with
  | none => s
  | some r =>
    let s := s.kvPop
    match (s.kvMap r.ctx r.va).bind (fun pa => (s.poolOfFrame r.ctx pa).map (fun x => (pa, x))) with
    | none => s.kvRefuse r 2
    | some (pa, p, f) =>
      if s.count p f = 0xFFFF then s.kvRefuse r 3
      else match s.lowestFree p with
        | none => s.kvRefuse r 2
        | some g =>
          let s := (((s.setCount p f (s.count p f + 1)).setFree p g false).setCount p g 1).bump Reg.logKvCntAlloc
          s.modKv (fun k => { k with copies := k.copies ++ [(⟨r, pa, poolBase (s.pool p) + 65536 * g⟩ : KvCopy)] })

/-- Copies `n` bytes between physical addresses under one identity, as accesses that crossed to memory before any fence (R20); a line that delivers no
data copies unrelated bits (R334, R336). (DEDUCED, log entry 31) -/
def State.copyPhys (s : State) (ident src dst n : Nat) : State :=
  (s.noteRead src n true).poke ident dst ((linesOf src n).flatMap (fun l =>
    if s.readable (64 * l) 64 true then s.readAs ident (64 * l) 64 true
    else (cellsRead s.mem.bytes (64 * l) 64).map (Config.foreignByte (64 * l) ident ident))) true

/-- COW_COMPLETION: the oldest copy ends; the page maps the new frame and the old one's count falls by 2 (R277). -/
def State.doCowCompletion (s : State) : State :=
  match s.log.kv.copies with
  | [] => s
  | c :: rest =>
    let r := c.req
    let s := s.modKv (fun k => { k with copies := rest })
    match s.poolOfFrame r.ctx c.fromPa, s.poolOfFrame r.ctx c.toPa with
    | some (p, f), some (q, g) =>
      let s := s.copyPhys r.ctx c.fromPa c.toPa 65536
      let s := match s.scalePa p f, s.scalePa q g with
        | some a, some b => s.copyPhys r.ctx a b 2048
        | _, _ => s
      match s.kvMapTo r.ctx r.va c.toPa with
      | none => s.kvRefuse r 2
      | some s => ((s.lowerCount p f 2).bump Reg.logKvCntCow).kvLater r (some c.toPa)
    | _, _ => s.kvRefuse r 2

/-- ATTACH: raises the count of a frame of the pool, which is then neither free nor on its way through the scrubber, and maps the page to it (R277,
R279). -/
def State.doAttach (s : State) : State :=
  match s.kvHead .attach with
  | none => s
  | some r =>
    let s := s.kvPop
    let e := s.pool r.pool
    if !(poolValid e) then s.kvRefuse r 4
    else if poolPages e ≤ r.frame then s.kvRefuse r 2
    else if s.count r.pool r.frame = 0xFFFF then s.kvRefuse r 3
    else
      let s' := ((s.unscrub r.pool r.frame).setFree r.pool r.frame false).setCount r.pool r.frame (s.count r.pool r.frame + 1)
      match s'.kvMapTo (poolCtx e) r.va (poolBase e + 65536 * r.frame) with
      | none => s.kvRefuse r 2
      | some s => s.kvLater { r with ctx := poolCtx e } none

/-- UNMAP: unmaps the page and lowers the count of its frame, or counts a no-op (R277). The context of the Pilot's is that of its pool (R297). -/
def State.doUnmap (s : State) : State :=
  match s.kvHead .unmap with
  | none => s
  | some r =>
    let s := s.kvPop
    let done (s : State) (err : Nat) : State := match r.src with
      | none => s.kvResult err
      | some _ => s.kvAnswer r id
    let ctx := if r.src.isNone then poolCtx (s.pool r.pool) else r.ctx
    if r.src.isNone && !(poolValid (s.pool r.pool)) then done s 4
    else match s.kvMap ctx r.va with
    | none => done (s.bump Reg.logKvCntNoop) 1
    | some pa =>
      match s.poolOfFrame ctx pa with
      | none => done s 2
      | some (p, f) => ((s.kvUnmap ctx r.va).lowerCount p f 1).kvLater { r with ctx := ctx } none

/-- RELEASE_CORE: lowers the count once for every pin recorded against the core, and clears the records (R277). -/
def State.releasePins (s : State) (n : Nat) : State :=
  let mine := s.log.kv.pins.filter (fun p => p.1 == n)
  let s := s.modKv (fun k => { k with pins := k.pins.filter (fun p => p.1 != n) })
  mine.foldl (fun s p =>
    match s.log.kv.pools.findSome? (fun e => if poolValid e.2 then s.poolOfFrame (poolCtx e.2) p.2.2 else none) with
    | some (q, f) => s.lowerCount q f 1
    | none => s) s

/-- RELEASE_CORE at the head of the queue (R277). -/
def State.doReleaseCore (s : State) : State :=
  match s.kvHead .releaseCore with
  | none => s
  | some r => (s.kvPop.releasePins r.frame).kvResult 0

/-- The firmware releases the pins of a core that stopped (R294): those recorded, and those that its waiting requests would record before a
RELEASE_CORE is served. (DEDUCED, log entry 31) -/
def State.releaseCore (s : State) (n : Nat) : State :=
  let keep (l : List KvReq) : List KvReq := l.filter (fun r => !(r.src == some n && r.op == .pin))
  (s.modKv (fun k => { k with queue := keep k.queue, crossing := keep k.crossing })).releasePins n

/-- Loads a pool table entry (R277). (DESIGN CHOICE, log entry 66) -/
def State.loadPool (s : State) (p : Nat) : State :=
  let e := s.hubWords (s.reg2 Reg.logKvPooltabLo + 32 * p) 8
  s.modKv (fun k => { k with pools := if poolValid e then mput k.pools p e else mdel k.pools p })

/-- POOL_LOAD at the head of the queue (R277). -/
def State.doPoolLoad (s : State) : State :=
  match s.kvHead .poolLoad with
  | none => s
  | some r => (s.kvPop.loadPool r.pool).kvResult 0

/-- A write of LOG_KV_REQ (R297): the request enters the queue; OVERFLOW at a full queue, BADREQ for a reserved OP. -/
def State.kvReqWrite (s : State) (v : Word) : State :=
  let pool := fld v 27 22
  let va := (s.reg Reg.logKvReqVaLo).toNat / 2 ^ 16 * 2 ^ 16 + fld (s.reg Reg.logKvReqVaHi) 15 0 * 2 ^ 32
  let req (op : KvOp) (frame : Nat) : KvReq := { op := op, va := va, frame := frame, pool := pool }
  let push (r : KvReq) : State :=
    if s.log.kv.queue.length < 64 then s.modKv (fun k => { k with queue := k.queue ++ [r], order := k.order.erase 0 ++ [0] })
    else s.orReg Reg.logKvErr 1
  match fld v 31 28 with
  | 1 => push (req .attach (fld (s.reg Reg.logKvReqFrame) 19 0))
  | 2 => push (req .unmap 0)
  | 3 => push (req .releaseCore (fld v 21 17))
  | 4 => push (req .poolLoad 0)
  | _ => s.orReg Reg.logKvErr 4

/-! ### The scrubber and the fill engine (R279, R343) -/

/-- Takes the head of the fill queue; a fill that waits takes the free place. -/
def Hub.popFill (h : Hub) : Hub := { h with fills := h.fills.drop 1 ++ h.fillWait.take 1, fillWait := h.fillWait.drop 1 }

/-- A transfer of some core that is outstanding uses the page (R341, R343). (DEDUCED, log entry 32) -/
def State.pageBusy (s : State) (pa n : Nat) : Bool :=
  s.cores.any (fun c => c.outs.any (fun x => decide (x.cls < 2) && overlap x.pa (64 * x.lines) pa n))

/-- FRAME_SCRUBBED: the frame at the head of the scrubber and its scale area are zero, and the frame is free again, while its pool is loaded (R279,
R343). A frame whose count is not 0 is not scrubbed. (DEDUCED, log entry 32) -/
def State.doFrameScrubbed (s : State) : State :=
  match s.hub.fills with
  | [] => s
  | f :: _ =>
    if !f.kv || s.pageBusy f.pa 65536 then s
    else
      let s : State := { s with hub := s.hub.popFill }
      let e := s.pool f.pool
      let here := poolValid e && decide (f.frame < poolPages e) && poolBase e + 65536 * f.frame == f.pa
      if here && s.count f.pool f.frame != 0 then s
      else
        let m := s.mem.fillZ f.pa 65536
        let m := match f.scale with
          | some a => m.fillZ a 2048
          | none => m
        let s := ({ s with mem := m } : State).bump (hbmKey 0 Reg.hbmCntFill)
        if here then (s.setFree f.pool f.frame true).bump Reg.logKvCntFreed else s

/-- The frame of a filled page is free again, when it was on its way through the scrubber. -/
def freeFrame (m : NatMap FrameUse) (pa : Nat) : NatMap FrameUse :=
  match mget m pa with
  | some u => if u.scrub then mdel m pa else m
  | none => m

/-- FILL_COMPLETE: the fill engine has set Z on every line of the page at the head, and its frame is free again (R343). (DEDUCED, log entry 32) -/
def State.doFillComplete (s : State) : State :=
  match s.hub.fills with
  | [] => s
  | f :: _ =>
    let n := if f.big then 2 ^ 21 else 2 ^ 16
    if f.kv || s.pageBusy f.pa n then s
    else
      ({ s with
        hub := s.hub.popFill
        mem := s.mem.fillZ f.pa n
        pilot := { s.pilot with frames := freeFrame s.pilot.frames f.pa } }).bump (hbmKey 0 Reg.hbmCntFill)

end Sys2Proof.Machine
end

