-- ==== Sys2Proof/Machine/Attention.lean ====
section
/-! DEFINITION. The fused attention pair MX_ATTN and VX_ATTN (R274-R276, R281-R294): list records, pins and page fetches, the arithmetic of a
block, scores, flushes and evictions. -/

namespace Sys2Proof.Machine

/-! ### List records (R275) -/

/-- POOL of a list record. -/
def recPool (r : List Word) : Nat := fld (wd r 0) 31 26
/-- NTOK of a list record. -/
def recNtok (r : List Word) : Nat := fld (wd r 0) 16 0
/-- PREFIX of a list record. -/
def recPrefix (r : List Word) : Nat := fld (wd r 1) 31 24
/-- BUDGET of a list record. -/
def recBudget (r : List Word) : Nat := fld (wd r 1) 23 16
/-- BASEROWS of a list record. -/
def recBase (r : List Word) : Nat := fld (wd r 1) 15 8
/-- OPEN of a list record. -/
def recOpen (r : List Word) : Nat := fld (wd r 1) 7 0
/-- VALID[j] of a list record. -/
def recValid (r : List Word) (j : Nat) : Bool := (wd2 r 2).testBit j
/-- PIN[j] of a list record. -/
def recPin (r : List Word) (j : Nat) : Bool := (wd2 r 4).testBit j
/-- PENDING[j] of a list record. -/
def recPending (r : List Word) (j : Nat) : Bool := (wd2 r 6).testBit j
/-- SCORE of page `j`. -/
def recScore (r : List Word) (j : Nat) : Word := wd r (8 + j)

/-- Whether the record's pages can be read or written (R275); `uses`: the pair has PCOUNT > 0 or FLUSH = 1. -/
def recUses (r : List Word) (uses : Bool) : Bool := uses || decide (0 < recBase r) || wd2 r 2 != 0 || wd2 r 6 != 0

/-- The fields of a record lie in their ranges and its reserved fields are 0 (R11, R275, R443). -/
def recFields (r : List Word) : Bool :=
  decide (recNtok r ≤ 16384 ∧ recPrefix r ≤ 64 ∧ recOpen r ≤ 63 ∧ (recBudget r = 0 ∨ 5 ≤ recBudget r ∧ recBudget r ≤ 64)) &&
  fld (wd r 0) 25 17 == 0 && (List.range 8).all (fun k => wd r (72 + k) == 0)

/-- A consistent list record of a context (R275). -/
def State.recOk (s : State) (ctx : Nat) (r : List Word) (uses : Bool) : Bool :=
  recFields r &&
  decide (256 * recOpen r ≤ recNtok r ∧ recNtok r ≤ 256 * recOpen r + 256 ∧ recBase r ≤ recNtok r - 256 * recOpen r) &&
  !(decide (0 < recBase r) && !(recValid r (recOpen r) && recPrefix r == recOpen r + 1)) &&
  !(recUses r uses && !(s.poolOf (recPool r) ctx))

/-! ### The blocks of a pair (R286, R289) -/

/-- MODE 1: backward. -/
def Cmd.backward (d : Cmd) : Bool := fld (d.o 1) 31 30 == 1
/-- QROWS of the MX half. -/
def Cmd.qrows (d : Cmd) : Nat := fld (d.o 1) 25 17
/-- LIST_PVA of the MX half. -/
def Cmd.listVa (d : Cmd) : Nat := va48 d.ops 3
/-- NBUF of the MX half. -/
def Cmd.nbuf (d : Cmd) : Nat := fld (d.o 1) 29 27

/-- The blocks of a pair: page, and whether it is the staging block (R289). -/
def attBlocks (d : Cmd) (r : List Word) : List (Nat × Bool) :=
  (List.range (fld (d.o 2) 23 16)).map (fun i => (fld (d.o 2) 31 24 + i, false)) ++ (if flag (d.o 1) 26 then [(recOpen r, true)] else [])

/-- Whether a block reads its page: a VALID page, or a staging block with rows in a mapped page. -/
def needsPage (r : List Word) (b : Nat × Bool) : Bool := if b.2 then decide (0 < recBase r) else recValid r b.1

/-- Blocks that read a page among the first `k`. -/
def fetchesBefore (d : Cmd) (r : List Word) (k : Nat) : Nat := (((attBlocks d r).take k).filter (needsPage r)).length

/-- The first line of a slot of the page buffer. -/
def slotLine (d : Cmd) (i : Nat) : Nat := d.wr 0 / 16 + 1056 * (i % d.nbuf)

/-! ### The MX half: dispatch, issue, pins, fetches (R286, R288, R291) -/

/-- The words behind the MX_ATTN at the head, when they are a whole command. -/
def Core.partner (c : Core) : List Word := c.fetch.drop c.headLen

/-- Whether the words behind the head are in the buffer, or there are none. -/
def Core.partnerThere (c : Core) : Bool :=
  let p := c.partner
  decide (c.curSl.endVa ≤ c.curSl.pc + 4 * c.headLen) || (decide (1 ≤ p.length) && decide (hLen (wd p 0) ≤ p.length))

/-- Whether the command behind an MX_ATTN is not its other half (R288). -/
def badMxPair (c : Core) (d : Cmd) : Bool :=
  let p := c.partner
  !(!p.isEmpty && hOp (wd p 0) == opVxAttn && cmdOk (p.take (hLen (wd p 0))) c.rotation c.single && attnPair d.ops (cmdOperands p))

/-- Whether a VX_ATTN does not follow its MX half, or a backward one sets CONT, FINAL or FLUSH (R288). -/
def badVxPair (c : Core) (d : Cmd) : Bool :=
  !((c.mxQ ++ c.mxA).any (fun m => m.op == opMxAttn && m.seq + 1 == d.seq && m.slice == d.slice && attnPair m.ops d.ops))

/-- The active command of a number in a list. -/
def cmdBySeq (l : List Cmd) (seq : Nat) : Option Cmd := l.find? (fun d => d.seq == seq && !d.done)

/-- A request of the page-table unit by a half of the pair. -/
def State.attnReq (s : State) (n : Nat) (op : KvOp) (seq : Nat) (mx : Cmd) (pool page : Nat) : KvReq :=
  { op := op, src := some n, seq := seq, page := page, ctx := s.coreCtx n, va := mx.listVa + 65536 * page, pool := pool }

/-- FLUSH of the VX half behind an MX_ATTN: the half stands in the VX queue, or its words are the next ones to dispatch. -/
def Core.pairFlush (c : Core) (d : Cmd) : Bool :=
  match (c.vxQ ++ c.vxA).find? (fun v => v.seq == d.seq + 1) with
  | some v => flag (v.o 2) 27
  | none => hOp (wd c.fetch 0) == opVxAttn && flag (ow (cmdOperands c.fetch) 2) 27

/-- MX_ATTN issues: it reads and checks its record, and sends its pins (R275, R288, R291); a page at or beyond OPEN with STG breaks R286.
(DEDUCED, log entry 30) -/
def State.startMxAttn (s : State) (n : Nat) (d : Cmd) : State :=
  match s.engRead n 0 d.rds (4 * d.rd 1) 320 with
  | (s, .error e) => s.coreFault n e d.va
  | (s, .ok bs) =>
    let r := wordsOf 80 bs
    let pcount := fld (d.o 2) 23 16
    if !(s.recOk (s.coreCtx n) r (decide (0 < pcount) || (s.core n).pairFlush d)) then s.coreFault n codeKvRecord d.va
    else if flag (d.o 1) 26 ∧ recOpen r < fld (d.o 2) 31 24 + pcount then s.coreFault n codeMalformed d.va
    else
      let pages := ((attBlocks d r).filter (needsPage r)).map Prod.fst
      let s := s.modCore n (fun c => { c with attn := some { mx := d.seq, image := r, asked := pages.length } })
      s.kvSend (pages.map (s.attnReq n .pin d.seq d (recPool r)))

/-- The issue of MX_ATTN (R94). -/
def State.issueMxAttn (s : State) (n : Nat) : State :=
  let c := s.core n
  match (if c.live && c.mxFree then c.issuable c.mxQ opMxAttn else none) with
  | some d => (s.modCore n (fun c => { c with mxQ := c.mxQ.drop 1, mxA := c.mxA ++ [d] })).startMxAttn n d
  | none => s

/-- The READ transfers that fetch a page into a slot: its frame, and its scale area through SCALE_VBASE (R291). -/
def pageXfers (d : Cmd) (ctx frame scaleVa page slot : Nat) : List Xfer :=
  let x (kind : XKind) (va pa line lines : Nat) : Xfer :=
    { seq := d.seq, slice := d.slice, cls := 0, kind := kind, ctx := ctx, va := va, lines := lines, spLine := line, pa := pa }
  (List.range 128).map (fun i => x (.page true) (d.listVa + 65536 * page + 512 * i) (frame + 512 * i) (slot + 8 * i) 8) ++
  (cutSpan scaleVa 32).map (fun t => x (.page false) t.1 0 (slot + 1024 + t.2.2) t.2.1)

/-- Starts the fetches that may start: in block order, the page pinned, at most NBUF blocks ahead (R291). -/
def State.startFetches (s : State) (n : Nat) (d : Cmd) : (fuel : Nat) → State
  | 0 => s
  | fuel + 1 =>
    match (s.core n).attn with
    | none => s
    | some a =>
      let todo := (attBlocks d a.image).filter (needsPage a.image)
      match todo[a.fetches]? with
      | none => s
      | some b =>
        match mget a.pins b.1 with
        | none => s
        | some frame =>
          if fetchesBefore d a.image a.next + d.nbuf ≤ a.fetches then s
          else
            let scale := match s.poolOfFrame (s.coreCtx n) frame with
              | some (p, f) => poolScale (s.pool p) + 2048 * f
              | none => 0
            let xs := pageXfers d (s.coreCtx n) frame scale b.1 (slotLine d a.fetches)
            State.startFetches (s.modCore n (fun c => { c with
              waiting := placeXfers c.waiting xs d.seq, attn := some { a with fetches := a.fetches + 1 } })) n d fuel

/-! ### The arithmetic of a block (R289, R290, R292) -/

/-- The greatest integer at or below a finite value. -/
def Fp.floor : Fp → Int
  | .fin neg m e =>
    let v : Int := if neg then -(m : Int) else m
    if 0 ≤ e then v * 2 ^ e.toNat else v / 2 ^ (-e).toNat
  | _ => 0

/-- FP32 1.0. -/
abbrev one32 : Word := 0x3F800000
/-- FP32 −Inf. -/
abbrev negInf32 : Word := 0xFF800000

/-- The constants of EXP: the FP32 values nearest (ln 2)^k ÷ k! for k = 5 to 1, and 1.0 (R290). -/
def expCoeffs : List Word := [0x3C1D955B, 0x3D635847, 0x3E75FDF0, 0x3F317218, one32]

/-- EXP of R290. (DEDUCED, log entry 30) -/
def attExp (d : Word) : Word :=
  if dec32 d = .nan then nan32
  else
    let y := fmul d 0x3FB8AA3B
    if (dec32 y).cmp (.fin true 126 0) = some (-1) then 0
    else
      let k := (dec32 y).floor
      let f := fsub y (enc32 (fpOfInt k))
      let t := expCoeffs.foldl (fun t c => ffma t f c) 0x3AAEC3FF
      enc32 ((dec32 t).mul (.fin false 1 k))

/-- RCP of R290. (DEDUCED, log entry 30) -/
def attRcp (x : Word) : Word :=
  Nat.repeat (fun r => ffma r (ffma (x ^^^ 0x80000000) r one32) r) 3 (0x7EF311C3 - x)

/-- The keys and values of a block of 256 positions (R272, R289). -/
structure KvBlock where
  k : List (List Byte)
  v : List (List Byte)
  kc : List (List Byte)
  vc : List Nat
  deriving DecidableEq, Repr, Inhabited

/-- The keys of a block as a weight plane: one column a token (R124). -/
def KvBlock.keys (b : KvBlock) : Plane :=
  { valid := true, fmt := 0, gsize := 0, k := 128, n := 256, elems := b.k.flatten.map BitVec.toNat, scales := b.kc.flatten.map BitVec.toNat }

/-- The values of a block as a weight plane: one column a dimension, codes 1.0 (R289). -/
def KvBlock.values (b : KvBlock) : Plane :=
  { valid := true, fmt := 0, gsize := 0, k := 256, n := 128
    elems := (List.range 128).flatMap (fun n => b.v.map (fun r => (r.getD n 0).toNat)), scales := List.replicate 1024 0x78 }

/-- The values of a block as a plane of one column a token (R292). -/
def KvBlock.valuesT (b : KvBlock) : Plane :=
  { valid := true, fmt := 0, gsize := 2, k := 128, n := 256, elems := b.v.flatten.map BitVec.toNat, scales := b.vc }

/-- The scores of a query row. -/
def attScores (b : KvBlock) (scale : Word) (q : List Byte) : List Word :=
  (b.keys.row 0 false ((q.take 128).map BitVec.toNat) (((q.drop 128).take 4).map BitVec.toNat)).map (fun x => fmul x scale)

/-- The sum or maximum of 256 positions in the order of R152, absent ones skipped. -/
def attReduce (op : Nat) (l : List (Option Word)) : Option Word :=
  (redLine op false 16 (fun k => (l.getD k none).map (fun w => (w, 0)))).map Prod.fst

/-- One block for one query row: the output row before and after it (R289), and the row of P' stored as INT8; none where the row is unchanged. -/
def attForward (b : KvBlock) (vis : List Bool) (j : Nat) (scale : Word) (q : List Byte) (row : List Word) : List Word × Option StoredRow :=
  let sc := attScores b scale q
  let m := wd row 128
  let mb := (attReduce 1 ((sc.zip vis).map (fun x => if x.2 then some x.1 else none))).getD negInf32
  let m2 := fmax m mb
  if m2 = negInf32 then (row, none)
  else
    let c := attExp (fsub m m2)
    let p := (sc.zip vis).map (fun x => if x.2 then attExp (fsub x.1 m2) else 0)
    let sig := (attReduce 0 (p.map some)).getD 0
    let l := ffma (wd row 129) c sig
    let pv := (p.zip b.vc).map (fun x => enc32 ((dec32 x.1).mul (s8Val x.2)))
    let st := storeRow 5 32 none pv
    let y := b.values.row 0 false (st.data.map BitVec.toNat) st.codes
    let o := (List.range 128).map (fun n => ffma (wd row n) c (wd y n))
    (((((o ++ row.drop 128).set 128 m2).set 129 l).set (130 + 2 * j) sig).set (131 + 2 * j) m2, some st)

/-- The backward block for one query row: dS (R292). -/
def attBackward (b : KvBlock) (vis : List Bool) (scale : Word) (q : List Byte) : List Word :=
  let sc := attScores b scale (q.take 132)
  let w := wordsOf 69 q
  let dp := b.valuesT.row 0 false (((q.drop 132).take 128).map BitVec.toNat) [((q.getD 260 0)).toNat]
  ((sc.zip vis).zip dp).map (fun x =>
    let p := if x.1.2 then fmul (attExp (fsub x.1.1 (wd w 66))) (attRcp (wd w 67)) else 0
    fmul p (fsub x.2 (wd w 68)))

/-- An output row before the first block with CONT = 0 (R289). -/
def freshRow : List Word := List.replicate 128 0 ++ [negInf32, 0] ++ (List.replicate 64 [0, negInf32]).flatten

/-! ### One block of a pair -/

/-- Reads a token's row of a page image at byte `base`: K, V, K codes, V code (R272). -/
def State.readToken (s : State) (n : Nat) (rs : List (Nat × Nat)) (base i : Nat) :
    State × Except Nat (List Byte × List Byte × List Byte × Nat) :=
  match s.engRuns n 0 rs [(base + 128 * i, 128), (base + 32768 + 128 * i, 128), (base + 65536 + 4 * i, 4), (base + 66560 + 4 * i, 1)] with
  | (s, .error e) => (s, .error e)
  | (s, .ok l) => (s, .ok (l.getD 0 [], l.getD 1 [], l.getD 2 [], ((l.getD 3 []).getD 0 0).toNat))

/-- Where the token at position `i` of a block lies: whether in the staging image, and the byte base of its page image; none for a position that
holds no token (R276, R289). -/
def tokenBase (d : Cmd) (r : List Word) (b : Nat × Bool) (slot i : Nat) : Option (Bool × Nat) :=
  if recNtok r ≤ 256 * b.1 + i then none
  else if b.2 then (if i < recBase r then some (false, 64 * slot) else some (true, 4 * d.rd 2))
  else if recValid r b.1 then some (false, 64 * slot) else none

/-- Reads a block (R289): positions that hold no token are zero. A page lies in the page buffer, a write range that the pair's
own traffic fills and reads; staging rows lie in a read range (R86, R286, R288). -/
def State.readBlock (s : State) (n : Nat) (d : Cmd) (r : List Word) (b : Nat × Bool) (slot : Nat) : (left i : Nat) → State × Except Nat KvBlock
  | 0, _ => (s, .ok ⟨[], [], [], []⟩)
  | left + 1, i =>
    let z := List.replicate 128 (0 : Byte)
    let one := match tokenBase d r b slot i with
      | some x => s.readToken n (if x.1 then d.rds else d.wrs) x.2 i
      | none => (s, .ok (z, z, List.replicate 4 0, 0))
    match one with
    | (s, .error e) => (s, .error e)
    | (s, .ok t) =>
      match State.readBlock s n d r b slot left (i + 1) with
      | (s, .error e) => (s, .error e)
      | (s, .ok k) => (s, .ok ⟨t.1 :: k.k, t.2.1 :: k.v, t.2.2.1 :: k.kc, t.2.2.2 :: k.vc⟩)

/-- The mask word of a token of a row (R289). -/
def maskBit (ws : List Word) (k : Nat) : Bool := flag (wd ws (k % 256 / 32)) (k % 32)

/-- The visible positions of a block for a row whose mask words are `mw` (none: MASK = 0) (R289). -/
def visible (d : Cmd) (r : List Word) (b : Nat × Bool) (mw : Option (List Word)) : List Bool :=
  (List.range 256).map (fun i =>
    (tokenBase d r b 0 i).isSome && (match mw with
      | some ws => maskBit ws (256 * b.1 + i)
      | none => true))

/-- The mask words of a block, of its eight, that hold the bit of a token (R289). -/
def maskWords (d : Cmd) (r : List Word) (b : Nat × Bool) : List Nat :=
  (List.range 8).filter (fun k => (List.range 32).any (fun i => (tokenBase d r b 0 (32 * k + i)).isSome))

/-- The mask of a query row for a block: its eight words, those without a token 0; nothing with MASK = 0 (R287, R289). -/
def State.readMask (s : State) (n : Nat) (d v : Cmd) (r : List Word) (b : Nat × Bool) (i : Nat) : State × Except Nat (Option (List Word)) :=
  if flag (v.o 2) 26 then
    let ks := maskWords d r b
    match s.engRuns n 2 v.rds (ks.map (fun k => (4 * (v.rd 1 + i * fld (v.o 3) 21 0 + 8 * b.1 + k), 4))) with
    | (s, .error e) => (s, .error e)
    | (s, .ok l) =>
      (s, .ok (some ((ks.zip l).foldl (fun ws x => ws.set x.1 (w32 (leNat x.2))) (List.replicate 8 0))))
  else (s, .ok none)

/-- What a query row that has met a block adds to the counters: its rows in the array, and what the store of P' saturated (R136, R159, R164, R293). -/
def State.countRow (s : State) (n : Nat) (st : Option StoredRow) (backward : Bool) : State :=
  let s := s.cBump n Reg.mxCntRows (1 + b2n (st.isSome || backward))
  match st with
  | some st => (s.cBump n Reg.vxCntSat (marked st.sat 0 st.sat.length)).cBump n Reg.vxCntNan (marked st.nan 0 st.nan.length)
  | none => s

/-- The query rows of a block, each with its output row (R289, R292); a parity error of the plane at row `par` stops there (R134). -/
def State.attnRows (s : State) (n : Nat) (d v : Cmd) (r : List Word) (b : Nat × Bool) (blk : KvBlock) (par : Option Nat) :
    (rows : List (List Word)) → (i : Nat) → State × Except Nat (List (List Word))
  | [], _ => (s, .ok [])
  | row :: rest, i =>
    match s.engRead n 0 d.rds (4 * (d.rd 0 + i * fld (d.o 3) 21 0)) (if d.backward then 276 else 132) with
    | (s, .error e) => (s, .error e)
    | (s, .ok q) =>
      if par = some i then (s.cBump n Reg.mxCntRows, .error codeMxParity)
      else match s.readMask n d v r b i with
      | (s, .error e) => (s, .error e)
      | (s, .ok mw) =>
        let vis := visible d r b mw
        let out := if d.backward then (attBackward blk vis (v.o 1) q, none) else attForward blk vis b.1 (v.o 1) q row
        match State.attnRows (s.countRow n out.2 d.backward) n d v r b blk par rest (i + 1) with
        | (s, .error e) => (s, .error e)
        | (s, .ok l) => (s, .ok (out.1 :: l))

/-- The passes of a block: the lanes take twelve for each query row (R293). (DEDUCED, log entry 30) -/
def attPasses (d : Cmd) : Nat := 12 * d.qrows

/-- Whether the block at hand can be computed: its page, when it needs one, has landed. -/
def Core.blockReady (c : Core) (d : Cmd) (a : Attn) : Bool :=
  match (attBlocks d a.image)[a.next]? with
  | none => false
  | some b =>
    let i := fetchesBefore d a.image a.next
    let line := slotLine d i
    !(needsPage a.image b) ||
      (decide (i < a.fetches) && !((c.waiting ++ c.outs).any (fun x => x.seq == d.seq && decide (line ≤ x.spLine ∧ x.spLine < line + 1056))))

/-- The register whose parity fails in a pass of a block (R162): the pair uses the tile registers (05_vector.md), which of them the spec does not
say. (DEDUCED, log entry 30) -/
def attnReg (d : Cmd) : Inject → Option (Nat × Nat)
  | .regParity reg p => if reg < 32 ∧ p < attPasses d then some (reg, p) else none
  | _ => none

/-- Computes the block at hand, both halves having issued (R289, R292, R293). -/
def State.attnBlock (s : State) (n : Nat) (d v : Cmd) (a : Attn) (inj : Inject) : State :=
  match (attBlocks d a.image)[a.next]? with
  | none => s
  | some b =>
    match (s.strike n inj).readBlock n d a.image b (slotLine d (fetchesBefore d a.image a.next)) 256 0 with
    | (s, .error e) => s.coreFault n e d.va
    | (s, .ok blk) =>
      let s := s.cBump n Reg.mxCntLoadcyc 130
      let par := match inj with
        | .planeParity r => some r
        | _ => none
      match attnReg d inj with
      | some (reg, p) => (s.cBump n Reg.vxCntPasses (p + 1)).vxParity n reg v.va
      | none =>
        match s.attnRows n d v a.image b blk par a.rows 0 with
        | (s, .error e) => (if e = codeMxParity then (s.mxParity n).mxInfo n 0 none else s).coreFault n e d.va
        | (s, .ok rows) =>
          ((s.modCore n (fun c => { c with attn := c.attn.map (fun a => { a with rows := rows, next := a.next + 1 }) })).cBump n Reg.mxCntAttblk).cBump n
            Reg.vxCntPasses (attPasses d)

/-- The pair at work: fetches start, and the block at hand is computed when it can be. -/
def State.attnStep (s : State) (n : Nat) (inj : Inject) : State :=
  match (s.core n).attn with
  | none => s
  | some a =>
    match cmdBySeq (s.core n).mxA a.mx with
    | none => s
    | some d =>
      let s := s.startFetches n d 64
      match (s.core n).attn, a.vx.bind (cmdBySeq (s.core n).vxA) with
      | some a, some v => if a.stage = 0 && (s.core n).blockReady d a then s.attnBlock n d v a inj else s
      | _, _ => s

/-- MX_ATTN at the dispatcher, at issue, and its work (R286). -/
def State.doMxAttn (s : State) (n : Nat) (inj : Inject) : State :=
  let s := if (s.core n).partnerThere then s.dispatch n opMxAttn badMxPair okHere else s
  (s.issueMxAttn n).attnStep n inj

/-! ### The VX half (R282-R284, R287, R289) -/

/-- Reads the output rows that CONT goes on from (R287). -/
def State.contRows (s : State) (n : Nat) (v : Cmd) : (left i : Nat) → State × Except Nat (List (List Word))
  | 0, _ => (s, .ok [])
  | left + 1, i =>
    match s.engRead n 2 v.wrs (4 * (v.wr 0 + i * fld (v.o 4) 21 0)) 1032 with
    | (s, .error e) => (s, .error e)
    | (s, .ok bs) =>
      match State.contRows s n v left (i + 1) with
      | (s, .error e) => (s, .error e)
      | (s, .ok l) => (s, .ok (wordsOf 258 bs :: l))

/-- PCOUNT > 0 in the MX half of a VX_ATTN (R275). -/
def Core.pairPages (c : Core) (v : Cmd) : Bool := c.mxA.any (fun m => m.seq + 1 == v.seq && decide (0 < fld (m.o 2) 23 16))

/-- VX_ATTN issues: it reads and checks its record, and takes its first output rows (R275, R287). -/
def State.startVxAttn (s : State) (n : Nat) (v : Cmd) : State :=
  let q := fld (v.o 2) 25 17
  match s.engRead n 2 v.rds (4 * v.rd 0) 320 with
  | (s, .error e) => s.coreFault n e v.va
  | (s, .ok bs) =>
    let img := wordsOf 80 bs
    if !(s.recOk (s.coreCtx n) img (flag (v.o 2) 27 || (s.core n).pairPages v)) then s.coreFault n codeKvRecord v.va
    else
      match (if flag (v.o 2) 29 then s.contRows n v q 0 else (s, .ok (List.replicate q freshRow))) with
      | (s, .error e) => s.coreFault n e v.va
      | (s, .ok rows) => s.modCore n (fun c => { c with attn := c.attn.map (fun a => { a with vx := some v.seq, vimage := img, rows := rows }) })

/-- The issue of VX_ATTN, once its MX half has issued (R94, R288). -/
def State.issueVxAttn (s : State) (n : Nat) : State :=
  let c := s.core n
  match (if c.live && c.vxFree then c.issuable c.vxQ opVxAttn else none) with
  | some v =>
    if c.attn.any (fun a => a.mx + 1 == v.seq) then
      (s.modCore n (fun c => { c with vxQ := c.vxQ.drop 1, vxA := c.vxA ++ [v] })).startVxAttn n v
    else s
  | none => s

/-- Writes the output rows (R287, R292). -/
def State.putAttnRows (s : State) (n : Nat) (v : Cmd) : List (List Word) → (i : Nat) → State × Option Nat
  | [], _ => (s, none)
  | row :: rest, i =>
    match s.engWrite n 3 v.wrs (4 * (v.wr 0 + i * fld (v.o 4) 21 0)) (bytesOf row) with
    | (s, some e) => (s, some e)
    | (s, none) => State.putAttnRows s n v rest (i + 1)

/-- `k` free values, one a word. -/
def freeWords (ctr : Nat) (k : Nat) : List Word := (List.range k).map (fun i => Config.freeValue (ctr + i))

/-- The work area after the pair: the spec does not say what its internal traffic leaves there (DESIGN CHOICE, log entry 2). (DEDUCED, log entry 30) -/
def State.spoilWork (s : State) (n : Nat) (d : Cmd) : State :=
  let k := 160 * d.qrows
  match s.engWrite n 3 d.wrs (4 * d.wr 1) (bytesOf (freeWords s.freeCtr k)) with
  | (s, some e) => { (s.coreFault n e d.va) with freeCtr := s.freeCtr + k }
  | (s, none) => { s with freeCtr := s.freeCtr + k }

/-- Both halves are over. The planes keep what MX_LOAD has written into them (R110, R111). (DEDUCED, log entry 30) -/
def State.attnOver (s : State) (n : Nat) (d v : Cmd) : State :=
  (s.spoilWork n d).modCore n (fun c => { ((c.mxDone d.seq).vxDone v.seq) with attn := c.attn.map (fun a => { a with stage := 3 }) })

/-- mass_j of R289: the sum over rows in ascending order. -/
def pageMass (rows : List (List Word)) (j : Nat) : Word :=
  rows.foldl (fun acc row =>
    let l := wd row 129
    if (dec32 l).cmp (.fin false 0 0) = some 1 then
      fadd acc (fmul (fmul (wd row (130 + 2 * j)) (attExp (fsub (wd row (131 + 2 * j)) (wd row 128)))) (attRcp l))
    else acc) 0

/-- Some row has σ_j > 0. -/
def pageAttended (rows : List (List Word)) (j : Nat) : Bool :=
  rows.any (fun row => (dec32 (wd row (130 + 2 * j))).cmp (.fin false 0 0) == some 1)

/-- The record with the scores updated and the PENDING bits cleared (R284, R289). -/
def finalRecord (r : List Word) (rows : List (List Word)) : List Word :=
  (((List.range 64).foldl (fun r j =>
    if pageAttended rows j then r.set (8 + j) (fadd (recScore r j) (pageMass rows j)) else r) r).set 6 0).set 7 0

/-- Whether the pair flushes: FLUSH = 1 and page OPEN is full (R282). -/
def flushDue (v : Cmd) (r : List Word) : Bool := flag (v.o 2) 27 && recNtok r == 256 * recOpen r + 256

/-- Sets or clears bit `j` of the 64-bit field at word `i`. -/
def setBit64 (r : List Word) (i j : Nat) (v : Bool) : List Word :=
  let k := i + j / 32
  let m := w32 (2 ^ (j % 32))
  r.set k (if v then wd r k ||| m else wd r k &&& ~~~ m)

/-- The record after the flush of page OPEN (R282). (DEDUCED, log entry 30) -/
def flushRecord (r : List Word) : List Word :=
  let o := recOpen r
  let w := setFld (setFld (wd r 1) 7 0 (o + 1)) 15 8 0
  let w := if recBase r = 0 then w else setFld w 31 24 o
  setBit64 (r.set 1 w) 2 o true

/-- The valid pages of a record. (DEDUCED, log entry 30) -/
def validPages (r : List Word) : List Nat := (List.range 64).filter (recValid r)

/-- The page to be evicted after a flush, and whether one is due (R283). -/
def victim (r : List Word) : Option Nat :=
  let vs := validPages r
  let high := vs.drop (vs.length - 4)
  (vs.filter (fun j => decide (recPrefix r ≤ j) && !(recPin r j) && !(high.contains j))).foldl (fun best j =>
    match best with
    | none => some j
    | some b => if maxiCmp false (recScore r j) (recScore r b) < 0 then some j else some b) none

/-- An eviction is due: BUDGET is not 0 and more pages are valid (R283). -/
def evictDue (r : List Word) : Bool := recBudget r != 0 && decide (recBudget r < (validPages r).length)

/-- Byte spans of `len` bytes from `off` on, cut at 512 B. -/
def cutBytes (off len : Nat) : List (Nat × Nat) :=
  if len = 0 then [] else
  (List.range ((off + len - 1) / 512 - off / 512 + 1)).map (fun i =>
    let b := (off / 512 + i) * 512
    let a := max off b
    (a, min (off + len) (b + 512) - a))

/-- The WRITE transfers of a flush (R282): the rows from BASEROWS on with their scale entries, or the whole page. -/
def flushXfers (d v : Cmd) (ctx frame scaleVa : Nat) (r : List Word) : List Xfer :=
  let b := recBase r
  let st := 4 * v.rd (if flag (v.o 2) 26 then 2 else 1)
  let x (kind : XKind) (va pa off len : Nat) : Xfer :=
    { seq := v.seq, slice := v.slice, cls := 1, kind := kind, ctx := ctx, va := va, lines := (linesOf off len).length, spLine := 0, pa := pa }
  let spans := if b = 0 then [(0, 65536)] else [(128 * b, 32768 - 128 * b), (32768 + 128 * b, 32768 - 128 * b)]
  let scales := if b = 0 then [(0, 2048)] else [(4 * b, 1024 - 4 * b), (1024 + 4 * b, 1024 - 4 * b)]
  (spans.flatMap (fun z => cutBytes z.1 z.2)).map (fun z =>
    x (.pageWrite true (st + z.1) z.2) (d.listVa + 65536 * recOpen r + z.1) (frame + z.1) z.1 z.2) ++
  (scales.flatMap (fun z => cutBytes z.1 z.2)).map (fun z => x (.pageWrite false (st + 65536 + z.1) z.2) (scaleVa + z.1) 0 z.1 z.2)

/-- The output record image is written (R287). -/
def State.putRecord (s : State) (n : Nat) (v : Cmd) (r : List Word) : State × Option Nat := s.engWrite n 3 v.wrs (4 * v.wr 1) (bytesOf r)

/-- The last block has been computed: the output rows are written; with FINAL, scores are updated and the requests sent (R282, R284, R289). -/
def State.attnFinal (s : State) (n : Nat) (d v : Cmd) (a : Attn) : State :=
  match s.putAttnRows n v a.rows 0 with
  | (s, some e) => s.coreFault n e v.va
  | (s, none) =>
    if d.backward || !(flag (v.o 2) 28) then s.attnOver n d v
    else
      let r := a.vimage
      let rs := ((List.range 64).filter (recPending r)).map (s.attnReq n .unmap v.seq d (recPool r)) ++
        (if flushDue v r then
          [s.attnReq n (if recValid r (recOpen r) then .cow else .mapFresh) v.seq d (recPool r) (recOpen r)] else [])
      (s.modCore n (fun c => { c with
        attn := some { a with vimage := finalRecord r a.rows, asked := rs.length, stage := 1, frame := none } })).kvSend rs

/-- Every request of FINAL has been answered: the flush and the eviction, and the output record (R282, R283). -/
def State.attnFlush (s : State) (n : Nat) (d v : Cmd) (a : Attn) : State :=
  if flushDue v a.vimage then
    let frame := a.frame.getD 0
    let scale := match s.poolOfFrame (s.coreCtx n) frame with
      | some (p, f) => poolScale (s.pool p) + 2048 * f
      | none => 0
    let r := flushRecord a.vimage
    let r' := if evictDue r then (match victim r with
      | some j => setBit64 (setBit64 r 2 j false) 6 j true
      | none => r) else r
    let s := s.cBump n Reg.vxCntFlush
    let s := if evictDue r then s.cBump n (if (victim r).isSome then Reg.vxCntEvict else Reg.vxCntOverbudget) else s
    match s.putRecord n v r' with
    | (s, some e) => s.coreFault n e v.va
    | (s, none) => s.modCore n (fun c => { c with
        waiting := placeXfers c.waiting (flushXfers d v (s.coreCtx n) frame scale a.vimage) v.seq, attn := some { a with stage := 2 } })
  else
    match s.putRecord n v a.vimage with
    | (s, some e) => s.coreFault n e v.va
    | (s, none) => s.attnOver n d v

/-- The VX half at work. -/
def State.attnTail (s : State) (n : Nat) : State :=
  match (s.core n).attn with
  | none => s
  | some a =>
    match cmdBySeq (s.core n).mxA a.mx, a.vx.bind (cmdBySeq (s.core n).vxA) with
    | some d, some v =>
      if a.stage = 0 then (if (attBlocks d a.image).length ≤ a.next then s.attnFinal n d v a else s)
      else if a.stage = 1 then (if a.asked = 0 then s.attnFlush n d v a else s)
      else if a.stage = 2 then (if (s.core n).moving v.seq then s else s.attnOver n d v)
      else s
    | _, _ => s

/-- VX_ATTN at the dispatcher, at issue, and its work (R287). -/
def State.doVxAttn (s : State) (n : Nat) (inj : Inject) : State :=
  let s := s.dispatch n opVxAttn badVxPair okHere
  ((s.issueVxAttn n).attnStep n inj).attnTail n

/-! ### Pins at retirement (R294) -/

/-- A request of a command waits at the page-table unit, or its copy runs. -/
def State.kvBusy (s : State) (n seq : Nat) : Bool :=
  (s.log.kv.queue ++ s.log.kv.crossing ++ s.log.kv.copies.map KvCopy.req).any (fun r => r.src == some n && r.seq == seq)

/-- The retiring pair unpins every frame it pinned (R294). -/
def State.unpinAll (s : State) (n seq : Nat) : State :=
  let mine := s.log.kv.pins.filter (fun p => p.1 == n && p.2.1 == seq)
  s.kvSend (mine.map (fun p =>
    ({ op := .unpin, src := some n, seq := seq, ctx := s.coreCtx n, frame := p.2.2 } : KvReq)))

end Sys2Proof.Machine
end

