-- ==== Sys2Proof/Machine/Context.lean ====
section
/-! DEFINITION. Stream contexts and model slots in HBM (R33-R39), Logbook events (R76), the local rings and outgoing VSF frames (R43, R44),
abort, freeing and overcommitment of streams (R35, R61, R70, R73, R74). -/

namespace Sys2Proof.Machine

/-! ### Context table (R36) -/

/-- Words of the context of a stream, from the first copy, or from the second when that delivers no data (R36, R73). -/
def State.sctx (s : State) (i : Nat) : List Word :=
  match s.hubPeek (s.reg2 Reg.logCtxBaseLo + 128 * i) 128 with
  | some bs => wordsOf 32 bs
  | none => s.hubWords (s.reg2 Reg.logCtxMirrorLo + 128 * i) 32

/-- Writes the context of a stream to both copies (R36). -/
def State.putSctx (s : State) (i : Nat) (ws : List Word) : State :=
  (s.hubPoke (s.reg2 Reg.logCtxBaseLo + 128 * i) (bytesOf ws)).hubPoke (s.reg2 Reg.logCtxMirrorLo + 128 * i) (bytesOf ws)

/-- Changes the context of a stream. -/
def State.modSctx (s : State) (i : Nat) (f : List Word → List Word) : State := s.putSctx i (f (s.sctx i))

/-- Sets bits `hi` to `lo` of word `k`. -/
def putFld (ws : List Word) (k hi lo v : Nat) : List Word := ws.set k (setFld (wd ws k) hi lo v)

/-- GEN of a context. -/
def cxGen (w : List Word) : Nat := fld (wd w 0) 31 16
/-- STATE of a context: 0 FREE, 1 OPEN, 2 CLOSING, 3 ABORTED. -/
def cxState (w : List Word) : Nat := fld (wd w 0) 15 12
/-- PRIO of a context. -/
def cxPrio (w : List Word) : Nat := fld (wd w 0) 11 10
/-- PRIO_CEIL of a context. -/
def cxCeil (w : List Word) : Nat := fld (wd w 0) 9 8
/-- CUR of a context. -/
def cxCur (w : List Word) : Bool := flag (wd w 0) 7
/-- INFLIGHT of a context. -/
def cxInflight (w : List Word) : Bool := flag (wd w 0) 6
/-- OVC of a context. -/
def cxOvc (w : List Word) : Bool := flag (wd w 0) 5
/-- MIRROR of a context. -/
def cxMirror (w : List Word) : Bool := flag (wd w 0) 4
/-- SRC of a context: 0 RTP, 1 VSF from the network, 2 local port. -/
def cxSrc (w : List Word) : Nat := fld (wd w 0) 3 2
/-- EGRESS of a context. -/
def cxEgress (w : List Word) : Bool := flag (wd w 0) 1
/-- ESTALL of a context. -/
def cxEstall (w : List Word) : Bool := flag (wd w 0) 0
/-- MODEL of a context. -/
def cxModel (w : List Word) : Nat := fld (wd w 1) 7 0
/-- ACCEPT_SEQ of a context. -/
def cxAccept (w : List Word) : Word := wd w 2
/-- COMMIT_SEQ of a context. -/
def cxCommit (w : List Word) : Word := wd w 3
/-- BATCH_ID of a context. -/
def cxBatch (w : List Word) : Nat := fld (wd w 6) 31 16
/-- RATE_MULT of a context. -/
def cxRate (w : List Word) : Nat := (wd w 12).toNat
/-- ADMIT_ORD of a context. -/
def cxOrd (w : List Word) : Nat := wd2 w 13

/-- The handle of context `i` (R33). -/
def cxHandle (w : List Word) (i : Nat) : Word := w32 (cxGen w * 2 ^ 16 + i)

/-- OPEN or CLOSING. -/
def cxLive (w : List Word) : Bool := cxState w == 1 || cxState w == 2

/-- INDEX of a handle. -/
def hIndex (h : Word) : Nat := fld h 15 0
/-- GEN of a handle. -/
def hGen (h : Word) : Nat := fld h 31 16

/-- Whether a handle is live (R34). -/
def State.handleLive (s : State) (h : Word) : Bool := cxLive (s.sctx (hIndex h)) && cxGen (s.sctx (hIndex h)) == hGen h && hGen h != 0

/-- Whether a handle names an ABORTED context with its GEN (R40, R74). -/
def State.handleAborted (s : State) (h : Word) : Bool :=
  cxState (s.sctx (hIndex h)) == 3 && cxGen (s.sctx (hIndex h)) == hGen h && hGen h != 0

/-- What the front end and the Logbook keep of a stream. -/
def State.strm (s : State) (i : Nat) : Stream := mgetD s.fe.streams i default

/-- Replaces it. -/
def State.putStrm (s : State) (i : Nat) (x : Stream) : State := { s with fe := { s.fe with streams := mput s.fe.streams i x } }

/-- Changes it. -/
def State.modStrm (s : State) (i : Nat) (f : Stream → Stream) : State := s.putStrm i (f (s.strm i))

/-- Contexts that are OPEN or CLOSING. -/
def State.openCtxs (s : State) : List Nat := (mkeys s.fe.streams).filter (fun i => cxLive (s.sctx i))

/-- LOG_TIME (R54). -/
def State.logTime (s : State) : Word := w32 s.now

/-! ### Model slots (R38, R39) -/

/-- Words of a model slot. -/
def State.mslot (s : State) (m : Nat) : List Word := s.hubWords (s.reg2 Reg.logModelBaseLo + 64 * m) 16

/-- Writes a model slot. -/
def State.putMslot (s : State) (m : Nat) (ws : List Word) : State := s.hubPoke (s.reg2 Reg.logModelBaseLo + 64 * m) (bytesOf ws)

/-- CHUNK_FRAMES of a model slot. -/
def msFrames (w : List Word) : Nat := fld (wd w 0) 23 16
/-- FRAME_US of a model slot. -/
def msFrameUs (w : List Word) : Nat := fld (wd w 0) 15 0
/-- MODEL_RATE of a model slot in Hz. -/
def rateHz (r : Nat) : Nat := if r = 0 then 8000 else if r = 1 then 16000 else 48000
/-- MODEL_RATE of a model slot. -/
def msRate (w : List Word) : Nat := fld (wd w 1) 1 0
/-- CAPACITY of a model slot. -/
def msCapacity (w : List Word) : Nat := (wd w 13).toNat
/-- VALID of a model slot. -/
def msValid (w : List Word) : Bool := flag (wd w 14) 0
/-- One chunk period, µs. -/
def msPeriod (w : List Word) : Nat := msFrames w * msFrameUs w

/-- The execution context that owns the pools of a model slot. -/
def State.slotCtx (s : State) (m : Nat) : Nat :=
  (((mget s.pilot.slots m).bind (fun r => s.pilot.jobs.find? (fun j => j.id == r.job))).map Job.ctxId).getD 0

/-- The input ring slot of chunk `n` of context `i` (R39). -/
def ringAddr (w : List Word) (i : Nat) (n : Word) : Nat := va48 w 7 + (8 * i + n.toNat % 8) * (wd w 3).toNat
/-- The journal entry of chunk `n`. -/
def journalAddr (w : List Word) (i : Nat) (n : Word) : Nat := va48 w 9 + (8 * i + n.toNat % 8) * 16
/-- The result slot of chunk `n`. -/
def resultAddr (w : List Word) (i : Nat) (n : Word) : Nat := va48 w 11 + (16 * i + n.toNat % 16) * (wd w 4).toNat
/-- State version `v`. -/
def stateAddr (w : List Word) (i v : Nat) : Nat := va48 w 5 + (2 * i + v) * (wd w 2).toNat

/-! ### Events (R76) -/

/-- LATE. -/
abbrev evLate : Nat := 1
/-- OVERCOMMIT. -/
abbrev evOvercommit : Nat := 2
/-- OVERCOMMIT_CLEARED. -/
abbrev evOvcCleared : Nat := 3
/-- EGRESS_STALL. -/
abbrev evStall : Nat := 4
/-- ABORTED. -/
abbrev evAborted : Nat := 5
/-- CLOSED. -/
abbrev evClosed : Nat := 6

/-- Queues an event for the Pilot, or drops it at a full queue (R76). -/
def State.logEvent (s : State) (typ : Nat) (h seq : Word) : State :=
  if s.log.evq.length < 1024 then
    { s with log := { s.log with evq := s.log.evq ++ [[w32 (typ * 2 ^ 24), h, seq, s.logTime]] } }
  else (s.bump Reg.logCntEvdrop).orReg Reg.logEvqStatus 0x80000000

/-- Queues an event whose SEQ the spec does not state: a free value (DESIGN CHOICE, log entry 2). (DESIGN CHOICE, log entry 34) -/
def State.logEventFree (s : State) (typ : Nat) (h : Word) : State := (s.logEvent typ h s.free).nextFree

/-! ### Outgoing VSF frames and the local rings (R43, R44, R67) -/

/-- A VSF header with its type-specific words. -/
def vsfHeader (typ words : Nat) (rest : List Word) : List Word := w32 (0xA6100000 + typ * 2 ^ 16 + words) :: rest

/-- The base of local ring `k` (R44): 0 injection, 1 acknowledgement, 2 result; 3 to 6 the cluster network rings (R396). -/
def State.ringBase (s : State) (k : Nat) : Nat := s.reg2 Reg.feLocalBaseLo + 0x1000000 * k

/-- The producer index of a local ring. -/
def State.ringProd (s : State) (k : Nat) : Word := s.hubWord (s.ringBase k)
/-- The consumer index of a local ring. -/
def State.ringCons (s : State) (k : Nat) : Word := s.hubWord (s.ringBase k + 4)
/-- Entries in a local ring. (DEDUCED, log entry 35) -/
def State.ringUsed (s : State) (k : Nat) : Nat := (s.ringProd k - s.ringCons k).toNat
/-- The address of the entry that an index of a ring of 2 KiB entries names. -/
def State.ringEntry (s : State) (k : Nat) (x : Word) : Nat := s.ringBase k + 4096 + 2048 * (x.toNat % 4096)

/-- Puts a frame into a local ring, when it has room: the entry, then the producer index (R44). (DEDUCED, log entry 35)
A frame of more than 2,040 B runs on into the entries that follow. (DESIGN CHOICE, log entry 74) -/
def State.ringPush (s : State) (k : Nat) (bs : List Byte) : Option State :=
  if 4096 ≤ s.ringUsed k then none
  else
    let x := s.ringProd k
    some ((s.hubPoke (s.ringEntry k x) (natLe 4 bs.length ++ natLe 4 0 ++ bs)).hubPokeW (s.ringBase k) (x + 1))

/-- Hands a frame to the transmit queue of a port. (DEDUCED, log entry 35) -/
def State.transmit (s : State) (port : Nat) (f : TxFrame) : State :=
  { s with fe := { s.fe with tx := lmod s.fe.tx port (· ++ [f]) } }

/-- VSF_PORT (R78). -/
def State.vsfPort (s : State) : Nat := fld (s.reg Reg.feCtrl) 31 16

/-- The unicast address of an Ethernet port (R400, R405). -/
def State.portMac (s : State) (p : Nat) : Nat := leNat ((s.pilot.config.drop (0x1A0 + 8 * p)).take 6)

/-- Sends a VSF frame over the network to a peer, from the port's own address and VSF_PORT (R67). (DEDUCED, log entry 35) -/
def State.sendVsf (s : State) (p : Peer) (bs : List Byte) : State :=
  s.transmit p.eport { srcMac := s.portMac p.eport, peer := p, srcPort := s.vsfPort, bytes := bs }

/-- Sends an ACK (R43, R44): to the peer, or to the local acknowledgement ring, where a full ring drops it. The rings are written also while
FE_CTRL.LOCAL_EN is 0. (DESIGN CHOICE, log entry 74) -/
def State.sendAck (s : State) (p : Peer) (h seq : Word) (status : Nat) : State :=
  let bs := bytesOf (vsfHeader 2 4 [h, seq, w32 status])
  if p.loc then
    match s.ringPush 1 bs with
    | some s => s
    | none => s.bump Reg.feCntAckdrop
  else s.sendVsf p bs

/-- Where the acknowledgements of a chunk go (R44): back to the sender of a VSF frame; for RTP to the bound address or the local ring. -/
def State.ackPeer (s : State) (i : Nat) (from_ : Peer) : Peer :=
  let b := (s.strm i).bind
  if b.src = 0 then
    (if b.ackAddr.all (· == 0) then { loc := true } else { addr := b.ackAddr, ipv6 := b.ipv6, udp := b.ackPort, eport := from_.eport })
  else from_

/-- The result peer of a stream (R67). -/
def State.resultPeer (s : State) (i : Nat) : Peer :=
  let w := s.sctx i
  let x := s.strm i
  if cxEgress w then { loc := true }
  else if cxSrc w = 1 then { x.peer with eport := x.eport }
  else { addr := x.bind.ackAddr, ipv6 := x.bind.ipv6, udp := x.bind.ackPort, eport := if cxSrc w = 2 then 0 else x.eport }

/-- Sends a RESULT frame to the result peer; it waits in the front end while the local result ring is full (R44). -/
def State.sendResult (s : State) (i : Nat) (bs : List Byte) : State :=
  let p := s.resultPeer i
  if p.loc then
    match (if s.fe.localWait.isEmpty then s.ringPush 2 bs else none) with
    | some s => s
    | none => { s with fe := { s.fe with localWait := s.fe.localWait ++ [(i, bs)] } }
  else s.sendVsf p bs

/-- Moves waiting result frames into the local result ring while it has room (R44). (DEDUCED, log entry 35) -/
def State.drainLocal : (fuel : Nat) → State → State
  | 0, s => s
  | fuel + 1, s =>
    match s.fe.localWait with
    | [] => s
    | b :: r =>
      match s.ringPush 2 b.2 with
      | some s => State.drainLocal fuel { s with fe := { s.fe with localWait := r } }
      | none => s

/-! ### Ending streams (R35, R70, R73, R74) -/

/-- The virtual address of page `j` of list `k` of a stream (R274); the base of the stream's range is a free value (DESIGN CHOICE, log entry 15). -/
def kvPageVa (i k j : Nat) : Nat := ((Config.seqBlock i).toNat + k) % 2 ^ 26 * 2 ^ 22 + 65536 * j

/-- The firmware unmaps every mapped page of a stream's range (R285). -/
def State.dropKv (s : State) (i : Nat) : State :=
  let m := cxModel (s.sctx i)
  let ctx := s.slotCtx m
  match mget s.pilot.slots m with
  | none => s
  | some r =>
    (List.range (64 * r.kvRecCount)).foldl (fun s x =>
      let va := kvPageVa i (x / 64) (x % 64)
      match s.kvMap ctx va with
      | some pa => (s.kvUnmap ctx va).lowerFrame ctx pa 1
      | none => s) s

/-- A context returns to FREE (R35): GEN rises, its binding and what was kept of it are gone, and CLOSED is queued; its KV pages are unmapped
(R285). (DESIGN CHOICE, log entry 34) -/
def State.freeStream (s : State) (i : Nat) : State :=
  let s := s.dropKv i
  let w := s.sctx i
  let g := if cxGen w = 0xFFFF then 1 else cxGen w + 1
  let s := s.putSctx i (w32 (g * 2 ^ 16) :: List.replicate 31 0)
  let s : State := { s with fe := { s.fe with
    streams := mdel s.fe.streams i
    hold := s.fe.hold.filter (fun h => decide (h.ctx ≠ i))
    localWait := s.fe.localWait.filter (fun e => decide (e.1 ≠ i)) } }
  s.logEventFree evClosed (cxHandle w i)

/-- A stream is set ABORTED and its event is queued (R73); committed results stay (R74). Its open and held chunks, not yet accepted,
are dropped with no ACK, refusal or count. (DESIGN CHOICE, log entry 77) -/
def State.abortStream (s : State) (i : Nat) : State :=
  let w := s.sctx i
  if !(cxLive w) then s
  else
    let s := s.putSctx i (putFld (putFld w 0 15 12 3) 0 6 6 0)
    let s := s.modStrm i (fun x => { x with cur := none, rtp := {} })
    let s : State := { s with fe := { s.fe with hold := s.fe.hold.filter (fun h => decide (h.ctx ≠ i)) } }
    s.logEventFree evAborted (cxHandle w i)

/-- An access of the Logbook to a model slot's pool failed: the stream is ABORTED; where a walk failed, that is counted (R339). (DEDUCED, log entry 83) -/
def State.hubFail (s : State) (i ctx va n : Nat) (wr : Bool) : State :=
  if s.ctxUnmapped ctx va n wr then ((s.abortStream i).bump (hbmKey 0 Reg.hbmCntHubxlat)).orReg (hbmKey 0 Reg.hbmHubErr) 8 else s.abortStream i

/-- Whether everything that keeps a CLOSING stream from being FREE is over (R70). -/
def State.closeOver (s : State) (i : Nat) : Bool :=
  let w := s.sctx i
  let x := s.strm i
  let limit := fld (s.reg Reg.feRetx) 7 0
  cxState w == 2 &&
  (match x.closeSeq with
    | some c => cxAccept w == c && cxCommit w == c && !(cxInflight w)
    | none => false) &&
  x.releases.isEmpty && x.unacked.all (fun r => decide (limit ≤ r.rtx)) && !(s.fe.hold.any (fun h => h.ctx == i))

/-- Frees a CLOSING stream when its conditions hold (R70). -/
def State.closeSettle (s : State) (i : Nat) : State := if s.closeOver i then s.freeStream i else s

/-- A stream starts to close (R70): the close sequence of a VSF stream is the one given, or ACCEPT_SEQ when that lies before it. -/
def State.startClose (s : State) (i : Nat) (seq : Word) : State :=
  let w := s.sctx i
  let c := if precedes seq (cxAccept w) then cxAccept w else seq
  ((s.putSctx i (putFld w 0 15 12 2)).modStrm i (fun x => { x with closeSeq := some c })).closeSettle i

/-! ### Overcommitment (R60, R61) -/

/-- The OPEN and CLOSING streams of a model slot. -/
def State.slotStreams (s : State) (m : Nat) : List Nat := s.openCtxs.filter (fun i => cxModel (s.sctx i) == m)

/-- The load of streams in 1/256 of a real-time stream. -/
def State.loadOf (s : State) (l : List Nat) : Nat := (l.map (fun i => cxRate (s.sctx i))).sum

/-- Whether stream `a` gives way before stream `b` (R61): the higher class number, then the later admission. -/
def givesWay (a b : List Word) : Bool := decide (cxPrio b < cxPrio a) || (cxPrio a == cxPrio b && decide (cxOrd b < cxOrd a))

/-- Sets or clears OVC of a stream, with its event (R61). -/
def State.setOvc (s : State) (i : Nat) (v : Bool) : State :=
  let w := s.sctx i
  (s.putSctx i (putFld w 0 5 5 (b2n v))).logEventFree (if v then evOvercommit else evOvcCleared) (cxHandle w i)

/-- Streams in the order in which they give way. -/
def State.ovcOrder (s : State) (m : Nat) : List Nat :=
  (s.slotStreams m).foldr (fun i l => l.takeWhile (fun j => givesWay (s.sctx j) (s.sctx i)) ++ i :: l.dropWhile (fun j =>
    givesWay (s.sctx j) (s.sctx i))) []

/-- Marks or clears OVC after a change of CAPACITY (R61). (DESIGN CHOICE, log entry 34) -/
def State.balance (s : State) (m : Nat) : State :=
  let cap := 256 * msCapacity (s.mslot m)
  let order := s.ovcOrder m
  let load (s : State) : Nat := s.loadOf ((s.slotStreams m).filter (fun i => !(cxOvc (s.sctx i))))
  let s := order.foldl (fun s i => if cap < load s && !(cxOvc (s.sctx i)) then s.setOvc i true else s) s
  (order.reverse.foldl (fun (x : State × Bool) i =>
    let w := x.1.sctx i
    if x.2 && cxOvc w then
      (if load x.1 + cxRate w ≤ cap then (x.1.setOvc i false, true) else (x.1, false))
    else x) (s, true)).1

/-- Sets CAPACITY of a model slot. (DESIGN CHOICE, log entry 34) -/
def State.setCapacity (s : State) (m cap : Nat) : State := (s.putMslot m ((s.mslot m).set 13 (w32 cap))).balance m

end Sys2Proof.Machine
end

