-- ==== Sys2Proof/Machine/LogbookOps.lean ====
section
/-! DEFINITION. The Logbook at work: the tick, batches and work lists (R54-R57, R77), completions and commits (R58, R59, R62-R64, R92), release
and retransmission of results (R66, R68, R69), and the context table of the scheduler (R299). -/

namespace Sys2Proof.Machine

/-! ### The context table of the scheduler (R299) -/

/-- Words of the entry of an execution context. -/
def State.cent (s : State) (c : Nat) : List Word := s.hubWords (s.reg2 Reg.logSchedCtxtabLo + 64 * c) 16

/-- Writes the entry of an execution context. -/
def State.putCent (s : State) (c : Nat) (ws : List Word) : State := s.hubPoke (s.reg2 Reg.logSchedCtxtabLo + 64 * c) (bytesOf ws)

/-- Changes the entry of an execution context. -/
def State.modCent (s : State) (c : Nat) (f : List Word → List Word) : State := s.putCent c (f (s.cent c))

/-- STATE of an entry: 0 FREE, 1 READY, 2 RUNNING, 3 FAULTED, 4 TEARDOWN. -/
def ceState (w : List Word) : Nat := fld (wd w 0) 31 28
/-- CLASS of an entry. -/
def ceClass (w : List Word) : Nat := fld (wd w 0) 27 26
/-- KIND of an entry: direct. -/
def ceDirect (w : List Word) : Bool := flag (wd w 0) 25
/-- PART of an entry. -/
def cePart (w : List Word) : Nat := fld (wd w 0) 23 20
/-- NCORES of an entry. -/
def ceCores (w : List Word) : Nat := fld (wd w 0) 19 14
/-- CLIENT of an entry. -/
def ceClient (w : List Word) : Nat := fld (wd w 0) 7 0
/-- SAVE_BASE of an entry. -/
def ceSave (w : List Word) : Nat := va48 w 4
/-- LANDING_BASE of an entry. -/
def ceLanding (w : List Word) : Nat := va48 w 6
/-- LANDING_BYTES of an entry. -/
def ceLandingBytes (w : List Word) : Nat := (wd w 8).toNat
/-- PROG_BASE of an entry. -/
def ceProg (w : List Word) : Nat := va48 w 10
/-- MAP_BASE of an entry. -/
def ceMap (w : List Word) : Nat := va48 w 12

/-! ### Batches -/

/-- A batch by its identifier. -/
def State.batch (s : State) (id : Nat) : Option Batch := s.log.batches.find? (fun b => b.id == id)

/-- Changes a batch. -/
def State.modBatch (s : State) (id : Nat) (f : Batch → Batch) : State :=
  { s with log := { s.log with batches := s.log.batches.map (fun b => if b.id = id then f b else b) } }

/-- The deadline of a batch's first entry. -/
def Batch.first (b : Batch) : Word := (b.entries.head?.map BEntry.deadline).getD 0

/-- The next batch identifier: 16 bits, not 0, unique among the batches in flight (R57). (DEDUCED, log entry 33) -/
def State.newBatchId (s : State) : (fuel c : Nat) → Nat
  | 0, c => c
  | fuel + 1, c =>
    let c := if c % 65536 = 0 then 1 else c % 65536
    if s.log.batches.any (fun b => b.id == c) then s.newBatchId fuel (c + 1) else c

/-- Whether a step of an entry is still open: its stream is in flight in this batch (R64). -/
def State.entryOpen (s : State) (b : Batch) (e : BEntry) : Bool :=
  let w := s.sctx (hIndex e.handle)
  !e.committed && s.handleLive e.handle && cxInflight w && cxBatch w == b.id % 65536

/-- Frees the work-list slots of batches whose streams have all committed or been re-dispatched, and forgets the batches that nothing
names any more (R77). -/
def State.sweepBatches (s : State) : State :=
  let bs := s.log.batches.map (fun b => if b.queued && b.entries.all (fun e => !(s.entryOpen b e)) then { b with slot := none } else b)
  let used (b : Batch) : Bool :=
    s.cores.any (fun c => decide (c.run = .batch b.id) || c.wlq.any (fun w => w.batch == b.id) || c.cpl.any (fun p => p.batch == b.id)) ||
    s.sched.ready.contains (.batch b.id)
  { s with log := { s.log with batches := bs.filter (fun b => used b || (!b.dead && b.entries.any (s.entryOpen b))) } }

/-! ### The ready queue (R302) -/

/-- The class of a work item. -/
def State.itemClass (s : State) : WorkItem → Nat
  | .batch id => ((s.batch id).map Batch.cls).getD 3
  | .direct c => ceClass (s.cent c)

/-- Whether item `a` stands before item `b` in the ready queue (R302); batches of a class stand before its direct items. (DEDUCED, log entry 33) -/
def State.itemBefore (s : State) (a b : WorkItem) : Bool :=
  let ca := s.itemClass a
  let cb := s.itemClass b
  decide (ca < cb) || (ca == cb && (match a, b with
    | .batch x, .batch y =>
      (match s.batch x, s.batch y with
        | some p, some q => precedes p.first q.first || (p.first == q.first && decide (p.model < q.model))
        | _, _ => false)
    | .batch _, .direct _ => true
    | .direct _, .batch _ => false
    | .direct x, .direct y =>
      let ord (c : Nat) : Nat := ((s.sched.directs.find? (fun d => d.ctxId == c)).map Direct.order).getD 0
      decide (ord x < ord y)))

/-- Places an item in the ready queue. -/
def State.enqueueReady (s : State) (i : WorkItem) : State :=
  if s.sched.ready.contains i then s
  else
    let q := s.sched.ready
    { s with sched := { s.sched with
      ready := q.takeWhile (fun x => !(s.itemBefore i x)) ++ i :: q.dropWhile (fun x => !(s.itemBefore i x)) } }

/-! ### Work lists (R57, R77) -/

/-- The lowest free slot of the work-list area. -/
def State.freeSlot (s : State) : Option Nat :=
  (List.range (s.reg Reg.logWlSlots).toNat).find? (fun k => !(s.log.batches.any (fun b => b.slot == some k)))

/-- The words of a work list (R57). -/
def Batch.listWords (b : Batch) : List Word :=
  [w32 (0xB1 * 2 ^ 24 + b.entries.length), w32 (b.id % 65536 * 2 ^ 16 + b.model), w32 b.tick, b.first, 0, 0, 0, 0] ++
  b.entries.flatMap (fun e =>
    [e.handle, e.seq, w32 (b2n e.rdVer * 2 ^ 31 + b2n e.mark * 2 ^ 30 + e.markFrame * 2 ^ 24 + e.utt), e.deadline])

/-- Where the list of a slot lies. -/
def State.wlAddr (s : State) (slot : Nat) : Nat := s.reg2 Reg.logWlBaseLo + 32768 * slot

/-- Whether batch `a` goes before batch `b`: the earlier first deadline, then the lower model slot (R55). -/
def batchBefore (a b : Batch) : Bool := precedes a.first b.first || (a.first == b.first && decide (a.model < b.model))

/-- The held batch that goes first (R77). -/
def State.nextHeld (s : State) : Option Batch :=
  (s.log.batches.filter (fun b => !b.queued && !b.dead)).foldl (fun best b =>
    match best with
    | none => some b
    | some x => if batchBefore b x then some b else some x) none

/-- Dispatches one held batch when a work-list slot is free: its list is built, and the batch enters the ready queue (R55, R77). -/
def State.dispatchHeld (s : State) : State :=
  match s.nextHeld, s.freeSlot with
  | some b, some k =>
    ((s.hubPoke (s.wlAddr k) (bytesOf b.listWords)).modBatch b.id (fun b => { b with slot := some k, queued := true })).enqueueReady (.batch b.id)
  | _, _ => s

/-- HELD_BATCH_DISPATCH (R77). -/
def State.doHeldBatchDispatch (s : State) : State := s.sweepBatches.dispatchHeld

/-- Forms a batch of the tick at `tick`: its streams become in flight (R55, R57). -/
def State.formBatch (s : State) (model tick : Nat) (es : List BEntry) (hw prog : Nat) : State × Nat :=
  let id := s.newBatchId 65536 s.log.nextBatch
  let ctx := s.slotCtx model
  let b : Batch :=
    { id := id, model := model, ctxId := ctx, cls := ceClass (s.cent ctx), entries := es, tick := tick, hwFaults := hw, progFaults := prog }
  let s := es.foldl (fun s e => s.modSctx (hIndex e.handle) (fun w => putFld (putFld w 0 6 6 1) 6 31 16 id)) s
  ({ s with log := { s.log with batches := s.log.batches ++ [b], nextBatch := id + 1 } }, id)

/-! ### The tick (R54, R55) -/

/-- Whether a result slot is free for chunk COMMIT_SEQ (R54, R69). -/
def State.slotFree (s : State) (i : Nat) (seq : Word) : Bool :=
  let x := s.strm i
  (x.releases.map Release.seq ++ x.unacked.map ResultFrame.seq).all (fun q => q.toNat % 16 != seq.toNat % 16)

/-- Whether a stream is due (R54). -/
def State.due (s : State) (i : Nat) : Bool :=
  let w := s.sctx i
  cxLive w && precedes (cxCommit w) (cxAccept w) && !(cxInflight w) && !(cxEstall w) && s.slotFree i (cxCommit w)

/-- The journal entry of chunk COMMIT_SEQ of a stream. -/
def State.journal (s : State) (i : Nat) : Option (List Word) :=
  let w := s.sctx i
  (s.ctxPeek (s.slotCtx (cxModel w)) (journalAddr (s.mslot (cxModel w)) i (cxCommit w)) 16).map (wordsOf 4)

/-- The effects of reading that entry (R334, R340). -/
def State.journalNote (s : State) (i : Nat) : State :=
  let w := s.sctx i
  s.ctxNote (s.slotCtx (cxModel w)) (journalAddr (s.mslot (cxModel w)) i (cxCommit w)) 16

/-- The work-list entry of a stream's next step (R57). -/
def State.stepEntry (s : State) (i : Nat) (j : List Word) : BEntry :=
  let w := s.sctx i
  { handle := cxHandle w i, seq := cxCommit w, rdVer := cxCur w, mark := flag (wd j 2) 31, markFrame := fld (wd j 2) 29 24
    utt := fld (wd w 5) 15 0, deadline := wd j 3 }

/-- Whether an entry goes before another in its list (R55): OVC = 0 first, then the earlier deadline, then the lower index. -/
def State.entryBefore (s : State) (a b : BEntry) : Bool :=
  let oa := cxOvc (s.sctx (hIndex a.handle))
  let ob := cxOvc (s.sctx (hIndex b.handle))
  (!oa && ob) || (oa == ob && (precedes a.deadline b.deadline || (a.deadline == b.deadline && decide (hIndex a.handle < hIndex b.handle))))

/-- Inserts an entry in the order of R55. -/
def State.insertEntry (s : State) (e : BEntry) (l : List BEntry) : List BEntry :=
  l.takeWhile (fun x => s.entryBefore x e) ++ e :: l.dropWhile (fun x => s.entryBefore x e)

/-- Cuts a list into pieces of at most `k`. -/
def cutList {α : Type} (k : Nat) : (fuel : Nat) → List α → List (List α)
  | 0, _ => []
  | _ + 1, [] => []
  | fuel + 1, l => l.take (max 1 k) :: cutList k fuel (l.drop (max 1 k))

/-- Forms the batches of one model slot out of its due streams (R55). -/
def State.tickModel (s : State) (m : Nat) : State :=
  let es := ((s.slotStreams m).filter s.due).filterMap (fun i => (s.journal i).map (s.stepEntry i))
  let l := es.foldr s.insertEntry []
  (cutList (fld (s.reg Reg.logBatchMax) 10 0) (l.length + 1) l).foldl (fun s es => (s.formBatch m s.now es 0 0).1) s

/-- The journal entry of a stream cannot be read: the stream is aborted (R339). -/
def State.journalFail (s : State) (i : Nat) : State :=
  let w := s.sctx i
  s.hubFail i (s.slotCtx (cxModel w)) (journalAddr (s.mslot (cxModel w)) i (cxCommit w)) 16 false

/-- TICK (R54, R55): due streams whose journal cannot be read are aborted (R339); batches are formed and, in the order of their first
deadlines, dispatched while work-list slots are free. -/
def State.doTick (s : State) : State :=
  if flag (s.reg Reg.logCtrl) 0 && s.now % 2 ^ 32 % 1000 == 0 then
    let s := (s.openCtxs.filter s.due).foldl State.journalNote s
    let s := (s.openCtxs.filter (fun i => s.due i && (s.journal i).isNone)).foldl State.journalFail s
    let s := (List.range 256).foldl (fun s m => if (s.slotStreams m).any s.due then s.tickModel m else s) s.sweepBatches
    (List.range (s.log.batches.filter (fun b => !b.queued && !b.dead)).length).foldl (fun s _ => s.dispatchHeld) s
  else s

/-! ### Completion and commit (R59, R63, R64, R92) -/

/-- Commits the step of an entry, or discards its completion (R58, R59, R63, R64). (DEDUCED, log entry 33) -/
def State.commitEntry (s : State) (b : Batch) (e : BEntry) : State :=
  let i := hIndex e.handle
  let w := s.sctx i
  if s.handleLive e.handle && cxCommit w == e.seq && cxBatch w == b.id % 65536 && cxInflight w then
    let late := precedes e.deadline s.logTime
    let utt := fld (wd w 5) 15 0
    let w := putFld (putFld w 0 7 7 (1 - b2n (cxCur w))) 0 6 6 0
    let w := (putFld w 5 15 0 (if e.mark then (utt + 1) % 65536 else utt)).set 3 (e.seq + 1)
    let w := if late then w.set 8 (wd w 8 + 1) else w
    let s := s.putSctx i w
    let x := s.strm i
    let ev := late && (x.lastLate.all (fun t => decide (t + 1000000 ≤ s.now)))
    let s := s.putStrm i { x with
      releases := x.releases ++ [(⟨e.seq, utt, e.mark, late⟩ : Release)], lastLate := if ev then some s.now else x.lastLate }
    let s := if late then s.bump Reg.logCntLate else s
    if ev then s.logEvent evLate e.handle e.seq else s
  else s.bump Reg.logCntStaleCpl

/-- One slice completion reaches an entry: with the thirty-second slice its step is complete (R92). -/
def State.joinEntry (s : State) (id slice k : Nat) : State :=
  match s.batch id with
  | none => s
  | some b =>
    match b.entries[k]? with
    | none => s
    | some e =>
      let e' := { e with join := e.join ||| bit32 slice }
      let full := e'.join == BitVec.allOnes 32 && e.join != BitVec.allOnes 32
      let s := s.modBatch id (fun b => { b with entries := b.entries.set k { e' with committed := e.committed || full } })
      if full then s.commitEntry b e else s

/-- SLICE_COMPLETION: the oldest completion of a core reaches the Logbook (R92). A batch that is no longer known counts as stale. -/
def State.doSliceCompletion (s : State) (n : Nat) : State :=
  match (s.core n).cpl with
  | [] => s
  | p :: r =>
    let s := s.modCore n (fun c => { c with cpl := r })
    match s.batch p.batch with
    | none => s.bump Reg.logCntStaleCpl
    | some _ => ((List.range p.n).foldl (fun s k => s.joinEntry p.batch p.slice (p.first + k)) s).sweepBatches

/-! ### Release (R66, R68) -/

/-- The segments of a result slot that fit, as (FLAGS, payload), and whether one did not fit (R66). -/
def slotSegments (bs : List Byte) : (left off : Nat) → List (Nat × List Byte) × Bool
  | 0, _ => ([], false)
  | left + 1, off =>
    if bs.length < off + 4 then ([], true)
    else
      let w := w32 (leNat ((bs.drop off).take 4))
      let len := fld w 15 0
      if bs.length < off + 4 + alignUp len 4 then ([], true)
      else
        let r := slotSegments bs left (off + 4 + alignUp len 4)
        ((fld w 31 16, (bs.drop (off + 4)).take len) :: r.1, r.2)

/-- Whether a tag follows the last released one (R68). -/
def tagFollows (w : List Word) (seq : Word) (seg : Nat) : Bool :=
  !(flag (wd w 6) 0) || precedes (wd w 4) seq || (wd w 4 == seq && decide (fld (wd w 5) 31 16 < seg))

/-- Releases one segment: the egress tag check, then the frame (R66, R68, R69). -/
def State.releaseSeg (s : State) (i : Nat) (r : Release) (seg flags : Nat) (payload : List Byte) (final : Bool) : State :=
  let w := s.sctx i
  if !(tagFollows w r.seq seg) then s.bump Reg.logCntDedup
  else
    let s := s.putSctx i (putFld (putFld (w.set 4 r.seq) 5 31 16 seg) 6 0 0 1)
    let utt := if r.mark && flags % 2 == 1 then (r.utt + 1) % 65536 else r.utt
    let h := vsfHeader 3 5 [cxHandle w i, r.seq, w32 (seg * 2 ^ 16 + payload.length), w32 (utt * 2 ^ 16 + b2n r.late + 2 * b2n final)]
    let bs := bytesOf h ++ payload
    (s.modStrm i (fun x => { x with unacked := x.unacked ++ [(⟨r.seq, seg, bs, 0, s.now⟩ : ResultFrame)] })).sendResult i bs

/-- RESULT_RELEASE: the results of the oldest committed chunk of a stream are released in segment order (R66). -/
def State.doResultRelease (s : State) (i : Nat) : State :=
  match (mget s.fe.streams i).map Stream.releases with
  | some (r :: rest) =>
    let w := s.sctx i
    let m := s.mslot (cxModel w)
    let ctx := s.slotCtx (cxModel w)
    let va := resultAddr m i r.seq
    let len := (wd m 4).toNat
    match s.ctxPeek ctx va len with
    | none =>
      ((s.ctxNote ctx va len).modStrm i (fun x => { x with releases := rest })).hubFail i ctx va len false
    | some bs =>
      let (segs, bad) := slotSegments bs (leNat (bs.take 2)) 4
      let s := (s.ctxNote ctx va len).modStrm i (fun x => { x with releases := rest })
      let s := segs.zipIdx.foldl (fun s g => s.releaseSeg i r g.2 g.1.1 g.1.2 (g.2 + 1 == segs.length)) s
      (if bad then s.bump Reg.logCntBadslot else s).closeSettle i
  | _ => s

/-- RESULT_RETRANSMIT: the oldest unacknowledged result whose RTO has passed is sent again; at RTX_LIMIT the stream stalls (R69). -/
def State.doResultRetransmit (s : State) (i : Nat) : State :=
  match mget s.fe.streams i with
  | none => s
  | some x =>
    match x.unacked.findIdx? (fun r => decide (r.last + 1000 * fld (s.reg Reg.feRetx) 31 16 ≤ s.now)) with
    | none => s
    | some k =>
      let r := x.unacked.getD k default
      let s := s.putStrm i { x with unacked := x.unacked.set k { r with rtx := r.rtx + 1, last := s.now } }
      let s := (s.bump Reg.feCntRtx).sendResult i r.bytes
      let s := if r.rtx + 1 = fld (s.reg Reg.feRetx) 7 0 then
          (s.modSctx i (fun w => putFld w 0 0 0 1)).logEvent evStall (cxHandle (s.sctx i) i) r.seq else s
      s.closeSettle i

/-- A read of LOG_EVQ_DATA3 removes the head event (R77). -/
def State.evqPop (s : State) : State := { s with log := { s.log with evq := s.log.evq.drop 1 } }

end Sys2Proof.Machine
end

