-- ==== Sys2Proof/Machine/RhumbLink.lean ====
section
/-! DEFINITION. The Rhumb links (R351-R358): ports and lanes, flits, credits and replay, routes, keys, and the sending of transactions. -/

namespace Sys2Proof.Machine

/-! ### State of a port -/

/-- The link layer of a port. -/
def State.rport (s : State) (p : Nat) : RhbPort := s.rhb.ports.getD p {}

/-- Changes Rhumb. -/
def State.modRhb (s : State) (f : Rhumb → Rhumb) : State := { s with rhb := f s.rhb }

/-- Changes the link layer of a port. -/
def State.modPort (s : State) (p : Nat) (f : RhbPort → RhbPort) : State := s.modRhb (fun r => { r with ports := lmod r.ports p f })

/-- A register of a port. -/
def State.pReg (s : State) (p off : Nat) : Word := s.reg (rhbKey p off)

/-- Raises a counter of a port, or of the device-wide set. -/
def State.pBump (s : State) (p off : Nat) (n : Nat := 1) : State := s.bump (rhbKey p off) n

/-- UP of a port. -/
def State.portUp (s : State) (p : Nat) : Bool := flag (s.pReg p Reg.rhbStatus) 31

/-- TESTING of a port. -/
def State.portTesting (s : State) (p : Nat) : Bool := flag (s.pReg p Reg.rhbStatus) 28

/-- Sets UP, TRAINING, FAILED and TESTING of a port; LANES counts while it is up (R374). -/
def State.setStatus (s : State) (p : Nat) (up training failed testing : Bool) (lanes : Nat) : State :=
  s.setReg (rhbKey p Reg.rhbStatus) (w32 (b2n up * 2 ^ 31 + b2n training * 2 ^ 30 + b2n failed * 2 ^ 29 + b2n testing * 2 ^ 28 + lanes))

/-- The lanes of the groups that hold no retired lane (R352). -/
def State.lanesOf (s : State) (p : Nat) : Nat :=
  8 * ((List.range 4).filter (fun q => bits (s.pReg p Reg.rhbLanes).toNat (8 * q) 8 == 0)).length

/-! ### Keys and routes (R357, R361, R375) -/

/-- Whether an entry of the key table is loaded. -/
def State.keyLoaded (s : State) (k : Nat) : Bool := (mget s.rhb.keys k).isSome

/-- The device's own ID. -/
def State.devId (s : State) : Nat := fld (s.pReg 0 Reg.rhbDevid) 19 0

/-- Whether the device has an ID (R356). -/
def State.devValid (s : State) : Bool := flag (s.pReg 0 Reg.rhbDevid) 31

/-- The route entry of a destination (R357). -/
def State.routeEntry (s : State) (dst : Nat) : Word :=
  mgetD s.rhb.routes (if dst / 1024 = s.devId / 1024 then 1024 + dst % 1024 else dst / 1024) 0

/-- A port takes new transactions: it is up, and its domain is not fenced (R20). -/
def State.portTakes (s : State) (p : Nat) : Bool := s.portUp p && s.domOpen (72 + p)

/-- The port by which a transaction to a destination leaves: the primary while it is up, else the alternate; none where neither is valid and
up (R357). -/
def State.route (s : State) (dst : Nat) : Option Nat :=
  let e := s.routeEntry dst
  if flag e 31 && s.portTakes (fld e 3 2) then some (fld e 3 2)
  else if flag e 30 && s.portTakes (fld e 1 0) then some (fld e 1 0)
  else none

/-! ### Transactions (R359) -/

/-- OP of a transaction. -/
def txOp (t : RhbTx) : Nat := fld (wd t.hdr 0) 31 28
/-- HOPS of a transaction. -/
def txHops (t : RhbTx) : Nat := fld (wd t.hdr 0) 27 24
/-- LINES of a transaction. -/
def txLines (t : RhbTx) : Nat := fld (wd t.hdr 0) 23 20
/-- SIG of a transaction. -/
def txSig (t : RhbTx) : Nat := fld (wd t.hdr 0) 19 16
/-- KEY of a transaction. -/
def txKey (t : RhbTx) : Nat := fld (wd t.hdr 0) 7 0
/-- DST of a transaction. -/
def txDst (t : RhbTx) : Nat := fld (wd t.hdr 1) 19 0
/-- SRC of a transaction. -/
def txSrc (t : RhbTx) : Nat := fld (wd t.hdr 2) 19 0
/-- TID of a transaction. -/
def txTid (t : RhbTx) : Nat := (wd t.hdr 3).toNat
/-- DSLICE of a transaction. -/
def txSlice (t : RhbTx) : Nat := fld (wd t.hdr 6) 28 24
/-- DCTX of a transaction. -/
def txCtx (t : RhbTx) : Nat := fld (wd t.hdr 6) 11 0
/-- ADDR of a transaction. -/
def txAddr (t : RhbTx) : Nat := (wd t.hdr 7).toNat

/-- The virtual lane of an operation. -/
def laneOf (op : Nat) : Nat := if op = 3 then 1 else if op = 8 then 3 else if op = 4 ∨ op = 5 ∨ op = 7 then 2 else 0

/-- The bytes of a transaction in the payload: header, data and tag. -/
def txBytes (t : RhbTx) : Nat := 48 + t.data.length

/-- The flits that a transaction begins: those that its bytes need beyond the room of the flit being filled, since transactions are packed back to back
(R353). -/
def RhbPort.flitsFor (x : RhbPort) (vl : Nat) (t : RhbTx) : Nat := ceilDiv (txBytes t - (if x.room.1 = vl then x.room.2 else 0)) 240

/-! ### Sending on a link (R353, R354, R358) -/

/-- Sends the header words of a flit (R353): what has been received is acknowledged, and freed receive buffer of one lane is returned.
(DEDUCED, log entry 58) -/
def RhbPort.flit (x : RhbPort) (lseq vl : Nat) (nak idle : Bool) : RhbPort :=
  let l := ((List.range 4).find? (fun l => decide (0 < x.freed.getD l 0))).getD 0
  let n := min 63 (x.freed.getD l 0)
  { x with
    freed := lmod x.freed l (· - n)
    flits := x.flits ++ [(w32 (lseq * 2 ^ 20 + x.rxNext * 2 ^ 8 + vl * 2 ^ 6 + b2n nak * 2 ^ 5 + b2n idle * 2 ^ 4), w32 (l * 2 ^ 30 + n * 2 ^ 24))] }

/-- Sends an idle flit that asks for a replay (R353, R354). -/
def RhbPort.nak (x : RhbPort) : RhbPort :=
  if x.replay.length < 512 then
    { x.flit x.txNext 0 true true with replay := x.replay ++ [(x.txNext, 4, 0)], txNext := (x.txNext + 1) % 4096 }
  else x

/-- The transaction of a lane that goes next, with its requester and the order after it (R29, R358): the port's own device is requester 0, the
other three ports follow. -/
def RhbPort.pick (x : RhbPort) (vl : Nat) : Option (Nat × List Nat × RhbTx) :=
  let w := x.wait.getD vl []
  (arbitrate (x.order.getD vl [0, 1, 2, 3]) (fun r => w.any (fun e => e.1 == r))).bind (fun g =>
    (w.find? (fun e => e.1 == g.1)).map (fun e => (g.1, g.2, e.2)))

/-- Whether the next transaction of a lane can go: credits and the replay buffer hold its flits. -/
def RhbPort.canSend (x : RhbPort) (vl : Nat) : Bool :=
  (x.pick vl).any (fun g => decide (x.flitsFor vl g.2.2 ≤ x.credits.getD vl 0 ∧ x.replay.length + x.flitsFor vl g.2.2 ≤ 512))

/-- The lane served next: 2 over 1 over 0; lane 3 only when the others are idle (R358). -/
def RhbPort.nextLane (x : RhbPort) : Option Nat :=
  if x.canSend 2 then some 2 else if x.canSend 1 then some 1 else if x.canSend 0 then some 0
  else if (x.wait.take 3).all List.isEmpty && x.canSend 3 then some 3 else none

/-- Sends one transaction of a lane: its flits take link sequence numbers and credits and stay in the replay buffer. -/
def RhbPort.send1 (x : RhbPort) (vl : Nat) : RhbPort :=
  match x.pick vl with
  | none => x
  | some (w, o, t) =>
    let k := x.flitsFor vl t
    let left := k * 240 + (if x.room.1 = vl then x.room.2 else 0) - txBytes t
    let y := (List.range k).foldl (fun y i => y.flit ((x.txNext + i) % 4096) vl false false) x
    { y with
      wait := lmod x.wait vl (fun l => l.eraseP (fun e => e.1 == w)), order := x.order.set vl o, room := (vl, left)
      credits := lmod x.credits vl (· - k), replay := x.replay ++ (List.range k).map (fun i => ((x.txNext + i) % 4096, vl, 0))
      txNext := (x.txNext + k) % 4096, sent := x.sent ++ [t] }

/-- Transactions that wait at a port. -/
def RhbPort.waiting (x : RhbPort) : Nat := (x.wait.map List.length).sum

/-- Sends waiting transactions of a port while it can, at most `fuel`. -/
def RhbPort.drain (x : RhbPort) : (fuel : Nat) → RhbPort
  | 0 => x
  | fuel + 1 =>
    match x.nextLane with
    | none => x
    | some vl => (x.send1 vl).drain fuel

/-- Sends waiting transactions of a port that is up while it can, back to back; the last flit is padded. (DEDUCED, log entry 13) -/
def State.drainPort (s : State) (p : Nat) : State :=
  if !(s.portUp p) then s
  else
    let x := s.rport p
    let y := x.drain x.waiting
    (s.modPort p (fun _ => { y with room := (0, 0) })).pBump p Reg.rhbCntTxflit (y.flits.length - x.flits.length)

/-- Hands a transaction of a requester to a port (R358). -/
def State.toPort (s : State) (p req : Nat) (t : RhbTx) : State :=
  (s.modPort p (fun x => { x with wait := lmod x.wait (laneOf (txOp t)) (· ++ [(req, t)]) })).drainPort p

/-- Routes a transaction, or counts that it has no route (R357). -/
def State.routeTx (s : State) (t : RhbTx) : State :=
  match s.route (txDst t) with
  | some p => s.toPort p 0 t
  | none => s.pBump 0 Reg.rhbCntNoroute

/-- Sends a transaction of this device (R356, R359, R361): HOPS, SRC and a fresh NCTR are filled in; nothing leaves without a device ID or
under a key that is not loaded. -/
def State.sendTx (s : State) (t : RhbTx) : State :=
  if s.devValid && s.keyLoaded (txKey t) then
    let n := mgetD s.rhb.nctr (txKey t) 0
    let h := (t.hdr.set 0 (setFld (wd t.hdr 0) 27 24 (fld (s.pReg 0 Reg.rhbE2e) 31 28))).set 2 (w32 s.devId)
    let h := (h.set 4 (w32 n)).set 5 (w32 (n / 2 ^ 32))
    (s.modRhb (fun r => { r with nctr := mput r.nctr (txKey t) (n + 1) })).routeTx { t with hdr := h }
  else s

/-- A transaction of an operation to a device under a key, with its TID, words 6 and 7 and its data. -/
def mkTx (op key dev tid w6 w7 sig : Nat) (data : List Byte) : RhbTx :=
  { hdr := [w32 (op * 2 ^ 28 + data.length / 64 * 2 ^ 20 + sig * 2 ^ 16 + key), w32 dev, 0, w32 tid, 0, 0, w32 w6, w32 w7], data := data }

/-! ### Receiving flits (R353, R354) -/

/-- Sequence numbers from `a` up to but not including `b`, modulo 4,096. -/
def lseqBefore (a b : Nat) : Bool := decide (0 < (b + 4096 - a) % 4096 ∧ (b + 4096 - a) % 4096 ≤ 512)

/-- Takes a port's link down (R354, R357): flits in its buffers are lost, and it trains again while it is enabled. (DEDUCED, log entry 58) -/
def State.linkDown (s : State) (p : Nat) (testing : Bool) : State :=
  let s := if s.portUp p then s.orReg (rhbKey p Reg.rhbErr) 1 else s
  let x := s.rport p
  (s.setStatus p false (!testing && flag (s.pReg p Reg.rhbCtrl) 0) false testing 0).modPort p (fun _ =>
    { downAt := some s.now, sent := x.sent, flits := x.flits, order := x.order })

/-- The lane test starts (R355): the port leaves service. (DEDUCED, log entry 58) -/
def State.startLaneTest (s : State) (p : Nat) : State :=
  (s.linkDown p true).clrReg (rhbKey p Reg.rhbTest) 0x60000000

/-- Replays what is left in the replay buffer (R354): each flit counts; one replayed 16 times takes the link down; 64 replays within 1 ms are a
burst, which starts the lane test (R355). -/
def State.replayAll (s : State) (p : Nat) : State :=
  let x := s.rport p
  let k := x.replay.length
  let at_ := x.replayAt.filter (fun t => decide (s.now < t + 1000)) ++ List.replicate k s.now
  let again (x : RhbPort) : RhbPort := x.replay.foldl (fun y f => y.flit f.1 (f.2.1 % 4) false (f.2.1 == 4)) x
  let s := (s.modPort p (fun x => { again x with replay := x.replay.map (fun f => (f.1, f.2.1, f.2.2 + 1)), replayAt := at_ })).pBump p Reg.rhbCntReplay k
  let s := s.pBump p Reg.rhbCntTxflit k
  if (s.rport p).replay.any (fun f => decide (16 ≤ f.2.2)) then (s.orReg (rhbKey p Reg.rhbErr) 4).linkDown p false
  else if 64 ≤ at_.length then (s.orReg (rhbKey p Reg.rhbErr) 2).startLaneTest p
  else s

/-- RHUMB_FLIT_RECEIVE: a flit is checked, acknowledged and credited; one that fails its CRC is discarded and NAKed, one out of sequence
is discarded (R353, R354). (DEDUCED, log entry 58) -/
def State.doRhumbFlitReceive (s : State) (p : Nat) (f : RhbFlit) (crcOk : Bool) : State :=
  if !(s.portUp p) then s
  else if !crcOk then ((s.pBump p Reg.rhbCntCrc).modPort p RhbPort.nak).pBump p Reg.rhbCntTxflit (if (s.rport p).replay.length < 512 then 1 else 0)
  else if fld f.w0 31 20 ≠ (s.rport p).rxNext then s
  else
    let vl := fld f.w0 7 6
    let room := decide (((s.rport p).rx.getD vl []).length + 240 ≤ 128 * 240)
    let s := s.pBump p Reg.rhbCntRxflit
    let s := s.modPort p (fun x => { x with
      rxNext := (x.rxNext + 1) % 4096
      replay := x.replay.filter (fun g => !(lseqBefore g.1 (fld f.w0 19 8)))
      credits := lmod x.credits (fld f.w1 31 30) (fun c => min 128 (c + fld f.w1 29 24))
      rx := if flag f.w0 4 || !room then x.rx else lmod x.rx vl (· ++ f.payload) })
    let s := if flag f.w0 5 then s.replayAll p else s
    s.drainPort p

/-- What is left of received payloads once a transaction is taken: zeros that fill the rest of its last flit are padding. (DEDUCED, log entry 57) -/
def afterTx (bs : List Byte) (n : Nat) : List Byte :=
  let r := bs.drop n
  if (r.take (r.length % 240)).all (· == 0) then r.drop (r.length % 240) else r

/-- Takes the bytes of a transaction out of a lane's receive buffer; the flits that this frees are owed to the sender as credits (R353).
(DEDUCED, log entry 57) -/
def State.takeRx (s : State) (p : Nat) (t : RhbTx) : State :=
  s.modPort p (fun x =>
    let vl := laneOf (txOp t)
    let old := x.rx.getD vl []
    let new := afterTx old (txBytes t)
    { x with rx := x.rx.set vl new, freed := lmod x.freed vl (· + (ceilDiv old.length 240 - ceilDiv new.length 240)) })

/-- The requester number of port `q` at the output of port `p` (R358): the others by ascending number; what turns back counts as the device's own.
(DEDUCED, log entry 58) -/
def requesterOf (p q : Nat) : Nat := if q < p then q + 1 else if p < q then q else 0

/-- TRANSIT_FORWARD: a transaction for another device goes on with one hop less, by its route; at HOPS = 0 it is dropped (R358). Nothing is sent while
the device has no ID (R356). (DEDUCED, log entry 58) -/
def State.doTransitForward (s : State) (p : Nat) (t : RhbTx) : State :=
  if !(s.portUp p) || (s.devValid && txDst t == s.devId) then s
  else
    let s := s.takeRx p t
    if !(s.devValid) then s
    else if txHops t = 0 then s.pBump p Reg.rhbCntHopdrop
    else match s.route (txDst t) with
      | none => s.pBump 0 Reg.rhbCntNoroute
      | some q => (s.pBump p Reg.rhbCntTransit).toPort q (requesterOf q p) { t with hdr := t.hdr.set 0 (setFld (wd t.hdr 0) 27 24 (txHops t - 1)) }

/-! ### Link state (R355, R357, R369, R374) -/

/-- A port that lies in a powered domain, runs from its reference clock (R431) and is enabled. -/
def State.portOn (s : State) (p : Nat) : Bool := s.domOn (72 + p) && !(s.rst.refLost.getLsbD (3 + p)) && flag (s.pReg p Reg.rhbCtrl) 0

/-- LINK_UP_CHANGE: training ends and the port is up on its lanes, or the link falls and trains again (R352, R357). -/
def State.doLinkUpChange (s : State) (p : Nat) (up : Bool) : State :=
  if up then
    if s.portOn p && !(s.portTesting p) && decide (s.lanesOf p ≠ 0) && !(s.portUp p) then
      let x := s.rport p
      ((s.setStatus p true false false false (s.lanesOf p)).modPort p (fun _ =>
        { sent := x.sent, wait := x.wait, flits := x.flits, order := x.order })).drainPort p
    else s
  else if s.portUp p then s.linkDown p false else s

/-- PORT_FAIL: a link that has not trained again within 1 ms fails its port (R369). -/
def State.doPortFail (s : State) (p : Nat) : State :=
  match (s.rport p).downAt with
  | some t =>
    if !(s.portUp p) && !(s.portTesting p) && s.portOn p && decide (t + 1000 ≤ s.now) && !(flag (s.pReg p Reg.rhbStatus) 29) then
      (s.setStatus p false false true false 0).modPort p (fun x => { x with downAt := some s.now })
    else s
  | none => s

/-- PORT_RETRY_TRAINING: a failed port trains again 1 s after it failed or last tried (R369). -/
def State.doPortRetryTraining (s : State) (p : Nat) : State :=
  match (s.rport p).downAt with
  | some t =>
    if flag (s.pReg p Reg.rhbStatus) 29 && s.portOn p && decide (t + 1000000 ≤ s.now) then
      (s.setStatus p false true true false 0).modPort p (fun x => { x with downAt := some s.now })
    else s
  | none => s

/-- RHB_TEST: a write with START runs the lane test, unless one runs (R374). -/
def State.doRhbTest (s : State) (p : Nat) : State :=
  if s.domOn (72 + p) && !(s.portTesting p) then s.startLaneTest p else s

/-- RHB_RETRAIN: a write of RHB_CTRL with RETRAIN takes the link down and trains it again (R374). -/
def State.doRhbRetrain (s : State) (p : Nat) : State :=
  if s.domOn (72 + p) && !(s.portTesting p) then s.linkDown p false else s

/-- RHB_DEVID_WRITE: sets the device ID while every port is down (R375). -/
def State.doRhbDevidWrite (s : State) (v : Word) : State :=
  if (List.range 4).any s.portUp then s else s.plainWrite (rhbKey 0 Reg.rhbDevid) v

/-- RHB_KEY_LOAD: the data registers become key `k` and are zeroed; its nonce counter starts (R361, R375). -/
def State.doRhbKeyLoad (s : State) (k : Nat) : State :=
  s.modRhb (fun r => { r with
    keys := mput r.keys k ((List.range 8).map (fun i => mgetD r.keyData i 0)), nctr := mput r.nctr k 0, keyData := [] })

/-- RHB_KEY_CLEAR: key `k` is erased (R375). -/
def State.doRhbKeyClear (s : State) (k : Nat) : State :=
  s.modRhb (fun r => { r with keys := mdel r.keys k, nctr := mdel r.nctr k })

end Sys2Proof.Machine
end

