-- ==== Sys2Proof/Machine/Mailbox.lean ====
section
/-! DEFINITION. The mailboxes (R377-R384), events to partners (R323, R393), the flash (R397), the live unit map (R320, R321) and the job
counts (R322). -/

namespace Sys2Proof.Machine

/-! ### Channels (R377, R378) -/

/-- Channel `ch`: 0 of mailbox 0, 1 to 17 the channels 0 to 16 of mailbox 1, 18 of mailbox 2, 19 of mailbox 3. -/
def State.chan (s : State) (ch : Nat) : Channel := s.mbx.getD ch {}

/-- Changes a channel. -/
def State.modChan (s : State) (ch : Nat) (f : Channel → Channel) : State := { s with mbx := lmod s.mbx ch f }

/-- The mailbox of a channel. -/
def mailboxOf (ch : Nat) : Nat := if ch = 0 then 0 else if ch ≤ 17 then 1 else if ch = 18 then 2 else 3

/-- PILOT_UP: the firmware runs and serves messages (R378, R394, R402). -/
def State.pilotUp (s : State) : Bool := s.rst.mode == .running || s.rst.mode == .recordFail

/-- The firmware runs: it boots the device or serves (R399). -/
def State.firmwareRuns (s : State) : Bool := s.rst.mode == .running || s.rst.mode == .booting

/-- Sends an MSI-X signal of a channel of mailbox 1 (R381); none while the host link is down (R404). -/
def State.signal (s : State) (ch vector : Nat) : State :=
  if mailboxOf ch = 1 ∧ s.pilot.hostLink then s.modChan ch (fun c => { c with msix := c.msix ++ [vector] }) else s

/-- A message of an MGMT transaction under key 0: its bytes in whole lines (R359, R383). -/
def mgmtTx (dev : Nat) (ws : List Word) : RhbTx :=
  let bs := bytesOf ws
  mkTx 8 0 dev 0 0 0 0 (bs ++ List.replicate (alignUp bs.length 64 - bs.length) 0)

/-- The zero key under which MGMT travels until entry 0 is loaded (R416), in force or loaded. -/
def State.sendMgmt (s : State) (dev : Nat) (ws : List Word) : State :=
  if s.keyLoaded 0 then s.sendTx (mgmtTx dev ws)
  else
    let r := (s.modRhb (fun r => { r with keys := mput r.keys 0 (List.replicate 8 0) })).sendTx (mgmtTx dev ws)
    r.modRhb (fun r => { r with keys := mdel r.keys 0 })

/-! ### Events (R323, R380, R384, R393) -/

/-- The words of an event. (DEDUCED, log entry 51) -/
def eventWords (code job seq : Nat) (w : List Word) : List Word :=
  [w32 (0xE9 * 2 ^ 24 + 2 ^ 20 + 2 * 2 ^ 18 + code * 2 ^ 8 + 8), 0, w32 job, w32 seq, wd w 0, wd w 1, wd w 2, wd w 3]

/-- The next event number (R384): 1 follows 0xFFFF_FFFF. (DEDUCED, log entry 51) -/
def nextSeq (x : Word) : Word := if x = 0xFFFFFFFF then 1 else x + 1

/-- A channel with one more event queued; an event that is queued takes the next number (R384). -/
def Channel.queueEvent (c : Channel) (code job : Nat) (w : List Word) : Channel :=
  let q := nextSeq c.evSeq
  { c with events := c.events ++ [eventWords code job q.toNat w], evSeq := q }

/-- Events of mailbox 2 go to the device that last sent HELLO there (R383); once room has returned, EVENTS_LOST follows (R380). -/
def State.flushMgmt : (fuel : Nat) → State → State
  | 0, s => s
  | fuel + 1, s =>
    match s.pilot.mgmtSrc, (s.chan 18).events with
    | some d, e :: r =>
      let n := (s.chan 18).lost
      let s := (s.modChan 18 (fun c => { c with events := r })).sendMgmt d e
      State.flushMgmt fuel (if n = 0 then s else s.modChan 18 (fun c => { c.queueEvent 0x3F 0 [w32 n] with lost := 0 }))
    | _, _ => s

/-- Queues an event in a channel, or drops it at a full queue (R380). (DEDUCED, log entry 51) -/
def State.pushEvent (s : State) (ch code job : Nat) (w : List Word) : State :=
  let c := s.chan ch
  if c.events.length < 64 then
    let s := s.modChan ch (fun c => c.queueEvent code job w)
    let s := if flag c.ctrl 1 then s.signal ch 1 else s
    if ch = 18 then s.flushMgmt 64 else s
  else s.modChan ch (fun c => { c with evtOvf := true, evDrop := c.evDrop + 1, lost := c.lost + 1 })

/-- Removes the head event; when room has returned, EVENTS_LOST reports the events dropped (R380). -/
def State.popEvent (s : State) (ch : Nat) : State :=
  let c := s.chan ch
  if c.events.isEmpty then s
  else
    let s := s.modChan ch (fun c => { c with events := c.events.drop 1, lost := 0 })
    if c.lost = 0 then s else s.pushEvent ch 0x3F 0 [w32 c.lost]

/-- The status register of a channel (R378). -/
def State.mbxStatus (s : State) (ch : Nat) : Word :=
  let c := s.chan ch
  w32 (b2n s.pilotUp * 2 ^ 31 + b2n (s.rst.mode == .rom && ch == 19) * 2 ^ 30 + b2n c.busy * 2 ^ 29 + b2n c.rspReady * 2 ^ 28 +
    b2n c.evtOvf * 2 ^ 27 + c.events.length)

/-- The condition of a level signal of a mailbox (R378, R381). (DEDUCED, log entry 64) -/
def State.mbxLevel (s : State) (ch : Nat) : Bool :=
  let c := s.chan ch
  (flag c.ctrl 0 && c.rspReady) || (flag c.ctrl 1 && !c.events.isEmpty) || (flag c.ctrl 2 && c.err != 0)

/-- Sets a bit of MBX_ERR. -/
def State.mbxErr (s : State) (ch : Nat) (m : Word) : State :=
  let s := s.modChan ch (fun c => { c with err := c.err ||| m })
  if flag (s.chan ch).ctrl 2 then s.signal ch 2 else s

/-- MBX_SEND.GO: sends the request, or sets SENDBUSY (R379). -/
def State.doMbxSend (s : State) (ch : Nat) : State :=
  if (s.chan ch).busy then s.mbxErr ch 2 else s.modChan ch (fun c => { c with busy := true, rspReady := false })

/-- A write of a request word: ignored with WRBUSY while BUSY = 1 (R379). -/
def State.mbxReq (s : State) (ch k : Nat) (v : Word) : State :=
  if (s.chan ch).busy then s.mbxErr ch 1 else s.modChan ch (fun c => { c with req := mputD 0 c.req k v })

/-- The request of a channel. -/
def Channel.words (c : Channel) : List Word := (List.range 64).map (fun k => mgetD c.req k 0)

/-- Writes a response: RSP_READY rises and BUSY clears (R379); that of mailbox 2 goes back as MGMT (R383). -/
def State.respond (s : State) (ch : Nat) (ws : List Word) : State :=
  let s := s.modChan ch (fun c => { c with
    rsp := (ws.zipIdx.filter (fun e => e.1 ≠ 0)).map (fun e => (e.2, e.1)), rspReady := true, busy := false })
  let s := if flag (s.chan ch).ctrl 0 then s.signal ch 0 else s
  if ch = 18 then s.sendMgmt s.pilot.mgmtReq ws else s

/-! ### The flash (R397) -/

/-- Bytes of the flash; an erased byte reads 0xFF (DESIGN CHOICE, log entry 5). -/
def State.flashRead (s : State) (a n : Nat) : List Byte := (cellsRead s.flash a n).map (fun b => ~~~ b)

/-- Writes bytes of the flash. -/
def State.flashWrite (s : State) (a : Nat) (bs : List Byte) : State :=
  { s with flash := cellsWrite s.flash a (bs.map (fun b => ~~~ b)) }

/-- Base of the retirement log. -/
abbrev logBase : Nat := 0x30000

/-- Entries of the retirement log: up to the first erased word. -/
def State.logEntries (s : State) : List Word :=
  ((List.range 8192).map (fun i => w32 (leNat (s.flashRead (logBase + 8 * i) 4)))).takeWhile (fun w => w ≠ 0xFFFFFFFF)

/-- Appends a retirement; a full log is rewritten with one entry for each unit (R397). -/
def State.logRetire (s : State) (e : Word) : State :=
  let es := s.logEntries
  if es.length < 8192 then s.flashWrite (logBase + 8 * es.length) (bytesOf [e, s.pilot.bootCount])
  else (s.flashWrite logBase (List.replicate 65536 0xFF)).flashWrite logBase (bytesOf ((es ++ [e]).dedup.flatMap (fun x => [x, s.pilot.bootCount])))

/-! ### The live unit map and accounting (R320-R322) -/

/-- An entry of the live unit map. -/
def unitEntry (kind unit sub : Nat) (service : Bool) : Word := w32 (kind * 2 ^ 29 + b2n service * 2 ^ 28 + unit * 2 ^ 8 + sub)

/-- Enters a unit retired in service in the live unit map and the retirement log (R320, R321). -/
def State.enterUnit (s : State) (kind unit sub : Nat) : State :=
  let e := unitEntry kind unit sub true
  ({ s with pilot := { s.pilot with unitMap := s.pilot.unitMap ++ [e], change := s.pilot.change + 1 } }).logRetire e

/-- Retires a unit other than a core: the map, the log and UNIT_RETIRED (R319, R323). -/
def State.retireUnit (s : State) (kind unit sub : Nat) : State :=
  (s.enterUnit kind unit sub).pushEvent 19 0x13 0 [w32 kind, w32 unit, w32 sub]

/-- The counts of a client: CREATED, RUNNING, COMPLETED, FAILED. -/
def State.countsOf (s : State) (client : Nat) : List Word := mgetD s.pilot.counts client [0, 0, 0, 0]

/-- Changes the counts of a client. -/
def State.modCounts (s : State) (client : Nat) (f : List Word → List Word) : State :=
  { s with pilot := { s.pilot with counts := mput s.pilot.counts client (f (s.countsOf client)) } }

/-- A job is created (R322). -/
def State.countCreate (s : State) (client : Nat) : State :=
  s.modCounts client (fun w => [wd w 0 + 1, wd w 1 + 1, wd w 2, wd w 3])

/-- A job ends normally or fails (R322). -/
def State.countEnd (s : State) (client : Nat) (ok : Bool) : State :=
  s.modCounts client (fun w => [wd w 0, wd w 1 - 1, if ok then wd w 2 + 1 else wd w 2, if ok then wd w 3 else wd w 3 + 1])

/-- A job by its identifier. -/
def State.job (s : State) (id : Nat) : Option Job := s.pilot.jobs.find? (fun j => j.id == id)

/-- Changes a job. -/
def State.modJob (s : State) (id : Nat) (f : Job → Job) : State :=
  { s with pilot := { s.pilot with jobs := s.pilot.jobs.map (fun j => if j.id = id then f j else j) } }

/-! ### Configuration record (R400) -/

/-- A word of the configuration record in effect. -/
def State.cfgWord (s : State) (off : Nat) : Word := w32 (leNat ((s.pilot.config.drop off).take 4))

/-- FEATURES. -/
def State.features (s : State) : Word := s.cfgWord 0x00C

/-- The core mask of a partition. -/
def State.partCores (s : State) (p : Nat) : Word := s.cfgWord (0x020 + 8 * p)

/-- The grants word of a channel: partitions [15:0], classes [19:16]; mailbox 3 has none. -/
def State.grants (s : State) (ch : Nat) : Word := if ch ≤ 18 then s.cfgWord (0x1C0 + 4 * ch) else 0

/-- Cores usable for a partition (R301). -/
def State.usable (s : State) (p n : Nat) : Bool :=
  flag (s.partCores p) n && !(s.disabledCores.testBit n) && flag (s.reg Reg.logSchedUsable) n && s.domOn n

/-- The usable cores of a partition, ascending. -/
def State.usableCores (s : State) (p : Nat) : List Nat := (List.range 32).filter (s.usable p)

/-- CAPACITY of a model slot in proportion to the usable cores (R392, R319). -/
def State.capacityOf (s : State) (r : SlotRec) : Nat :=
  match s.job r.job with
  | some j => r.streamsFull * (s.usableCores j.part).length / 32
  | none => 0

/-- Recomputes CAPACITY of every model slot of the partitions of a core (R319). -/
def State.recapacity (s : State) (n : Nat) : State :=
  s.pilot.slots.foldl (fun s e =>
    match s.job e.2.job with
    | some j => if flag (s.partCores j.part) n then s.setCapacity e.1 (s.capacityOf e.2) else s
    | none => s) s

/-- Asks the power controller to switch domains, in order, as its queue has room (R23). -/
def State.wantPower (s : State) (on : Bool) (ds : List Nat) : State :=
  { s with pilot := { s.pilot with wantPower := s.pilot.wantPower ++ ds.map (fun d => (on, d)) } }

/-- Places the firmware's power requests while the queue has room (R23). -/
def State.placePower : (fuel : Nat) → State → State
  | 0, s => s
  | fuel + 1, s =>
    match s.pilot.wantPower with
    | [] => s
    | (on, d) :: r =>
      if s.pwr.queue.length < 8 then
        State.placePower fuel { s with
          pwr := { s.pwr with queue := s.pwr.queue ++ [(⟨on, d, 0⟩ : PwrReq)] }
          pilot := { s.pilot with wantPower := r } }
      else s

/-- Asks for power transitions and places what fits. -/
def State.askPower (s : State) (on : Bool) (ds : List Nat) : State := State.placePower 80 (s.wantPower on ds)

/-- Retires a core (R319): the map and log, its bit of LOG_SCHED_USABLE, its domains, CAPACITY, and CORE_RETIRED to the owners of jobs of its
partition and to mailbox 3 (R323). -/
def State.retireCore (s : State) (n : Nat) : State :=
  let s := (s.enterUnit 0 n 0).clrReg Reg.logSchedUsable (w32 (2 ^ n))
  let s := (s.askPower false [32 + n, n]).recapacity n
  let s := (List.range 16).foldl (fun s p =>
    if flag (s.partCores p) n then
      let chs := ((s.pilot.jobs.filter (fun j => j.part == p)).map Job.ch ++ [19]).dedup
      chs.foldl (fun s ch => s.pushEvent ch 0x10 0 [w32 n, w32 (s.usableCores p).length]) s
    else s) s
  { s with pilot := { s.pilot with held := s.pilot.held &&& ~~~ (bit32 n) } }

end Sys2Proof.Machine
end

