-- ==== Sys2Proof/Machine/Rhumb.lean ====
section
/-! DEFINITION. Rhumb transactions: flows (R360), remote transfers (R362-R364), landing zones and signals (R365-R368), the outcome of migrations
at their source (R371, R373), the lane test (R355), and the entry of transfers of every class (R188). -/

namespace Sys2Proof.Machine

/-! ### Flows (R360) -/

/-- The sending side of a flow. -/
def State.txFlow (s : State) (dev key : Nat) : TxFlow :=
  (s.rhb.txFlows.find? (fun f => f.dev == dev && f.key == key)).getD { dev := dev, key := key, since := s.now }

/-- Replaces the sending side of a flow. -/
def State.putTxFlow (s : State) (f : TxFlow) : State :=
  let old := s.rhb.txFlows
  let new := if old.any (fun g => g.dev == f.dev && g.key == f.key) then
      old.map (fun g => if g.dev == f.dev && g.key == f.key then f else g)
    else old ++ [f]
  s.modRhb (fun r => { r with txFlows := new })

/-- The receiving side of a flow. -/
def State.rxFlow (s : State) (dev key : Nat) : RxFlow :=
  (s.rhb.rxFlows.find? (fun f => f.dev == dev && f.key == key)).getD { dev := dev, key := key }

/-- Replaces the receiving side of a flow. -/
def State.putRxFlow (s : State) (f : RxFlow) : State :=
  let old := s.rhb.rxFlows
  let new := if old.any (fun g => g.dev == f.dev && g.key == f.key) then
      old.map (fun g => if g.dev == f.dev && g.key == f.key then f else g)
    else old ++ [f]
  s.modRhb (fun r => { r with rxFlows := new })

/-- Sends the transactions of a flow that wait, while fewer than 1,024 are unacknowledged. -/
def State.pumpFlow (s : State) (dev key : Nat) : State :=
  let f := s.txFlow dev key
  let room := 1024 - (f.pend.filter Pend.sent).length
  let go := (f.pend.filter (fun x => !x.sent)).take room
  let f' : TxFlow := { f with pend := f.pend.map (fun x => if go.contains x then { x with sent := true } else x) }
  go.foldl (fun s x => s.sendTx x.tx) (s.putTxFlow f')

/-- Adds a transaction to a flow under its next TID; at a full window it waits and the wait is counted. -/
def State.pushFlow (s : State) (dev key : Nat) (mk : Nat → RhbTx) (core mig : Option Nat) : State :=
  let f := s.txFlow dev key
  let full := decide (1024 ≤ (f.pend.filter Pend.sent).length)
  let idle := f.pend.isEmpty
  let f' : TxFlow := { f with
    next := (f.next + 1) % 2 ^ 32, pend := f.pend ++ [(⟨mk f.next, core, mig, false⟩ : Pend)], since := if idle then s.now else f.since
    retries := if idle then 0 else f.retries }
  let s := s.putTxFlow f'
  (if full then s.pBump 0 Reg.rhbCntFlowwait else s).pumpFlow dev key

/-- Sends every unacknowledged transaction of a flow again, from the oldest. -/
def State.resendFlow (s : State) (dev key : Nat) : State :=
  ((s.txFlow dev key).pend.filter Pend.sent).foldl (fun s x => (s.sendTx x.tx).pBump 0 Reg.rhbCntRetx) s

/-- A NACK for a transaction, with its reason and number. (DEDUCED, log entry 57) -/
def State.sendNack (s : State) (t : RhbTx) (reason tid : Nat) : State := s.sendTx (mkTx 5 (txKey t) (txSrc t) tid 0 reason 0 [])

/-- The ACK of a flow: everything before the expected number (R360, R364). (DEDUCED, log entry 57) -/
def State.sendFlowAck (s : State) (dev key : Nat) : State :=
  let f := s.rxFlow dev key
  (s.putRxFlow { f with owed := 0 }).sendTx (mkTx 4 key dev ((f.expect + 2 ^ 32 - 1) % 2 ^ 32) 0 0 0 [])

/-- Delivers a transaction of a flow in TID order (R360): `f` carries it out and says whether its number is used up; `again` is what a
duplicate does. -/
def State.deliver (s : State) (t : RhbTx) (f : State → State × Bool) (again : State → State) : State :=
  let dev := txSrc t
  let key := txKey t
  let e := (s.rxFlow dev key).expect
  if txTid t = e then
    let (s, used) := f s
    if used then
      let g := s.rxFlow dev key
      let s := s.putRxFlow { g with expect := (e + 1) % 2 ^ 32, owed := g.owed + 1, since := if g.owed = 0 then s.now else g.since }
      if 16 ≤ (s.rxFlow dev key).owed then s.sendFlowAck dev key else s
    else s
  else if precedes (w32 (txTid t)) (w32 e) then again s
  else s.sendNack t 1 e

/-- What a duplicate PUT or MIG does: it is discarded, counted and acknowledged again. -/
def State.dupTx (s : State) (t : RhbTx) : State := (s.pBump 0 Reg.rhbCntDup).sendFlowAck (txSrc t) (txKey t)

/-- Whether a header holds no reserved bit or value (R359, R443): LINES is 1 to 8 with data and 0 without, and a NACK has a reason 1 to 4. -/
def txClean (t : RhbTx) : Bool :=
  let hasData := [1, 3, 6, 8].contains (txOp t)
  let lines := fld (wd t.hdr 0) 23 20
  wd t.hdr 0 &&& 0xFF00 == 0 && wd t.hdr 1 &&& 0xFFF00000 == 0 && wd t.hdr 2 &&& 0xFFF00000 == 0 && wd t.hdr 6 &&& 0xE0FFF000 == 0 &&
  (if hasData then decide (1 ≤ lines ∧ lines ≤ 8) else lines == 0) &&
  (txOp t != 5 || decide (1 ≤ (wd t.hdr 7).toNat ∧ (wd t.hdr 7).toNat ≤ 4))

/-- A transaction of operation `op` arrives for this device (R358, R359, R361, R443): one with a reserved operation, bit or value in its header, with a
failing tag or under a key that is not loaded is discarded and counted; otherwise `f` takes it. (DEDUCED, log entry 57) -/
def State.receiveTx (s : State) (p : Nat) (t : RhbTx) (tagOk : Bool) (op : Nat) (f : State → State) : State :=
  if !(s.portUp p) || !(s.devValid && txDst t == s.devId) then s
  else if txOp t = 0 ∨ 8 < txOp t then (s.takeRx p t).pBump 0 Reg.rhbCntTagfail
  else if txOp t ≠ op then s
  else if !(txClean t) || !tagOk || !(s.keyLoaded (txKey t)) then (s.takeRx p t).pBump 0 Reg.rhbCntTagfail
  else f (s.takeRx p t)

/-! ### Peers and residency (R362, R363, R366) -/

/-- Entry `e` of the peer table of a context. (DESIGN CHOICE, log entry 66) -/
def State.peer (s : State) (ctx e : Nat) : List Word := s.hubWords (s.reg2 (rhbKey 0 Reg.rhbPeertabLo) + 256 * ctx + 16 * e) 4

/-- Whether the receiver accepts a transaction for its context (R363). -/
def State.accepts (s : State) (t : RhbTx) : Bool :=
  let st := ceState (s.cent (txCtx t))
  (st == 1 || st == 2) && (List.range 15).any (fun i =>
    let w := s.peer (txCtx t) (i + 1)
    flag (wd w 0) 31 && fld (wd w 0) 27 20 == txKey t && fld (wd w 0) 19 0 == txSrc t)

/-- The core where a slice of a context resides; none: its landing zone. -/
def State.residency (s : State) (ctx slice : Nat) : Option Nat :=
  (mget s.rhb.resid (32 * ctx + slice)).bind (fun n => if s.coreCtx n = ctx then some n else none)

/-- Sets the residency of a slice. (DEDUCED, log entry 43) -/
def State.setResidency (s : State) (ctx slice : Nat) (n : Option Nat) : State :=
  s.modRhb (fun r => { r with resid := match n with
    | some n => mput r.resid (32 * ctx + slice) n
    | none => mdel r.resid (32 * ctx + slice) })

/-! ### Landing zones (R367, R368) -/

/-- A saturating sum of counters. -/
def satAdd (a b : Word) : Word := w32 (min (a.toNat + b.toNat) 0xFFFFFFFF)

/-- Bytes of the ring of a slice. -/
def ringBytes (w : List Word) : Nat := (ceLandingBytes w - 4096) / 2048 * 64

/-- Records that the ring of a slice holds. -/
def ringRecords (w : List Word) : Nat := (ringBytes w - 64) / 576

/-- The control line of the ring of a slice. -/
def ringCtl (w : List Word) (slice : Nat) : Nat := ceLanding w + 0x1000 + ringBytes w * slice

/-- Record `k` of the ring of a slice. -/
def ringRecord (w : List Word) (slice k : Nat) : Nat := ringCtl w slice + 64 + 576 * (k % ringRecords w)

/-- The SAVED counter of a signal of a slice. -/
def savedVa (w : List Word) (slice sig : Nat) : Nat := ceLanding w + 64 * slice + 4 * sig

/-- The LANDED counter of a signal of a slice. -/
def landedVa (w : List Word) (slice sig : Nat) : Nat := ceLanding w + 0x800 + 64 * slice + 4 * sig

/-- Writes a put as a record of the landing zone, unless the ring is full (R366, R367). -/
def State.landRecord (s : State) (t : RhbTx) : Option State :=
  let ctx := txCtx t
  let w := s.cent ctx
  let sl := txSlice t
  let prod := s.ctxWord ctx (ringCtl w sl)
  let cons := s.ctxWord ctx (ringCtl w sl + 4)
  if ringRecords w ≤ (prod - cons).toNat then none
  else
    let h := [w32 (txLines t * 2 ^ 20 + txSig t * 2 ^ 16), w32 (txAddr t % 2 ^ 24), w32 (txSrc t), w32 (txTid t)] ++ List.replicate 12 0
    let s := s.ctxPoke ctx (ringRecord w sl prod.toNat) (bytesOf h ++ t.data)
    let s := s.ctxPoke ctx (ringCtl w sl) (natLe 4 (prod + 1).toNat)
    let a := landedVa w sl (txSig t)
    some ((s.ctxPoke ctx a (natLe 4 (satAdd (s.ctxWord ctx a) (w32 (txLines t))).toNat)).pBump 0 Reg.rhbCntLanded)

/-- A signal counter of a slice of a core (R365). -/
def Core.signal (c : Core) (slice sig : Nat) : Word := mgetD c.signals (16 * slice + sig) 0

/-- Sets a signal counter. -/
def Core.setSignal (c : Core) (slice sig : Nat) (v : Word) : Core := { c with signals := mputD 0 c.signals (16 * slice + sig) v }

/-- Copies the counters of a slice of a core to the SAVED area, and its residency to the landing zone (R366). (DEDUCED, log entry 42) -/
def State.leaveCore (s : State) (n slice : Nat) : State :=
  let ctx := s.coreCtx n
  let w := s.cent ctx
  let s := if ceLandingBytes w = 0 then s else (List.range 16).foldl (fun s g =>
    s.ctxPoke ctx (savedVa w slice g) (natLe 4 ((s.core n).signal slice g).toNat)) s
  (s.modCore n (fun c => (List.range 16).foldl (fun c g => c.setSignal slice g 0) c)).setResidency ctx slice none

/-- Replays the records of the ring of a slice, oldest first (R368): `k` are left. (DEDUCED, log entry 43) -/
def State.replayRecords (s : State) (n slice : Nat) : (k : Nat) → State
  | 0 => s
  | k + 1 =>
    let ctx := s.coreCtx n
    let w := s.cent ctx
    let cons := s.ctxWord ctx (ringCtl w slice + 4)
    let a := ringRecord w slice cons.toNat
    let lines := fld (s.ctxWord ctx a) 23 20
    let off := (s.ctxWord ctx (a + 4)).toNat
    match (s.ctxNote ctx a (64 + 64 * lines)).spadWrite n 7 off ((s.ctxPeek ctx (a + 64) (64 * lines)).getD []) with
    | (s, some e) => s.coreFault n e (s.core n).curSl.pc
    | (s, none) =>
      ((s.ctxPoke ctx (ringCtl w slice + 4) (natLe 4 (cons + 1).toNat)).cBump n Reg.coreCntReplayrec).replayRecords n slice k

/-- A slice starts or resumes on a core: its ring is replayed, its counters become SAVED + LANDED, both areas are cleared, and its residency
is the core (R366, R368). (DEDUCED, log entry 43) -/
def State.enterCore (s : State) (n slice : Nat) : State :=
  let ctx := s.coreCtx n
  let w := s.cent ctx
  if ceLandingBytes w = 0 then s.setResidency ctx slice (some n)
  else
    let k := (s.ctxWord ctx (ringCtl w slice) - s.ctxWord ctx (ringCtl w slice + 4)).toNat
    let s := s.replayRecords n slice (min k (ringRecords w))
    let s := (List.range 16).foldl (fun s g =>
      let v := satAdd (s.ctxWord ctx (savedVa w slice g)) (s.ctxWord ctx (landedVa w slice g))
      let s := (s.ctxPoke ctx (savedVa w slice g) (natLe 4 0)).ctxPoke ctx (landedVa w slice g) (natLe 4 0)
      s.modCore n (fun c => c.setSignal slice g v)) s
    s.setResidency ctx slice (some n)

/-! ### PUT and GET at the receiver (R363-R366) -/

/-- A put in TID order: it lands in the slice's scratchpad or landing zone and raises its signal, or is answered with a NACK. A put refused
for its peer or range has used up its number; one that finds a full ring has not. -/
def State.putLands (s : State) (t : RhbTx) : State × Bool :=
  let off := txAddr t % 2 ^ 24
  let len := 64 * txLines t
  if !(s.accepts t) then (s.sendNack t 2 (txTid t), true)
  else if 2 ^ 24 < off + len then (s.sendNack t 4 (txTid t), true)
  else match s.residency (txCtx t) (txSlice t) with
    | none =>
      match s.landRecord t with
      | some s => (s, true)
      | none => (s.sendNack t 3 (txTid t), false)
    | some n =>
      match s.spadWrite n 7 off (t.data.take len) with
      | (s, some e) => ((s.coreFault n e (s.core n).curSl.pc).sendNack t 4 (txTid t), true)
      | (s, none) =>
        let s := s.cBump n Reg.coreCntPutlines (txLines t)
        (s.modCore n (fun c => c.setSignal (txSlice t) (txSig t) (satAdd (c.signal (txSlice t) (txSig t)) (w32 (txLines t)))), true)

/-- PUT (R360, R363). -/
def State.doPut (s : State) (p : Nat) (t : RhbTx) (tagOk : Bool) : State :=
  s.receiveTx p t tagOk 1 (fun s => s.deliver t (fun s => s.putLands t) (fun s => s.dupTx t))

/-- A GET is answered from the export window of its context (R363). (DEDUCED, log entry 57) -/
def State.getServed (s : State) (t : RhbTx) : State :=
  let e := s.peer (txCtx t) 0
  let len := 64 * txLines t
  if !(s.accepts t) || !(flag (wd e 0) 31) then s.sendNack t 2 (txTid t)
  else if (wd e 1).toNat < txAddr t + len then s.sendNack t 4 (txTid t)
  else
    let va := va48 e 2 + txAddr t
    match s.vread s.hub.tlb (txCtx t) va len with
    | .error _ => (s.ctxNote (txCtx t) va len).sendNack t 4 (txTid t)
    | .ok bs => (s.ctxNote (txCtx t) va len).sendTx (mkTx 3 (txKey t) (txSrc t) (txTid t) 0 (txTid t) 0 bs)

/-- GET (R360, R363). -/
def State.doGet (s : State) (p : Nat) (t : RhbTx) (tagOk : Bool) : State :=
  s.receiveTx p t tagOk 2 (fun s => s.deliver t (fun s => (s.getServed t, true)) (fun s => s.getServed t))

/-! ### Answers at the sender (R364) -/

/-- What a remote transfer keeps in place of its physical address: its flow. -/
def flowId (dev key : Nat) : Nat := 256 * dev + key

/-- The outstanding remote transfer of a core with a number in a flow. -/
def Core.remote (c : Core) (dev key tid : Nat) : Option Xfer :=
  c.outs.find? (fun x => x.cls == 2 && x.tid == tid && x.pa == flowId dev key)

/-- A remote transfer ends: it leaves the port, its lines count, and its generation may retire. -/
def State.endRemote (s : State) (n : Nat) (x : Xfer) : State :=
  ((s.modCore n (fun c => c.dropOut x)).cBump n Reg.sxCntRmlines x.lines).modCore n Core.settleGens

/-- A remote transfer fails: TRANSLATION with the detail of R363. -/
def State.failRemote (s : State) (n detail : Nat) (x : Xfer) : State :=
  (s.modCore n (fun c => c.dropOut x)).xlatFault n ⟨codeTranslation, detail, 0⟩ x.va ((s.core n).sxVa x.seq)

/-- Takes the transactions that `f` picks out of a flow: the flow has made progress. -/
def State.cutFlow (s : State) (dev key : Nat) (f : Pend → Bool) : State :=
  let g := s.txFlow dev key
  if g.pend.any f then s.putTxFlow { g with pend := g.pend.filter (fun x => !(f x)), since := s.now, retries := 0 } else s

/-- The stream that a migration moves is named by an event to its admitting channel (R371, R373, R393). -/
def State.migEvent (s : State) (i code : Nat) (newHandle first : Word) : State :=
  let b := (s.strm i).bind
  s.pushEvent b.ch code b.job [cxHandle (s.sctx i) i, newHandle, first]

/-- A migration ends before its commit request: the source takes chunks again and MIGRATE_FAILED is sent (R373). -/
def State.migFailed (s : State) (i : Nat) : State :=
  match s.rhb.migOut.find? (fun m => m.ctx == i) with
  | none => s
  | some m =>
    let s := s.modRhb (fun r => { r with migOut := r.migOut.filter (fun m => m.ctx != i) })
    (s.modStrm i (fun x => { x with migrating := false })).migEvent i 0x21 m.newHandle 0

/-- The flow of a migration has failed (R373): before the commit request it ends; after it, the stream is in doubt. -/
def State.migLost (s : State) (i : Nat) : State :=
  match s.rhb.migOut.find? (fun m => m.ctx == i) with
  | none => s
  | some m =>
    if m.commit.isNone then s.migFailed i
    else
      let s := s.modRhb (fun r => { r with migOut := r.migOut.map (fun m => if m.ctx = i then { m with inDoubt := true } else m) })
      (s.modStrm i (fun x => { x with inDoubt := true })).migEvent i 0x22 m.newHandle 0

/-- When every MIG of a migration is acknowledged, its commit request follows (R371). -/
def State.migCommit (s : State) (m : MigOut) : State :=
  if m.sent && m.commit.isNone && !((s.txFlow m.dev m.key).pend.any (fun x => x.mig == some m.ctx)) then
    let tid := (s.txFlow m.dev m.key).next
    let s := s.modRhb (fun r => { r with migOut := r.migOut.map (fun x => if x.ctx = m.ctx then { x with commit := some tid } else x) })
    let data := bytesOf [cxHandle (s.sctx m.ctx) m.ctx, m.newHandle] ++ List.replicate 56 0
    s.pushFlow m.dev m.key (fun tid => mkTx 6 m.key m.dev tid 0 (0xFFFE * 2 ^ 16) 0 data) none (some m.ctx)
  else s

/-- Whether an ACK takes a transaction (R360, R364): a PUT or a MIG up to its number; a GET waits for its GETDATA and a commit request for its
MIGACK. -/
def ackTakes (tid : Nat) (x : Pend) : Bool :=
  (txOp x.tx == 1 || (txOp x.tx == 6 && txAddr x.tx / 2 ^ 16 != 0xFFFE)) && x.sent &&
  (txTid x.tx == tid || precedes (w32 (txTid x.tx)) (w32 tid))

/-- ACK: completes every put of its flow up to its number (R364). (DEDUCED, log entry 57) -/
def State.doAck (s : State) (p : Nat) (t : RhbTx) (tagOk : Bool) : State :=
  s.receiveTx p t tagOk 4 (fun s =>
    let dev := txSrc t
    let key := txKey t
    let ended := (s.txFlow dev key).pend.filter (ackTakes (txTid t))
    let s := s.cutFlow dev key (ackTakes (txTid t))
    let s := ended.foldl (fun s x =>
      match x.core with
      | some n =>
        match (s.core n).remote dev key (txTid x.tx) with
        | some y => s.endRemote n y
        | none => s
      | none => s) s
    let s := s.rhb.migOut.foldl (fun s m => if m.dev = dev ∧ m.key = key then s.migCommit m else s) s
    s.pumpFlow dev key)

/-- GETDATA: lands its data and completes its GET; one whose GET is no longer outstanding is discarded (R364). It lands
through port 4, as R197 says of DIR 3; R362 says port 7. (DESIGN CHOICE, log entry 79) -/
def State.doGetdata (s : State) (p : Nat) (t : RhbTx) (tagOk : Bool) : State :=
  s.receiveTx p t tagOk 3 (fun s =>
    let dev := txSrc t
    let key := txKey t
    let tid := txAddr t
    let mine (x : Pend) : Bool := txOp x.tx == 2 && txTid x.tx == tid
    match (s.txFlow dev key).pend.find? mine with
    | none => s
    | some x =>
      let s := (s.cutFlow dev key mine).pumpFlow dev key
      match x.core with
      | none => s
      | some n =>
        match (s.core n).remote dev key tid with
        | none => s
        | some y => (s.land n 4 y.seq (64 * y.spLine) (t.data.take (64 * y.lines))).endRemote n y)

/-- NACK: GAP resends the flow; NOPEER and RANGE fail the transfer or the migration; FULL waits for the timeout (R360, R363). -/
def State.doNack (s : State) (p : Nat) (t : RhbTx) (tagOk : Bool) : State :=
  s.receiveTx p t tagOk 5 (fun s =>
    let s := s.pBump 0 Reg.rhbCntNack
    let dev := txSrc t
    let key := txKey t
    match txAddr t with
    | 1 => s.resendFlow dev key
    | 3 => s
    | r =>
      if r = 2 ∨ r = 4 then
        let mine (x : Pend) : Bool := txTid x.tx == txTid t
        match (s.txFlow dev key).pend.find? mine with
        | none => s
        | some x =>
          let s := (s.cutFlow dev key mine).pumpFlow dev key
          match x.core, x.mig with
          | some n, _ =>
            (match (s.core n).remote dev key (txTid t) with
              | some y => s.failRemote n 8 y
              | none => s)
          | none, some i => s.migLost i
          | none, none => s
      else s)

/-- FLOW_TIMEOUT: TIMEOUT_US without progress resends a flow; RETRY_LIMIT timeouts in a row fail what it holds (R360). (DEDUCED, log entry 57) -/
def State.doFlowTimeout (s : State) (k : Nat) : State :=
  match s.rhb.txFlows[k]? with
  | none => s
  | some f =>
    let e2e := s.pReg 0 Reg.rhbE2e
    if f.pend.isEmpty ∨ s.now < f.since + fld e2e 15 0 then s
    else if fld e2e 23 16 ≤ f.retries + 1 then
      let s := s.putTxFlow { f with pend := [], retries := 0 }
      let s := f.pend.foldl (fun s x =>
        match x.core with
        | some n =>
          match (s.core n).remote f.dev f.key (txTid x.tx) with
          | some y => s.failRemote n 9 y
          | none => s
        | none => s) s
      ((f.pend.filterMap Pend.mig).dedup).foldl State.migLost s
    else (s.putTxFlow { f with since := s.now, retries := f.retries + 1 }).resendFlow f.dev f.key

/-- ACK_TIMER: 1 µs after a delivery without an ACK, the flow's ACK is sent (R360). -/
def State.doAckTimer (s : State) (k : Nat) : State :=
  match s.rhb.rxFlows[k]? with
  | none => s
  | some f => if 0 < f.owed ∧ f.since + 1 ≤ s.now then s.sendFlowAck f.dev f.key else s

/-! ### Remote entry (R188, R362) -/

/-- Enters a remote transfer: one PUT or one GET in the flow of its peer (R360, R362). -/
def State.enterRemote (s : State) (n : Nat) (x : Xfer) : State :=
  let e := s.peer x.ctx (bits x.va 44 4)
  let dev := fld (wd e 0) 19 0
  let key := fld (wd e 0) 27 20
  let rctx := fld (wd e 1) 11 0
  match s.xferData n 7 x with
  | (s, .error c) => (s.modCore n (fun c => c.dropWaiting x)).coreFault n c ((s.core n).sxVa x.seq)
  | (s, .ok bs) =>
    let tid := (s.txFlow dev key).next
    let s := s.modCore n (fun c => c.enter x { x with pa := flowId dev key, tid := tid, data := bs })
    s.pushFlow dev key (fun tid =>
      if x.kind = .put then mkTx 1 key dev tid (bits x.va 24 5 * 2 ^ 24 + rctx) (bits x.va 0 24) (bits x.va 40 4) bs
      else
        let t := mkTx 2 key dev tid rctx (bits x.va 0 32) 0 []
        { t with hdr := t.hdr.set 0 (setFld (wd t.hdr 0) 23 20 x.lines) }) (some n) none

/-- A transfer enters the port, to HBM or to a Rhumb port. -/
def State.enterXfer (s : State) (n : Nat) (x : Xfer) : State := if x.cls = 2 then s.enterRemote n x else s.enterLocal n x

/-- The list fetcher has a read that the port could take (R79, R190). -/
def Core.fetchReady (c : Core) : Bool := c.wantsFetch && c.mayRead 1

/-- Whether a class has a transfer that the port could take now: its oldest one is translated and has its tokens; in READ, the list fetcher's read
is one too (R188, R190). -/
def Core.classReady (c : Core) (cls : Nat) : Bool :=
  (cls == 0 && c.fetchReady) ||
  (match c.nextXfer cls with
    | some x => c.mayEnter x && (x.cls == 2 || (c.pageOf x).isSome)
    | none => false)

/-- The grant of a class: within READ a list-fetcher read wins over every other transfer; else the oldest transfer enters (R190). -/
def State.grantClass (s : State) (n cls : Nat) : State :=
  let t := s.doListFetchData n
  if cls = 0 ∧ (s.core n).fetchReady ∧ (t.core n).buckets ≠ (s.core n).buckets then t
  else match (s.core n).nextXfer cls with
    | some x => if (s.core n).mayEnter x then s.enterXfer n x else s
    | none => s

/-- TRANSFER_ENTER: a transfer of a class enters the port when the class's turn has come in the rotating order of the classes that could send one
(R185, R188, R190); the walk of one without a cached translation starts (R340). (DEDUCED, log entry 28) -/
def State.doTransferEnter (s : State) (n cls : Nat) : State :=
  let s := if cls = 0 then s.armsGo n else s
  let c := s.core n
  let s := match arbitrate c.portOrder c.classReady with
    | some (w, order) => if w = cls then (s.modCore n (fun c => { c with portOrder := order })).grantClass n cls else s
    | none => s
  let s := match (s.core n).nextXfer cls with
    | some x => if (s.core n).mayEnter x && x.cls != 2 && ((s.core n).pageOf x).isNone then s.startWalk n x.ctx x.va else s
    | none => s
  if cls = 0 then s.armsGo n else s

/-! ### The lane test (R319, R355, R369) -/

/-- A unit has passed Sounding (R319): the pass counts; whether it is the third within 3,600 s. -/
def State.notePass (s : State) (unit : Nat) : State × Bool :=
  let ps := (mgetD s.pilot.passes unit []).filter (fun t => decide (s.now < t + 3600000000)) ++ [s.now]
  ({ s with pilot := { s.pilot with passes := mput s.pilot.passes unit ps } }, decide (3 ≤ ps.length))

/-- LANE_TEST_DONE: the failing lanes are retired and the port trains again on the groups left, or fails with none (R352, R355, R369). A third
pass within 3,600 s retires the port, that is its lanes (R319). (DEDUCED, log entry 58) -/
def State.doLaneTestDone (s : State) (p : Nat) (failMask : Word) : State :=
  if !(s.portTesting p) then s
  else
    let s := s.setReg (rhbKey p Reg.rhbTest) (w32 (2 ^ 30 + b2n (failMask == 0) * 2 ^ 29))
    let s := s.setReg (rhbKey p Reg.rhbTestFail) failMask
    let (s, third) := if failMask = 0 then s.notePass (8192 + p) else (s, false)
    let out := if third then ~~~ (s.pReg p Reg.rhbLanes) else failMask
    let s := s.orReg (rhbKey p Reg.rhbLanes) out
    let s := (setBits 32 out.toNat).foldl (fun s l => s.retireUnit 3 p l) s
    let none_ := decide (s.lanesOf p = 0)
    (s.setStatus p false (!none_ && flag (s.pReg p Reg.rhbCtrl) 0) none_ false 0).modPort p (fun x => { x with downAt := some s.now })

end Sys2Proof.Machine
end

