-- ==== Sys2Proof/Machine/CoreRun.lean ====
section
/-! DEFINITION. What runs on a core: starts (R79, R80, R107, R305), retirement (R95), the end of lists (R444), remote waits (R312, R365), the
watchdog (R307), tests, and pre-emption with its save area (R308-R311). -/

namespace Sys2Proof.Machine

/-! ### Starts -/

/-- A context start (R111, R139, R198): planes, WSS bits, descriptors and cached map lines go. -/
def State.contextStart (s : State) (n : Nat) : State :=
  s.modCore n (fun c => { c.clearKernel with lastCtx := some (s.coreCtx n), descs := [], mapLines := [] })

/-- The start of a batch: a context start when another context ran last (R305). -/
def State.batchContext (s : State) (n : Nat) : State := if (s.core n).lastCtx = some (s.coreCtx n) then s else s.contextStart n

/-- Makes the core carry slices of a run and stand before the first of them (R101). -/
def Core.carry (c : Core) (run : Run) (sls : List SliceSt) : Core :=
  { c with inSpill := false, run := run, ctl := .run, slices := sls, cur := (sls.head?.map SliceSt.slice).getD 0, fetch := [], xlated := [], wdog := 0 }

/-- Slices of a mask at the start of their lists. -/
def freshSlices (mask : Nat) : List SliceSt := (setBits 32 mask).map (fun k => { slice := k })

/-- Replays the landing rings of the slices that the core starts (R368). -/
def State.enterAll (s : State) (n : Nat) : State := (s.core n).slices.foldl (fun s x => s.enterCore n x.slice) s

/-- CORE_START: an idle core starts the list of each slice in CORE_SLICES, or one VDN-8E list (R107). -/
def State.doCoreStart (s : State) (n : Nat) (legacy : Bool) : State :=
  if !((s.core n).idle) then s
  else
    let mask := (s.cReg n Reg.coreSlices).toNat
    let sls := if legacy then (freshSlices mask ++ [({ slice := 0 } : SliceSt)]).take 1 else freshSlices mask
    if sls.isEmpty then s
    else ((s.contextStart n).modCore n (fun c => c.carry (if legacy then .compat else .direct) sls)).enterAll n

/-- Loads the registers that a work-list descriptor brings (R305). -/
def State.loadDesc (s : State) (n : Nat) (d : WlDesc) : State :=
  (((s.setReg (coreKey n Reg.coreCtx) (w32 d.ctxId)).setReg (coreKey n Reg.coreSlices) (w32 d.mask.toNat)).setReg2
    (coreKey n Reg.coreProgBaseLo) d.progBase).setReg2 (coreKey n Reg.lpeMapBaseLo) d.mapBase

/-! ### Retirement (R95) -/

/-- COMMAND_RETIRE: the oldest issued command of an engine retires when its condition holds. -/
def State.doCommandRetire (s : State) (n : Nat) (e : Engine) : State :=
  let c := s.core n
  let s := match e with
    | .mx => match c.mxA with
      | d :: r =>
        if d.done && c.staging.all (fun t => t.1 != d.seq) && !(d.op == opMxAttn && s.kvBusy n d.seq) then
          let s := s.modCore n (fun c => { c with mxA := r })
          if d.op = opMxLoad then s.cBump n Reg.mxCntLoads else if d.op = opMxAttn then s.unpinAll n d.seq else s
        else s
      | [] => s
    | .vx => match c.vxA with
      | d :: r => if d.done then s.modCore n (fun c => { c with vxA := r }) else s
      | [] => s
    | .sx => match c.sxA with
      | d :: r => if c.sxReady d then s.modCore n (fun c => { c with sxA := r }) else s
      | [] => s
  (s.pump n).modCore n Core.settleGens

/-! ### The end of a list (R444, R92) -/

/-- Entries of the work list of a serving batch that no COMPLETE of the current slice has covered (R92). -/
def Core.uncovered (c : Core) : Bool := c.wl.isSome && (List.range c.wlCount).any (fun k => !(c.curSl.covered.contains k))

/-- Core `n` runs work of a context, or holds it queued. -/
def State.carries (s : State) (ctx n : Nat) : Bool :=
  ((s.core n).run != .idle && s.coreCtx n == ctx) || (s.core n).wlq.any (fun d => d.ctxId == ctx)

/-- Records the core bits of a context's entry: the cores that run its work or hold it queued (R299). -/
def State.syncCores (s : State) (ctx : Nat) : State :=
  let m := ((List.range 32).filter (s.carries ctx)).foldl (fun (m : BitVec 32) n => m ||| bit32 n) 0
  if wd (s.cent ctx) 1 = w32 m.toNat then s else s.modCent ctx (fun w => w.set 1 (w32 m.toNat))

/-- A core whose slices have all ended is free (R80, R308). Its registers keep what they show of the slices until the next start.
(DEDUCED, log entry 24) -/
def State.freeCore (s : State) (n : Nat) : State :=
  let ctx := s.coreCtx n
  let s := s.modCore n (fun c => { c with
    run := .idle, ctl := .run, fetch := [], wl := none, wlBuf := [], wlLines := [], wdog := 0, preempt := 0
    waiting := c.waiting.filter (fun x => x.kind != .workList) })
  ({ s with sched := { s.sched with victims := s.sched.victims.filter (fun v => v.1 != n) } }).syncCores ctx

/-- END_COMPLETE: the last kernel of the slice has drained and its SX commands have retired; planes and WSS bits are invalidated, and the core
goes on to its next slice or is free (R444, R101). Uncovered work-list entries are a COMPLETE fault (R92) of that END, whose one word the
dispatcher has passed (R105). (DEDUCED, log entry 69) -/
def State.doEndComplete (s : State) (n : Nat) : State :=
  let c := s.core n
  if !(c.ctl == .endDrain && c.drained && c.sxDrained c.cur) || (c.wl.isSome && c.wlBuf.isEmpty) then s
  else if c.uncovered then s.coreFault n codeComplete (c.curSl.pc - 4)
  else
    let compat := c.run == .compat
    let s := s.modCore n (fun c => { (c.clearKernel.modCur (fun x => { x with ended := true })) with wdog := 0 })
    let s := s.leaveCore n c.cur
    let s := s.modWork n (fun b => { b with ended := b.ended ||| bit32 c.cur }) (fun d => { d with ended := d.ended ||| bit32 c.cur })
    let s := if compat then { s with sched := { s.sched with
        directs := s.sched.directs.map (fun d => if d.ctxId = s.coreCtx n then { d with ended := BitVec.allOnes 32 } else d) } } else s
    if (s.core n).slices.all SliceSt.ended then s.freeCore n
    else s.modCore n (fun c =>
      match c.nextSlice c.cur with
      | some k => { c with ctl := if c.preempt = 1 then .preempted else .run, cur := k, fetch := [] }
      | none => { c with ctl := .barrier, cur := ((c.slices.find? (fun x => !x.ended)).map SliceSt.slice).getD c.cur, fetch := [] })

/-! ### Remote waits (R312, R365) -/

/-- An SX_WAIT_REMOTE that is not the first command of a kernel is misplaced (R312). -/
def waitMisplaced (c : Core) (_ : Cmd) : Bool := !c.curSl.atStart

/-- The head of the SX queue waits for a signal (R365). -/
def Core.remoteWait (c : Core) : Option Cmd :=
  match c.sxQ with
  | d :: _ => if d.op = opSxWaitRemote ∧ c.sxA.isEmpty ∧ !(c.hazard d.seq d.rds d.wrs) then some d else none
  | [] => none

/-- SX_WAIT_REMOTE: dispatched, it holds its slice; when the signal counter has reached COUNT, it subtracts COUNT and retires (R312, R365). -/
def State.doSxWaitRemote (s : State) (n : Nat) : State :=
  let before := (s.core n).sxQ.length
  let s := s.dispatch n opSxWaitRemote okHere waitMisplaced
  let c := s.core n
  let s := if before < c.sxQ.length then
      s.modCore n (fun c => c.modCur (fun x => { x with wait := some (((c.sxQ.getLast?).map Cmd.ops).getD []) })) else s
  match (s.core n).remoteWait with
  | none => s
  | some d =>
    let sig := fld (d.o 1) 19 16
    let v := (s.core n).signal d.slice sig
    if (s.core n).live && decide ((d.o 2).toNat ≤ v.toNat) then
      (s.modCore n (fun c => { ((c.setSignal d.slice sig (v - d.o 2)).putSl
        { ((c.sliceOf d.slice).getD { slice := d.slice }) with wait := none }) with sxQ := c.sxQ.drop 1 })).settle n
    else s

/-! ### The watchdog (R307) -/

/-- The limit of the watchdog in CCLK cycles. -/
def State.wdogLimit (s : State) (n : Nat) : Nat := fld (s.cReg n Reg.coreWdog) 15 0 * 900

/-- Whether the work item on a core has slices in its save area. -/
def State.spilledWork (s : State) (n : Nat) : Bool :=
  match (s.core n).run with
  | .batch id => ((s.batch id).map Batch.spilled).getD 0 != 0
  | .idle => false
  | _ => (s.sched.directs.find? (fun d => d.ctxId == s.coreCtx n)).any (fun d => d.spilled != 0)

/-- Whether the count of a core runs (R307): it is not idle, no slice waits at SX_WAIT_REMOTE, and it does not wait at a barrier of a work
item with spilled slices. -/
def State.wdogRuns (s : State) (n : Nat) : Bool :=
  let c := s.core n
  !c.idle && c.curSl.wait.isNone && !(c.ctl == .barrier && s.spilledWork n)

/-- A kernel boundary of the core completes now: its drain is over, or its barrier is full. A boundary that falls together with the limit wins
(R307). -/
def State.boundaryNow (s : State) (n : Nat) : Bool :=
  let c := s.core n
  match c.ctl with
  | .fence _ => c.drained
  | .endDrain => c.drained && c.sxDrained c.cur
  | .barrier => s.barrierFull n
  | _ => false

/-- WATCHDOG: the count has reached its limit, and no boundary completes (R307). -/
def State.doWatchdog (s : State) (n : Nat) : State :=
  if s.wdogRuns n && decide (s.wdogLimit n ≤ (s.core n).wdog) && !(s.boundaryNow n) then s.coreFault n codeWatchdog (s.core n).curSl.pc else s

/-! ### Live ranges (R309) -/

/-- A live range: Facet format plus 1, or 0 for raw, and its first and last line. -/
structure LiveRange where
  fmt : Nat
  first : Nat
  last : Nat
  deriving DecidableEq, Repr, Inhabited

/-- A live range out of its two words. -/
def rangeOf (e0 e1 : Word) : LiveRange := ⟨fld e0 31 29, fld e0 17 0, fld e1 17 0⟩

/-- Whether a range keeps the rules of R309. -/
def LiveRange.ok (r : LiveRange) : Bool :=
  decide (r.fmt ≤ 4 ∧ r.first ≤ r.last) && (r.fmt == 0 || (r.first % 64 == 0 && (r.last + 1) % 64 == 0))

/-- Ranges ascending and disjoint. -/
def rangesRise : List LiveRange → Bool
  | a :: b :: r => decide (a.last < b.first) && rangesRise (b :: r)
  | _ => true

/-- The words of a live-range map's entries, and their reserved bits (R309). -/
def mapEntriesOk (ws : List Word) (k : Nat) : Bool :=
  (List.range k).all (fun i => fld (wd ws (2 * i)) 28 18 == 0 && fld (wd ws (2 * i + 1)) 31 18 == 0)

/-- The fault of a failed read of a live-range map during a pre-emption (R309). -/
def mapFault (e : XErr) : Nat := if e.code ≤ codeXlatMalformed then codeLivemap else e.code

/-- The ranges of the map at `map`, or the fault code. -/
def State.mapRanges (s : State) (n map : Nat) : Except Nat (List LiveRange) :=
  match s.vread (s.core n).tlb (s.coreCtx n) map 64 with
  | .error e => .error (mapFault e.1)
  | .ok h =>
    let k := fld (wd (wordsOf 1 h) 0) 15 0
    match s.vread (s.core n).tlb (s.coreCtx n) (map + 64) (8 * k) with
    | .error e => .error (mapFault e.1)
    | .ok bs =>
      let ws := wordsOf (2 * k) bs
      let rs := (List.range k).map (fun i => rangeOf (wd ws (2 * i)) (wd ws (2 * i + 1)))
      if mapEntriesOk ws k && rs.all LiveRange.ok && rangesRise rs then .ok rs else .error codeLivemap

/-- Joins rising lines into runs. -/
def lineRuns : List Nat → List LiveRange
  | [] => []
  | l :: r =>
    match lineRuns r with
    | x :: xs => if l + 1 = x.first then ⟨0, l, x.last⟩ :: xs else ⟨0, l, l⟩ :: x :: xs
    | [] => [⟨0, l, l⟩]

/-- The lines that a context has written on a core (R104): in runs, or as one range where they make more than a directory holds. (DEDUCED, log entry 42) -/
def State.writtenRuns (s : State) (n : Nat) : List LiveRange :=
  let c := s.core n
  let ls := ((c.tags.filter (fun t => t.2 == s.coreCtx n)).map Prod.fst).flatMap (fun g =>
    ((List.range 64).map (64 * g + ·)).filter c.lineWritten)
  let rs := lineRuns ls
  if rs.length ≤ 1024 then rs
  else match rs.head?, rs.getLast? with
    | some a, some b => [⟨0, a.first, b.last⟩]
    | _, _ => rs

/-! ### The save area (R310) -/

/-- The slice record of a slice. -/
def recordVa (w : List Word) (slice : Nat) : Nat := ceSave w + 0x1000 + 128 * slice
/-- The spill region of a slice. -/
def regionVa (w : List Word) (slice : Nat) : Nat := ceSave w + 0x100000 + 0x1100000 * slice

/-- The ranges named by the directory of a slice's region; SAVE where it cannot be read (R324). -/
def State.savedRanges (s : State) (n slice : Nat) : Except Nat (List LiveRange) :=
  let ctx := s.coreCtx n
  let w := s.cent ctx
  match s.vread (s.core n).tlb ctx (recordVa w slice) 128 with
  | .error _ => .error codeSave
  | .ok r =>
    let k := (wd (wordsOf 32 r) 4).toNat
    match s.vread (s.core n).tlb ctx (regionVa w slice) (16 * k) with
    | .error _ => .error codeSave
    | .ok bs => .ok ((List.range k).map (fun i => rangeOf (wd (wordsOf (4 * k) bs) (4 * i)) (wd (wordsOf (4 * k) bs) (4 * i + 1))))

/-- The live ranges of a slice at a boundary (R104, R309, R311). -/
def State.liveRanges (s : State) (n : Nat) (x : SliceSt) : Except Nat (List LiveRange) :=
  if (s.core n).run = .compat then .ok (s.writtenRuns n)
  else if x.saved then s.savedRanges n x.slice
  else if x.liveMap = 0 then .ok []
  else s.mapRanges n x.liveMap

/-- The effects on error state of the reads behind the live ranges of a slice (R334): its map, or the record and directory of its save area. -/
def State.noteRanges (s : State) (n : Nat) (x : SliceSt) : State :=
  let tlb := (s.core n).tlb
  let ctx := s.coreCtx n
  let count (va w : Nat) : Nat := match s.vread tlb ctx va 64 with
    | .ok h => (wd (wordsOf 16 h) w).toNat
    | .error _ => 0
  if (s.core n).run = .compat then s
  else if x.saved then
    let w := s.cent ctx
    (s.vnote tlb ctx (recordVa w x.slice) 128).vnote tlb ctx (regionVa w x.slice) (16 * count (recordVa w x.slice) 4)
  else if x.liveMap = 0 then s
  else (s.vnote tlb ctx x.liveMap 64).vnote tlb ctx (x.liveMap + 64) (8 * (count x.liveMap 0 % 2 ^ 16))

/-- The bytes that stand for a range in the save area: its lines, or a packed area whose blocks are each coded against their own table or
stored raw, which is counted (R222, R310). -/
def State.rangeBytes (s : State) (n : Nat) (r : LiveRange) : State × Except Nat (List Byte) :=
  match s.spadRead n 6 (64 * r.first) (64 * (r.last + 1 - r.first)) with
  | (s, .error e) => (s, .error e)
  | (s, .ok bs) =>
    if r.fmt = 0 then (s, .ok bs)
    else
      let blocks := (List.range ((r.last + 1 - r.first) / 64)).map (fun i => (bs.drop (4096 * i)).take 4096)
      let th := fld (s.cReg n Reg.lpeCtrl) 5 0
      let st := blocks.map (fun b => fctStore (fctBuild (r.fmt - 1) [b]) th b)
      let raw := (st.filter Prod.fst).length
      (if raw = 0 then s else s.cBump n Reg.lpeCntEncraw raw, .ok (fctPack (r.fmt - 1) st))

/-- Reads the data of the ranges of a slice. -/
def State.rangesBytes (s : State) (n : Nat) : List LiveRange → State × Except Nat (List (LiveRange × List Byte))
  | [] => (s, .ok [])
  | r :: rs =>
    match s.rangeBytes n r with
    | (s, .error e) => (s, .error e)
    | (s, .ok bs) =>
      match State.rangesBytes s n rs with
      | (s, .error e) => (s, .error e)
      | (s, .ok l) => (s, .ok ((r, bs) :: l))

/-- The directory words and the data of a spill region; data begin at 16 KiB (R310). -/
def regionImage (l : List (LiveRange × List Byte)) : List Word × List Byte :=
  let r := l.foldl (fun (x : List Word × List Byte) e =>
    let off := 16384 + x.2.length
    (x.1 ++ [w32 (e.1.fmt * 2 ^ 29 + e.1.first), w32 e.1.last, w32 off, w32 e.2.length], x.2 ++ e.2)) ([], [])
  r

/-- The slice record of a slice (R310, R312). (DEDUCED, log entry 42) -/
def sliceRecord (x : SliceSt) (pc ndir : Nat) : List Word :=
  let w0 := w32 (2 ^ 31 + b2n x.wait.isSome * 2 ^ 30 + b2n x.arrived * 2 ^ 29 + x.loops.length * 2 ^ 16 + x.fences)
  let loop (l : Nat) : List Word :=
    match x.loops.reverse[l]? with
    | some y => [w32 y.li, w32 y.iter, w32 y.pc, w32 (y.pc / 2 ^ 32)]
    | none => [0, 0, 0, 0]
  let tok := x.wait.getD []
  [w0, w32 pc, w32 (pc / 2 ^ 32), w32 x.barriers, w32 ndir, 0, 0, 0] ++ (List.range 4).flatMap loop ++ [wd tok 0, wd tok 1] ++ List.replicate 6 0

/-- A write to the save area, or SAVE (R324). -/
def State.savePut (s : State) (n va : Nat) (bs : List Byte) : State × Option Nat :=
  if bs.isEmpty then (s, none)
  else match s.vwrite (s.core n).tlb (s.coreCtx n) va bs with
    | .ok s => (s, none)
    | .error _ => (s, some codeSave)

/-- Where a slice goes on: at its SX_WAIT_REMOTE when it waits at one (R312), at 0 when its list has not been opened, else at its next command. -/
def Core.resumePc (c : Core) (x : SliceSt) : Nat :=
  if !x.started then 0
  else if x.wait.isSome then ((c.sxQ.find? (fun d => d.op == opSxWaitRemote && d.slice == x.slice)).map Cmd.va).getD x.pc
  else x.pc

/-- Spills one slice: its region, then its record; its lines are counted (R216, R308, R310, R327). (DEDUCED, log entry 42) -/
def State.spillSlice (s : State) (n : Nat) (x : SliceSt) (rs : List LiveRange) : State × Option Nat :=
  let w := s.cent (s.coreCtx n)
  match s.rangesBytes n rs with
  | (s, .error e) => (s, some e)
  | (s, .ok l) =>
    let (dir, data) := regionImage l
    match s.savePut n (regionVa w x.slice) (bytesOf dir) with
    | (s, some e) => (s, some e)
    | (s, none) =>
      match s.savePut n (regionVa w x.slice + 16384) data with
      | (s, some e) => (s, some e)
      | (s, none) =>
        match s.savePut n (recordVa w x.slice) (bytesOf (sliceRecord x ((s.core n).resumePc x) rs.length)) with
        | (s, some e) => (s, some e)
        | (s, none) =>
          let k := ceilDiv (16 * rs.length) 64 + data.length / 64 + 2
          ((s.cBump n Reg.coreCntSpilled k).cBump n Reg.sxCntWrlines k, none)

/-- Spills slices in order. -/
def State.spillSlices (s : State) (n : Nat) : List (SliceSt × List LiveRange) → State × Option Nat
  | [] => (s, none)
  | x :: r =>
    match s.spillSlice n x.1 x.2 with
    | (s, some e) => (s, some e)
    | (s, none) => State.spillSlices s n r

/-- The live ranges of every slice that has not ended, or the first fault. -/
def State.allRanges (s : State) (n : Nat) : List SliceSt → Except Nat (List (SliceSt × List LiveRange))
  | [] => .ok []
  | x :: r =>
    match s.liveRanges n x with
    | .error e => .error e
    | .ok rs =>
      match s.allRanges n r with
      | .error e => .error e
      | .ok l => .ok ((x, rs) :: l)

/-! ### Pre-emption (R308, R311-R313) -/

/-- PREEMPT_REQUEST: a core that runs work will stop at its next kernel boundary (R308, R326). -/
def State.doPreemptRequest (s : State) (n : Nat) : State :=
  if !((s.core n).idle) && (s.core n).preempt == 0 then s.modCore n (fun c => { c with preempt := 1 }) else s

/-- The core stands at a kernel boundary: stopped there, at a barrier, at a remote wait, or between lists (R308). -/
def Core.atBoundary (c : Core) : Bool :=
  c.ctl == .preempted || c.ctl == .barrier || (c.ctl == .run && (c.curSl.wait.isSome || !c.curSl.started))

/-- Moves every segment not yet landed of every take to its refetch list, one that has arrived in part among them, once the take queue is empty
(R213). -/
def State.dropTakes (s : State) (n : Nat) : State :=
  let s := s.drainTakeQ n
  (s.core n).takes.foldl (fun s t => s.toRefetch n t.seq ((t.part.map Prod.fst).getD t.next) (t.first + t.count) none) s

/-- The SX commands other than a remote wait have retired. -/
def Core.aheadOver (c : Core) : Bool := c.sxA.isEmpty && c.sxQ.all (fun d => d.op == opSxWaitRemote) && c.outs.isEmpty

/-- PREEMPT_BOUNDARY: at a boundary of a requested pre-emption, takes move to refetch; once the AHEAD commands have retired, remote waits become
tokens, residencies move to the landing zone, and the live ranges, signal counters and records are written (R213, R308-R312, R366). (DEDUCED, log
entry 42) -/
def State.doPreemptBoundary (s : State) (n : Nat) : State :=
  if !((s.core n).preempt == 1 && (s.core n).atBoundary) then s
  else
    let s := (s.dropTakes n).modCore n (fun c => { c with ctl := .preempted })
    let c := s.core n
    if !c.aheadOver then s
    else
      let alive := c.slices.filter (fun x => !x.ended)
      let s := alive.foldl (fun s x => s.noteRanges n x) s
      match s.allRanges n alive with
      | .error e => s.coreFault n e c.curSl.pc
      | .ok rs =>
        let s := s.modCore n (fun c => { c with preempt := 2 })
        let s := alive.foldl (fun s x => s.leaveCore n x.slice) s
        match s.spillSlices n rs with
        | (s, some e) => s.coreFault n e c.curSl.pc
        | (s, none) => s.modCore n (fun c => { c with sxQ := [] })

/-- The mask of the slices that a core carries and that have not ended. -/
def Core.aliveMask (c : Core) : BitVec 32 := (c.slices.filter (fun x => !x.ended)).foldl (fun m x => m ||| bit32 x.slice) 0

/-- SPILL_COMPLETE: DONE is set, the slices are marked SPILLED, the core is free, and the work item waits again (R308, R302). -/
def State.doSpillComplete (s : State) (n : Nat) : State :=
  let c := s.core n
  if c.preempt ≠ 2 then s
  else
    let ctx := s.coreCtx n
    let m := c.aliveMask
    let s := (s.orReg (coreKey n Reg.corePreempt) 1).cBump n Reg.coreCntPreempt
    let s := s.modCent ctx (fun w => w.set 2 (wd w 2 ||| w32 m.toNat))
    let s := s.modWork n (fun b => { b with spilled := b.spilled ||| m }) (fun d => { d with spilled := d.spilled ||| m })
    let item : WorkItem := match c.run with
      | .batch id => .batch id
      | _ => .direct ctx
    ((((s.freeCore n).modCore n (fun c => { c with slices := [] })).enqueueReady item).bump Reg.logSchedCntPreempt)

/-! ### Resume (R311) -/

/-- Whether a range need not be read: its granules are still the context's and every line is still written (R311). -/
def State.stillThere (s : State) (n : Nat) (r : LiveRange) : Bool :=
  let c := s.core n
  (List.range (r.last + 1 - r.first)).all (fun i =>
    mget c.tags (granuleOf (r.first + i)) == some (s.coreCtx n) && c.lineWritten (r.first + i))

/-- Lines that a refill has read (R216, R327). -/
def State.refilled (s : State) (n k : Nat) : State := if k = 0 then s else (s.cBump n Reg.coreCntRefilled k).cBump n Reg.sxCntRdlines k

/-- Restores one range of a slice: its data land, or the packed area of a Facet range waits for the Loupe (R230, R311); or a fault code. A range that
is still there is skipped. -/
def State.refillRange (s : State) (n region : Nat) (e : List Word) : State × Option Nat :=
  let r := rangeOf (wd e 0) (wd e 1)
  if s.stillThere n r then (s.cBump n Reg.coreCntSkipped, none)
  else
    let len := (wd e 3).toNat
    let tlb := (s.core n).tlb
    let ctx := s.coreCtx n
    let va := region + (wd e 2).toNat
    let s' := s.vnote tlb ctx va len
    match s.vread tlb ctx va len with
    | .error _ => (s', some codeSave)
    | .ok bs =>
      let s := s'.refilled n (ceilDiv len 64)
      let lines := r.last + 1 - r.first
      if r.fmt = 0 then s.spadWrite n 4 (64 * r.first) (bs.take (64 * lines))
      else (s.modCore n (fun c => { c with loupe := c.loupe ++
        [{ seq := r.first, req := 2, fmt := r.fmt - 1, line := r.first, lo := 0, hi := 0, blocks := lines / 64, pack := bs }] }), none)

/-- Restores the ranges of a directory in order. -/
def State.refillRanges (s : State) (n region : Nat) (dir : List Word) : (left i : Nat) → State × Option Nat
  | 0, _ => (s, none)
  | left + 1, i =>
    match s.refillRange n region ((dir.drop (4 * i)).take 4) with
    | (s, some c) => (s, some c)
    | (s, none) => s.refillRanges n region dir left (i + 1)

/-- Restores one slice: its record must be VALID. -/
def State.refillSlice (s : State) (n slice : Nat) : State × Option Nat :=
  let ctx := s.coreCtx n
  let w := s.cent ctx
  match s.vread (s.core n).tlb ctx (recordVa w slice) 128 with
  | .error _ => (s, some codeSave)
  | .ok bs =>
    let rec_ := wordsOf 32 bs
    let k := (wd rec_ 4).toNat
    let s := s.vnote (s.core n).tlb ctx (recordVa w slice) 128
    if !(flag (wd rec_ 0) 31) ∨ 1024 < k then (s.refilled n 2, some codeSave)
    else
      let s' := s.vnote (s.core n).tlb ctx (regionVa w slice) (16 * k)
      match s.vread (s.core n).tlb ctx (regionVa w slice) (16 * k) with
      | .error _ => (s', some codeSave)
      | .ok d => (s'.refilled n (2 + ceilDiv (16 * k) 64)).refillRanges n (regionVa w slice) (wordsOf (4 * k) d) k 0

/-- Restores slices in order. -/
def State.refillSlices (s : State) (n : Nat) : List Nat → State × Option Nat
  | [] => (s, none)
  | k :: r =>
    match s.refillSlice n k with
    | (s, some c) => (s, some c)
    | (s, none) => State.refillSlices s n r

/-- Begins a resume of slices on an idle core: a context start, then the refill (R311). -/
def State.startResume (s : State) (n : Nat) (run : Run) (mask : Nat) : State :=
  let sls := freshSlices mask
  let s := (s.contextStart n).modCore n (fun c => { (c.carry run sls) with ctl := .preempted, preempt := 3 })
  match s.refillSlices n (sls.map SliceSt.slice) with
  | (s, some c) => s.coreFault n c (s.core n).curSl.pc
  | (s, none) => s

/-- The list of a slice that resumes: its stored address (R79, R389). -/
def State.resumeList (s : State) (n k : Nat) : Nat :=
  match (s.core n).run with
  | .compat => ((s.jobOfCtx (s.coreCtx n)).map Job.listVa).getD (s.reg2 (coreKey n Reg.coreListBaseLo))
  | .batch _ => leNat ((s.ctxPeek (s.coreCtx n) (s.listSlot n k) 8).getD []) % 2 ^ 48
  | _ =>
    let base := ((s.jobOfCtx (s.coreCtx n)).map Job.listVa).getD (s.reg2 (coreKey n Reg.coreListBaseLo))
    leNat ((s.ctxPeek (s.coreCtx n) (base + 8 * k) 8).getD []) % 2 ^ 48

/-- A loop level of a record, with what its LOOP command says (R90, R310). -/
def State.loopOf (s : State) (n li iter va : Nat) : Loop :=
  let w := s.ctxWord (s.coreCtx n) va
  let o := s.ctxWords (s.coreCtx n) (va + 4 * (1 + 2 * (hNrd w + hNwr w))) 2
  let wl := flag (wd o 0) 31
  ⟨li, iter, va, va + 4 * hLen w, wl, if wl then fld (wd o 0) 28 18 else 1, fld (wd o 1) 21 0⟩

/-- The entries of a batch that a slice has completed (R92). (DEDUCED, log entry 42) -/
def State.coveredBy (s : State) (n k : Nat) : List Nat :=
  match (s.core n).run with
  | .batch id =>
    let es := ((s.batch id).map Batch.entries).getD []
    let sent := ((s.core n).cpl.filter (fun p => p.batch == id && p.slice == k))
    (List.range es.length).filter (fun i =>
      (es.getD i ⟨0, 0, false, false, 0, 0, 0, 0, false⟩).join.getLsbD k || sent.any (fun p => decide (p.first ≤ i ∧ i < p.first + p.n)))
  | _ => []

/-- A slice as its record leaves it (R310, R311). -/
def State.restoreSlice (s : State) (n k : Nat) : SliceSt :=
  let ctx := s.coreCtx n
  let r := s.ctxWords ctx (recordVa (s.cent ctx) k) 32
  let list := s.resumeList n k
  let h := s.ctxWords ctx list 8
  let compat := (s.core n).run == .compat
  let pc := va48 r 1
  let hb := if compat then 16 else 32
  let live := match s.savedRanges n k with
    | .ok rs => (rs.map (fun x => x.last + 1 - x.first)).sum
    | .error _ => 0
  { slice := k, list := list, started := pc != 0, pc := pc, endVa := list + hb + 4 * (wd h 1).toNat, wl := !compat && flag (wd h 4) 0
    loops := ((List.range (fld (wd r 0) 18 16)).map (fun l =>
      s.loopOf n (wd r (8 + 4 * l)).toNat (wd r (9 + 4 * l)).toNat (va48 r (10 + 4 * l)))).reverse
    fences := fld (wd r 0) 15 0, barriers := (wd r 3).toNat, arrived := flag (wd r 0) 29, covered := s.coveredBy n k, saved := true, live := live, tabled := pc != 0 }

/-- The slice that a resumed core dispatches first: of the slices that do not wait at a barrier, the one with the fewest fences, the lowest of
those (R101). -/
def Core.firstResumed (c : Core) : Option Nat :=
  (c.slices.filter (fun x => !x.arrived)).foldl (fun (best : Option SliceSt) x =>
    match best with
    | none => some x
    | some y => if x.fences < y.fences then some x else some y) none |>.map SliceSt.slice

/-- PREEMPT_RESUME: an idle core resumes the slices in CORE_SLICES of CORE_CTX (R311, R326). (DEDUCED, log entry 42) -/
def State.doPreemptResume (s : State) (n : Nat) : State :=
  if !((s.core n).idle) || (s.core n).run != .idle then s
  else
    let compat := ((s.jobOfCtx (s.coreCtx n)).map Job.compat).getD false
    s.startResume n (if compat then .compat else .direct) (s.cReg n Reg.coreSlices).toNat

/-- REFILL_COMPLETE: once the Loupe has restored the Facet ranges, VALID is cleared, landing rings are replayed, each slice restarts at its PC with
its loop stack, and the SPILLED bits clear (R311, R368). -/
def State.doRefillComplete (s : State) (n : Nat) : State :=
  let c := s.core n
  if !(c.preempt == 3 && c.ctl == .preempted) || c.loupe.any (fun r => r.req == 2) then s
  else
    let ctx := s.coreCtx n
    let m := c.aliveMask
    let ks := c.slices.map SliceSt.slice
    let s := s.modCore n (fun c => { c with slices := ks.map (s.restoreSlice n) })
    let s := ks.foldl (fun s k =>
      let va := recordVa (s.cent ctx) k
      s.ctxPoke ctx va (natLe 4 (setFld (s.ctxWord ctx va) 31 31 0).toNat)) s
    let s := s.enterAll n
    let s := s.modCent ctx (fun w => w.set 2 (wd w 2 &&& ~~~ (w32 m.toNat)))
    let s := s.modWork n (fun b => { b with spilled := b.spilled &&& ~~~ m, coming := b.coming &&& ~~~ m })
      (fun d => { d with spilled := d.spilled &&& ~~~ m, coming := d.coming &&& ~~~ m })
    let s := s.bump Reg.logSchedCntResume ks.length
    if (s.core n).ctl = .stopped then s
    else s.modCore n (fun c =>
      match c.firstResumed with
      | some k => { c with preempt := 0, wdog := 0, cur := k, ctl := .run }
      | none => { c with preempt := 0, wdog := 0, cur := (ks.getLast?).getD 0, ctl := .barrier })

/-! ### CORE_BATCH_START (R80, R195, R305) -/

/-- A direct job has slices on core `n` that wait to start or to resume there. -/
def Direct.waits (d : Direct) (n : Nat) : Bool :=
  d.place.zipIdx.any (fun p => p.1 == n && !(d.ended.getLsbD p.2) && (!(d.spilled.getLsbD p.2) || d.coming.getLsbD p.2))

/-- The class of the batch of a descriptor. -/
def State.descClass (s : State) (d : WlDesc) : Nat := ceClass (s.cent d.ctxId)

/-- A direct job of class `k` or above waits for the free core `n`, which takes it before a batch of class `k` (R302, R308). (DEDUCED, log entry 40) -/
def State.directFirst (s : State) (n k : Nat) : Bool := s.sched.directs.any (fun d => d.waits n && decide (ceClass (s.cent d.ctxId) ≤ k))

/-- CORE_BATCH_START: a core that runs nothing takes its oldest work-list descriptor: the bases, the context start, the work list, the landing
rings, and its slices' lists, or the refill of spilled slices (R305, R311, R368). -/
def State.doCoreBatchStart (s : State) (n : Nat) : State :=
  let c := s.core n
  match c.wlq with
  | [] => s
  | d :: r =>
    if !c.idle || c.run != .idle || s.directFirst n (s.descClass d) then s
    else
      let s := (s.loadDesc n d).modCore n (fun c => { c with wlq := r, wl := some d })
      let s := s.readWorkList n d
      if d.resume then s.startResume n (.batch d.batch) d.mask.toNat
      else ((s.batchContext n).modCore n (fun c => c.carry (.batch d.batch) (freshSlices d.mask.toNat))).enterAll n

/-! ### Tests (R134, R162, R178, R318) -/

/-- SPD_BIST: a write with START sets BANK, and an idle core starts the march test of that bank; DONE falls until it ends (R178, R182). (DEDUCED,
log entry 27) -/
def State.doSpdBist (s : State) (n bank : Nat) : State :=
  let k := coreKey n Reg.spdBist
  let s := s.setReg k (setFld (s.reg k) 5 0 bank)
  if (s.core n).idle then (s.modCore n (fun c => c.startTest 0 (bank % 64))).clrReg k 0x40000000 else s

/-- What the end of the bank march leaves: DONE, PASS, and the bank's lines overwritten and unwritten (R178, R180, R182). -/
def State.endSpdBist (s : State) (n bank : Nat) (pass : Bool) : State :=
  let k := coreKey n Reg.spdBist
  (s.modCore n (fun c => (c.clearBank bank).endTest 0)).setReg k (w32 (2 ^ 30 + b2n pass * 2 ^ 29 + bits (s.reg k).toNat 0 6))

/-- SPD_REVOKE_DONE: the tag pass of a revoke ends (R174). -/
def State.doSpdRevokeDone (s : State) (n : Nat) : State :=
  match (s.core n).revoking with
  | some ctx => s.modCore n (fun c => c.revokeTags ctx)
  | none => s

end Sys2Proof.Machine
end

