-- ==== Sys2Proof/Machine/Hbm.lean ====
section
/-! DEFINITION. The memory controllers and the hub's memory unit (R331, R335, R341, R343, R345, R348, R349): invalidations, fills, patrol, on-die
ECC, the channel test and the region lock. -/

namespace Sys2Proof.Machine

/-! ### Invalidations (R341, R349) -/

/-- N of HBM_XLAT_INV keeps its value where a write gives the reserved 0 (R7, R349). -/
def State.setInvN (s : State) (v : Word) : State :=
  if fld v 29 12 = 0 then s else { s with hub := { s.hub with invN := fld v 29 12 } }

/-- HBM_XLAT_INV: a write with GO enqueues an invalidation, or is dropped at a full queue (R7, R341, R349). (DEDUCED, log entry 32) -/
def State.doHbmXlatInv (s : State) (v : Word) : State :=
  if 16 ≤ s.hub.invQueue.length then s.orReg (hbmKey 0 Reg.hbmHubErr) 2
  else
    let s := s.setInvN v
    let n := s.hub.invN
    let va := (s.reg (hbmKey 0 Reg.hbmXlatInvVaLo)).toNat / 2 ^ 16 * 2 ^ 16 + fld (s.reg (hbmKey 0 Reg.hbmXlatInvVaHi)) 15 0 * 2 ^ 32
    s.invalidate { ctx := fld v 11 0, all := flag v 30, va := va, n := n }

/-- Whether a transfer uses a translation that an invalidation names or has dropped (R341). -/
def invUses (i : Inval) (x : Xfer) : Bool :=
  x.cls != 2 && x.ctx == i.ctx &&
  (i.all || (decide (x.va / 2 ^ 16 < i.va / 2 ^ 16 + i.n) && decide (i.va / 2 ^ 16 ≤ x.va / 2 ^ 16)) ||
   i.dropped.any (fun t => decide (t.vpage ≤ x.va / 2 ^ 16) && decide (x.va / 2 ^ 16 < t.vpage + (if t.big then 32 else 1))))

/-- What completes with an invalidation: the pages that leave the context go to the fill engine, and the requests of the page-table unit that
waited for it complete (R277, R343). -/
def State.invalOver (s : State) (i : Inval) : State :=
  let s := i.fills.foldl State.toFill s
  i.answers.foldl (fun s a => s.kvAnswer a.1 (fun x => { x with frame := a.2 <|> x.frame })) s

/-- INVALIDATION_COMPLETE: the walks of the context that were in flight have ended and no transfer uses a dropped translation (R341). -/
def State.doInvalidationComplete (s : State) : State :=
  match s.hub.invQueue with
  | [] => s
  | i :: r =>
    if s.cores.any (fun c => c.outs.any (invUses i) || c.walks.any (fun w => w.1 == i.ctx && !w.2.2)) then s
    else
      let s : State := { s with hub := { s.hub with invQueue := r ++ s.hub.invWait.take 1, invWait := s.hub.invWait.drop 1 } }
      ((s.bump (hbmKey 0 Reg.hbmCntInv)).startInval).invalOver i

/-! ### Fills (R343, R349) -/

/-- HBM_FILL_REQ: a write with GO enqueues a fill of the page at HBM_FILL_PA, or is dropped and sets FILLOVF. -/
def State.doHbmFillReq (s : State) (big : Bool) : State :=
  if 64 ≤ s.hub.fills.length then s.orReg (hbmKey 0 Reg.hbmHubErr) 4
  else
    let pa := (s.reg (hbmKey 0 Reg.hbmFillPaLo)).toNat / 2 ^ 16 * 2 ^ 16 + fld (s.reg (hbmKey 0 Reg.hbmFillPaHi)) 11 0 * 2 ^ 32
    s.toFill { pa := pa, big := big, kv := false, pool := 0, frame := 0 }

/-! ### Patrol and on-die ECC (R328, R335) -/

/-- An error that the patrol meets, in the copies of a line on the stack. -/
def State.strikeStack (s : State) (h : Nat) : Inject → State
  | .lineUe l => { s with mem := { s.mem with bad := ([2 * l, 2 * l + 1].filter (s.copyOn h)).foldl sadd s.mem.bad } }
  | .lineCe l => { s with mem := { s.mem with soft := ([2 * l, 2 * l + 1].filter (s.copyOn h)).foldl sadd s.mem.soft } }
  | _ => s

/-- A stack that its controller serves. -/
def State.stackServed (s : State) (h : Nat) : Bool := s.domOn (64 + h) && !(flag (s.reg (hbmKey 0 Reg.hbmFailed)) h)

/-- PATROL_READ: a patrol pass over a stack corrects its single-bit errors and counts its double-bit errors, which start the channel test
(R334, R335). (DESIGN CHOICE, log entry 45) -/
def State.doPatrolRead (s : State) (h : Nat) (inj : Inject) : State :=
  if !(s.stackServed h) || fld (s.reg (hbmKey h Reg.hbmEccCtrl)) 15 8 == 0 then s
  else
    let s := s.strikeStack h inj
    let ce := s.mem.soft.filter (s.copyOn h)
    let ue := s.mem.bad.filter (s.copyOn h)
    let s : State := { s with mem := { s.mem with soft := s.mem.soft.filter (fun x => !(ce.contains x)) } }
    let s := ce.foldl (fun s x =>
      (s.bump (hbmKey h Reg.hbmCntCe)).stackErr h 30 (((s.copiesOf (64 * (x / 2)))[x % 2]?.map Copy.addr).getD 0)) s
    let s := s.bump (hbmKey h Reg.hbmCntUe) ue.length
    match ue with
    | x :: _ => s.startHbmTest h (x / 2)
    | [] => s

/-- ON_DIE_ECC_POLL: the controller adds the corrections that the stack reports (R328, R348). -/
def State.doOnDieEccPoll (s : State) (h count : Nat) : State :=
  if s.stackServed h then s.bump (hbmKey h Reg.hbmCntOdecc) count else s

/-! ### The channel test (R345, R348) -/

/-- HBM_TEST: a write with START sets PC, and runs the channel test on that pseudo-channel where the controller serves the stack (R6, R348). -/
def State.doHbmTest (s : State) (h pc : Nat) : State :=
  let k := hbmKey h Reg.hbmTest
  let s := s.setReg k (setFld (s.reg k) 5 0 pc)
  if s.stackServed h then s.startHbmTest h pc else s

/-- What the end of the channel test leaves in the stack's registers. -/
def State.endHbmTest (s : State) (h : Nat) (pass : Bool) : State :=
  let k := hbmKey h Reg.hbmTest
  (s.setReg k (w32 (2 ^ 30 + b2n pass * 2 ^ 29 + fld (s.reg k) 5 0))).clrReg (hbmKey h Reg.hbmStatus) 0x20000000

/-! ### The region lock (R331) -/

/-- HBM_RGN_LOCK: once LOCK is 1 it stays 1 until a full reset. -/
def State.doHbmRgnLock (s : State) (v : Word) : State :=
  if flag v 0 then s.orReg (hbmKey 0 Reg.hbmRgnLock) 1 else s

end Sys2Proof.Machine
end

