-- ==== Sys2Proof/Machine/Scheduler.lean ====
section
/-! DEFINITION. The scheduler and the firmware's fault handling: placement (R301-R306), submissions and grants (R325), faults (R313), teardown
(R314), core failure and re-dispatch (R65, R316, R317), and Sounding (R318, R319, R321). -/

namespace Sys2Proof.Machine

/-! ### Work on cores (R301, R306) -/

/-- The class of the work that a core runs; none where it runs nothing. -/
def State.runClass (s : State) (n : Nat) : Option Nat :=
  match (s.core n).run with
  | .idle => none
  | .batch id => some (((s.batch id).map Batch.cls).getD 3)
  | _ => some (ceClass (s.cent (s.coreCtx n)))

/-- Whether a direct job that has not ended holds the core for some slice. -/
def State.promised (s : State) (n : Nat) : Bool := s.sched.directs.any (fun d => d.waits n)

/-- A core with no work, waiting or promised. -/
def State.coreIdle (s : State) (n : Nat) : Bool :=
  (s.core n).idle && (s.core n).run == .idle && (s.core n).wlq.isEmpty && !(s.promised n)

/-- Whether the work on core `n` may be pre-empted for work of class `k` (R306, R325). -/
def State.mayPreempt (s : State) (n k : Nat) : Bool :=
  let ctx := s.coreCtx n
  flag (s.reg Reg.logSchedCtrl) 1 && (s.runClass n).any (fun c => decide (k < c)) && ceSave (s.cent ctx) != 0 &&
  (match (s.core n).run with
    | .batch id => s.log.batches.all (fun b => b.id == id || b.ctxId != ctx || b.spilled == 0)
    | _ => true) &&
  (s.core n).preempt == 0 && s.sched.victims.all (fun v => v.1 != n)

/-- Requests pre-emption of a core for a work item (R306, R308). -/
def State.requestPreempt (s : State) (n : Nat) (i : WorkItem) : State :=
  ({ s with sched := { s.sched with victims := s.sched.victims ++ [(n, i)] } }).doPreemptRequest n

/-- The core of slice `k` on `cs`, with rotation counter `r` (R303). -/
def placeSlice (cs : List Nat) (r k : Nat) : Nat :=
  let c := cs.length
  if k < c then cs.getD k 0 else cs.getD ((r + k - c) % c) 0

/-- The cores that a context's work occupies: those that carry it, and those that wait for its direct lists (R299). (DEDUCED, log entry 40) -/
def State.occupied (s : State) (ctx : Nat) : List Nat :=
  (List.range 32).filter (fun n => s.carries ctx n || s.sched.directs.any (fun d => d.ctxId == ctx && d.waits n))

/-- The rotation counter of a context. -/
def State.rotOf (s : State) (ctx : Nat) : Nat := mgetD s.sched.rot ctx 0

/-- Advances the rotation counter after a placement on `c` cores (R303). -/
def State.advanceRot (s : State) (ctx c : Nat) : State :=
  { s with sched := { s.sched with rot := mput s.sched.rot ctx (s.rotOf ctx + (32 - c) % c) } }

/-- Removes an item from the ready queue, counting its placement. -/
def State.placed (s : State) (i : WorkItem) : State :=
  ({ s with sched := { s.sched with ready := s.sched.ready.filter (fun x => decide (x ≠ i)) } }).bump Reg.logSchedCntPlace

/-! ### Serving batches (R302-R305) -/

/-- The work-list descriptor of a batch for the slices of a mask (R195, R305). -/
def State.descOf (s : State) (b : Batch) (mask : BitVec 32) (resume : Bool) : WlDesc :=
  let w := s.cent b.ctxId
  let m := s.mslot b.model
  { batch := b.id, ctxId := b.ctxId, mask := mask, progBase := ceProg w, mapBase := ceMap w, model := b.model
    listPa := s.wlAddr (b.slot.getD 0), statePool := va48 m 5, ringPool := va48 m 7, journalPool := va48 m 9, resultPool := va48 m 11
    stateBytes := (wd m 2).toNat, slotBytes := (wd m 3).toNat, resultBytes := (wd m 4).toNat, resume := resume }

/-- The slices of a list of placements on core `n`, as a mask. -/
def maskOn (ps : List (Nat × Nat)) (n : Nat) : BitVec 32 := (ps.filter (fun p => p.2 == n)).foldl (fun m p => m ||| bit32 p.1) 0

/-- Sends the descriptors of placed slices (slice, core) to their cores; a core that is pre-empted for the batch takes it first (R308 step 8). -/
def State.sendDescs (s : State) (b : Batch) (ps : List (Nat × Nat)) (resume : Bool) : State :=
  ((ps.map Prod.snd).dedup).foldl (fun s n =>
    let d := s.descOf b (maskOn ps n) resume
    let first := s.sched.victims.contains (n, .batch b.id)
    s.modCore n (fun c => { c with wlq := if first then d :: c.wlq else c.wlq ++ [d] })) s

/-- Requests pre-emption of the cores that run work below class `k` (R302). -/
def State.preemptFor (s : State) (k : Nat) (i : WorkItem) (ns : List Nat) : State :=
  ns.foldl (fun s n => if s.mayPreempt n k then s.requestPreempt n i else s) s

/-- Whether every core's queue of R17 has room. -/
def State.queuesRoom (s : State) (ns : List Nat) : Bool := ns.all (fun n => decide ((s.core n).wlq.length < 16))

/-- The cores that a serving context's work goes to: the first NCORES usable ones of its partition. -/
def State.servingCores (s : State) (ctx : Nat) : List Nat := (s.usableCores (cePart (s.cent ctx))).take (ceCores (s.cent ctx))

/-- The cores of spilled slices (R304): each goes back to its core when that is idle or may be pre-empted, else to its position among the cores
found; with the cores already used, no more than `cap` are occupied (R299). None where a slice finds no core. (DEDUCED, log entry 40) -/
def State.placeBack (s : State) (cs place : List Nat) (ctx cls cap : Nat) : (ks used : List Nat) → Option (List (Nat × Nat))
  | [], _ => some []
  | k :: r, used =>
    let old := place.getD k 0
    let ok := s.usable (cePart (s.cent ctx)) old && (s.coreIdle old || s.mayPreempt old cls) && (used.contains old || decide (used.length < cap))
    let more := (cs.filter (fun n => !(used.contains n))).take (cap - used.length)
    let found := cs.filter (fun n => used.contains n || more.contains n)
    if !ok && found.isEmpty then none
    else
      let n := if ok then old else placeSlice found (s.rotOf ctx) k
      (s.placeBack cs place ctx cls cap r (sadd used n)).map ((k, n) :: ·)

/-- Replaces the cores of placed slices. -/
def rePlace (place : List Nat) (ps : List (Nat × Nat)) : List Nat := ps.foldl (fun l p => l.set p.1 p.2) place

/-- The slices that wait to be placed back: spilled, and not placed to resume yet (R302). -/
def toPlace (spilled coming : BitVec 32) : List Nat := setBits 32 (spilled &&& ~~~ coming).toNat

/-- The slices of a list of placements, as a mask. -/
def maskOf (ps : List (Nat × Nat)) : BitVec 32 := ps.foldl (fun m p => m ||| bit32 p.1) 0

/-- Where the slices of a serving batch go now: all of them when it is fresh, else those that wait to be placed back (R302-R304). -/
def State.batchPlaces (s : State) (b : Batch) : Option (List (Nat × Nat)) :=
  let cs := s.servingCores b.ctxId
  let cap := ceCores (s.cent b.ctxId)
  let used := s.occupied b.ctxId
  if cs.isEmpty then none
  else if b.place.isEmpty then
    if (cs.foldl sadd used).length ≤ cap then some ((List.range 32).map (fun k => (k, placeSlice cs (s.rotOf b.ctxId) k))) else none
  else s.placeBack cs b.place b.ctxId b.cls cap (toPlace b.spilled b.coming) used

/-- Places a serving batch (R302-R304). -/
def State.placeBatch (s : State) (b : Batch) : Option State :=
  match s.batchPlaces b with
  | none => none
  | some ps =>
    let fresh := b.place.isEmpty
    let ns := (ps.map Prod.snd).dedup
    if !(s.queuesRoom ns) then none
    else
      let s := s.modBatch b.id (fun x => { x with
        place := if fresh then ps.map Prod.snd else rePlace x.place ps, coming := if fresh then x.coming else x.coming ||| maskOf ps })
      let s := s.preemptFor b.cls (.batch b.id) ns
      let s := s.sendDescs b ps (!fresh)
      let s := if fresh then s.advanceRot b.ctxId (s.servingCores b.ctxId).length else s
      some ((s.placed (.batch b.id)).syncCores b.ctxId)

/-! ### Direct jobs (R302-R304, R325) -/

/-- The cores that a direct item takes, at most `k`, ascending (R303): idle usable ones, then usable ones whose work may be pre-empted, the
least live data first (R302). -/
def State.directCores (s : State) (ctx k : Nat) : List Nat :=
  let w := s.cent ctx
  let us := s.usableCores (cePart w)
  let idle := us.filter s.coreIdle
  let live (n : Nat) : Nat := ((s.core n).slices.map SliceSt.live).sum
  let vs := (us.filter (fun n => s.mayPreempt n (ceClass w) && !(s.promised n && (s.core n).run == .idle))).foldr (fun n l =>
    l.takeWhile (fun x => decide (live x < live n)) ++ n :: l.dropWhile (fun x => decide (live x < live n))) []
  let found := (idle ++ vs).take k
  us.filter found.contains

/-- Changes the direct job of a context. -/
def State.modDirect (s : State) (ctx : Nat) (f : Direct → Direct) : State :=
  { s with sched := { s.sched with directs := s.sched.directs.map (fun d => if d.ctxId = ctx then f d else d) } }

/-- Whether the list that a direct context has posted is a VDN-8E one, which runs as one slice (R103, R389). -/
def State.ctxCompat (s : State) (ctx : Nat) : Bool := ((s.jobOfCtx ctx).map Job.compat).getD false

/-- Where the slices of a direct job go now, and on how many cores (R302-R304). -/
def State.directPlaces (s : State) (d : Direct) : Option (List (Nat × Nat) × Nat) :=
  let ctx := d.ctxId
  let w := s.cent ctx
  let used := s.occupied ctx
  let compat := s.ctxCompat ctx
  let cs := s.directCores ctx (if compat then 1 else ceCores w - used.length)
  if d.place.isEmpty then
    if cs.isEmpty then none
    else some ((List.range (if compat then 1 else 32)).map (fun k => (k, placeSlice cs (s.rotOf ctx) k)), cs.length)
  else (s.placeBack cs d.place ctx (ceClass w) (ceCores w) (toPlace d.spilled d.coming) used).map (fun ps => (ps, cs.length))

/-- Places a direct item: its slices are assigned, and its grant is queued (R302-R304, R325). -/
def State.placeDirect (s : State) (d : Direct) : Option State :=
  let ctx := d.ctxId
  let w := s.cent ctx
  let fresh := d.place.isEmpty
  match if 16 ≤ s.sched.grants.length then none else s.directPlaces d with
  | none => none
  | some (ps, c) =>
    let ns := (ps.map Prod.snd).dedup
    let m := ns.foldl (fun (m : BitVec 32) n => m ||| bit32 n) 0
    let s := s.preemptFor (ceClass w) (.direct ctx) (ns.filter (fun n => !(s.coreIdle n)))
    let s := s.modDirect ctx (fun x => { x with
      place := if fresh then ps.map Prod.snd else rePlace x.place ps, coming := if fresh then x.coming else x.coming ||| maskOf ps })
    let s : State := { s with sched := { s.sched with grants := s.sched.grants ++ [(ctx, m)] } }
    let s := if fresh then s.advanceRot ctx c else s
    some ((s.placed (.direct ctx)).modCent ctx (fun w => (putFld w 0 31 28 2)))

/-- Places a work item, when it can be placed now. (DEDUCED, log entry 40) -/
def State.placeItem (s : State) : WorkItem → Option State
  | .batch id => (s.batch id).bind s.placeBatch
  | .direct ctx => (s.sched.directs.find? (fun d => d.ctxId == ctx)).bind s.placeDirect

/-- SCHEDULER_PLACE: the first item of the ready queue that can be placed is placed (R302). (DEDUCED, log entry 40) -/
def State.doSchedulerPlace (s : State) : State :=
  if flag (s.reg Reg.logSchedCtrl) 0 then (s.sched.ready.findSome? s.placeItem).getD s else s

/-- LOG_SCHED_SUBMIT: a READY direct context enters the ready queue, another one sets BADCTX (R325). (DEDUCED, log entry 40) -/
def State.doLogSchedSubmit (s : State) (ctx : Nat) : State :=
  let w := s.cent ctx
  if ceState w = 1 ∧ ceDirect w ∧ ctx < 4096 then
    if s.sched.directs.any (fun d => d.ctxId == ctx) then s
    else
      let s : State := { s with sched := { s.sched with
        directs := s.sched.directs ++ [{ ctxId := ctx, order := s.sched.nextOrder }], nextOrder := s.sched.nextOrder + 1 } }
      s.enqueueReady (.direct ctx)
  else s.orReg Reg.logSchedErr 1

/-- A read of LOG_SCHED_GRANT_CORES removes the head grant (R325). -/
def State.grantPop (s : State) : State := { s with sched := { s.sched with grants := s.sched.grants.drop 1 } }

/-- The slices of a direct job placed on a core and not ended. -/
def Direct.slicesOn (d : Direct) (n : Nat) : BitVec 32 := maskOn (d.place.zipIdx.map (fun p => (p.2, p.1))) n &&& ~~~ d.ended

/-- The firmware writes the registers of a direct context on a core, from the context's entry, before START or RESUME (R79, R305). -/
def State.loadDirect (s : State) (n : Nat) (j : Job) (mask : BitVec 32) : State :=
  let w := s.cent j.ctxId
  let s := (s.setReg (coreKey n Reg.coreCtx) (w32 j.ctxId)).setReg (coreKey n Reg.coreSlices) (w32 mask.toNat)
  ((s.setReg2 (coreKey n Reg.coreProgBaseLo) (ceProg w)).setReg2 (coreKey n Reg.lpeMapBaseLo) (ceMap w)).setReg2 (coreKey n Reg.coreListBaseLo) j.listVa

/-- Whether the firmware may start granted lists on core `n` now: it is free, under no test, and no batch of a higher class stands in its
queue (R302, R308). -/
def State.startFree (s : State) (n k : Nat) : Bool :=
  let c := s.core n
  s.firmwareRuns && s.domOpen n && c.idle && c.run == .idle && c.bist.isEmpty && s.pilot.sounding.all (fun x => x.core != n) &&
  c.wlq.all (fun d => decide (k ≤ s.descClass d))

/-- The firmware starts the lists of a granted direct job on a core that is free, or resumes the slices that the job's save area holds (R302,
R311, R389). A VDN-8E list runs on the core of slice 0 alone. (DEDUCED, log entry 50) -/
def State.startGranted (s : State) (n : Nat) : State :=
  match s.sched.directs.find? (fun d => d.granted.getLsbD n && s.startFree n (ceClass (s.cent d.ctxId))) with
  | none => s
  | some d =>
    match s.jobOfCtx d.ctxId with
    | none => s
    | some j =>
      let all := d.slicesOn n
      let back := all &&& d.spilled
      let s := s.modDirect d.ctxId (fun d => { d with granted := if back ≠ 0 ∧ back ≠ all then d.granted else d.granted &&& ~~~ (bit32 n) })
      if all = 0 then s
      else if back ≠ 0 then ((s.loadDirect n j back).doPreemptResume n).syncCores d.ctxId
      else ((s.loadDirect n j all).doCoreStart n j.compat).syncCores d.ctxId

/-- GRANT_POP by the Pilot: the grant leaves the queue, and the firmware starts the job's lists on the granted cores, on each as it becomes free
(R302, R325, R389). (DEDUCED, log entry 50) -/
def State.takeGrant (s : State) : State :=
  match s.sched.grants with
  | [] => s
  | (ctx, m) :: _ =>
    let s := s.grantPop.modDirect ctx (fun d => { d with granted := d.granted ||| m })
    (setBits 32 m.toNat).foldl State.startGranted s

/-! ### Teardown (R313, R314) -/

/-- The model slots of a job. -/
def State.slotsOf (s : State) (job : Nat) : List Nat := (s.pilot.slots.filter (fun e => e.2.job == job)).map Prod.fst

/-- Sets every OPEN and CLOSING stream of a job's model slots ABORTED. -/
def State.abortStreams (s : State) (job : Nat) : State :=
  (s.slotsOf job).foldl (fun s m => (s.slotStreams m).foldl State.abortStream s) s

/-- Takes the work of a context out of the scheduler: ready items, descriptors in queues, batches and direct job. -/
def State.dropWork (s : State) (ctx : Nat) : State :=
  let mine (b : Batch) : Bool := b.ctxId == ctx
  let ids := (s.log.batches.filter mine).map Batch.id
  { s with
    cores := s.cores.map (fun c => { c with wlq := c.wlq.filter (fun d => d.ctxId != ctx) })
    log := { s.log with batches := s.log.batches.filter (fun b => !(mine b)) }
    sched := { s.sched with
      ready := s.sched.ready.filter (fun i => match i with
        | .batch id => !(ids.contains id)
        | .direct c => c != ctx)
      directs := s.sched.directs.filter (fun d => d.ctxId != ctx)
      grants := s.sched.grants.filter (fun g => g.1 != ctx) } }

/-- The cores that run work of a context. -/
def State.coresOf (s : State) (ctx : Nat) : List Nat := (List.range 32).filter (fun n => (s.core n).run != .idle && s.coreCtx n == ctx)

/-- Aborts the cores that run a context. -/
def State.abortCores (s : State) (ctx : Nat) : State := (s.coresOf ctx).foldl State.doCoreAbort s

/-- Step 1 of a teardown (R314): the entry is FAULTED and records its fault, its work leaves the scheduler, and its cores are aborted. -/
def State.startTeardown (s : State) (j : Job) (ok : Bool) (fault core : Nat) : State :=
  if s.pilot.teardowns.any (fun t => t.job.ctxId == j.ctxId) || j.ended then s
  else
    let s := s.modCent j.ctxId (fun w => putFld (putFld (putFld w 0 31 28 3) 3 15 8 fault) 3 4 0 core)
    let s := (s.abortStreams j.id).abortCores j.ctxId
    let s := s.dropWork j.ctxId
    { s with pilot := { s.pilot with teardowns := s.pilot.teardowns ++ [{ job := j, ok := ok, fault := fault, core := core }] } }

/-- Frees the frames of a job's space through the fill engine, once its translations are invalid (R343). -/
def State.scrubFrames (s : State) (ctx job : Nat) : State :=
  (s.pilot.frames.filter (fun f => f.2.job == job && !f.2.scrub)).foldl (fun s f =>
    let s := s.fillAfter ctx { pa := f.1, big := f.2.big, kv := false, pool := 0, frame := 0 }
    { s with pilot := { s.pilot with frames := mput s.pilot.frames f.1 { f.2 with scrub := true } } }) s

/-- Writes SPD_REVOKE on every core that still holds granules of a context (R174, R314). (DEDUCED, log entry 44) -/
def State.revokeAll (s : State) (ctx : Nat) : State :=
  (List.range 32).foldl (fun s n =>
    if (s.core n).tags.any (fun t => t.2 == ctx) then
      if (s.core n).revoking.isSome then s.modCore n (fun c => { c with tags := c.tags.filter (fun t => decide (t.2 ≠ ctx)) })
      else s.doSpdRevoke n ctx (s.core n).idle
    else s) s

/-- Drops the results of the streams of a job that wait to be released, acknowledged or delivered (R313). -/
def State.dropResults (s : State) (job : Nat) : State :=
  let mine (i : Nat) : Bool := (s.strm i).bind.job == job
  let drop (x : Stream) : Stream := if x.bind.job = job then { x with releases := [], unacked := [] } else x
  { s with fe := { s.fe with
    streams := s.fe.streams.map (fun e => (e.1, drop e.2)), localWait := s.fe.localWait.filter (fun e => !(mine e.1)) } }

/-- Whether a core holds pins in the pools of a context. -/
def State.pinsOf (s : State) (ctx n : Nat) : Bool := s.log.kv.pins.any (fun p => p.1 == n && (s.poolOfFrame ctx p.2.2).isSome)

/-- The pins of a core whose attention pair did not retire are released before the core is used again (R294). -/
def State.releaseStale (s : State) (n : Nat) : State := if (s.core n).attn.isNone then s.releaseCore n else s

/-- Steps 2 and 3 of a teardown (R314): pins are released, the results dropped, and the context's translations and pages go. -/
def State.clearContext (s : State) (t : Teardown) : State :=
  let j := t.job
  let ctx := j.ctxId
  let s := ((List.range 32).filter (fun n => (s.core n).lastCtx == some ctx || s.pinsOf ctx n)).foldl State.releaseStale s
  let s := s.modCent ctx (fun w => putFld w 0 31 28 4)
  let s := (s.dropResults j.id).hubPoke (s.rootAddr ctx) (List.replicate 16 0)
  let s := (s.invalidate { ctx := ctx, all := true, va := 0, n := 0 }).scrubFrames ctx j.id
  { s with pilot := { s.pilot with teardowns := s.pilot.teardowns.map (fun x => if x.job.ctxId = ctx then { x with cleared := true } else x) } }

/-- The last steps of a teardown (R314), once the context's translations are invalid: its pools, key, granules and counts go, the event is sent, and
the ID may be used again, which begins with rotation 0 (R303) and with a context start on every core. -/
def State.freeContext (s : State) (t : Teardown) : State :=
  let j := t.job
  let ctx := j.ctxId
  let s := s.modKv (fun k => { k with pools := k.pools.filter (fun e => decide (poolCtx e.2 ≠ ctx)) })
  let s := if j.key = 0 then s else
    let s := s.doRhbKeyClear j.key
    { s with pilot := { s.pilot with keyBind := mdel s.pilot.keyBind j.key } }
  let s := s.revokeAll ctx
  let s := s.countEnd j.client t.ok
  let s := if t.ok then s.pushEvent j.ch 0x11 j.id [w32 j.id, w32 j.client]
    else s.pushEvent j.ch 0x12 j.id [w32 j.id, w32 j.client, w32 t.fault, w32 t.core]
  let s := s.modCent ctx (fun w => (putFld w 0 31 28 0).set 1 0)
  let s := s.modJob j.id (fun j => { j with ended := true, posted := false })
  { s with
    cores := s.cores.map (fun c => if c.lastCtx = some ctx then { c with lastCtx := none } else c)
    sched := { s.sched with rot := mdel s.sched.rot ctx }
    pilot := { s.pilot with teardowns := s.pilot.teardowns.filter (fun x => x.job.ctxId != ctx) } }

/-- Whether an invalidation of a context has not completed. -/
def State.invOpen (s : State) (ctx : Nat) : Bool := (s.hub.invQueue ++ s.hub.invWait).any (fun i => i.ctx == ctx)

/-- Ends the teardowns whose invalidations have completed (R314, R341). -/
def State.endTeardowns (s : State) : State :=
  if s.firmwareRuns then
    (s.pilot.teardowns.filter (fun t => t.cleared && !(s.invOpen t.job.ctxId))).foldl State.freeContext s
  else s

/-- The direct job of a context whose every slice has executed END (R389, R445). -/
def State.finished (s : State) (ctx : Nat) : Option Job :=
  if s.sched.directs.any (fun d => d.ctxId == ctx && d.ended == BitVec.allOnes 32) && (s.coresOf ctx).isEmpty then s.jobOfCtx ctx else none

/-- CONTEXT_TEARDOWN: a context whose teardown has begun, or whose direct job is complete, is torn down once its cores are idle; the ID is free
once the context's invalidation has completed (R314, R341). -/
def State.doContextTeardown (s : State) (ctx : Nat) : State :=
  if !s.firmwareRuns then s
  else
    let s := match s.finished ctx with
      | some j => s.startTeardown j true 0 0
      | none => s
    match s.pilot.teardowns.find? (fun t => t.job.ctxId == ctx && !t.cleared) with
    | none => s.endTeardowns
    | some t =>
      if (List.range 32).all (fun n => s.coreCtx n != ctx || (s.core n).idle || !(s.domOn n)) then (s.clearContext t).endTeardowns else s

/-! ### Sounding (R318, R319, R321) -/

/-- The units of core `n` that passes count for: bank `u` below 64, the hop 64, the full core 65, the array 66, the tile registers 67; from 4,096 on,
the HBM stacks. (DEDUCED, log entry 44) -/
def unitOf (n u : Nat) : Nat := 128 * n + u

/-- The full core test (R318): array, registers, banks B0-B63, chain; its pass counts for the core. -/
def fullTest : List SoundTest :=
  [{ kind := 1 }, { kind := 2 }] ++ (List.range 64).map (fun b => { kind := 0, bank := b }) ++ [{ kind := 3, unit := some 65 }]

/-- Removes the Sounding of a core. -/
def State.unsound (s : State) (n : Nat) : State :=
  { s with pilot := { s.pilot with sounding := s.pilot.sounding.filter (fun x => x.core != n) } }

/-- A core whose Sounding is over returns to service (R319). -/
def State.toService (s : State) (n : Nat) : State :=
  let s := s.unsound n
  let s : State := { s with pilot := { s.pilot with held := s.pilot.held &&& ~~~ (bit32 n) } }
  if s.coreAllowed n then (s.orReg Reg.logSchedUsable (w32 (2 ^ n))).recapacity n else s

/-- Starts a test on a core; the chain test puts the hop in bypass. -/
def State.startSoundTest (s : State) (n : Nat) (t : SoundTest) : State :=
  match t.kind with
  | 0 => s.doSpdBist n t.bank
  | 1 => s.doMxBist n
  | 2 => s.doVxBist n
  | _ => (s.engageBypass n).modCore n (fun c => c.startTest 3 0)

/-- Sounding goes on on a core that is idle and on, once its re-dispatch is over: its next test starts, or, where the failure asks for no test of the
core, it returns to service (R317, R318). The firmware does this while it runs (R315). (DEDUCED, log entry 44) -/
def State.soundNext (s : State) (n : Nat) : State :=
  let c := s.core n
  if !(s.firmwareRuns && c.idle && c.bist.isEmpty && s.domOn n && s.sched.redisp.all (fun r => r.1 != n)) then s
  else match s.pilot.sounding.find? (fun x => x.core == n) with
    | some ⟨_, t :: _, _⟩ => s.startSoundTest n t
    | some ⟨_, [], _⟩ => s.toService n
    | none => s

/-- Sounding is called on a core: it is unusable, and its tests wait until it is idle, after those already called (R317, R318). -/
def State.sound (s : State) (n : Nat) (ts : List SoundTest) : State :=
  let s := s.clrReg Reg.logSchedUsable (w32 (2 ^ n))
  let add (x : Sounding) : Sounding := if x.core = n then { x with tests := x.tests ++ ts } else x
  if s.pilot.sounding.any (fun x => x.core == n) then { s with pilot := { s.pilot with sounding := s.pilot.sounding.map add } }
  else { s with pilot := { s.pilot with sounding := s.pilot.sounding ++ [(⟨n, ts, s.now⟩ : Sounding)] } }

/-- Bit of SPD_SPARE that says whether the spare of a bank's half is in use (R179). -/
def spareUsed (v : Word) (bank : Nat) : Bool := flag v (if bank < 32 then 31 else 23)

/-- Maps a bank onto its half's spare (R179). -/
def spareSet (v : Word) (bank : Nat) : Word :=
  if bank < 32 then setFld (setFld v 31 31 1) 28 24 bank else setFld (setFld v 23 23 1) 20 16 (bank - 32)

/-- Retires a core whose Sounding ends here (R319): its pins are released before (R294). -/
def State.soundRetire (s : State) (n : Nat) : State := ((s.releaseStale n).unsound n).retireCore n

/-- Retires a bank (R179, R319): onto an unused spare, and the core goes on (true); else with its core. -/
def State.retireBank (s : State) (n bank : Nat) : State × Bool :=
  let v := s.cReg n Reg.spdSpare
  if spareUsed v bank then (s.soundRetire n, false)
  else ((s.writeSpare n (spareSet v bank)).retireUnit 1 n bank, true)

/-- Retires the unit that a test of kind `k` found lasting (R318, R319); whether the core goes on. -/
def State.retireTested (s : State) (n k bank : Nat) : State × Bool :=
  if k = 0 then s.retireBank n bank
  else ((if k = 3 then s.retireUnit 2 n 0 else s).soundRetire n, false)

/-- The head of a core's Sounding is over, and the core goes on: with the tests left, which count for unit `drop` no more, or back to service. -/
def State.soundRest (s : State) (n : Nat) (r : List SoundTest) : State :=
  if r.isEmpty then s.toService n
  else
    let f (x : Sounding) : Sounding := if x.core = n then { x with tests := r } else x
    ({ s with pilot := { s.pilot with sounding := s.pilot.sounding.map f } }).soundNext n

/-- A test that counts for no pass of the full core: one of its banks has failed. -/
def SoundTest.noPass (t : SoundTest) : SoundTest := if t.unit = some 65 then { t with unit := none } else t

/-- A test has ended (R319). At the head of a core's Sounding: a pass counts for its unit, which a third one within 3,600 s retires; a failed bank goes
onto an unused spare (R179); the next test starts, the core returns to service, or it is retired. A bank march outside Sounding that fails retires
its bank as well (R179). (DEDUCED, log entry 44) -/
def State.soundDone (s : State) (n kind bank : Nat) (pass : Bool) : State :=
  if !s.firmwareRuns then s
  else match s.pilot.sounding.find? (fun x => x.core == n) with
    | some ⟨_, t :: r, _⟩ =>
      if t.kind ≠ kind ∨ (kind = 0 ∧ t.bank ≠ bank) then s
      else if pass then
        match t.unit with
        | none => s.soundRest n r
        | some u =>
          let (s, third) := s.notePass (unitOf n u)
          if !third then s.soundRest n r
          else
            let (s, on) := if u = 65 then (s.soundRetire n, false) else s.retireTested n kind bank
            if on then s.soundRest n r else s
      else
        let (s, on) := s.retireTested n kind bank
        if on then s.soundRest n (r.map SoundTest.noPass) else s
    | _ => if kind = 0 ∧ !pass then (s.retireBank n bank).1 else s

/-- MX_BIST_DONE (R134, R318). -/
def State.doMxBistDone (s : State) (n : Nat) (pass : Bool) : State :=
  match (s.core n).testing 1 with
  | some _ => (s.endMxBist n pass).soundDone n 1 0 pass
  | none => s

/-- VX_BIST_DONE (R162, R318). -/
def State.doVxBistDone (s : State) (n : Nat) (pass : Bool) : State :=
  match (s.core n).testing 2 with
  | some _ => (s.endVxBist n pass).soundDone n 2 0 pass
  | none => s

/-- SPD_BIST_DONE (R178, R179, R318). -/
def State.doSpdBistDone (s : State) (n : Nat) (pass : Bool) : State :=
  match (s.core n).testing 0 with
  | some b => (s.endSpdBist n b pass).soundDone n 0 b pass
  | none => s

/-- CHAIN_TEST_DONE: a pass takes the hop out of bypass; a failure keeps it there (R318). -/
def State.doChainTestDone (s : State) (n : Nat) (pass : Bool) : State :=
  match (s.core n).testing 3 with
  | some _ => (s.modCore n (fun c => { c.endTest 3 with bypass := !pass })).soundDone n 3 0 pass
  | none => s

/-! ### Core failure and re-dispatch (R65, R316, R317) -/

/-- A slice of a batch stands on core `n`, running or queued: placed there, not ended, and not one that waits in the save area to be placed (R317). -/
def Batch.standsOn (b : Batch) (n : Nat) : Bool :=
  b.place.zipIdx.any (fun p => p.1 == n && !(b.ended.getLsbD p.2) && (!(b.spilled.getLsbD p.2) || b.coming.getLsbD p.2))

/-- The batches with a slice placed on a core, running or queued, and a stream not yet committed (R317). -/
def State.affected (s : State) (n : Nat) : List Nat :=
  (s.log.batches.filter (fun b => !b.dead && b.standsOn n && b.entries.any (s.entryOpen b))).map Batch.id

/-- Step 5 of R317: the batches' descriptors are withdrawn from the queues, the cores that run them are aborted, and they wait to be
re-dispatched for core `n`. -/
def State.stopBatches (s : State) (n : Nat) (ids : List Nat) : State :=
  let runs (k : Nat) : Bool := match (s.core k).run with
    | .batch id => ids.contains id
    | _ => false
  let s := ((List.range 32).filter runs).foldl State.doCoreAbort s
  let s : State := { s with
    cores := s.cores.map (fun c => { c with wlq := c.wlq.filter (fun d => !(ids.contains d.batch)) })
    sched := { s.sched with
      ready := s.sched.ready.filter (fun i => match i with
        | .batch id => !(ids.contains id)
        | .direct _ => true)
      redisp := s.sched.redisp ++ [(n, ids)] } }
  ((ids.filterMap s.batch).map Batch.ctxId).dedup.foldl State.syncCores s

/-- LOG_SCHED_REDISPATCH: a write with GO stops the batches affected by core `n` and aborts it; a disabled core sets BADCORE (R317, R325). -/
def State.doLogSchedRedispatch (s : State) (n : Nat) : State :=
  if s.disabledCores.testBit n then s.orReg Reg.logSchedErr 2
  else
    let ids := s.affected n
    (s.doCoreAbort n).stopBatches n ids

/-- The entries of a batch that are still open, as the new batch carries them. -/
def State.openEntries (s : State) (b : Batch) : List BEntry :=
  (b.entries.filter (s.entryOpen b)).map (fun e => { e with join := 0, committed := false })

/-- Step 6 of R317: an affected batch gets a new identifier with its uncommitted streams. -/
def State.redispatch1 (s : State) (id : Nat) : State :=
  match s.batch id with
  | none => s
  | some b =>
    let es := s.openEntries b
    let s := s.modBatch id (fun b => { b with dead := true })
    if es.isEmpty then s else ((s.formBatch b.model b.tick es b.hwFaults b.progFaults).1).bump Reg.logSchedCntRedispatch

/-- Whether the cores that the oldest re-dispatch waits for are idle with no transfer outstanding. -/
def State.redispReady (s : State) (n : Nat) (ids : List Nat) : Bool :=
  ((n :: (ids.filterMap s.batch).flatMap Batch.place).dedup).all (fun k => (s.core k).run != .idle || (s.core k).idle || !(s.domOn k))

/-- REDISPATCH_BATCH: once the cores are idle, each affected batch is formed anew and dispatched; the firmware releases the pins that the stopped cores
left (R294), and Sounding goes on on the core (R317). -/
def State.doRedispatchBatch (s : State) : State :=
  match s.sched.redisp with
  | [] => s
  | (n, ids) :: r =>
    if !(s.redispReady n ids) then s
    else
      let cs := (n :: (ids.filterMap s.batch).flatMap Batch.place).dedup
      let s : State := { s with sched := { s.sched with redisp := r } }
      let s := if s.firmwareRuns then cs.foldl State.releaseStale s else s
      let s := (ids.foldl State.redispatch1 s).sweepBatches
      (ids.foldl (fun s _ => s.dispatchHeld) s).soundNext n

/-- REDISPATCH_IDLE_TIMEOUT: a failed core that is not idle 20 µs on has its domains powered off, and on again for its tests (R317). -/
def State.doRedispatchIdleTimeout (s : State) (n : Nat) : State :=
  match s.pilot.sounding.find? (fun x => x.core == n) with
  | none => s
  | some x =>
    if s.firmwareRuns && s.sched.redisp.any (fun r => r.1 == n) && !(s.core n).idle && decide (x.since + 20 ≤ s.now) && s.domOn n &&
        s.pilot.wantPower.all (fun p => p.2 != n) then
      (s.askPower false [32 + n, n]).askPower true [n, 32 + n]
    else s

/-- A hardware-class code (R313, R347). (DEDUCED, log entry 41) -/
def hardwareCode (c : Nat) : Bool := [codeMxParity, codeVxParity, codeSpdUe, codeWatchdog, codeCoreStopped, codeMemUe, codeMemStack].contains c

/-- The work item that a core runs. -/
def State.workOn (s : State) (n : Nat) : Option WorkItem :=
  match (s.core n).run with
  | .idle => none
  | .batch id => some (.batch id)
  | _ => some (.direct (s.coreCtx n))

/-- What stops with core `n`: it alone after a program fault, with every batch that has a slice on it after a hardware fault (R317). -/
def State.stopCore (s : State) (n : Nat) (hw : Bool) (ids : List Nat) : State :=
  if hw then s.doLogSchedRedispatch n else (s.doCoreAbort n).stopBatches n ids

/-- What follows a fault of a serving batch: it is re-dispatched, four times after hardware faults and once after program faults; beyond that
its context is FAULTED (R313). Other batches on a failed core are re-dispatched with it (R317). (DEDUCED, log entry 41) -/
def State.batchFault (s : State) (n id code : Nat) : State :=
  let hw := hardwareCode code
  match s.batch id with
  | none => s.stopCore n hw []
  | some b =>
    if (if hw then b.hwFaults < 4 else b.progFaults < 1) then
      (s.modBatch id (fun b => if hw then { b with hwFaults := b.hwFaults + 1 } else { b with progFaults := b.progFaults + 1 })).stopCore n hw [id]
    else match s.jobOfCtx b.ctxId with
      | some j => (s.startTeardown j false code n).stopCore n hw []
      | none => s.stopCore n hw []

/-- What follows a fault of a direct job: it is torn down, with CORE_STOPPED after a hardware fault (R317) and with SAVE where the fault came during a
spill (R315). (DEDUCED, log entry 41) -/
def State.directFault (s : State) (n ctx code : Nat) (spill : Bool) : State :=
  let hw := hardwareCode code
  match s.jobOfCtx ctx with
  | some j => (s.startTeardown j false (if spill then codeSave else if hw then codeCoreStopped else code) n).stopCore n hw []
  | none => s.stopCore n hw []

/-- What follows a fault with `code` of a core, by what it ran and whether it was spilling (R313, R315, R317). -/
def State.workFault (s : State) (n code : Nat) (ran : Option WorkItem) (spill : Bool) : State :=
  match ran with
  | some (.batch id) => s.batchFault n id code
  | some (.direct ctx) => s.directFault n ctx code spill
  | none => s.stopCore n (hardwareCode code) []

/-- A core failure without a recorded fault, of a core that ran `ran` (R316, R317): its work is re-dispatched or torn down as after CORE_STOPPED, and the
full core test follows. (DEDUCED, log entry 41) -/
def State.coreFailure (s : State) (n : Nat) (ran : Option WorkItem) (spill : Bool) : State :=
  (s.sound n fullTest).workFault n codeCoreStopped ran spill

/-- CORE_ACCESS_TIMEOUT: a Pilot access to a core's window goes unanswered, completes with an error response, and the core fails (R316). -/
def State.doCoreAccessTimeout (s : State) (n : Nat) : State :=
  let s : State := { s with bus := { s.bus with err := true } }
  if s.firmwareRuns && s.domOn n then s.coreFailure n (s.workOn n) ((s.core n).inSpill || (s.core n).preempt == 2) else s

/-! ### Fault handling (R313) -/

/-- The tests that Sounding runs on the core for a code (R318). (DEDUCED, log entry 41) -/
def testsFor (code bank : Nat) : List SoundTest :=
  if code = codeMxParity then [{ kind := 1, unit := some 66 }]
  else if code = codeVxParity then [{ kind := 2, unit := some 67 }]
  else if code = codeSpdUe then [{ kind := 0, bank := bank, unit := some bank }]
  else if code = codeWatchdog then fullTest
  else []

/-- The firmware takes the fault of a core by its class, calls Sounding, and re-dispatches the batch or tears the job down; CORE_FAULT stays
as it is (R105, R313, R317, R318). (DEDUCED, log entry 41) -/
def State.handleFault (s : State) (n : Nat) : State :=
  let c := s.core n
  let ran := s.workOn n
  let ts := testsFor c.faultCode (fld (s.cReg n Reg.spdErr) 23 18)
  let s := s.modCore n (fun c => { c with faultLine := false })
  let s : State := { s with sched := { s.sched with victims := s.sched.victims.filter (fun v => v.1 != n) } }
  let s := if hardwareCode c.faultCode then s.sound n ts else s
  s.workFault n c.faultCode ran c.inSpill

/-- A flit check failed at the hop of a core: once its current work has ended, the chain test is called on it (R209, R316, R318). -/
def State.handleFlitError (s : State) (n : Nat) : State :=
  if (s.core n).errLine && (s.core n).run == .idle then
    ((s.modCore n (fun c => { c with errLine := false })).sound n [{ kind := 3, unit := some 64 }]).soundNext n
  else s

/-- FAULT_HANDLING: the firmware serves the fault line of a core, else its error line (R313, R318). -/
def State.doFaultHandling (s : State) (n : Nat) : State :=
  if !s.firmwareRuns then s
  else if (s.core n).faultLine then s.handleFault n
  else s.handleFlitError n

end Sys2Proof.Machine
end

