-- ==== Sys2Proof/Machine/Power.lean ====
section
/-! DEFINITION. The power controller (R18-R24), what a domain loses and how the firmware brings it up (R177, R399 steps 5 to 8, R390), stack failure
(R345, R346), and the form of Epian responses (R384, R385). -/

namespace Sys2Proof.Machine

/-! ### Epian responses (R384, R385) -/

/-- Answers the request of a channel: the status, the JOB word and the words from W4. -/
def State.answer (s : State) (ch status : Nat) (job : Word) (ws : List Word) : State :=
  let q := (s.chan ch).words
  s.respond ch ([w32 (0xE9 * 2 ^ 24 + 2 ^ 20 + 2 ^ 18 + fld (wd q 0) 15 8 * 256 + 4 + ws.length),
    w32 (fld (wd q 1) 31 16 * 65536 + status * 256), job, 0] ++ ws)

/-- Answers OK, with the words from W4. -/
def State.ok (s : State) (ch : Nat) (ws : List Word) : State := s.answer ch 0 (wd (s.chan ch).words 2) ws

/-- Answers with an error status and no words. (DEDUCED, log entry 51) -/
def State.deny (s : State) (ch status : Nat) : State := s.answer ch status (wd (s.chan ch).words 2) []

/-! ### Records (R400, R401) -/

/-- A word of the Declination record in effect. -/
def State.declWord (s : State) (off : Nat) : Word := w32 (leNat ((s.pilot.decl.drop off).take 4))

/-- One of the 16 physical bases of the configuration record. -/
def State.cfgBase (s : State) (k : Nat) : Nat := (s.cfgWord (0x120 + 8 * k)).toNat + 2 ^ 32 * (s.cfgWord (0x124 + 8 * k)).toNat

/-- The SX_SHARE image of the first partition that holds a core. (DESIGN CHOICE, log entry 47) -/
def State.coreShare (s : State) (n : Nat) : Option Word :=
  ((List.range 16).find? (fun p => flag (s.partCores p) n)).map (fun p => s.cfgWord (0x024 + 8 * p))

/-- The banks of a core retired in service, from the live unit map (R179, R320). -/
def State.retiredBanks (s : State) (n : Nat) : List Nat :=
  (s.pilot.unitMap.filter (fun e => fld e 31 29 == 1 && flag e 28 && fld e 15 8 == n)).map (fun e => fld e 7 0)

/-- The lanes of a port retired in the live unit map (R352). -/
def State.retiredLanes (s : State) (p : Nat) : Word :=
  (s.pilot.unitMap.filter (fun e => fld e 31 29 == 3 && fld e 15 8 == p)).foldl (fun m e => m ||| w32 (2 ^ fld e 7 0)) 0

/-! ### What a domain loses (R19, R180) -/

/-- Core logic and banks B0-B31 lose everything; completions on their way to the Logbook have left the domain. -/
def State.loseCore (s : State) (n : Nat) : State :=
  let s := (s.setCore n { cpl := (s.core n).cpl }).resetRegs (coreKey n 0) (coreKey (n + 1) 0)
  { s with sched := { s.sched with victims := s.sched.victims.filter (fun v => v.1 != n) } }

/-- The copies of a line, as numbers of `Mem.bad`. -/
def State.copyIds (s : State) (l : Nat) : List Nat := (List.range (s.copiesOf (64 * l)).length).map (2 * l + ·)

/-- A stack loses its contents (R19): a line with no other copy that still stands is gone, one with another copy has lost this one.
(DEDUCED, log entry 46) -/
def State.loseStack (s : State) (h : Nat) : State :=
  let m := s.mem
  let gone (l : Nat) : Bool := (s.copyIds l).all (fun x => s.copyOn h x || m.lost.contains x)
  let part := (m.ident.map Prod.fst).filter (fun l => (s.copyIds l).any (s.copyOn h) && !(gone l))
  let s : State := { s with mem := {
    bytes := m.bytes.filter (fun c => !(gone (c.1 / 64)))
    ident := m.ident.filter (fun e => !(gone e.1))
    bad := m.bad.filter (fun x => !(s.copyOn h x))
    soft := m.soft.filter (fun x => !(s.copyOn h x))
    lost := (part.flatMap (fun l => (s.copyIds l).filter (s.copyOn h))).foldl sadd (m.lost.filter (fun x => !(gone (x / 2)))) } }
  ({ s with secure := { s.secure with memKeys := s.secure.memKeys.set h none } }).resetRegs (hbmKey h 0) (hbmKey h 0 + 0x800)

/-- The stream front end loses open and held chunks, histories and registers. -/
def State.loseFrontEnd (s : State) : State :=
  let f (x : Stream) : Stream := { x with cur := none, rtp := {}, hist := [], acks := [] }
  let s : State := { s with fe := { s.fe with
    items := [[], []], hold := [], localWait := [], streams := s.fe.streams.map (fun e => (e.1, f e.2)) } }
  s.resetRegs 0x200000 0x300000

/-- A Rhumb port loses its link and registers. -/
def State.losePort (s : State) (p : Nat) : State :=
  (s.modPort p (fun _ => {})).resetRegs (rhbKey p 0) (rhbKey p 0 + 0x800)

/-- What is lost with the supply of a domain (R18, R19). -/
def State.loseDomain (s : State) (d : Nat) : State :=
  if d < 32 then s.loseCore d
  else if d < 64 then s.modCore (d - 32) Core.loseUpper
  else if d < 72 then s.loseStack (d - 64)
  else if d < 76 then s.losePort (d - 72)
  else if d = 76 then { s with fe := { s.fe with rx := [[], []], tx := [[], []] } }
  else if d = 77 then { s with pilot := { s.pilot with hostLink := false } }
  else if d = 78 then { s with pilot := { s.pilot with clusterUp := false } }
  else if d = 79 then s.loseFrontEnd
  else s

/-! ### What comes up with a domain (R22, R177, R188, R399) -/

/-- A core powers on (R177, R188, R204): its logic is reset, its hop leaves bypass, its buckets are full; the firmware sets the spares, the shares
and, where the record enables it, COMPAT_EN (R399). (DESIGN CHOICE, log entry 47) -/
def State.upCore (s : State) (n : Nat) : State :=
  let s := s.loseCore n
  let full := s.bucketCap n
  let s := s.modCore n (fun c => { c with bypass := false, buckets := [full, full, full] })
  let s := s.setReg (coreKey n Reg.spdSpare) ((s.retiredBanks n).foldl spareSet (s.declWord (0x014 + 4 * n)))
  let s := match s.coreShare n with
    | some v => s.doSxShareWrite n v
    | none => s
  if flag s.features 0 then s.orReg (coreKey n Reg.coreCtrl) 4 else s

/-- A Rhumb port powers on: the firmware sets RHB_LANES, and enables the port where the record does (R352, R399). (DESIGN CHOICE, log entry 47) -/
def State.upPort (s : State) (p : Nat) : State :=
  let s := (s.losePort p).setReg (rhbKey p Reg.rhbLanes) (s.declWord (0x094 + 4 * p) ||| s.retiredLanes p)
  if flag s.features (8 + p) then (s.orReg (rhbKey p Reg.rhbCtrl) 1).setStatus p false true false false 0 else s

/-- The front end powers on: the firmware sets its bases, VSF_PORT and the enables (R399, R400). (DESIGN CHOICE, log entry 47) -/
def State.upFrontEnd (s : State) : State :=
  let s := (s.loseFrontEnd.setReg2 Reg.feHoldBaseLo (s.cfgBase 7)).setReg2 Reg.feLocalBaseLo (s.cfgBase 8)
  s.setReg Reg.feCtrl (w32 (fld (s.cfgWord 0x014) 15 0 * 65536 + 8 + 2 * fld s.features 5 4))

/-- Loads the memory keys into the controller of stack `h` (R407). -/
def State.loadMemKeys (s : State) (h : Nat) : State :=
  { s with secure := { s.secure with memKeys := s.secure.memKeys.set h (s.secure.keys.map (fun k => (k.memData, k.memTweak))) } }

/-- What a domain does at power-on. -/
def State.upDomain (s : State) (d : Nat) : State :=
  if d < 32 then s.upCore d
  else if d < 64 then s.modCore (d - 32) Core.loseUpper
  else if d < 72 then (s.loadMemKeys (d - 64)).setReg (hbmKey (d - 64) Reg.hbmStatus) 0x80000000
  else if d < 76 then s.upPort (d - 72)
  else if d = 79 then s.upFrontEnd
  else s

/-! ### Bring-up (R399 steps 5 to 8, R390) -/

/-- The indices of the region entries that an agent reaches by physical address. -/
def State.agentRegions (s : State) (bit : Nat) : List Nat := (List.range 16).filter (fun i => flag (s.rgnA i) 31 && flag (s.rgnB i) bit)

/-- Base and size of a region. -/
def State.regionSpan (s : State) (i : Nat) : Nat × Nat := (fld (s.rgnA i) 8 0 * gib, fld (s.rgnA i) 17 9 * gib)

/-- Sets Z on a range of physical memory. -/
def State.zFill (s : State) (a n : Nat) : State := { s with mem := s.mem.fillZ a n }

/-- Loads and locks the region table (R331). -/
def State.loadRegions (s : State) : State :=
  ((List.range 16).foldl (fun s i =>
    (s.setReg (hbmKey 0 (0x800 + 8 * i)) (s.cfgWord (0x0A0 + 8 * i))).setReg (hbmKey 0 (0x804 + 8 * i)) (s.cfgWord (0x0A4 + 8 * i))) s).orReg
    (hbmKey 0 Reg.hbmRgnLock) 1

/-- The bases of the hub tables (R399 step 5, R400). -/
def State.loadBases (s : State) : State :=
  let s := ((s.setReg2 Reg.logCtxBaseLo (s.cfgBase 0)).setReg2 Reg.logCtxMirrorLo (s.cfgBase 1)).setReg2 Reg.logModelBaseLo (s.cfgBase 2)
  let s := ((s.setReg2 Reg.logSchedCtxtabLo (s.cfgBase 3)).setReg2 Reg.logKvPooltabLo (s.cfgBase 4)).setReg2 (rhbKey 0 Reg.rhbPeertabLo) (s.cfgBase 5)
  ((s.setReg2 (hbmKey 0 Reg.hbmXlatRootLo) (s.cfgBase 6)).setReg2 Reg.logWlBaseLo (s.cfgBase 9)).setReg (rhbKey 0 Reg.rhbDevid) (s.cfgWord 0x010)

/-- Writes both copies of the stream context table: GEN = 1, STATE = FREE, every other field 0 (R35). -/
def State.fillContexts (s : State) : State :=
  let t := (List.replicate 65536 (0x00010000#32 :: List.replicate 31 0)).flatMap bytesOf
  (s.hubPoke (s.reg2 Reg.logCtxBaseLo) t).hubPoke (s.reg2 Reg.logCtxMirrorLo) t

/-- Fills the hub tables and the regions that agents reach by physical address (R399 step 5, R420). -/
def State.fillHub (s : State) : State :=
  let rs := ((s.agentRegions 15 ++ s.agentRegions 14).dedup).map s.regionSpan
  ((s.hubAreas ++ rs).foldl (fun s r => s.zFill r.1 r.2) s).fillContexts

/-- The cores that a bring-up turns on. -/
def State.allowedCores (s : State) : List Nat := (List.range 32).filter s.coreAllowed

/-- Step 5 begins: the memory channels and the enabled cores are asked for. -/
def State.startBringUp (s : State) : State :=
  let s : State := { s with pilot := { s.pilot with bringUp := 5 } }
  s.askPower true ((List.range 8).map (64 + ·) ++ s.allowedCores.flatMap (fun n => [n, 32 + n]))

/-- Step 5 ends and step 6 begins: tables, the mask of usable cores, the tests of held cores, and the ports. (DESIGN CHOICE, log entry 20; DEDUCED,
log entry 46) -/
def State.bringUp5 (s : State) : State :=
  let s := if s.rst.mode = .booting then s.loadRegions else s
  let s := (s.loadBases).fillHub
  let use := (s.allowedCores.filter (fun n => s.domOn n && !(s.pilot.held.getLsbD n))).foldl (fun (m : Word) n => m ||| bit32 n) 0
  let s := s.setReg Reg.logSchedUsable use
  let s := (setBits 32 s.pilot.held.toNat).foldl (fun s n => (s.sound n fullTest).soundNext n) s
  let f := s.features
  let ports := ((List.range 4).filter (fun p => flag f (8 + p))).map (72 + ·)
  let s : State := { s with pilot := { s.pilot with bringUp := 6 } }
  s.askPower true ([79] ++ (if fld f 5 4 ≠ 0 then [76] else []) ++ (if flag f 6 then [77] else []) ++ ports)

/-- Step 7 begins: domain 78. (DESIGN CHOICE, log entry 20) -/
def State.bringUp6 (s : State) : State :=
  ({ s with pilot := { s.pilot with bringUp := 7 } }).askPower true [78]

/-- The cluster's private region (R395): the first one granted to the cluster that holds none of the hub's areas, the local rings among them.
(DESIGN CHOICE, log entry 48) -/
def State.privateRegion (s : State) : Option (Nat × Nat) :=
  ((s.agentRegions 15).map s.regionSpan).find? (fun r => s.hubAreas.all (fun h => !(overlap r.1 r.2 h.1 h.2)))

/-- Starts the application cluster: its private region is filled, and the loader is copied there and measured (R395, R399). The loader starts at the
region's base. (DESIGN CHOICE, log entry 48) -/
def State.startCluster (s : State) : State :=
  if s.domOn 78 && (s.pilot.loaderOk || !flag s.features 3) then
    let s := match s.privateRegion with
      | some r => (s.zFill r.1 r.2).poke hubIdent r.1 s.pilot.loader
      | none => s
    { s with pilot := { s.pilot with clusterUp := true, loaderDigest := Config.sha512 s.pilot.loader } }
  else s

/-- Steps 7 and 8 end: the cluster starts; a boot sets LOG_CTRL, LOG_SCHED_CTRL and LOG_KV_CTRL and serves; leaving standby announces the cluster
with cause 0 (R390). (DESIGN CHOICE, log entry 20) -/
def State.bringUp7 (s : State) : State :=
  let s : State := { s with pilot := { s.pilot with bringUp := 0 } }
  if s.rst.mode = .booting then
    let s := ((s.startCluster.setReg Reg.logCtrl 3).setReg Reg.logSchedCtrl 3).setReg Reg.logKvCtrl 1
    { s with rst := { s.rst with mode := .running } }
  else { s with pilot := { s.pilot with clusterRestart := some 0, standby := false } }

/-- Whether the firmware waits for no power transition. -/
def State.powerSettled (s : State) : Bool :=
  s.pilot.wantPower.isEmpty && s.pwr.queue.all (fun r => r.src != 0) && s.pwr.cur.all (fun r => r.src != 0)

/-- Goes on with the bring-up when its step is over. -/
def State.continueUp (s : State) : State :=
  if !(s.firmwareRuns && s.powerSettled) then s
  else match s.pilot.bringUp with
    | 5 => s.bringUp5
    | 6 => if s.pilot.held = 0 then s.bringUp6 else s
    | 7 => s.bringUp7
    | _ => s

/-- The images of PWR_STATE0 to PWR_STATE2: domains that are on and usable (R24). (DEDUCED, log entry 46) -/
def State.pwrImage (s : State) (k : Nat) : Word := w32 ((s.pwr.on &&& ~~~ s.pwr.fenced).toNat / 2 ^ (32 * k))

/-- Answers the POWER_SET or POWER_STANDBY that waited for the last transition (R390). -/
def State.powerAnswer (s : State) : State :=
  match s.pilot.powerAsk with
  | none => s
  | some ch =>
    if !(s.powerSettled && s.pilot.bringUp == 0) then s
    else
      let s : State := { s with pilot := { s.pilot with powerAsk := none, serving := none } }
      if !(s.chan ch).busy then s
      else if fld (wd (s.chan ch).words 0) 15 8 = 0x40 then s.ok ch [s.pwrImage 0, s.pwrImage 1, s.pwrImage 2] else s.ok ch []

/-- After each request of the queue: the firmware places its next ones, goes on with a bring-up and answers. -/
def State.afterPower (s : State) : State := (State.placePower 80 s).continueUp.powerAnswer

/-! ### The power controller (R19-R24) -/

/-- Sets a bit of PWR_ERR, which raises the error line (R24). -/
def State.pwrError (s : State) (m : Word) : State :=
  let s := s.orReg Reg.pwrErr m
  { s with pwr := { s.pwr with errorLine := true } }

/-- A write of PWR_REQ (R23, R24). -/
def State.pwrRequest (s : State) (on : Bool) (d : Nat) : State :=
  if 80 ≤ d then s.pwrError 2
  else if 8 ≤ s.pwr.queue.length then s.pwrError 4
  else { s with pwr := { s.pwr with queue := s.pwr.queue ++ [(⟨on, d, 0⟩ : PwrReq)] } }

/-- PWR_REQ with TURN_ON = 1. -/
def State.doPwrReqTurnOn (s : State) (d : Nat) : State := s.pwrRequest true (d % 128)

/-- PWR_REQ with TURN_ON = 0. -/
def State.doPwrReqTurnOff (s : State) (d : Nat) : State := s.pwrRequest false (d % 128)

/-- Whether a change of a domain's state keeps the dependencies of R19. -/
def State.pwrAllowed (s : State) (r : PwrReq) : Bool :=
  if r.on then
    if r.domain < 32 then s.coreAllowed r.domain else if r.domain < 64 then s.domOpen (r.domain - 32) else true
  else if r.domain < 32 then !(s.domOn (32 + r.domain)) else true

/-- A BANK_POWER command ends with its request: it retires (R23, R91, R175). -/
def State.bankDone (s : State) (r : PwrReq) : State :=
  if r.src = 0 then s else s.modCore (r.src - 1) (fun c => { c with bank := none })

/-- A refused BANK_POWER command faults its context (R91). -/
def State.bankRefused (s : State) (r : PwrReq) : State :=
  if r.src = 0 then s
  else
    let n := r.src - 1
    match (s.core n).bank with
    | some d => (s.bankDone r).coreFault n codeBankPower d.va
    | none => s

/-- The completion line to the Pilot rises (R23, R24). -/
def State.pwrComplete (s : State) : State := { s with pwr := { s.pwr with completionLine := true } }

/-- POWER_REQUEST_JUDGED: the request at the head completes without a change, is refused, or starts its transition; a power-off raises the fence, and
the hop of a core engages its bypass (R19, R20, R23, R204). (DEDUCED, log entry 46) -/
def State.doPowerRequestJudged (s : State) : State :=
  match s.pwr.cur, s.pwr.queue with
  | none, r :: q =>
    let s : State := { s with pwr := { s.pwr with queue := q } }
    if s.domOn r.domain = r.on then ((s.bankDone r).pwrComplete).afterPower
    else if !(s.pwrAllowed r) then ((s.pwrError 1).bankRefused r).afterPower
    else
      let s : State := { s with pwr := { s.pwr with cur := some r, drained := false } }
      if r.on then s
      else
        let s : State := { s with pwr := { s.pwr with fenced := s.pwr.fenced ||| BitVec.ofNat 80 (2 ^ r.domain) } }
        if r.domain < 32 then s.engageBypass r.domain else s
  | _, _ => s

/-- Whether a range of memory uses a stack. -/
def State.rangeOn (s : State) (h a n : Nat) : Bool := (linesOf a n).any (fun l => (s.copiesOf (64 * l)).any (fun c => c.stack == h))

/-- Whether accesses to a stack are under way: a transfer, a copy (R277), or the fill at the head of the queue (R343). -/
def State.stackBusy (s : State) (h : Nat) : Bool :=
  s.cores.any (fun c => c.outs.any (fun x => decide (x.cls < 2) && s.rangeOn h x.pa (64 * x.lines))) ||
  s.log.kv.copies.any (fun c => s.rangeOn h c.fromPa 65536 || s.rangeOn h c.toPa 65536) ||
  (s.hub.fills.take 1).any (fun f => s.rangeOn h f.pa (if f.big then 2 ^ 21 else 2 ^ 16))

/-- Whether every transaction that crossed into the domain before its fence has retired (R20): the transfers of a core, which its hop no longer holds
up (R204); those of a stack; what waits or is unacknowledged at a Rhumb port that is up; and the datagrams that the front end has taken. (DEDUCED, log
entry 46) -/
def State.domDrained (s : State) (d : Nat) : Bool :=
  if d < 32 then (s.core d).outs.isEmpty && (s.core d).inbox.isEmpty
  else if 64 ≤ d ∧ d < 72 then !(s.stackBusy (d - 64))
  else if 72 ≤ d ∧ d < 76 then
    let p := s.rport (d - 72)
    !(s.portUp (d - 72)) || (p.wait.all List.isEmpty && p.replay.isEmpty)
  else if d = 79 then s.fe.items.all List.isEmpty
  else true

/-- Takes a domain's supply away. -/
def State.supplyOff (s : State) (d : Nat) : State :=
  let s := s.loseDomain d
  { s with pwr := { s.pwr with on := s.pwr.on &&& ~~~ (BitVec.ofNat 80 (2 ^ d)) } }

/-- POWER_OFF_DRAINED: the fenced domain has drained; its contents are lost with its supply (R19, R20). -/
def State.doPowerOffDrained (s : State) : State :=
  match s.pwr.cur with
  | some r =>
    if !r.on && !s.pwr.drained && s.domDrained r.domain then
      let s := s.supplyOff r.domain
      { s with pwr := { s.pwr with drained := true } }
    else s
  | none => s

/-- DOMAIN_TRANSITION_COMPLETE: the domain is on with its logic reset, or off (R22, R24). -/
def State.doDomainTransitionComplete (s : State) : State :=
  match s.pwr.cur with
  | none => s
  | some r =>
    if !(r.on || s.pwr.drained) then s
    else
      let b : BitVec 80 := BitVec.ofNat 80 (2 ^ r.domain)
      let s : State := { s with pwr := { s.pwr with
        cur := none, drained := false, on := if r.on then s.pwr.on ||| b else s.pwr.on, fenced := s.pwr.fenced &&& ~~~ b } }
      let s := if r.on then s.upDomain r.domain else s
      let s := ((s.bankDone r).pwrComplete).afterPower
      if r.on ∧ r.domain < 32 then s.soundNext r.domain else s

/-! ### Stack failure (R345, R346) -/

/-- Whether every copy of the granule of an address lies on a failed stack (R73, R346). -/
def State.granuleFailed (s : State) (pa : Nat) : Bool :=
  !(s.copiesOf pa).isEmpty && (s.copiesOf pa).all (fun c => s.stackFailed c.stack)

/-- Whether part of a range of physical memory lies on failed stacks alone. (DEDUCED, log entry 49) -/
def State.rangeFailed (s : State) (pa n : Nat) : Bool :=
  (List.range ((pa + n - 1) / 4096 - pa / 4096 + 1)).any (fun g => s.granuleFailed (4096 * (pa / 4096 + g)))

/-- Whether part of a range of a context's space lies on failed stacks alone, or does not translate for that reason. (DEDUCED, log entry 49) -/
def State.spaceFailed (s : State) (ctx va n : Nat) : Bool :=
  (pageParts va n).any (fun p =>
    match s.xlate [] ctx p.1 false with
    | .ok pa => s.rangeFailed pa p.2
    | .error e => e.code == codeMemStack)

/-- Whether a stream has lost a granule of its state versions, input ring, journal or result slots (R73). -/
def State.streamHit (s : State) (i : Nat) : Bool :=
  let m := cxModel (s.sctx i)
  let w := s.mslot m
  let ctx := s.slotCtx m
  s.spaceFailed ctx (stateAddr w i 0) (2 * (wd w 2).toNat) || s.spaceFailed ctx (ringAddr w i 0) (8 * (wd w 3).toNat) ||
  s.spaceFailed ctx (journalAddr w i 0) 128 || s.spaceFailed ctx (resultAddr w i 0) (16 * (wd w 4).toNat)

/-- Whether a job has a page that the failed stacks have taken. (DEDUCED, log entry 49) -/
def State.jobHit (s : State) (j : Job) : Bool :=
  s.pilot.frames.any (fun f => f.2.job == j.id && s.rangeFailed f.1 (if f.2.big then 2 ^ 21 else 2 ^ 16))

/-- What the firmware does when it declares a stack failed (R73, R346). (DEDUCED, log entry 49) -/
def State.afterStackFail (s : State) (h : Nat) : State :=
  let s := (s.retireUnit 4 h 0).askPower false [64 + h]
  let live := s.pilot.jobs.filter (fun j => !j.ended)
  let hit := live.flatMap (fun j => (s.slotsOf j.id).flatMap (fun m => (s.slotStreams m).filter s.streamHit))
  let s := hit.foldl State.abortStream s
  let s := (live.filter s.jobHit).foldl (fun s j => s.startTeardown j false codeMemStack 0) s
  s.pilot.slots.foldl (fun s e => s.setCapacity e.1 (s.capacityOf e.2)) s

/-- HBM_FAIL: stack `h` is declared failed; from now on its mirrored lines are served by the survivor and other accesses are refused; the
firmware then acts (R346). -/
def State.doHbmFail (s : State) (h : Nat) : State :=
  if flag (s.reg (hbmKey 0 Reg.hbmFailed)) h then s
  else
    let s := (s.orReg (hbmKey 0 Reg.hbmFailed) (w32 (2 ^ h))).setReg (hbmKey h Reg.hbmStatus) 0x40000000
    if s.firmwareRuns then s.afterStackFail h else s

/-- STACK_TIMEOUT: a request unanswered for 8,192 HCLK cycles, or a PHY that does not retrain, fails the stack (R345). -/
def State.doStackTimeout (s : State) (h : Nat) : State := if s.stackServed h then s.doHbmFail h else s

/-- HBM_TEST_DONE: the channel test fails when more than UE_LIMIT lines gave double-bit errors, and the stack with it (R345); its third pass within
3,600 s retires the stack as lasting (R319). (DEDUCED, log entry 44) -/
def State.doHbmTestDone (s : State) (h badLines : Nat) : State :=
  if s.stackTesting h then
    let pass := decide (badLines ≤ fld (s.reg (hbmKey h Reg.hbmEccCtrl)) 7 0)
    let s := s.endHbmTest h pass
    if !pass then s.doHbmFail h
    else if s.firmwareRuns then
      let (s, third) := s.notePass (4096 + h)
      if third then s.doHbmFail h else s
    else s
  else s

/-- A power-on of the upper banks of core `n` that is under way when the core's domain falls is given up, as one that R19 refuses.
(DEDUCED, log entry 46) -/
def State.dropUpperOn (s : State) (n : Nat) : State :=
  match s.pwr.cur with
  | some r =>
    if r.on && r.domain == 32 + n then
      let s : State := { s with pwr := { s.pwr with cur := none, drained := false } }
      ((s.pwrError 1).bankRefused r).afterPower
    else s
  | none => s

/-- The loss of a core's domain, with its upper banks (R19): a core failure, which a firmware that restarts sees once it runs (R315, R316). -/
def State.coreLost (s : State) (n : Nat) : State :=
  let ran := s.workOn n
  let spill := (s.core n).inSpill || (s.core n).preempt == 2
  let s := ((s.dropUpperOn n).supplyOff (32 + n)).supplyOff n
  if s.firmwareRuns then s.coreFailure n ran spill
  else { s with pilot := { s.pilot with coresUnseen := s.pilot.coresUnseen ++ [(n, ran, spill)] } }

/-- UNREQUESTED_POWER_LOSS: a domain leaves the on state without a request: its contents are lost; a core fails, with its upper banks, and so does a
stack (R19, R316, R345). -/
def State.doUnrequestedPowerLoss (s : State) (d : Nat) : State :=
  if s.domOn d && s.pwr.cur.all (fun r => r.domain != d) && decide (d < 80) then
    if d < 32 then s.coreLost d
    else if 64 ≤ d ∧ d < 72 then (s.supplyOff d).doHbmFail (d - 64)
    else s.supplyOff d
  else s

end Sys2Proof.Machine
end

