-- ==== Sys2Proof/Machine/Convert.lean ====
section
/-! DEFINITION. Sample conversion (R45): G.711 expansion (PRESUMED, log entry 14), and the polyphase filter with its coefficients, computed from the
definition of R45. -/

namespace Sys2Proof.Machine

/-- PCMU to 16-bit linear (G.711, mu-law). -/
def pcmu (b : Byte) : Int :=
  let x := 255 - b.toNat
  let t : Int := ((x % 16 * 8 + 0x84) * 2 ^ (x / 16 % 8) : Nat)
  if x < 128 then t - 0x84 else 0x84 - t

/-- PCMA to 16-bit linear (G.711, A-law). -/
def pcma (b : Byte) : Int :=
  let x := b.toNat ^^^ 0x55
  let t := x % 16 * 16
  let seg := x / 16 % 8
  let v : Int := ((if seg = 0 then t + 8 else (t + 0x108) * 2 ^ (seg - 1)) : Nat)
  if x < 128 then -v else v

/-- A 16-bit two's complement number. -/
def s16 (x : Nat) : Int := if x < 32768 then (x : Int) else (x : Int) - 65536

/-- Samples of L16, big-endian for RTP and little-endian for VSF. -/
def l16 (be : Bool) : List Byte → List Int
  | a :: b :: r => s16 (if be then a.toNat * 256 + b.toNat else b.toNat * 256 + a.toNat) :: l16 be r
  | _ => []

/-- Samples of a payload: format 0 L16, 1 PCMU, 2 PCMA (R43). -/
def samplesOf (be : Bool) (fmt : Nat) (bs : List Byte) : List Int :=
  if fmt = 0 then l16 be bs else if fmt = 1 then bs.map pcmu else bs.map pcma

/-- The first half of the coefficients for L = 2, M = 1 (R45). (DEDUCED, log entry 36) -/
def fir21 : List Int :=
  [1, -3, -5, 6, 17, -6, -40, -4, 74, 39, -113, -111, 142, 234, -130, -408, 40, 622, 176, -836, -566, 986, 1179, -972, -2073, 638, 3371, 337, -5533, -3119, 11758, 27070]

/-- The first half of the coefficients for L = 1, M = 2 (R45). (DEDUCED, log entry 36) -/
def fir12 : List Int :=
  [0, -1, -3, 3, 9, -3, -20, -2, 37, 19, -57, -56, 71, 117, -65, -204, 20, 311, 88, -418, -283, 493, 590, -486, -1036, 319, 1685, 168, -2767, -1559, 5879, 13535]

/-- The first half of the coefficients for L = 6, M = 1 (R45). (DEDUCED, log entry 36) -/
def fir61 : List Int :=
  [1, 1, 0, -1, -3, -5, -7, -6, -4, 1, 7, 13, 18, 19, 15, 6, -7, -22, -36, -43, -41, -28, -5, 25, 56, 79, 86, 74, 41, -9, -67, -119] ++
  [-151, -152, -116, -45, 49, 147, 225, 262, 241, 159, 26, -134, -286, -391, -419, -350, -188, 41, 292, 508, 633, 625, 467, 178, -190, -561, -847, -970, -881, -573, -91, 472] ++
  [995, 1349, 1432, 1188, 635, -138, -978, -1696, -2110, -2082, -1560, -599, 640, 1907, 2911, 3379, 3118, 2068, 337, -1797, -3919, -5539, -6172, -5435, -3120, 742, 5872, 11760, 17736, 23068, 27071, 29216]

/-- The first half of the coefficients for L = 1, M = 6 (R45). (DEDUCED, log entry 36) -/
def fir16 : List Int :=
  [0, 0, 0, 0, -1, -1, -1, -1, -1, 0, 1, 2, 3, 3, 3, 1, -1, -4, -6, -7, -7, -5, -1, 4, 9, 13, 14, 12, 7, -2, -11, -20] ++
  [-25, -25, -19, -8, 8, 24, 38, 44, 40, 26, 4, -22, -48, -65, -70, -58, -31, 7, 49, 85, 106, 104, 78, 30, -32, -93, -141, -162, -147, -95, -15, 79] ++
  [166, 225, 239, 198, 106, -23, -163, -283, -352, -347, -260, -100, 107, 318, 485, 563, 520, 345, 56, -299, -653, -923, -1029, -906, -520, 124, 979, 1960, 2956, 3845, 4512, 4869]

/-- The first half of the coefficients for L = 3, M = 1 (R45). (DEDUCED, log entry 36) -/
def fir31 : List Int :=
  [1, 0, -4, -6, -2, 10, 18, 11, -14, -39, -35, 10, 66, 81, 17, -92, -153, -83, 97, 246, 204, -52, -342, -392, -79, 404, 641, 334, -378, -927, -748, 186] ++
  [1195, 1346, 266, -1360, -2152, -1125, 1286, 3223, 2686, -702, -4820, -5991, -1370, 8759, 20527, 28400]

/-- The first half of the coefficients for L = 1, M = 3 (R45). (DEDUCED, log entry 36) -/
def fir13 : List Int :=
  [0, 0, -1, -2, -1, 3, 6, 4, -5, -13, -12, 3, 22, 27, 6, -31, -51, -28, 32, 82, 68, -17, -114, -131, -26, 135, 214, 111, -126, -309, -249, 62] ++
  [398, 449, 89, -453, -717, -375, 429, 1074, 895, -234, -1607, -1997, -457, 2920, 6842, 9467]

/-- The coefficients for a ratio L / M; the second half mirrors the first. (DEDUCED, log entry 36) -/
def firTable (l m : Nat) : List Int :=
  let h := if l = 2 then fir21 else if m = 2 then fir12 else if l = 6 then fir61 else if m = 6 then fir16 else if l = 3 then fir31 else fir13
  h ++ h.reverse

/-- Rounds to nearest, ties to even, of a number with 15 fraction bits, saturated to 16 bits. -/
def roundQ15 (a : Int) : Int :=
  let q := a / 32768
  let r := a % 32768
  let v := if 16384 < r ∨ (r = 16384 ∧ q % 2 = 1) then q + 1 else q
  max (-32768) (min 32767 v)

/-- Output `n` of the filter: the taps at n * M - k that fall on input samples; `x` holds `hist` earlier inputs before the chunk's own. -/
def firOut (h x : List Int) (l m hist n : Nat) : Int :=
  let first := n * m % l
  let top := n * m / l + hist
  roundQ15 (((List.range (h.length / l)).map (fun j => h.getD (first + j * l) 0 * (if j ≤ top then x.getD (top - j) 0 else 0))).sum)

/-- Converts a chunk from one rate to another (R45): the output and the new history, the last inputs that the filter can still reach. (DEDUCED, log
entry 36) -/
def convert (src dst : Nat) (hist xs : List Int) : List Int × List Int :=
  if src = dst then (xs, [])
  else
    let l := if src < dst then dst / src else 1
    let m := if dst < src then src / dst else 1
    let h := firTable l m
    let k := h.length / l
    let old := List.replicate (k - hist.length) 0 ++ hist
    let x := old ++ xs
    ((List.range (xs.length * l / m)).map (firOut h x l m old.length), x.drop (x.length - k))

end Sys2Proof.Machine
end

