-- ==== Sys2Proof/Machine/FrontEnd.lean ====
section
/-! DEFINITION. The stream front end: frames and datagrams (R14, R40, R405), RTP (R41, R42, R46), VSF (R43, R44), policing and holding (R47),
acceptance (R48-R52), acknowledgement of results (R67, R69), closing (R70, R74) and the cluster's network rings (R396). -/

namespace Sys2Proof.Machine

/-! ### The cluster's rings (R396) -/

/-- Writes a frame with its length into consecutive entries of a ring from index `x` on. -/
def State.ringFill (s : State) (k : Nat) (x : Word) (bs : List Byte) : State :=
  let d := natLe 4 bs.length ++ natLe 4 0 ++ bs
  (cutList 2048 (d.length / 2048 + 1) d).zipIdx.foldl (fun s p => s.hubPoke (s.ringEntry k (x + w32 p.2)) p.1) s

/-- Passes a frame to the cluster's receive ring of a port, or drops it when too few entries are free (R396). -/
def State.toCluster (s : State) (port : Nat) (bs : List Byte) : State :=
  let s := s.bump Reg.feCntUnbound
  let n := ceilDiv (bs.length + 8) 2048
  if 4096 < s.ringUsed (3 + port) + n then s.bump Reg.feCntAppdrop
  else
    let x := s.ringProd (3 + port)
    (s.ringFill (3 + port) x bs).hubPokeW (s.ringBase (3 + port)) (x + w32 n)

/-- CLUSTER_FRAME_TRANSMIT (R396): the front end takes the frame at the consumer index of the cluster's transmit ring of a port. -/
def State.doClusterFrameTransmit (s : State) (port : Nat) : State :=
  let k := 5 + port
  let x := s.ringCons k
  let len := fld (s.hubWord (s.ringEntry k x)) 15 0
  let n := ceilDiv (len + 8) 2048
  if s.ringUsed k < n || 4096 < s.ringUsed k then s
  else
    let d := (List.range n).flatMap (fun j => (s.hubPeek (s.ringEntry k (x + w32 j)) 2048).getD [])
    let s := (List.range n).foldl (fun s j => s.hubNote (s.ringEntry k (x + w32 j)) 2048) s
    (s.hubPokeW (s.ringBase k + 4) (x + w32 n)).transmit port { raw := true, bytes := (d.drop 8).take len }

/-! ### VSF frames (R43) -/

/-- A VSF frame to the device: TYPE (1 DATA, 4 RACK, 5 CLOSE), HANDLE, SEQ, words 3 and 4, payload. -/
structure Vsf where
  typ : Nat
  handle : Word
  seq : Word
  w3 : Word
  w4 : Word
  payload : List Byte
  deriving DecidableEq, Repr, Inhabited

/-- Reads a VSF frame; none where it is malformed in itself (R43). -/
def vsfOf (bs : List Byte) : Option Vsf :=
  let w := wordsOf 5 bs
  let typ := fld (wd w 0) 19 16
  let hdr := if typ = 1 then 5 else 4
  let w3 := wd w 3
  let v : Vsf := ⟨typ, wd w 1, wd w 2, w3, wd w 4, bs.drop (4 * hdr)⟩
  if bs.length < 4 * hdr ∨ fld (wd w 0) 31 20 ≠ 0xA61 ∨ fld (wd w 0) 15 8 ≠ 0 ∨ fld (wd w 0) 7 0 ≠ hdr then none
  else if typ = 1 then
    if fld w3 31 30 = 3 ∨ fld w3 29 28 = 3 ∨ fld w3 15 0 = 0 ∨
       v.payload.length ≠ fld w3 15 0 * (if fld w3 31 30 = 0 then 2 else 1) then none else some v
  else if typ = 4 then (if fld w3 15 0 ≠ 0 then none else some v)
  else if typ = 5 then (if w3 ≠ 0 then none else some v)
  else none

/-- Samples of a chunk of context `i` at a source rate. -/
def State.chunkLen (s : State) (i hz : Nat) : Nat := msPeriod (s.mslot (cxModel (s.sctx i))) * hz / 1000000

/-- Whether a DATA frame does not fit its stream (R43): past the chunk's end, a mark past its last frame, or another FORMAT or RATE than the
fragments of the chunk already present. -/
def State.vsfMisfit (s : State) (i : Nat) (v : Vsf) : Bool :=
  decide (s.chunkLen i (rateHz (fld v.w3 29 28)) < v.w4.toNat + fld v.w3 15 0) ||
  (flag v.w3 24 && decide (msFrames (s.mslot (cxModel (s.sctx i))) ≤ fld v.w3 23 16)) ||
  (match (s.strm i).cur with
    | some c => c.seq == v.seq && (c.format != fld v.w3 31 30 || c.rate != fld v.w3 29 28)
    | none => false)

/-! ### Tokens and the hold pool (R47) -/

/-- The bucket of a stream at a time: its level and the 1/256 µs beyond it. (DEDUCED, log entry 38) -/
def State.tokensAt (s : State) (i t : Nat) : Nat × Nat :=
  let w := s.sctx i
  let x := s.strm i
  let cap := 2 * msPeriod (s.mslot (cxModel w))
  let add := (t - x.tokAt) * cxRate w + x.tokFrac
  let l := (wd w 10).toNat + add / 256
  if cap ≤ l then (cap, 0) else (l, add % 256)

/-- Brings TOKENS up to date and takes `n` from it. -/
def State.spend (s : State) (i n : Nat) : State :=
  let l := s.tokensAt i s.now
  (s.modSctx i (fun w => w.set 10 (w32 (l.1 - n)))).modStrm i (fun x => { x with tokAt := s.now, tokFrac := l.2 })

/-- The slots of the hold pool that are free, ascending. -/
def State.freeHold (s : State) : List Nat :=
  let used := s.fe.hold.flatMap Held.slots
  (List.range (fld (s.reg Reg.feHoldSize) 15 0)).filter (fun k => !(used.contains k))

/-- The bytes of 16-bit samples. -/
def pcmBytes (xs : List Int) : List Byte := xs.flatMap (fun v => natLe 2 (v % 65536).toNat)

/-- The chunks of a stream in hold, oldest first. -/
def State.heldOf (s : State) (i : Nat) : List Held := s.fe.hold.filter (fun h => h.ctx == i)

/-- Removes the oldest held chunk of a stream. -/
def dropHeld (i : Nat) : List Held → List Held
  | [] => []
  | h :: r => if h.ctx = i then r else h :: dropHeld i r

/-! ### Refusal and acceptance (R42, R47-R52, R70, R74) -/

/-- The sequence that the ACK of a chunk carries: its own, or ACCEPT_SEQ for an RTP chunk (R47). -/
def State.ackSeq (s : State) (i : Nat) (seq : Word) : Word := if cxSrc (s.sctx i) = 0 then cxAccept (s.sctx i) else seq

/-- Refuses a chunk: the counter, REFUSED, and the ACK. (DEDUCED, log entry 39) -/
def State.refuse (s : State) (i : Nat) (seq : Word) (peer : Peer) (status counter : Nat) : State :=
  let w := s.sctx i
  let n := fld (wd w 9) 15 0
  let s' := (s.bump counter).putSctx i (putFld w 9 15 0 (min 0xFFFF (n + 1)))
  s'.sendAck (s'.ackPeer i peer) (cxHandle w i) (s.ackSeq i seq) status

/-- Whether a chunk that comes now lies at or after the close sequence of its stream, or comes after the close of an RTP stream (R46, R70). -/
def State.pastClose (s : State) (i : Nat) (seq : Word) : Bool :=
  let x := s.strm i
  cxState (s.sctx i) == 2 && (if cxSrc (s.sctx i) = 0 then x.rtpClosing else
    match x.closeSeq with
    | some c => !(precedes seq c)
    | none => false)

/-- The class in force after a chunk (R42): the one it claims, limited to PRIO_CEIL, or the one before it. -/
def chunkPrio (w : List Word) (c : Chunk) : Nat :=
  match c.prio with
  | some p => max p (cxCeil w)
  | none => cxPrio w

/-- The journal entry of a chunk (R51). -/
def State.journalWords (s : State) (w : List Word) (c : Chunk) : List Word :=
  let mark := match c.marks.max? with
    | some f => 2 ^ 31 + f % 128 * 2 ^ 24
    | none => 0
  [cxAccept w, s.logTime, w32 (mark + chunkPrio w c * 2 ^ 22 + c.concealed % 65536), s.logTime + wd w 7]

/-- Writes chunk ACCEPT_SEQ into the ring and the journal and raises ACCEPT_SEQ (R48, R50); a failed walk aborts the stream (R339). -/
def State.acceptWrite (s : State) (i : Nat) (c : Chunk) : State :=
  let w := s.sctx i
  let m := s.mslot (cxModel w)
  let ctx := s.slotCtx (cxModel w)
  let ring := ringAddr m i (cxAccept w)
  let pcm := (pcmBytes c.samples).take (wd m 3).toNat
  let jour := journalAddr m i (cxAccept w)
  let s := (s.hubXlate ctx ring pcm.length).hubXlate ctx jour 16
  match s.vwrite s.hub.tlb ctx ring pcm with
  | .error _ => s.hubFail i ctx ring pcm.length true
  | .ok s1 =>
    match s1.vwrite s1.hub.tlb ctx jour (bytesOf (s.journalWords w c)) with
    | .error _ => s.hubFail i ctx jour 16 true
    | .ok s2 =>
      let dropped := c.marks.length - 1
      let w' := (putFld (putFld w 0 11 10 (chunkPrio w c)) 9 31 16 (min 0xFFFF (fld (wd w 9) 31 16 + dropped))).set 2 (cxAccept w + 1)
      let s3 := (s2.putSctx i w').bump Reg.logCntMerged dropped
      s3.modStrm i (fun x => { x with acks := x.acks ++ [(cxAccept w, s3.ackPeer i c.peer)], peer := c.peer })

/-- Whether acceptance is refused before policing: ACCEPT_EN is 0 (R77), or the stream is on its way to another device (R371). -/
def State.acceptShut (s : State) (i : Nat) : Bool := !(flag (s.reg Reg.logCtrl) 1) || (s.strm i).migrating

/-- Takes a chunk on to acceptance (R50, R52, R70, R74). A held chunk of an RTP stream comes before its close sequence (R46). -/
def State.acceptChunk (s : State) (i : Nat) (c : Chunk) : State :=
  let w := s.sctx i
  if cxState w = 3 then s.refuse i c.seq c.peer 5 Reg.feCntStale
  else if cxSrc w ≠ 0 ∧ s.pastClose i c.seq then s.refuse i c.seq c.peer 6 Reg.feCntStale
  else if cxSrc w ≠ 0 ∧ c.seq ≠ cxAccept w then s.refuse i c.seq c.peer 2 Reg.feCntRefusedGap
  else if s.acceptShut i || cxAccept w - cxCommit w == 8 then s.refuse i c.seq c.peer 3 Reg.feCntRefusedFull
  else s.acceptWrite i c

/-- Puts a chunk into the hold pool, or refuses it when too few slots are free (R47). (DEDUCED, log entry 38) -/
def State.holdChunk (s : State) (i : Nat) (c : Chunk) : State :=
  let m := s.mslot (cxModel (s.sctx i))
  let need := ceilDiv (wd m 3).toNat 4096
  let free := s.freeHold
  if free.length < need then s.refuse i c.seq c.peer 1 Reg.feCntRefusedRate
  else
    let slots := free.take need
    let data := cutList 4096 need (pcmBytes c.samples)
    let s := (slots.zip data).foldl (fun s p => s.hubPoke (s.reg2 Reg.feHoldBaseLo + 4096 * p.1) p.2) s
    ({ s with fe := { s.fe with hold := s.fe.hold ++ [(⟨i, c, slots, s.now⟩ : Held)] } }).bump Reg.feCntHeld

/-- Records the Ethernet port on which a chunk of a stream arrived (R67). -/
def State.arrived (s : State) (i : Nat) (p : Peer) : State := if p.loc then s else s.modStrm i (fun x => { x with eport := p.eport })

/-- A complete chunk (R47): refused, held behind held chunks, accepted for its tokens, or held. -/
def State.chunkComplete (s : State) (i : Nat) (c : Chunk) : State :=
  let s := s.arrived i c.peer
  let w := s.sctx i
  let p := msPeriod (s.mslot (cxModel w))
  if cxState w = 3 then s.refuse i c.seq c.peer 5 Reg.feCntStale
  else if s.pastClose i c.seq then s.refuse i c.seq c.peer 6 Reg.feCntStale
  else if s.acceptShut i then s.refuse i c.seq c.peer 3 Reg.feCntRefusedFull
  else if (s.heldOf i).isEmpty && decide (p ≤ (s.tokensAt i s.now).1) then (s.spend i p).acceptChunk i c
  else s.holdChunk i c

/-- The close of an RTP stream takes effect once no chunk of it is held (R46). -/
def State.rtpCloseCheck (s : State) (i : Nat) : State :=
  let x := s.strm i
  if x.rtpClosing && x.closeSeq.isNone && (s.heldOf i).isEmpty then
    (s.putStrm i { x with closeSeq := some (cxAccept (s.sctx i)) }).closeSettle i
  else s

/-- A chunk has left the hold: a close that waited for it takes effect, and the stream may be over (R46, R70). -/
def State.afterHold (s : State) (i : Nat) : State := (s.rtpCloseCheck i).closeSettle i

/-- HELD_CHUNK_RELEASE (R47): tokens for the oldest held chunk of a stream came within 4 chunk periods of the start of its hold. (DEDUCED, log entry 38) -/
def State.doHeldChunkRelease (s : State) (i : Nat) : State :=
  match s.heldOf i with
  | [] => s
  | h :: _ =>
    let p := msPeriod (s.mslot (cxModel (s.sctx i)))
    if p ≤ (s.tokensAt i (min s.now (h.start + 4 * p))).1 then
      let s := s.spend i p
      (({ s with fe := { s.fe with hold := dropHeld i s.fe.hold } } : State).acceptChunk i h.chunk).afterHold i
    else s

/-- HOLD_TIMEOUT (R47): the oldest held chunk of a stream is refused; of a VSF stream, all those behind it too. (DEDUCED, log entry 38) -/
def State.doHoldTimeout (s : State) (i : Nat) : State :=
  match s.heldOf i with
  | [] => s
  | h :: rest =>
    let p := msPeriod (s.mslot (cxModel (s.sctx i)))
    if h.start + 4 * p ≤ s.now ∧ (s.tokensAt i (h.start + 4 * p)).1 < p then
      let vsf := cxSrc (s.sctx i) != 0
      let hold := if vsf then s.fe.hold.filter (fun h => decide (h.ctx ≠ i)) else dropHeld i s.fe.hold
      let s1 := ({ s with fe := { s.fe with hold := hold } } : State).refuse i h.chunk.seq h.chunk.peer 1 Reg.feCntRefusedRate
      let s2 := if vsf then rest.foldl (fun s h => s.refuse i h.chunk.seq h.chunk.peer 2 Reg.feCntRefusedGap) s1 else s1
      s2.afterHold i
    else s

/-- CHUNK_ACCEPTED (R49): the acknowledgement of the oldest accepted chunk that awaits one is sent. -/
def State.doChunkAccepted (s : State) (i : Nat) : State :=
  match (s.strm i).acks with
  | [] => s
  | (q, p) :: r => ((s.modStrm i (fun x => { x with acks := r })).sendAck p (cxHandle (s.sctx i) i) q 0).closeSettle i

/-- Converts the samples of a chunk (R45): the output, and the stream with its rate and history. -/
def Stream.convertChunk (x : Stream) (src dst : Nat) (xs : List Int) : List Int × Stream :=
  let r := convert src dst (if x.rate = some src then x.hist else []) xs
  (r.1, { x with rate := some src, hist := r.2 })

/-! ### RTP (R41, R42, R46) -/

/-- The RTP clock rate of a stream, fixed at admission (R388). -/
def Binding.hz (b : Binding) : Nat := if b.pt = 0 then 8000 else rateHz b.l16rate

/-- Elements of the one-byte form (RFC 8285), as (ID, data): a zero byte is padding; ID 15, and ID 0 with a length, end the extension. -/
def elems1 : (fuel : Nat) → List Byte → List (Nat × List Byte)
  | 0, _ => []
  | _ + 1, [] => []
  | fuel + 1, b :: r =>
    if b = 0 then elems1 fuel r
    else if b.toNat / 16 = 0 ∨ b.toNat / 16 = 15 ∨ r.length < b.toNat % 16 + 1 then []
    else (b.toNat / 16, r.take (b.toNat % 16 + 1)) :: elems1 fuel (r.drop (b.toNat % 16 + 1))

/-- Elements of the two-byte form (RFC 8285), as (ID, data). -/
def elems2 : (fuel : Nat) → List Byte → List (Nat × List Byte)
  | 0, _ => []
  | fuel + 1, bs =>
    match bs with
    | [] => []
    | b :: r =>
      if b = 0 then elems2 fuel r
      else match r with
        | [] => []
        | n :: d => if d.length < n.toNat then [] else (b.toNat, d.take n.toNat) :: elems2 fuel (d.drop n.toNat)

/-- What the front end reads of an RTP packet: sequence number, timestamp, payload type, header-extension elements, payload. -/
structure Rtp where
  seqNo : Nat
  ts : Word
  pt : Nat
  elems : List (Nat × List Byte)
  payload : List Byte
  deriving DecidableEq, Repr, Inhabited

/-- Reads an RTP packet (RFC 3550): CSRC list, extension and padding; none where they do not fit the packet. (DEDUCED, log entry 37) -/
def rtpOf (bs : List Byte) : Option Rtp :=
  let b (k : Nat) : Nat := (bs.getD k 0).toNat
  let h := 12 + 4 * (b 0 % 16)
  let x := b 0 / 16 % 2 = 1
  let n := if x then 4 + 4 * beNat ((bs.drop (h + 2)).take 2) else 0
  let pad := if b 0 / 32 % 2 = 1 then b (bs.length - 1) else 0
  let profile := beNat ((bs.drop h).take 2)
  let ext := (bs.drop (h + 4)).take (n - 4)
  if bs.length < h + n + pad ∨ (x ∧ bs.length < h + 4) ∨ (b 0 / 32 % 2 = 1 ∧ pad = 0) then none
  else some
    { seqNo := b 2 * 256 + b 3, ts := w32 (beNat ((bs.drop 4).take 4)), pt := b 1 % 128
      elems := if !x then [] else if profile = 0xBEDE then elems1 ext.length ext else if profile / 16 = 0x100 then elems2 ext.length ext else []
      payload := (bs.drop (h + n)).take (bs.length - h - n - pad) }

/-- The device element of a packet (R42), where it has the right length and no reserved bit set. -/
def Rtp.device (p : Rtp) (ext : Nat) : Option (List Byte) :=
  if ext = 0 then none
  else match p.elems.find? (fun e => e.1 == ext) with
    | some (_, [a, b, c]) => if a.toNat % 16 = 0 then some [a, b, c] else none
    | _ => none

/-- Closes the open chunk of an RTP stream (R46): missing samples are zero, and the next chunk follows in the timeline. A mark's
frame is counted in whole samples per frame, rounded down. (DESIGN CHOICE, log entry 75) -/
def State.rtpCloseOpen (s : State) (i : Nat) : State :=
  let x := s.strm i
  let r := x.rtp
  let hz := x.bind.hz
  let m := s.mslot (cxModel (s.sctx i))
  let n := s.chunkLen i hz
  let e := r.start + n
  let mine := r.samples.filter (fun p => decide (p.1 < e))
  let xs := (List.range n).map (fun k => mgetD mine (r.start + k) 0)
  let lost := n - mine.length
  let per := msFrameUs m * hz / 1000000
  let c := x.convertChunk hz (rateHz (msRate m)) xs
  let marks := (r.marks.filter (fun p => decide (r.start ≤ p ∧ p < e))).map (fun p => min (msFrames m - 1) ((p - r.start) / per))
  let prio := ((r.prios.filter (fun p => decide (p.1 < e))).foldl (fun best p =>
    match best with
    | none => some p
    | some q => if q.1 ≤ p.1 then some p else some q) none).map Prod.snd <|> r.claim
  let r' : RtpLine := { r with
    start := e, samples := r.samples.filter (fun p => decide (e ≤ p.1)), marks := r.marks.filter (fun p => decide (e ≤ p))
    prios := r.prios.filter (fun p => decide (e ≤ p.1)), ends := r.ends.filter (fun p => decide (e < p.1)), claim := prio }
  ((s.putStrm i { c.2 with rtp := r' }).bump Reg.feCntConcealed lost).chunkComplete i
    { seq := 0, samples := c.1, marks := marks, prio := prio, concealed := lost, peer := r.peer }

/-- Whether every sample of the open chunk is present. -/
def State.rtpFull (s : State) (i : Nat) : Bool :=
  let x := s.strm i
  let n := s.chunkLen i x.bind.hz
  decide (0 < n) && decide ((x.rtp.samples.filter (fun p => decide (p.1 < x.rtp.start + n))).length = n)

/-- Closes open chunks while they are complete. -/
def State.rtpDrain : (fuel : Nat) → State → Nat → State
  | 0, s, _ => s
  | fuel + 1, s, i => if s.rtpFull i then State.rtpDrain fuel (s.rtpCloseOpen i) i else s

/-- The timeline with a packet placed at position `pos`, which may lie before the open chunk. (DEDUCED, log entry 37) -/
def RtpLine.place (r : RtpLine) (pos : Int) (xs : List Int) (dev : Option (List Byte)) (n now : Nat) : RtpLine :=
  let at_ (k : Nat) : Int := pos + k
  let samples := xs.zipIdx.foldl (fun m v =>
    let p := at_ v.2
    if p < r.start ∨ (mget m p.toNat).isSome then m else mput m p.toNat v.1) r.samples
  let mark : List Nat := match dev with
    | some [a, b, c] =>
      let p := at_ (b.toNat * 256 + c.toNat)
      if a.toNat / 128 = 1 ∧ (r.start : Int) ≤ p then [p.toNat] else []
    | _ => []
  let prio : List (Nat × Nat) := match dev with
    | some (a :: _) => if a.toNat / 64 % 2 = 1 then [((max pos r.start).toNat, a.toNat / 16 % 4)] else []
    | _ => []
  let e := at_ xs.length
  { r with
    samples := samples, marks := r.marks ++ mark, prios := r.prios ++ prio
    ends := if (r.start + n : Nat) < e then r.ends ++ [(e.toNat, now)] else r.ends }

/-- The signed distance of two timestamps. -/
def tsDiff (a b : Word) : Int := (a - b).toInt

/-- Counts the packets lost before a sequence number (R41). -/
def RtpLine.count (r : RtpLine) (q : Nat) : RtpLine :=
  match r.lastSeq with
  | none => { r with lastSeq := some q }
  | some l =>
    let d := (q + 65536 - l) % 65536
    if d = 0 ∨ 32768 ≤ d then r else { r with lastSeq := some q, lost := r.lost + (d - 1) }

/-- Places an RTP packet in the timeline of its stream (R46). (DEDUCED, log entry 37) -/
def State.rtpPlace (s : State) (i : Nat) (peer : Peer) (p : Rtp) : State :=
  let x := s.strm i
  let fmt := if p.pt = 0 then 1 else if p.pt = 8 then 2 else 0
  let xs := samplesOf true fmt p.payload
  let r0 := x.rtp.count p.seqNo
  let base := r0.base.getD p.ts
  let pos : Int := r0.start + tsDiff p.ts (base + w32 r0.start)
  if xs ≠ [] ∧ pos + xs.length ≤ r0.start then
    (s.putStrm i { x with rtp := { r0 with last := some s.now } }).bump Reg.feCntLatepkt
  else
    let r1 : RtpLine := { r0 with
      base := some base, peer := peer, last := some s.now, silent := false
      start := if r0.silent ∧ (r0.start : Int) ≤ pos then pos.toNat else r0.start }
    let n := s.chunkLen i x.bind.hz
    let r2 := r1.place pos xs (p.device x.bind.extId) n s.now
    State.rtpDrain (r2.samples.length + 1) (s.putStrm i { x with rtp := r2 }) i

/-- RTP_JITTER_CLOSE (R46): JITTER_US after the arrival of the first packet with samples beyond the open chunk. -/
def State.doRtpJitterClose (s : State) (i : Nat) : State :=
  let x := s.strm i
  let e := x.rtp.start + s.chunkLen i x.bind.hz
  match x.rtp.ends.find? (fun p => decide (e < p.1)) with
  | some p =>
    if p.2 + fld (s.reg Reg.feJitter) 15 0 ≤ s.now then State.rtpDrain (x.rtp.samples.length + 1) (s.rtpCloseOpen i) i else s
  | none => s

/-- RTP_SILENCE_CLOSE (R46): one chunk period and JITTER_US after the last packet; no chunk is open then until the next packet. (DEDUCED, log entry 37) -/
def State.doRtpSilenceClose (s : State) (i : Nat) : State :=
  let x := s.strm i
  let p := msPeriod (s.mslot (cxModel (s.sctx i)))
  match x.rtp.last with
  | some t =>
    if t + p + fld (s.reg Reg.feJitter) 15 0 ≤ s.now ∧ !x.rtp.silent then
      let s := if x.rtp.samples.any (fun q => decide (q.1 < x.rtp.start + s.chunkLen i x.bind.hz)) then s.rtpCloseOpen i else s
      s.modStrm i (fun x => { x with rtp := { x.rtp with silent := x.rtp.samples.isEmpty } })
    else s
  | none => s

/-- An RTP stream starts to close (R46, R70): an open chunk with samples closes at once, and the close sequence is the ACCEPT_SEQ after it. -/
def State.rtpStartClose (s : State) (i : Nat) : State :=
  let x := s.strm i
  let s := if x.rtp.samples.any (fun q => decide (q.1 < x.rtp.start + s.chunkLen i x.bind.hz)) then s.rtpCloseOpen i else s
  let s := s.modSctx i (fun w => if cxState w = 1 then putFld w 0 15 12 2 else w)
  (s.modStrm i (fun x => { x with rtp := {}, rtpClosing := true })).rtpCloseCheck i

/-- Held chunks at or after the close sequence of a VSF stream are refused with CLOSED (R70). -/
def State.refusePast (s : State) (i : Nat) (seq : Word) : State :=
  let past (h : Held) : Bool := h.ctx == i && !(precedes h.chunk.seq seq)
  let s' : State := { s with fe := { s.fe with hold := s.fe.hold.filter (fun h => !(past h)) } }
  (s.fe.hold.filter past).foldl (fun s h => s.refuse i h.chunk.seq h.chunk.peer 6 Reg.feCntStale) s'

/-- A stream that is OPEN starts to close (R70). -/
def State.beginClose (s : State) (i : Nat) (seq : Word) : State :=
  if cxSrc (s.sctx i) = 0 then s.rtpStartClose i else (s.refusePast i seq).startClose i seq

/-! ### Frames and datagrams (R14, R40, R405) -/

/-- Bytes in the receive buffer of a port. (DEDUCED, log entry 39) -/
def State.rxBytes (s : State) (p : Nat) : Nat := ((s.fe.rx.getD p []).map (fun f => f.1.bytes.length)).sum

/-- Whether the MAC of a port takes a frame (R405): FCS, size with the FCS, no PAUSE, and the address filter. -/
def State.macTakes (s : State) (p : Nat) (f : NetFrame) : Bool :=
  f.fcsOk && decide (64 ≤ f.bytes.length + 4 ∧ f.bytes.length + 4 ≤ 9216) && !f.pause &&
  (f.dstMac == s.portMac p || f.dstMac % 2 == 1)

/-- MAC_FRAME_RECEIVE (R405, R14). (DEDUCED, log entry 39) -/
def State.doMacFrameReceive (s : State) (p : Nat) (f : NetFrame) : State :=
  if s.fe.linkDown.getD p false || !(flag (s.reg Reg.feCtrl) (1 + p)) || !(s.macTakes p f) then s
  else if 262144 < s.rxBytes p + f.bytes.length then s.bump (Reg.feCntRxovfE0 + 4 * p)
  else { s with fe := { s.fe with rx := lmod s.fe.rx p (· ++ [(f, s.vsfPort)]) } }

/-- Whether a datagram comes from the source bound to a stream (R40, R388). -/
def Binding.from_ (b : Binding) (p : Nat) (d : Datagram) (anyPort : Bool) : Bool :=
  b.ports.testBit p && b.ipv6 == d.ipv6 && b.srcAddr == d.srcAddr && (anyPort || b.sport == 0 || b.sport == d.srcPort)

/-- The RTP stream that a datagram belongs to (R40). (DEDUCED, log entry 37) -/
def State.rtpMatch (s : State) (p : Nat) (d : Datagram) : Option Nat :=
  (mkeys s.fe.streams).find? (fun i =>
    let w := s.sctx i
    let b := (s.strm i).bind
    cxState w != 0 && cxSrc w == 0 && b.dport == d.dstPort && decide (12 ≤ d.payload.length) &&
    b.ssrc == w32 (beNat ((d.payload.drop 8).take 4)) && b.from_ p d false)

/-- Where a network datagram came from. -/
def peerOf (p : Nat) (d : Datagram) : Peer := { ipv6 := d.ipv6, addr := d.srcAddr, udp := d.srcPort, eport := p }

/-- Queues a matched datagram. -/
def State.pushItem (s : State) (p : Nat) (i : Item) : State := { s with fe := { s.fe with items := lmod s.fe.items p (· ++ [i]) } }

/-- Whether a DATA or CLOSE frame from the network comes from the source bound to its stream (R40). (DEDUCED, log entry 39) -/
def State.vsfBound (s : State) (p : Nat) (d : Datagram) (v : Vsf) : Bool :=
  let i := hIndex v.handle
  let src := cxSrc (s.sctx i)
  (if v.typ = 1 then src == 1 else src != 2) && (s.strm i).bind.from_ p d (src == 0)

/-- Takes a VSF datagram (R40, R43). -/
def State.parseVsf (s : State) (p : Nat) (f : NetFrame) (d : Datagram) : State :=
  match vsfOf d.payload with
  | none => s.bump Reg.feCntUnbound
  | some v =>
    if !(s.handleLive v.handle) && !(s.handleAborted v.handle) then
      (s.bump Reg.feCntStale).sendAck (peerOf p d) v.handle v.seq 4
    else if v.typ == 4 || s.vsfBound p d v then s.pushItem p (.vsf d)
    else s.toCluster p f.bytes

/-- Takes a datagram that is not VSF (R40, R41): RTP for a stream, or unbound. -/
def State.parseRtp (s : State) (p : Nat) (f : NetFrame) (d : Datagram) : State :=
  match s.rtpMatch p d with
  | none => s.toCluster p f.bytes
  | some i =>
    let b := (s.strm i).bind
    let pt := (d.payload.getD 1 0).toNat % 128
    if (d.payload.getD 0 0).toNat / 64 ≠ 2 then s.bump Reg.feCntUnbound
    else if if b.pt = 0 then pt = 0 ∨ pt = 8 else pt = b.pt then s.pushItem p (.rtp i f d)
    else s.toCluster p f.bytes

/-- FE_DATAGRAM_PARSE (R40): the oldest frame of a port. -/
def State.doFeDatagramParse (s : State) (p : Nat) : State :=
  match s.fe.rx.getD p [] with
  | [] => s
  | (f, port) :: r =>
    let s : State := { s with fe := { s.fe with rx := s.fe.rx.set p r } }
    match f.udp with
    | none => s.toCluster p f.bytes
    | some d =>
      if (if d.csumZero then d.ipv6 else !d.csumOk) then s.bump Reg.feCntBadcsum
      else if port ≠ 0 ∧ d.dstPort = port then s.parseVsf p f d
      else s.parseRtp p f d

/-- Takes the matched datagram at the head of a port's queue, when it is of the asked kind. -/
def State.takeItem (s : State) (p : Nat) : State := { s with fe := { s.fe with items := lmod s.fe.items p (·.drop 1) } }

/-- RTP_PACKET (R46): a packet whose stream has gone since is matched anew, and passes to the cluster where nothing matches it (R40); one whose parts do
not fit it is dropped, counted as malformed. -/
def State.doRtpPacket (s : State) (p : Nat) : State :=
  match s.fe.items.getD p [] with
  | .rtp i f d :: _ =>
    let s := s.takeItem p
    if s.rtpMatch p d ≠ some i then s.parseRtp p f d
    else match rtpOf d.payload with
      | none => s.bump Reg.feCntUnbound
      | some r => s.rtpPlace i (peerOf p d) r
  | _ => s

/-- The VSF frame of a type at the head of a port's queue. -/
def State.vsfItem (s : State) (p typ : Nat) : Option (Datagram × Vsf) :=
  match s.fe.items.getD p [] with
  | .vsf d :: _ => (vsfOf d.payload).bind (fun v => if v.typ = typ then some (d, v) else none)
  | _ => none

/-! ### DATA, RACK, CLOSE (R43, R52, R67, R69, R70, R74) -/

/-- The next expected sequence of a VSF stream (R52). -/
def State.nextExpected (s : State) (i : Nat) : Word :=
  match (s.heldOf i).getLast? with
  | some h => h.chunk.seq + 1
  | none => cxAccept (s.sctx i)

/-- Adds a fragment to the open chunk of a VSF stream; the chunk goes on when all of its samples are present (R43, R45). (DEDUCED, log entry 38) -/
def State.addFragment (s : State) (i : Nat) (peer : Peer) (v : Vsf) : State :=
  let x := s.strm i
  let rate := fld v.w3 29 28
  let fmt := fld v.w3 31 30
  let off := v.w4.toNat
  let new : OpenChunk := { seq := v.seq, format := fmt, rate := rate, samples := [], marks := [], prio := none, peer := peer }
  let cur := match x.cur with
    | some c => if c.seq = v.seq then c else new
    | none => new
  if cur.samples.any (fun p => decide (off ≤ p.1 ∧ p.1 < off + fld v.w3 15 0)) then s.bump Reg.feCntDup
  else
    let xs := samplesOf false fmt v.payload
    let c : OpenChunk := { cur with
      samples := cur.samples.filter (fun p => decide (p.1 < off)) ++ xs.zipIdx.map (fun p => (off + p.2, p.1)) ++
        cur.samples.filter (fun p => decide (off < p.1))
      marks := if flag v.w3 24 then cur.marks ++ [fld v.w3 23 16] else cur.marks
      prio := if flag v.w3 27 then some (fld v.w3 26 25) else cur.prio
      peer := peer }
    if c.samples.length < s.chunkLen i (rateHz rate) then s.putStrm i { x with cur := some c }
    else
      let m := s.mslot (cxModel (s.sctx i))
      let r := x.convertChunk (rateHz rate) (rateHz (msRate m)) (c.samples.map Prod.snd)
      (s.putStrm i { r.2 with cur := none }).chunkComplete i
        { seq := v.seq, samples := r.1, marks := c.marks, prio := c.prio, concealed := 0, peer := peer }

/-- A DATA frame of a stream, from the network or the local port (R40, R43, R52, R70, R74). (DEDUCED, log entry 39) -/
def State.takeData (s : State) (i : Nat) (peer : Peer) (v : Vsf) : State :=
  let w := s.sctx i
  let here := s.arrived i peer
  if s.vsfMisfit i v then s.bump Reg.feCntUnbound
  else if cxState w = 3 then here.refuse i v.seq peer 5 Reg.feCntStale
  else if s.pastClose i v.seq then here.refuse i v.seq peer 6 Reg.feCntStale
  else if precedes v.seq (cxAccept w) then (here.bump Reg.feCntDup).sendAck peer v.handle v.seq 0
  else if (s.heldOf i).any (fun h => h.chunk.seq == v.seq) then here.bump Reg.feCntDup
  else if v.seq ≠ s.nextExpected i then here.refuse i v.seq peer 2 Reg.feCntRefusedGap
  else s.addFragment i peer v

/-- A RACK of a stream from its result peer (R69): the results it covers are acknowledged. ESTALL is cleared only when no result left is at
the limit. (DESIGN CHOICE, log entry 76) -/
def State.takeRack (s : State) (i : Nat) (v : Vsf) : State :=
  let x := s.strm i
  let seg := fld v.w3 31 16
  let limit := fld (s.reg Reg.feRetx) 7 0
  let covered (r : ResultFrame) : Bool := precedes r.seq v.seq || (r.seq == v.seq && decide (r.segment ≤ seg))
  let left := x.unacked.filter (fun r => !(covered r))
  let clears := x.unacked.any (fun r => covered r && decide (limit ≤ r.rtx)) && left.all (fun r => decide (r.rtx < limit))
  let s := s.putStrm i { x with unacked := left }
  (if clears then s.modSctx i (fun w => putFld w 0 0 0 0) else s).closeSettle i

/-- A CLOSE frame of a stream (R70, R74). -/
def State.takeClose (s : State) (i : Nat) (v : Vsf) : State :=
  match cxState (s.sctx i) with
  | 3 => s.freeStream i
  | 2 => s.bump Reg.feCntDup
  | _ => s.beginClose i v.seq

/-- Whether the handle of a frame still names a context that takes frames; a handle that has died since the parse is refused (R40). -/
def State.vsfAlive (s : State) (v : Vsf) : Bool := s.handleLive v.handle || s.handleAborted v.handle

/-- VSF_DATA (R43): the DATA frame at the head of the queue of a port. -/
def State.doVsfData (s : State) (p : Nat) : State :=
  match s.vsfItem p 1 with
  | none => s
  | some (d, v) =>
    let s := s.takeItem p
    if s.vsfAlive v then s.takeData (hIndex v.handle) (peerOf p d) v else (s.bump Reg.feCntStale).sendAck (peerOf p d) v.handle v.seq 4

/-- VSF_RACK (R67, R69): the RACK frame at the head of the queue; one that is not from the result peer's address is dropped. -/
def State.doVsfRack (s : State) (p : Nat) : State :=
  match s.vsfItem p 4 with
  | none => s
  | some (d, v) =>
    let s := s.takeItem p
    let i := hIndex v.handle
    let r := s.resultPeer i
    if !(s.vsfAlive v) then (s.bump Reg.feCntStale).sendAck (peerOf p d) v.handle v.seq 4
    else if !r.loc && r.ipv6 == d.ipv6 && r.addr == d.srcAddr then s.takeRack i v
    else s.bump Reg.feCntUnbound

/-- VSF_CLOSE (R70, R74): the CLOSE frame at the head of the queue. -/
def State.doVsfClose (s : State) (p : Nat) : State :=
  match s.vsfItem p 5 with
  | none => s
  | some (d, v) =>
    let s := s.takeItem p
    if s.vsfAlive v then s.takeClose (hIndex v.handle) v else (s.bump Reg.feCntStale).sendAck (peerOf p d) v.handle v.seq 4

/-! ### The local port (R44) -/

/-- A VSF frame from the local injection ring. -/
def State.takeLocal (s : State) (v : Vsf) : State :=
  let i := hIndex v.handle
  let loc : Peer := { loc := true }
  if !(s.vsfAlive v) then (s.bump Reg.feCntStale).sendAck loc v.handle v.seq 4
  else if v.typ = 4 then (if cxEgress (s.sctx i) then s.takeRack i v else s.bump Reg.feCntUnbound)
  else if cxSrc (s.sctx i) ≠ 2 then s.bump Reg.feCntUnbound
  else if v.typ = 1 then s.takeData i loc v
  else s.takeClose i v

/-- LOCAL_FRAME_INJECT (R44): the front end takes the entry at the consumer index of ring 0. -/
def State.doLocalFrameInject (s : State) : State :=
  if !(flag (s.reg Reg.feCtrl) 3) || s.ringUsed 0 == 0 then s
  else
    let x := s.ringCons 0
    let a := s.ringEntry 0 x
    let len := fld (s.hubWord a) 15 0
    let bs := (s.hubPeek (a + 8) (min len 2040)).getD []
    let s' := (s.hubNote a (8 + min len 2040)).hubPokeW (s.ringBase 0 + 4) (x + 1)
    if 2040 < len ∨ fld (s.hubWord a) 31 16 ≠ 0 ∨ s.hubWord (a + 4) ≠ 0 then s'.bump Reg.feCntUnbound
    else match vsfOf bs with
      | none => s'.bump Reg.feCntUnbound
      | some v => s'.takeLocal v

/-- LOCAL_RESULT_RING_FREE (R44): the cluster writes the consumer index of ring 2, and waiting result frames go in. -/
def State.doLocalResultRingFree (s : State) (x : Word) : State :=
  let s := s.hubPokeW (s.ringBase 2 + 4) x
  State.drainLocal s.fe.localWait.length s

end Sys2Proof.Machine
end

