-- ==== Sys2Proof/Machine/Epian.lean ====
section
/-! DEFINITION. Epian (R384-R386), and its requests about the device and about jobs (R387, R389, R390, R394, R395, R445). -/

namespace Sys2Proof.Machine

/-! ### The checks of every request (R384-R387, R402) -/

/-- The operations of R387: OP, WORDS (0: fixed by its BYTES), mailboxes. (DEDUCED, log entry 53) -/
def epianTable : List (Nat × Nat × List Nat) :=
  [(0x01, 4, [0, 1, 2, 3]), (0x02, 5, [0, 1, 2, 3]), (0x03, 5, [0, 1, 3]), (0x10, 10, [0, 1]), (0x11, 10, [0, 1]), (0x12, 8, [0, 1]),
   (0x13, 5, [0, 1, 3]), (0x14, 7, [0, 1]), (0x20, 8, [0, 1]), (0x21, 5, [0, 1]), (0x22, 8, [0, 1]), (0x23, 9, [0, 1]), (0x30, 19, [0, 1])] ++
  [(0x31, 6, [0, 1]), (0x32, 5, [0, 1, 3]), (0x33, 5, [0, 1]), (0x38, 5, [0, 1]), (0x39, 7, [0, 1]), (0x3A, 6, [0, 1, 2]), (0x40, 8, [1, 3]),
   (0x41, 5, [1, 3]), (0x42, 5, [0, 1, 2, 3]), (0x43, 6, [1, 3]), (0x50, 0, [1, 3]), (0x51, 4, [1, 3]), (0x52, 4, [1, 3]),
   (0x60, 0, [0, 1, 2, 3])]

/-- The row of an operation. -/
def opRow (op : Nat) : Option (Nat × Nat × List Nat) := epianTable.find? (fun r => r.1 == op)

/-- OP of a request. -/
def reqOp (q : List Word) : Nat := fld (wd q 0) 15 8
/-- WORDS of a request. -/
def reqWords (q : List Word) : Nat := fld (wd q 0) 7 0
/-- JOB of a request. -/
def reqJob (q : List Word) : Nat := (wd q 2).toNat

/-- Whether the bytes after the last data byte of a message are 0: `n` data bytes from word `k` on. -/
def tailZero (q : List Word) (k n : Nat) : Bool := ((bytesOf (q.drop k)).drop n).take ((4 - n % 4) % 4) |>.all (· == 0)

/-- The length that a request must have; none for data outside its bounds (R384, R387). (DEDUCED, log entry 53) -/
def reqLength (q : List Word) : Option Nat :=
  match opRow (reqOp q) with
  | none => none
  | some (0x50, _, _) =>
    let n := (wd q 5).toNat
    if 1 ≤ n ∧ n ≤ 224 ∧ tailZero q 6 n then some (6 + ceilDiv n 4) else none
  | some (0x60, _, _) =>
    let n := fld (wd q 4) 15 0
    if n ≤ 236 ∧ fld (wd q 4) 30 16 = 0 ∧ tailZero q 5 n then some (5 + ceilDiv n 4) else none
  | some (_, n, _) => some n

/-- The bits of request words that no field takes: operation, word, bits (R387, R388). (DEDUCED, log entry 53) -/
def reqSpare : List (Nat × Nat × Word) :=
  [(0x03, 4, 0xFFFFFF00), (0x10, 4, 0x00C0FF00), (0x10, 7, 0xFFFFFF00), (0x10, 8, 0xFFFFFFFE), (0x11, 4, 0x1FFFFFFF), (0x12, 4, 0xFFFFFFFF),
   (0x13, 4, 0xFFFFFFFE), (0x14, 4, 0x7FFFFFFF), (0x20, 4, 0xFFFFFF00), (0x21, 4, 0xFFFFFF00), (0x22, 4, 0xFFFFFF00)] ++
  [(0x23, 5, 0xFFFF00C0), (0x30, 18, 0xFFFF0000), (0x38, 4, 0xFFFFFF00), (0x39, 5, 0xFFF00000), (0x3A, 5, 0xFFFFFFFE),
   (0x40, 4, 0x7FFFFFFF), (0x40, 7, 0xFFFF0000), (0x41, 4, 0x7FFFFFFF)]

/-- Whether those bits of a request are 0. -/
def reqClear (q : List Word) : Bool := reqSpare.all (fun r => r.1 != reqOp q || wd q r.2.1 &&& r.2.2 == 0)

/-- The operations served while the firmware does not serve all (R402). -/
def State.opServed (s : State) (op : Nat) : Bool :=
  match s.rst.mode with
  | .rom => [0x01, 0x50, 0x51].contains op
  | .recordFail => [0x01, 0x02, 0x50, 0x51, 0x60].contains op
  | _ => true

/-- Whether a channel is answered in the present mode (R402), and the firmware is free (R386). -/
def State.serves (s : State) (ch : Nat) : Bool :=
  s.pilot.serving.isNone && (s.chan ch).busy && decide (ch < 20) &&
  (match s.rst.mode with
    | .running => true
    | .recordFail => true
    | .rom => ch == 19
    | _ => false)

/-- Why a request is refused before it is looked at, if it is (R384, R385, R387, R402). (DEDUCED, log entry 53) -/
def State.reqError (s : State) (ch : Nat) (q : List Word) : Option Nat :=
  if fld (wd q 0) 31 20 ≠ 0xE91 ∨ fld (wd q 0) 19 16 ≠ 0 ∨ fld (wd q 1) 15 0 ≠ 0 ∨ wd q 3 ≠ 0 then some 1
  else match opRow (reqOp q) with
    | none => some 2
    | some (op, _, boxes) =>
      if !(s.opServed op) then some 6
      else if reqLength q ≠ some (reqWords q) ∨ reqClear q = false then some 1
      else if !(boxes.contains (mailboxOf ch)) then some 3
      else none

/-- Serves the request of a channel with `f`, when the channel waits for that operation. -/
def State.serve (s : State) (ch op : Nat) (f : List Word → State → State) : State :=
  let q := (s.chan ch).words
  if s.serves ch && reqOp q == op then
    match s.reqError ch q with
    | some e => s.deny ch e
    | none => f q s
  else s

/-- The job that a request names, of this channel (R386); `any`: mailbox 3 may name any job. -/
def State.withJob (s : State) (ch : Nat) (q : List Word) (any : Bool) (f : Job → State) : State :=
  match s.job (reqJob q) with
  | none => s.deny ch 5
  | some j => if j.ch ≠ ch ∧ !(any && mailboxOf ch == 3) then s.deny ch 4 else f j

/-- Whether a job has its context (R445). -/
def State.jobLive (s : State) (j : Job) : Bool := !j.ended && s.pilot.teardowns.all (fun t => t.job.id != j.id)

/-- The job of a request that needs the job's context (R445). -/
def State.withLive (s : State) (ch : Nat) (q : List Word) (f : Job → State) : State :=
  s.withJob ch q false (fun j => if s.jobLive j then f j else s.deny ch 6)

/-! ### The device (R387, R320, R322) -/

/-- HELLO (R387); on mailbox 2 its sender receives the events from now on (R383). -/
def State.helloBody (ch : Nat) (_ : List Word) (s : State) : State :=
  let s : State := if ch = 18 then { s with pilot := { s.pilot with mgmtSrc := some s.pilot.mgmtReq } } else s
  let r := s.ok ch [s.pilot.version, w32 (fld (s.declWord 0x00C) 7 0 * 256 + 1), s.reg (rhbKey 0 Reg.rhbDevid), s.pilot.change]
  if ch = 18 then r.flushMgmt 64 else r

/-- UNITMAP_READ (R387): up to 56 entries from the first asked for. -/
def State.unitmapBody (ch : Nat) (q : List Word) (s : State) : State :=
  s.ok ch ([w32 s.pilot.unitMap.length, s.pilot.change] ++ (s.pilot.unitMap.drop (wd q 4).toNat).take 56)

/-- COUNTS_READ (R322). -/
def State.countsBody (ch : Nat) (q : List Word) (s : State) : State := s.ok ch (s.countsOf (fld (wd q 4) 7 0))

/-! ### Spaces of jobs (R337, R387; the virtual addresses of the firmware's own areas are its choice, DESIGN CHOICE, log entry 16) -/

/-- PROG_BASE of every context. -/
abbrev progVa : Nat := 0xFFFFFFFF0000
/-- SAVE_BASE of a context with a save area. -/
abbrev saveVa : Nat := 0xFFFFC0000000
/-- LANDING_BASE of a context with a landing zone. -/
abbrev landVa : Nat := 0xFFFE00000000
/-- MAP_BASE of every context. -/
abbrev mapVa : Nat := 0xFF8000000000

/-- Maps fresh zeroed pages (R343) at the addresses of a list, or none when the partition has too few frames. -/
def State.mapFresh (s : State) (j : Job) (big w : Bool) : List Nat → Option State
  | [] => some s
  | va :: r =>
    match s.takeFrame j big with
    | none => none
    | some (pa, s) =>
      match s.mapPage j va pa big w with
      | none => none
      | some s => State.mapFresh s j big w r

/-- Addresses of the pages of a range. -/
def pagesOf (va n size : Nat) : List Nat := (List.range (ceilDiv n size)).map (fun k => va + size * k)

/-- The pages of the Facet map that hold the entries of a range of addresses (R226). -/
def mapPages (va n : Nat) : List Nat :=
  if n = 0 then [] else
  (List.range ((va + n - 1) / 2 ^ 26 - va / 2 ^ 26 + 1)).map (fun k => mapVa + 65536 * (va / 2 ^ 26 + k))

/-- Maps the pages of the Facet map for a range, where they are missing. -/
def State.mapFacet (s : State) (j : Job) (va n : Nat) : Option State :=
  s.mapFresh j false true ((mapPages va n).filter (fun a => !(s.mapped j.ctxId a)))

/-- The lowest FREE execution context (R299). -/
def State.freeCtx (s : State) : Option Nat := (List.range 4096).find? (fun c => ceState (s.cent c) == 0)

/-- The entry of a new job's context (R299). (DEDUCED, log entry 40) -/
def newEntry (j : Job) : List Word :=
  let lo (a : Nat) : Word := w32 a
  let hi (a : Nat) : Word := w32 (a / 2 ^ 32)
  let save := if j.save then saveVa else 0
  let land_ := if j.landing = 0 then 0 else landVa
  [w32 ((if j.direct then 1 else 2) * 2 ^ 28 + j.cls * 2 ^ 26 + b2n j.direct * 2 ^ 25 + j.part * 2 ^ 20 + j.ncores * 2 ^ 14 + j.client), 0, 0, 0,
   lo save, hi save, lo land_, hi land_, w32 j.landing, w32 j.id, lo progVa, hi progVa, lo mapVa, hi mapVa, 0, 0]

/-- Builds the space of a new job: its root, level-0 table, program table, save area and landing zone; none without enough frames. -/
def State.buildSpace (s : State) (j : Job) : Option State :=
  match s.takeFrame j false with
  | none => none
  | some (l0, s) =>
    let root := [w32 (2 ^ 31 + b2n j.mirror * 2 ^ 30 + j.part), w32 l0, w32 (l0 / 2 ^ 32), 0]
    let s := s.hubPoke (s.rootAddr j.ctxId) (bytesOf root)
    ((s.mapFresh j false true [progVa]).bind
      (fun s => if j.save then s.mapFresh j true true (pagesOf saveVa (545 * 2 ^ 20) (2 ^ 21)) else some s)).bind
      (fun s => s.mapFresh j false true (pagesOf landVa j.landing (2 ^ 16)))

/-- JOB_CREATE (R387, R414). -/
def State.jobCreateBody (ch : Nat) (q : List Word) (s : State) : State :=
  let w := wd q 4
  let key := fld (wd q 7) 7 0
  let j : Job :=
    { id := s.pilot.nextJob, ch := ch, ctxId := 0, direct := flag w 31, cls := fld w 30 29, mirror := flag w 28, part := fld w 27 24
      ncores := fld w 21 16, client := fld w 7 0, seed := BitVec.ofNat 64 (wd2 q 5), key := key, save := flag (wd q 8) 0
      landing := (wd q 9).toNat }
  if j.ncores = 0 ∨ 32 < j.ncores ∨ (j.landing ≠ 0 ∧ j.landing < 24576) then s.deny ch 1
  else if !(flag (s.grants ch) j.part && flag (s.grants ch) (16 + j.cls)) then s.deny ch 3
  else if key ≠ 0 ∧ !(s.keyLoaded key && mget s.pilot.keyBind key == some (ch, 0)) then s.deny ch 0x0F
  else match s.freeCtx with
    | none => s.deny ch 7
    | some c =>
      let j : Job := { j with ctxId := c }
      match s.buildSpace j with
      | none => s.deny ch 9
      | some s =>
        let s := (s.putCent c (newEntry j)).countCreate j.client
        let s : State := { s with pilot := { s.pilot with
          jobs := s.pilot.jobs ++ [j], nextJob := j.id + 1
          keyBind := if key = 0 then s.pilot.keyBind else mput s.pilot.keyBind key (ch, j.id) } }
        (s.revokeAll c).answer ch 0 (w32 j.id) [w32 c]

/-- Whether a physical range lies wholly in one region that the partner may read (R387, R332). (DEDUCED, log entry 52) -/
def State.partnerMay (s : State) (ch a n : Nat) : Bool :=
  let ag : PhysAgent := if mailboxOf ch = 0 then .app else .host
  s.physGrant ag a && s.regionOf a == s.regionOf (a + n - 1)

/-- Copies bytes read by physical address into mapped pages, page by page. -/
def State.fillPages (s : State) (ctx size : Nat) : List Nat → List Byte → State
  | [], _ => s
  | va :: r, bs =>
    match s.walk ctx va with
    | .ok p => (s.poke ctx p.pa (bs.take size)).fillPages ctx size r (bs.drop size)
    | .error _ => s

/-- JOB_MAP (R387). (DEDUCED, log entry 52) -/
def State.jobMapBody (ch : Nat) (q : List Word) (s : State) : State :=
  s.withLive ch q (fun j =>
    let big := flag (wd q 4) 31
    let copy := flag (wd q 4) 29
    let size := if big then 2 ^ 21 else 2 ^ 16
    let va := va48 q 5
    let n := (wd q 7).toNat
    let src := wd2 q 8
    if n = 0 ∨ va % size ≠ 0 ∨ n % size ≠ 0 ∨ 2 ^ 48 < va + n ∨ (!copy ∧ src ≠ 0) then s.deny ch 1
    else if copy && !(s.partnerMay ch src n) then s.deny ch 3
    else if (pagesOf va n (2 ^ 16)).any (s.mapped j.ctxId) then s.deny ch 6
    else if copy && !(s.readable src n) then s.deny ch 6
    else match (s.mapFresh j big (flag (wd q 4) 30) (pagesOf va n size)).bind (fun s => s.mapFacet j va n) with
      | none => s.deny ch 9
      | some t =>
        let t := if copy then (t.noteRead src n).fillPages j.ctxId size (pagesOf va n size) (s.readAs hubIdent src n) else t
        t.ok ch [])

/-- The mapped pages that a range touches, each once, as (address of its start, page). -/
def State.pagesIn (s : State) (ctx va n : Nat) : List (Nat × Page) :=
  ((pagesOf va n (2 ^ 16)).filterMap (fun a =>
    match s.walk ctx a with
    | .ok p => some ((if p.big then a / 2 ^ 21 * 2 ^ 21 else a), p)
    | .error _ => none)).dedup

/-- Unmaps pages, invalidates the range and sends the frames to the scrubber once that has completed (R343). (DEDUCED, log entry 52) -/
def State.releasePages (s : State) (ctx va n : Nat) (ps : List (Nat × Page)) : State :=
  let s := (ps.foldl (fun s p => s.unmapPage ctx p.1) s).invalidate
    { ctx := ctx, all := false, va := va / 2 ^ 16 * 2 ^ 16, n := ceilDiv (va % 2 ^ 16 + n) (2 ^ 16) }
  ps.foldl (fun s p =>
    match mget s.pilot.frames p.2.pa with
    | some u =>
      ({ s with pilot := { s.pilot with frames := mput s.pilot.frames p.2.pa { u with scrub := true } } } : State).fillAfter ctx
        { pa := p.2.pa, big := p.2.big, kv := false, pool := 0, frame := 0 }
    | none => s) s

/-- JOB_UNMAP (R387). (DEDUCED, log entry 52) -/
def State.jobUnmapBody (ch : Nat) (q : List Word) (s : State) : State :=
  s.withLive ch q (fun j =>
    let va := va48 q 5
    let n := (wd q 7).toNat
    if n = 0 ∨ va % 2 ^ 16 ≠ 0 ∨ n % 2 ^ 16 ≠ 0 then s.deny ch 1
    else
      let ps := s.pagesIn j.ctxId va n
      if ps.any (fun p => p.2.big && (decide (p.1 < va) || decide (va + n < p.1 + 2 ^ 21))) then s.deny ch 1
      else (s.releasePages j.ctxId va n ps).ok ch [])

/-- The stream contexts that a job holds. -/
def State.jobStreams (s : State) (job : Nat) : List Nat := (s.fe.streams.filter (fun e => e.2.bind.job == job)).map Prod.fst

/-- JOB_DESTROY (R387, R445): the teardown begins, streams are aborted and freed, slots are cleared, and the job is gone. -/
def State.jobDestroyBody (ch : Nat) (q : List Word) (s : State) : State :=
  s.withJob ch q true (fun j =>
    if !(flag (wd q 4) 0) && (s.jobStreams j.id).any (fun i => cxLive (s.sctx i)) then s.deny ch 6
    else
      let s := s.startTeardown j true 0 0
      let s := (s.jobStreams j.id).foldl (fun s i => (s.abortStream i).freeStream i) s
      let s := (s.slotsOf j.id).foldl (fun s m => s.putMslot m ((s.mslot m).set 14 0)) s
      let s : State := { s with pilot := { s.pilot with
        slots := s.pilot.slots.filter (fun e => e.2.job != j.id), jobs := s.pilot.jobs.filter (fun x => x.id != j.id) } }
      s.ok ch [])

/-- LIST_POST (R389). (DEDUCED, log entry 52) -/
def State.listPostBody (ch : Nat) (q : List Word) (s : State) : State :=
  s.withLive ch q (fun j =>
    let compat := flag (wd q 4) 31
    let va := va48 q 5
    if !j.direct || j.posted then s.deny ch 6
    else if compat && !(flag s.features 0) then s.deny ch 3
    else if va % 32 ≠ 0 then s.deny ch 1
    else ((s.modJob j.id (fun j => { j with posted := true, listVa := va, compat := compat })).doLogSchedSubmit j.ctxId).ok ch [])

/-! ### Power and partitions (R22, R390) -/

/-- Whether a domain named for power-off is in use (R390): a slice, a page, or an OPEN stream for domain 79. -/
def State.domUsed (s : State) (d : Nat) : Bool :=
  if d < 64 then !(s.coreIdle (d % 32))
  else if d < 72 then
    s.pilot.frames.any (fun f => (List.range ((if f.2.big then 2 ^ 21 else 2 ^ 16) / 4096)).any (fun g =>
      (s.copiesOf (f.1 + 4096 * g)).any (fun c => c.stack == d - 64)))
  else if d = 79 then s.openCtxs.any (fun i => cxState (s.sctx i) == 1)
  else false

/-- Asks for power transitions in the service of a channel, which is answered after the last (R390). -/
def State.powerFor (s : State) (ch : Nat) (on : Bool) (ds : List Nat) : State :=
  (({ s with pilot := { s.pilot with serving := some ch, powerAsk := some ch } }).askPower on ds).powerAnswer

/-- POWER_SET (R390): cores go on before their upper banks, and off after them. -/
def State.powerSetBody (ch : Nat) (q : List Word) (s : State) : State :=
  let mask := (wd q 5).toNat + 2 ^ 32 * (wd q 6).toNat + 2 ^ 64 * fld (wd q 7) 15 0
  let ds := setBits 80 mask
  if flag (wd q 4) 31 then s.powerFor ch true ds
  else if ds.any s.domUsed then s.deny ch 0x0A
  else s.powerFor ch false (ds.reverse)

/-- POWER_STANDBY (R22, R390). -/
def State.powerStandbyBody (ch : Nat) (q : List Word) (s : State) : State :=
  if flag (wd q 4) 31 then
    if !(s.pilot.jobs.isEmpty) then s.deny ch 6
    else
      ({ s with pilot := { s.pilot with standby := true, clusterRestart := none } }).powerFor ch false (List.range 80).reverse
  else if !s.pilot.standby then s.ok ch []
  else (({ s with pilot := { s.pilot with serving := some ch, powerAsk := some ch } }).startBringUp).powerAnswer

/-- PARTITION_QUERY (R387). -/
def State.partitionQueryBody (ch : Nat) (q : List Word) (s : State) : State :=
  let p := (wd q 4).toNat
  if 16 ≤ p then s.deny ch 1
  else
    let use := (s.usableCores p).foldl (fun (m : Word) n => m ||| bit32 n) 0
    let share := match setBits 32 (s.partCores p).toNat with
      | n :: _ => s.cReg n Reg.sxShare
      | [] => s.cfgWord (0x024 + 8 * p)
    s.ok ch [s.partCores p, use, share]

/-- PARTITION_SHARES (R390): the image is one of SX_SHARE, its reserved bits 0 (R214, R11). (DEDUCED, log entry 69) -/
def State.partitionSharesBody (ch : Nat) (q : List Word) (s : State) : State :=
  let p := (wd q 4).toNat
  let v := wd q 5
  if 16 ≤ p then s.deny ch 1
  else if flag s.features 2 then s.deny ch 3
  else if 16 < fld v 4 0 + fld v 12 8 + fld v 20 16 ∨ fld v 31 21 ≠ 0 ∨ fld v 15 13 ≠ 0 ∨ fld v 7 5 ≠ 0 then s.deny ch 1
  else ((setBits 32 (s.partCores p).toNat).foldl (fun s n => if s.domOn n then s.doSxShareWrite n v else s) s).ok ch []

/-- Where a firmware slot lies in the flash (R397). -/
def slotBase (k : Nat) : Nat := 0x100000 + 0x100000 * k

end Sys2Proof.Machine
end

