-- ==== Sys2Proof/Machine/Spdm.lean ====
section
/-! DEFINITION. The SPDM responder (R408, R410-R412) and key transfer (R413, R414). The message codes and layouts that the manual takes over from
DMTF DSP0274 are those of its version 1.3 (PRESUMED, log entry 17); what is computed with keys is opaque (DESIGN CHOICE, log entry 6). -/

namespace Sys2Proof.Machine

/-! ### Connections and sessions (R412) -/

/-- What the responder keeps of a channel. -/
def State.spdmOf (s : State) (ch : Nat) : SpdmConn := s.pilot.spdm.getD ch {}

/-- Changes it. -/
def State.modSpdm (s : State) (ch : Nat) (f : SpdmConn → SpdmConn) : State :=
  { s with pilot := { s.pilot with spdm := lmod s.pilot.spdm ch f } }

/-- Erases the key entries bound to a channel and to no job (R414). -/
def State.eraseUnbound (s : State) (ch : Nat) : State :=
  let ks := (s.pilot.keyBind.filter (fun e => e.2.1 == ch && e.2.2 == 0)).map Prod.fst
  ks.foldl (fun s k =>
    let s := s.doRhbKeyClear k
    { s with pilot := { s.pilot with keyBind := mdel s.pilot.keyBind k } }) s

/-- A session ends (R412): its secrets are zeroed, and unbound keys of its channel are erased (R414). -/
def State.closeSession (s : State) (ch : Nat) : State :=
  if (s.spdmOf ch).session.isNone then s else (s.modSpdm ch (fun c => { c with session := none })).eraseUnbound ch

/-- SESSION_HEARTBEAT_TIMEOUT: two HeartbeatPeriods of 60 s without a message end the session (R412). (DEDUCED, log entry 67) -/
def State.doSessionHeartbeatTimeout (s : State) (ch : Nat) : State :=
  match (s.spdmOf ch).session with
  | some x => if s.firmwareRuns && decide (x.last + 120000000 ≤ s.now) then s.closeSession ch else s
  | none => s

/-! ### Parts of messages -/

/-- Exactly `n` bytes: cut, or filled up with 0. -/
def fitLen (n : Nat) (bs : List Byte) : List Byte := (bs ++ List.replicate (n - bs.length) 0).take n

/-- Bytes computed with keys: a label and what they are computed over (DESIGN CHOICE, log entry 6). -/
def cryptoBytes (label n : Nat) (over_ : List Byte) : List Byte := fitLen n (bytesOf (Config.spdmCrypto label over_))

/-- A SHA-512 digest as 64 bytes. -/
def digest (bs : List Byte) : List Byte := fitLen 64 (bytesOf (Config.sha512 bs))

/-- A message of version 1.3: code, the two parameters, the rest. -/
def spdmMsg (code p1 p2 : Nat) (rest : List Byte) : List Byte := [0x13, BitVec.ofNat 8 code, BitVec.ofNat 8 p1, BitVec.ofNat 8 p2] ++ rest

/-- ERROR with its code and data. -/
def spdmErr (code : Nat) (data : Nat := 0) : List Byte := spdmMsg 0x7F code data []

/-- A byte of a message. -/
def byteAt (m : List Byte) (i : Nat) : Nat := (m.getD i 0).toNat

/-- A little-endian field of a message. -/
def fieldAt (m : List Byte) (i n : Nat) : Nat := leNat ((m.drop i).take n)

/-! ### The Manifest (R417) -/

/-- The value type and the value of a measurement index. -/
def State.measurement (s : State) (k : Nat) : Option (Nat × List Byte) :=
  match k with
  | 1 => some (0, fitLen 64 (bytesOf Config.romDigest))
  | 2 => some (1, digest (s.flashRead (slotBase s.pilot.activeSlot) 0x100000))
  | 3 => some (0x86, natLe 4 s.pilot.version.toNat)
  | 4 => some (3, digest s.pilot.config)
  | 5 => some (2, digest s.pilot.decl)
  | 6 => some (2, digest (bytesOf ([w32 s.pilot.unitMap.length, s.pilot.change] ++ s.pilot.unitMap)))
  | 7 => some (1, fitLen 64 (bytesOf s.pilot.loaderDigest))
  | 8 =>
    let f := s.features
    some (0x85, natLe 4 (b2n (flag f 1) + 2 * b2n (flag f 0) + 4 * b2n (flag f 3) + 256 * fld (s.declWord 0x00C) 7 0 +
      65536 * (if Config.steppingB0 then 0xB0 else 0xA1)))
  | 9 => some (4, digest (s.pilot.slots.flatMap (fun e => BitVec.ofNat 8 e.1 :: bytesOf e.2.digest)))
  | _ => none

/-- A measurement block in the DMTF specification. -/
def State.measBlock (s : State) (k : Nat) : List Byte :=
  match s.measurement k with
  | some (t, v) => [BitVec.ofNat 8 k, 1] ++ natLe 2 (v.length + 3) ++ [BitVec.ofNat 8 t] ++ natLe 2 v.length ++ v
  | none => []

/-- All measurement blocks. -/
def State.measAll (s : State) : List Byte := ((List.range 9).map (· + 1)).flatMap s.measBlock

/-! ### The requests (R411); each gives the state after it and the response -/

/-- GET_VERSION: version 1.3 alone; the connection starts anew. -/
def State.spdmVersion (s : State) (ch : Nat) (m : List Byte) : State × List Byte :=
  let r : List Byte := [0x10, 0x04, 0, 0, 0, 1, 0x00, 0x13]
  (s.modSpdm ch (fun c => { c with stage := 1, transcript := m ++ r, chunkReq := none, chunkRsp := none }), r)

/-- The capability flags of R411: CERT, CHAL, MEAS = 2, MEAS_FRESH, ENCRYPT, MAC, KEY_EX, HBEAT, KEY_UPD, CHUNK. -/
def capFlags : Nat := 2 ^ 1 + 2 ^ 2 + 2 * 2 ^ 3 + 2 ^ 5 + 2 ^ 6 + 2 ^ 7 + 2 ^ 9 + 2 ^ 13 + 2 ^ 14 + 2 ^ 17

/-- GET_CAPABILITIES, with the sizes of R410. The timing exponent is not stated in the manual. -/
def State.spdmCapabilities (s : State) (ch : Nat) (m : List Byte) : State × List Byte :=
  if (s.spdmOf ch).stage = 0 then (s, spdmErr 0x04)
  else
    let r := spdmMsg 0x61 0 0 ([0] ++ cryptoBytes 0 1 [] ++ [0, 0] ++ natLe 4 capFlags ++ natLe 4 236 ++ natLe 4 8192)
    (s.modSpdm ch (fun c => { c with stage := 2, transcript := c.transcript ++ m ++ r }), r)

/-- The algorithm structures of a NEGOTIATE_ALGORITHMS, as (type, supported). -/
def algStructs : (k : Nat) → List Byte → List (Nat × Nat)
  | 0, _ => []
  | k + 1, bs => (byteAt bs 0, fieldAt bs 2 2) :: algStructs k (bs.drop (4 + 4 * (byteAt bs 1 % 16)))

/-- Whether a request offers the algorithms of R411: RSASSA-PSS 4096, SHA-512, DMTF measurements, FFDHE4096, AES-256-GCM, the SPDM key schedule. -/
def algsOffered (m : List Byte) : Bool :=
  let xs := algStructs (byteAt m 2) (m.drop 32)
  let has (t b : Nat) : Bool := xs.any (fun x => x.1 == t && x.2.testBit b)
  byteAt m 6 % 2 == 1 && (fieldAt m 8 4).testBit 6 && (fieldAt m 12 4).testBit 2 && has 2 2 && has 3 1 && has 5 0

/-- NEGOTIATE_ALGORITHMS: the one selection of R411, or ERROR. -/
def State.spdmAlgorithms (s : State) (ch : Nat) (m : List Byte) : State × List Byte :=
  if (s.spdmOf ch).stage < 2 then (s, spdmErr 0x04)
  else if !(algsOffered m) then (s, spdmErr 0x01)
  else
    let r := spdmMsg 0x63 3 0 (natLe 2 48 ++ [1, 0] ++ natLe 4 8 ++ natLe 4 64 ++ natLe 4 4 ++ List.replicate 12 0 ++ [0, 0, 0, 0] ++
      ([2, 0x20, 4, 0, 3, 0x20, 2, 0, 5, 0x20, 1, 0] : List Byte))
    (s.modSpdm ch (fun c => { c with stage := 3, transcript := c.transcript ++ m ++ r }), r)

/-- Adds a request and its response to the transcript. -/
def State.spdmNote (s : State) (ch : Nat) (m r : List Byte) : State × List Byte :=
  (s.modSpdm ch (fun c => { c with transcript := c.transcript ++ m ++ r }), r)

/-- GET_DIGESTS: slot 0 alone holds a chain (R408). -/
def State.spdmDigests (s : State) (ch : Nat) (m : List Byte) : State × List Byte :=
  s.spdmNote ch m (spdmMsg 0x01 0 1 (digest Config.certChain))

/-- GET_CERTIFICATE: part of the chain of slot 0. -/
def State.spdmCertificate (s : State) (ch : Nat) (m : List Byte) : State × List Byte :=
  let off := fieldAt m 4 2
  let n := Config.certChain.length
  if byteAt m 2 ≠ 0 ∨ n < off then (s, spdmErr 0x01)
  else
    let part := (Config.certChain.drop off).take (min (fieldAt m 6 2) 8184)
    s.spdmNote ch m (spdmMsg 0x02 0 0 (natLe 2 part.length ++ natLe 2 (n - off - part.length) ++ part))

/-- CHALLENGE: slot 0, measurement summary of type All or none, and a signature over the transcript. -/
def State.spdmChallenge (s : State) (ch : Nat) (m : List Byte) : State × List Byte :=
  if byteAt m 2 ≠ 0 ∨ !(byteAt m 3 == 0xFF || byteAt m 3 == 0) then (s, spdmErr 0x01)
  else
    let t := (s.spdmOf ch).transcript ++ m
    let sum := if byteAt m 3 = 0xFF then digest s.measAll else []
    let r := spdmMsg 0x03 0 1 (digest Config.certChain ++ cryptoBytes 1 32 t ++ sum ++ [0, 0] ++ fitLen 8 (m.drop 36))
    s.spdmNote ch m (r ++ cryptoBytes 2 512 (t ++ r))

/-- GET_MEASUREMENTS: the number of indices, one block or all, signed on request (R417). -/
def State.spdmMeasurements (s : State) (ch : Nat) (m : List Byte) : State × List Byte :=
  let k := byteAt m 3
  let sig := byteAt m 2 % 2 = 1
  if 9 < k ∧ k ≠ 0xFF then (s, spdmErr 0x01)
  else
    let blocks := if k = 0 then [] else if k = 0xFF then s.measAll else s.measBlock k
    let t := (s.spdmOf ch).transcript ++ m
    let r := spdmMsg 0x60 (if k = 0 then 9 else 0) 0 ([BitVec.ofNat 8 (if k = 0 then 0 else if k = 0xFF then 9 else 1)] ++
      natLe 3 blocks.length ++ blocks ++ cryptoBytes 1 32 t ++ [0, 0] ++ fitLen 8 (m.drop (if sig then 37 else 4)))
    s.spdmNote ch m (if sig then r ++ cryptoBytes 3 512 (t ++ r) else r)

/-- KEY_EXCHANGE: a session of the channel ends, and a new one begins (R412). (DEDUCED, log entry 67) -/
def State.spdmKeyExchange (s : State) (ch : Nat) (m : List Byte) : State × List Byte :=
  if byteAt m 3 ≠ 0 ∨ !([0, 1, 0xFF].contains (byteAt m 2)) then (s, spdmErr 0x01)
  else
    let s := s.closeSession ch
    let k := (s.spdmOf ch).opened + 1
    let id := fieldAt m 4 2 + 65536 * (k % 65536)
    let t := (s.spdmOf ch).transcript ++ m
    let sum := if byteAt m 2 = 0 then [] else digest s.measAll
    let r := spdmMsg 0x64 60 0 (natLe 2 k ++ [0, 0] ++ cryptoBytes 1 32 t ++ cryptoBytes 4 512 t ++ sum ++ [0, 0])
    let r := r ++ cryptoBytes 5 512 (t ++ r)
    let r := r ++ cryptoBytes 6 64 (t ++ r)
    (s.modSpdm ch (fun c => { c with
      session := some { id := id, last := s.now }, opened := k, transcript := c.transcript ++ m ++ r }), r)

/-- FINISH: completes the session when its verification data holds. (DEDUCED, log entry 67) -/
def State.spdmFinish (s : State) (ch : Nat) (macOk : Bool) : State × List Byte :=
  if !macOk then (s, spdmErr 0x06)
  else (s.modSpdm ch (fun c => { c with session := c.session.map (fun x => { x with established := true }) }), spdmMsg 0x65 0 0 [])

/-- KEY_UPDATE: UpdateKey, UpdateAllKeys, VerifyNewKey. -/
def spdmKeyUpdate (m : List Byte) : List Byte :=
  if [1, 2, 3].contains (byteAt m 2) then spdmMsg 0x69 (byteAt m 2) (byteAt m 3) [] else spdmErr 0x01

/-! ### Key transfer (R413, R414) -/

/-- The response of a key transfer: OP, STATUS, INDEX, JOB, LOADED. -/
def keyAnswer (w : Word) (status : Nat) (job : Nat) (loaded : Bool) : List Byte :=
  bytesOf [setFld (w32 (0x4B * 2 ^ 24 + fld w 23 16 * 2 ^ 16 + fld w 7 0)) 15 8 status, w32 job, w32 (b2n loaded)]

/-- LOAD: the entry takes the key, and its nonce counter is 0 (R414). -/
def State.keyLoadMsg (s : State) (ch : Nat) (w : Word) (key : List Word) : State × Nat :=
  let k := fld w 7 0
  let low := decide (mailboxOf ch < 2)
  if (k = 0) = low then (s, 3)
  else if k ≠ 0 ∧ key.all (· == 0) then (s, 1)
  else if s.keyLoaded k then (s, 6)
  else
    let s := s.modRhb (fun r => { r with keys := mput r.keys k key, nctr := mput r.nctr k 0 })
    (if k = 0 then s else { s with pilot := { s.pilot with keyBind := mput s.pilot.keyBind k (ch, 0) } }, 0)

/-- CLEAR: erases an entry bound to this channel and to no job, or entry 0 (R414). -/
def State.keyClearMsg (s : State) (ch : Nat) (w : Word) : State × Nat :=
  let k := fld w 7 0
  if k = 0 then (if mailboxOf ch < 2 then (s, 4) else (s.doRhbKeyClear 0, 0))
  else match mget s.pilot.keyBind k with
    | some (c, job) =>
      if c ≠ ch then (s, 4)
      else if job ≠ 0 then (s, 6)
      else
        let s := s.doRhbKeyClear k
        ({ s with pilot := { s.pilot with keyBind := mdel s.pilot.keyBind k } }, 0)
    | none => (s, 4)

/-- A key-transfer message of the channel's session. -/
def State.keyTransfer (s : State) (ch : Nat) (m : List Byte) : State × List Byte :=
  let q := wordsOf 11 m
  let w := wd q 0
  let op := fld w 23 16
  let k := fld w 7 0
  let bad := decide (fld w 15 8 ≠ 0) || decide (wd q 1 ≠ 0) || decide (wd q 2 ≠ 0) || decide (m.length ≠ if op = 1 then 44 else 12)
  if bad ∨ op = 0 ∨ 3 < op then (s, keyAnswer w 1 0 false)
  else if op = 3 then (s, keyAnswer w 0 ((mget s.pilot.keyBind k).getD (0, 0)).2 (s.keyLoaded k))
  else
    let r := if op = 1 then s.keyLoadMsg ch w (q.drop 3) else s.keyClearMsg ch w
    (r.1, keyAnswer w r.2 0 false)

/-! ### Dispatch, large messages and framing (R410, R411) -/

/-- Whether a message is a key transfer: MAGIC, and no SPDM request code in its place. -/
def isKeyMsg (m : List Byte) : Bool := byteAt m 3 == 0x4B && decide (byteAt m 1 < 0x80)

/-- The response to a message that is not a chunk; `inSession`: it came as a secured message. -/
def State.spdmPlain (s : State) (ch : Nat) (inSession macOk : Bool) (m : List Byte) : State × List Byte :=
  let c := s.spdmOf ch
  let est := inSession && c.session.any SpdmSession.established
  let code := byteAt m 1
  if code = 0x84 then (if byteAt m 0 = 0x10 then s.spdmVersion ch m else (s, spdmErr 0x41))
  else if byteAt m 0 ≠ 0x13 then (s, spdmErr 0x41)
  else if code = 0xE1 then s.spdmCapabilities ch m
  else if code = 0xE3 then s.spdmAlgorithms ch m
  else if code = 0x81 ∨ code = 0x82 ∨ code = 0x83 ∨ code = 0xE0 ∨ code = 0xE4 then
    if c.stage < 3 then (s, spdmErr 0x04)
    else if code = 0x81 then s.spdmDigests ch m
    else if code = 0x82 then s.spdmCertificate ch m
    else if code = 0x83 then s.spdmChallenge ch m
    else if code = 0xE0 then s.spdmMeasurements ch m
    else if inSession then (s, spdmErr 0x04)
    else s.spdmKeyExchange ch m
  else if code = 0xE5 then (if inSession && !est then s.spdmFinish ch macOk else (s, spdmErr 0x04))
  else if code = 0xE8 then (if est then (s, spdmMsg 0x68 0 0 []) else (s, spdmErr 0x04))
  else if code = 0xE9 then (if est then (s, spdmKeyUpdate m) else (s, spdmErr 0x04))
  else if code = 0xEC then (if est then (s.closeSession ch, spdmMsg 0x6C 0 0 []) else (s, spdmErr 0x04))
  else (s, spdmErr 0x07 code)

/-- A response that does not fit one message is kept for CHUNK_GET, and ERROR LargeResponse names its handle (R410). (DEDUCED, log entry 67) -/
def State.spdmFit (s : State) (ch room : Nat) (r : List Byte) : State × List Byte :=
  if r.length ≤ room then (s, r)
  else (s.modSpdm ch (fun c => { c with chunkRsp := some (1, 0, r) }), spdmErr 0x0F ++ [1])

/-- CHUNK_SEND: a part of a large request; the last one is answered with the request's response. -/
def State.spdmChunkSend (s : State) (ch : Nat) (inSession macOk : Bool) (m : List Byte) : State × List Byte :=
  let h := byteAt m 3
  let q := fieldAt m 4 2
  let n := fieldAt m 8 4
  let last := byteAt m 2 % 2 = 1
  let ack (r : List Byte) : List Byte := spdmMsg 0x05 0 h (natLe 2 q ++ r)
  let st : Option (Nat × List Byte) := match q, (s.spdmOf ch).chunkReq with
    | 0, _ => some (fieldAt m 12 4, (m.drop 16).take n)
    | _ + 1, some (h0, q0, size, bs) => if h0 = h ∧ q0 = q then some (size, bs ++ (m.drop 12).take n) else none
    | _ + 1, none => none
  match st with
  | none => (s.modSpdm ch (fun c => { c with chunkReq := none }), spdmErr 0x01)
  | some (size, bs) =>
    if 8192 < size ∨ size < bs.length ∨ (last ∧ bs.length ≠ size) then (s.modSpdm ch (fun c => { c with chunkReq := none }), spdmErr 0x01)
    else if !last then (s.modSpdm ch (fun c => { c with chunkReq := some (h, q + 1, size, bs) }), ack [])
    else
      let r := (s.modSpdm ch (fun c => { c with chunkReq := none })).spdmPlain ch inSession macOk bs
      let r := r.1.spdmFit ch 230 r.2
      (r.1, ack r.2)

/-- CHUNK_GET: the next part of a large response. -/
def State.spdmChunkGet (s : State) (ch : Nat) (m : List Byte) : State × List Byte :=
  match (s.spdmOf ch).chunkRsp with
  | some (h, q, bs) =>
    if byteAt m 3 = h ∧ fieldAt m 4 2 = q then
      let size := if q = 0 then natLe 4 bs.length else []
      let part := bs.take (224 - size.length)
      let left := bs.drop part.length
      (s.modSpdm ch (fun c => { c with chunkRsp := if left.isEmpty then none else some (h, q + 1, left) }),
        spdmMsg 0x06 (b2n left.isEmpty) h (natLe 2 q ++ [0, 0] ++ natLe 4 part.length ++ size ++ part))
    else (s, spdmErr 0x01)
  | none => (s, spdmErr 0x04)

/-- The response to a message of a channel. -/
def State.spdmReply (s : State) (ch : Nat) (inSession macOk : Bool) (m : List Byte) : State × List Byte :=
  let room := if inSession then 232 else 236
  if m.length < 4 then (s, spdmErr 0x01)
  else if inSession && isKeyMsg m then
    (if (s.spdmOf ch).session.any SpdmSession.established then s.keyTransfer ch m else (s, spdmErr 0x04))
  else if byteAt m 1 = 0x85 then s.spdmChunkSend ch inSession macOk m
  else if byteAt m 1 = 0x86 then s.spdmChunkGet ch m
  else
    let r := s.spdmPlain ch inSession macOk m
    r.1.spdmFit ch room r.2

/-- The message of an SPDM request and whether it is secured (R410). -/
def spdmIn (q : List Word) : Bool × List Byte :=
  let bs := (bytesOf (q.drop 5)).take (fld (wd q 4) 15 0)
  (flag (wd q 4) 31, bs)

/-- A message as whole words. -/
def padWords (bs : List Byte) : List Word := wordsOf (ceilDiv bs.length 4) bs

/-- SPDM (R410): a plain message, or a secured one of the channel's session, whose number stands before it. -/
def State.spdmBody (macOk : Bool) (ch : Nat) (q : List Word) (s : State) : State :=
  let (sec, bs) := spdmIn q
  let out (s : State) (sec : Bool) (r : List Byte) : State := s.ok ch (w32 (b2n sec * 2 ^ 31 + r.length) :: padWords r)
  if !sec then
    let r := s.spdmReply ch false macOk bs
    out r.1 false r.2
  else
    match (s.spdmOf ch).session with
    | some x =>
      if fieldAt bs 0 4 = x.id then
        let s := s.modSpdm ch (fun c => { c with session := some { x with last := s.now } })
        let r := s.spdmReply ch true macOk (bs.drop 4)
        out r.1 true (bs.take 4 ++ r.2)
      else out s false (spdmErr 0x02)
    | none => out s false (spdmErr 0x02)

/-- The code of the SPDM request that waits in a channel: a request code, or 0x4B00 + OP for a key transfer. -/
def State.spdmKind (s : State) (ch : Nat) : Nat :=
  let (sec, bs) := spdmIn (s.chan ch).words
  let m := if sec then bs.drop 4 else bs
  if sec && isKeyMsg m then 0x4B00 + byteAt m 2 else byteAt m 1

/-- Serves the SPDM request of a channel when it is of the asked kind. -/
def State.serveSpdm (s : State) (ch kind : Nat) (macOk : Bool) : State :=
  if s.spdmKind ch = kind then s.serve ch 0x60 (State.spdmBody macOk ch) else s

end Sys2Proof.Machine
end

