-- ==== Sys2Proof/Machine/Models.lean ====
section
/-! DEFINITION. Model images (R391, R392), adapters (R257-R259) and shared prefixes (R387). -/

namespace Sys2Proof.Machine

/-! ### Model images (R391, R392) -/

/-- A section entry of an image: KIND, LINK, OFFSET, BYTES. -/
structure Sect where
  kind : Nat
  link : Nat
  off : Nat
  len : Nat
  deriving DecidableEq, Repr, Inhabited

/-- The header of an image. -/
def imgHdr (bs : List Byte) : List Word := wordsOf 64 bs

/-- The section table of an image. -/
def imgSects (bs : List Byte) : List Sect :=
  (List.range (wd (imgHdr bs) 29).toNat).map (fun k =>
    let w := wordsOf 4 (bs.drop (256 + 16 * k))
    ⟨fld (wd w 0) 31 28, fld (wd w 0) 7 0, (wd w 1).toNat, (wd w 2).toNat⟩)

/-- Whether the reserved fields of the header and of the section entries are 0, the bits above a 48-bit field among them, and their codes
are defined (R391, R443). (DEDUCED, log entry 53) -/
def imgReserved (bs : List Byte) : Bool :=
  let h := imgHdr bs
  let n := (wd h 29).toNat
  fld (wd h 0) 7 0 == 0 && fld (wd h 2) 31 24 == 0 && fld (wd h 3) 31 2 == 0 && fld (wd h 21) 31 16 == 0 && fld (wd h 26) 31 16 == 0 &&
  [9, 11, 13, 15, 17, 24].all (fun k => fld (wd h k) 31 16 == 0) && (h.drop 30).all (· == 0) && decide (1 ≤ n ∧ n ≤ 64) &&
  (List.range n).all (fun k =>
    let w := wordsOf 4 (bs.drop (256 + 16 * k))
    decide (fld (wd w 0) 31 28 ≤ 5) && fld (wd w 0) 27 8 == 0 && wd w 3 == 0 &&
    (if fld (wd w 0) 31 28 = 3 then decide (fld (wd w 0) 7 0 < n) else fld (wd w 0) 7 0 == 0))

/-- Whether every section and every offset lies within the image, and no two sections overlap (R391, R392). -/
def imgBounds (bs : List Byte) : Bool :=
  let h := imgHdr bs
  let n := bs.length
  let ss := imgSects bs
  let inside (off len : Nat) : Bool := decide (off + len ≤ n)
  decide (256 + 16 * ss.length ≤ n) && ss.all (fun x => x.off % 4096 == 0 && inside x.off x.len) &&
  (ss.zipIdx).all (fun x => (ss.zipIdx).all (fun y => x.2 == y.2 || !(overlap x.1.off x.1.len y.1.off y.1.len))) &&
  inside (wd h 18).toNat 256 && inside (wd h 19).toNat (wd h 4).toNat && inside (wd h 20).toNat (16 * fld (wd h 21) 15 0) &&
  inside (wd h 27).toNat 0 && inside (wd h 28).toNat 0

/-- Whether the slot's fields satisfy R38, and every pool ends within the space for every context index (R392). -/
def imgSlotOk (h : List Word) : Bool :=
  let size (k : Nat) : Bool := wd h k != 0 && (wd h k).toNat % 64 == 0
  let ends (k per : Nat) : Bool := decide (va48 h k + 65536 * per ≤ 2 ^ 48)
  decide (1 ≤ fld (wd h 2) 23 16 ∧ fld (wd h 2) 23 16 ≤ 64) && fld (wd h 3) 1 0 != 3 && size 4 && size 5 && size 6 &&
  ends 8 (2 * (wd h 4).toNat) && ends 10 (8 * (wd h 5).toNat) && ends 12 128 && ends 14 (16 * (wd h 6).toNat)

/-- Whether every page of a range is mapped, with write permission when asked. -/
def State.rangeMapped (s : State) (ctx va n : Nat) (wr : Bool) : Bool :=
  (pagesOf (va / 2 ^ 16 * 2 ^ 16) (va % 2 ^ 16 + n) (2 ^ 16)).all (fun a =>
    match s.walk ctx a with
    | .ok p => p.w || !wr
    | .error _ => false)

/-- The image that a MODEL_LOAD names, when it passes every check of step 1 of R392. -/
def State.image (s : State) (ctx va n : Nat) : Option (List Byte) :=
  if !(s.rangeMapped ctx va n false) then none
  else match s.ctxPeek ctx va n with
    | none => none
    | some bs =>
      let h := imgHdr bs
      let dir := va48 h 23
      if fld (wd h 0) 31 8 = 0x6D0101 ∧ (wd h 1).toNat = n ∧ va48 h 16 = va ∧ va % 65536 = 0 ∧ 256 ≤ n ∧ imgReserved bs ∧ imgBounds bs ∧
          imgSlotOk h ∧ (dir = 0 ∨ (dir % 64 = 0 ∧ s.rangeMapped ctx dir 128 true)) then some bs
      else none

/-- Writes the entries of every KIND 3 section into the Facet map (R226, R392 step 2). -/
def State.loadMap (s : State) (ctx va : Nat) (bs : List Byte) : State :=
  let ss := imgSects bs
  ss.foldl (fun s x =>
    if x.kind = 3 then
      let y := ss.getD x.link default
      let n := min (x.len / 4) (ceilDiv y.len 4096)
      s.ctxPoke ctx (mapVa + 4 * ((va + y.off) / 4096)) ((bs.drop x.off).take (4 * n))
    else s) s

/-- The words of a model slot from an image header (R38, R392 step 4). -/
def slotWords (h : List Word) (cap : Nat) : List Word :=
  [wd h 2, wd h 3, wd h 4, wd h 5, wd h 6, wd h 8, wd h 9, wd h 10, wd h 11, wd h 12, wd h 13, wd h 14, wd h 15, w32 cap, 1, 0]

/-- The slot that a MODEL_LOAD takes: the lowest free one for 0xFF, else the named one when it is free (R392). -/
def State.settleSlot (s : State) (slot : Nat) : Except Nat Nat :=
  if slot = 0xFF then
    match (List.range 256).find? (fun m => !(msValid (s.mslot m))) with
    | some m => .ok m
    | none => .error 7
  else if msValid (s.mslot slot) then .error 6 else .ok slot

/-- MODEL_LOAD (R392). -/
def State.modelLoadBody (ch : Nat) (q : List Word) (s : State) : State :=
  s.withLive ch q (fun j =>
    if j.direct then s.deny ch 6
    else match s.settleSlot (fld (wd q 4) 7 0) with
      | .error e => s.deny ch e
      | .ok m =>
        let va := va48 q 5
        match s.image j.ctxId va (wd q 7).toNat with
        | none => (if s.rangeMapped j.ctxId va (wd q 7).toNat false then s.ctxNote j.ctxId va (wd q 7).toNat else s).deny ch 0x0C
        | some bs =>
          let h := imgHdr bs
          let cap := (wd h 7).toNat * (s.usableCores j.part).length / 32
          let dir := va48 h 23
          let s := (s.ctxNote j.ctxId va bs.length).loadMap j.ctxId va bs
          let s := s.ctxPoke j.ctxId (progVa + 256 * m) ((bs.drop (wd h 18).toNat).take 256)
          let s := s.putMslot m (slotWords h cap)
          let s := if dir = 0 then s else
            s.ctxPoke j.ctxId dir (bytesOf ((w32 (0xAD000000 + m) :: List.replicate 15 0) ++ List.replicate 16 0))
          let r : SlotRec :=
            { job := j.id, imageVa := va, bytes := bs.length, digest := Config.sha512 bs, streamsFull := (wd h 7).toNat
              initOff := (wd h 19).toNat, adpGenOff := (wd h 22).toNat, adpDir := dir, kvRecOff := (wd h 25).toNat
              kvRecCount := if wd h 25 = 0xFFFFFFFF then 0 else fld (wd h 26) 15 0 }
          let s : State := { s with pilot := { s.pilot with slots := mput s.pilot.slots m r } }
          s.ok ch [w32 m, w32 cap])

/-- The slot that a request names, when it is VALID and belongs to the job. -/
def State.jobSlot (s : State) (j : Job) (m : Nat) : Option SlotRec :=
  (mget s.pilot.slots m).bind (fun r => if r.job = j.id && msValid (s.mslot m) then some r else none)

/-- MODEL_UNLOAD (R392): the slot and its program-table entries are cleared; the image's pages stay. -/
def State.modelUnloadBody (ch : Nat) (q : List Word) (s : State) : State :=
  s.withLive ch q (fun j =>
    let m := fld (wd q 4) 7 0
    match s.jobSlot j m with
    | none => s.deny ch 5
    | some _ =>
      if (mkeys s.fe.streams).any (fun i => cxState (s.sctx i) != 0 && cxModel (s.sctx i) == m) then s.deny ch 6
      else
        let s := (s.putMslot m ((s.mslot m).set 14 0)).ctxPoke j.ctxId (progVa + 256 * m) (List.replicate 256 0)
        ({ s with pilot := { s.pilot with slots := mdel s.pilot.slots m } }).ok ch [])

/-! ### Adapters (R257-R259) -/

/-- The entries of an adapter directory that are VALID. -/
def State.adpValid (s : State) (ctx dir e : Nat) : Bool := flag (s.ctxWord ctx (dir + 64 + 16 * e)) 31

/-- ADAPTER_PUBLISH (R257, R259): the entry is written with VALID = 0, then VALID is set; ACCEPT_SEQ of every live stream is recorded. -/
def State.adapterPublishBody (ch : Nat) (q : List Word) (s : State) : State :=
  s.withLive ch q (fun j =>
    let m := fld (wd q 4) 7 0
    match s.jobSlot j m with
    | none => s.deny ch 5
    | some r =>
      if r.adpDir = 0 then s.deny ch 6
      else match (List.range 4).find? (fun e => !(s.adpValid j.ctxId r.adpDir e)) with
        | none => s.deny ch 0x0B
        | some e =>
          let last := (r.adapters.getLast?.map AdapterRec.gen).getD 0
          let gen := if last = 65535 then 1 else last + 1
          let a := r.adpDir + 64 + 16 * e
          let base := va48 q 5
          let s := s.ctxPoke j.ctxId a (bytesOf [w32 gen, w32 base, w32 (base / 2 ^ 32), wd q 7])
          let s := s.ctxPoke j.ctxId a (bytesOf [w32 (2 ^ 31 + gen)])
          let seqs := (s.slotStreams m).foldl (fun l i => mput l (cxHandle (s.sctx i) i).toNat (cxAccept (s.sctx i))) []
          let old := r.adapters.map (fun a => if a.after.isNone then { a with after := some seqs } else a)
          let r' : SlotRec := { r with adapters := old ++ [{ gen := gen, base := base, bytes := (wd q 7).toNat }] }
          ({ s with pilot := { s.pilot with slots := mput s.pilot.slots m r' } }).ok ch [w32 gen])

/-- Whether a stream that lived at a publication no longer needs the generation before it (R259): it is FREE or has committed beyond. -/
def State.pastAdapter (s : State) (e : Nat × Word) : Bool :=
  let h := w32 e.1
  cxGen (s.sctx (hIndex h)) != hGen h || cxState (s.sctx (hIndex h)) == 0 || precedes e.2 (cxCommit (s.sctx (hIndex h)))

/-- ADAPTER_RECLAIM (R259): generation `gen` of a slot is cleared and its serving form's pages go to the scrubber, when every stream recorded at
the publication that followed it is past it. -/
def State.doAdapterReclaim (s : State) (m gen : Nat) : State :=
  match (mget s.pilot.slots m).bind (fun r => (r.adapters.find? (fun a => a.gen == gen)).bind (fun a => a.after.map (fun q => (r, a, q)))) with
  | none => s
  | some (r, a, q) =>
    if !(s.firmwareRuns && q.all s.pastAdapter) then s
    else
      let ctx := s.slotCtx m
      let s := (List.range 4).foldl (fun s e =>
        let va := r.adpDir + 64 + 16 * e
        let w := s.ctxWord ctx va
        if flag w 31 && fld w 15 0 == gen then (s.ctxNote ctx va 4).ctxPoke ctx va (bytesOf [w32 gen]) else s) s
      let s := s.releasePages ctx a.base a.bytes (s.pagesIn ctx (a.base / 2 ^ 16 * 2 ^ 16) (a.base % 2 ^ 16 + a.bytes))
      let r' : SlotRec := { r with adapters := r.adapters.filter (fun x => x.gen != gen) }
      { s with pilot := { s.pilot with slots := mput s.pilot.slots m r' } }

/-! ### Shared prefixes (R387) -/

/-- Bytes from one KV list record to the next: the record and its staging slot, each a multiple of 64 B (R275, R276, R391). -/
abbrev kvStride : Nat := 320 + 67584

/-- The address of record `k` of a stream's state version. -/
def kvRecord (w : List Word) (r : SlotRec) (i v k : Nat) : Nat := stateAddr w i v + r.kvRecOff + kvStride * k

/-- The words 0 to 71 of a list record after a prefix attach; BUDGET, PIN and PENDING are left unchanged. (DEDUCED, log entry 54) -/
def prefixRecord (w : List Word) (pool pages ptok : Nat) : List Word :=
  let open_ := if ptok = 256 * pages then pages else pages - 1
  let w := putFld (putFld w 0 31 26 pool) 0 16 0 ptok
  let w := putFld (putFld (putFld w 1 31 24 pages) 1 15 8 (ptok - 256 * open_)) 1 7 0 open_
  let v := 2 ^ pages - 1
  let w := (w.set 2 (wd w 2 ||| w32 v)).set 3 (wd w 3 ||| w32 (v / 2 ^ 32))
  (List.range pages).foldl (fun w j => w.set (8 + j) 0) w

/-- Attaches a frame of a pool at a page (R277): none where the request would be refused. -/
def State.attachPage (s : State) (p va pa : Nat) : Option State :=
  let e := s.pool p
  let f := (pa - poolBase e) / 65536
  if pa < poolBase e ∨ poolPages e ≤ f ∨ s.count p f = 0xFFFF then none
  else (s.setCount p f (s.count p f + 1)).kvMapTo (poolCtx e) va pa

/-- Attaches page `x % 64` of list `x / 64` for every number of a list. -/
def State.attachAll (s : State) (ctx i p base : Nat) : List Nat → Option State
  | [] => some s
  | x :: r =>
    match (s.kvMap ctx (base + 2 ^ 22 * (x / 64) + 65536 * (x % 64))).bind (s.attachPage p (kvPageVa i (x / 64) (x % 64))) with
    | none => none
    | some s => State.attachAll s ctx i p base r

/-- The stream that a request names at word `k`, when it belongs to the job. A message that names a dead handle is refused and no register counts it.
(DESIGN CHOICE, log entry 73) -/
def State.jobHandle (s : State) (j : Job) (h : Word) : Option Nat :=
  if (s.handleLive h || s.handleAborted h) && (s.strm (hIndex h)).bind.job == j.id then some (hIndex h) else none

/-- PREFIX_ATTACH (R387): the prefix's pages are mapped into every list, and both record images of every list are written. (DEDUCED, log entry 54) -/
def State.prefixAttachBody (ch : Nat) (q : List Word) (s : State) : State :=
  s.withLive ch q (fun j =>
    let pages := fld (wd q 5) 15 8
    let pool := fld (wd q 5) 5 0
    let base := va48 q 6
    let ptok := (wd q 8).toNat
    match s.jobHandle j (wd q 4) with
    | none => s.deny ch 5
    | some i =>
      let m := cxModel (s.sctx i)
      if pages = 0 ∨ 64 < pages ∨ base % 2 ^ 22 ≠ 0 ∨ ptok < 256 * (pages - 1) + 1 ∨ 256 * pages < ptok then s.deny ch 1
      else match mget s.pilot.slots m with
        | none => s.deny ch 6
        | some r =>
          if r.kvRecCount = 0 || cxAccept (s.sctx i) != 0 || !(cxLive (s.sctx i)) || !(s.poolOf pool j.ctxId) then s.deny ch 6
          else
            let xs := (List.range r.kvRecCount).flatMap (fun k => (List.range pages).map (fun p => 64 * k + p))
            match s.attachAll j.ctxId i pool base xs with
            | none => s.deny ch 6
            | some s =>
              let w := s.mslot m
              let s := (List.range (2 * r.kvRecCount)).foldl (fun s x =>
                let a := kvRecord w r i (x % 2) (x / 2)
                (s.ctxNote j.ctxId a 288).ctxPoke j.ctxId a (bytesOf (prefixRecord (s.ctxWords j.ctxId a 72) pool pages ptok))) s
              s.ok ch [])

end Sys2Proof.Machine
end

