-- ==== Sys2Proof/Machine/Streams.lean ====
section
/-! DEFINITION. Stream requests of Epian (R387, R388), stream migration (R370-R373) and the fabric manager's mailbox (R383, R416). -/

namespace Sys2Proof.Machine

/-! ### Pool pages and images of a stream (R39, R248, R258, R268, R388) -/

/-- The ranges of the pools that context index `i` uses (R39): state versions, ring slots, journal entries, result slots. -/
def poolRanges (w : List Word) (i : Nat) : List (Nat × Nat) :=
  [(stateAddr w i 0, 2 * (wd w 2).toNat), (va48 w 7 + 8 * i * (wd w 3).toNat, 8 * (wd w 3).toNat), (va48 w 9 + 128 * i, 128),
   (va48 w 11 + 16 * i * (wd w 4).toNat, 16 * (wd w 4).toNat)]

/-- The pages of 64 KiB that those ranges touch. -/
def poolPageVas (w : List Word) (i : Nat) : List Nat :=
  ((poolRanges w i).flatMap (fun r => pagesOf (r.1 / 2 ^ 16 * 2 ^ 16) (r.1 % 2 ^ 16 + r.2) (2 ^ 16))).dedup

/-- Maps the pool pages of a context index that are not mapped yet (R388). -/
def State.mapPools (s : State) (j : Job) (m i : Nat) : Option State :=
  s.mapFresh j false true ((poolPageVas (s.mslot m) i).filter (fun a => !(s.mapped j.ctxId a)))

/-- Whether a page of the state versions of a context index is mapped without write permission (R388). -/
def State.stateReadOnly (s : State) (j : Job) (m i : Nat) : Bool :=
  let w := s.mslot m
  let a := stateAddr w i 0
  (pagesOf (a / 2 ^ 16 * 2 ^ 16) (a % 2 ^ 16 + 2 * (wd w 2).toNat) (2 ^ 16)).any (fun va =>
    match s.walk j.ctxId va with
    | .ok p => !p.w
    | .error _ => false)

/-- Bytes with a run replaced. -/
def patch (bs : List Byte) (off : Nat) (d : List Byte) : List Byte := (bs.take off ++ d ++ bs.drop (off + d.length)).take bs.length

/-- Initialises the carried record of a quantisation point in a state image (R246, R248). -/
def patchCarried (bs : List Byte) (q : List Word) : List Byte :=
  if fld (wd q 0) 31 30 = 2 then
    patch bs (wd q 2).toNat (bytesOf ([0, 0] ++ List.replicate (fld (wd q 1) 31 16) (w32 (fld (wd q 0) 23 16))))
  else bs

/-- The initial-state image of a slot, with its carried records and ADP_GEN set (R248, R258, R268); none where the model image can no longer
be read. (DEDUCED, log entry 54) -/
def State.initImage (s : State) (j : Job) (r : SlotRec) (bytes : Nat) : Option (List Byte) :=
  match s.ctxPeek j.ctxId r.imageVa 256, s.ctxPeek j.ctxId (r.imageVa + r.initOff) bytes with
  | some h, some img =>
    let h := imgHdr h
    match s.ctxPeek j.ctxId (r.imageVa + (wd h 20).toNat) (16 * fld (wd h 21) 15 0) with
    | none => none
    | some qs =>
      let img := (List.range (fld (wd h 21) 15 0)).foldl (fun b k => patchCarried b (wordsOf 4 (qs.drop (16 * k)))) img
      some (if r.adpGenOff = 0xFFFFFFFF then img else patch img r.adpGenOff (natLe 2 ((r.adapters.getLast?.map AdapterRec.gen).getD 0)))
  | _, _ => none

/-! ### KV reserve (R285) -/

/-- The pool and the frames that a list record needs at most: BUDGET (64 where it is 0) and two more. (DEDUCED, log entry 54) -/
def kvNeed (ws : List Word) : Nat × Nat :=
  let b := fld (wd ws 1) 23 16
  (fld (wd ws 0) 31 26, (if b = 0 then 64 else b) + 2)

/-- The pages of list `k` of context `i` that are mapped. -/
def State.kvUsed (s : State) (ctx i k : Nat) : Nat := ((List.range 64).filter (fun j => (s.kvMap ctx (kvPageVa i k j)).isSome)).length

/-- The frames of pool `p` still to come for the lists of the streams admitted: their needs less what they hold. -/
def State.kvOwed (s : State) (p : Nat) : Nat :=
  ((s.openCtxs.map (fun i =>
    let m := cxModel (s.sctx i)
    match mget s.pilot.slots m with
    | none => 0
    | some r =>
      ((List.range r.kvRecCount).map (fun k =>
        let n := kvNeed (s.ctxWords (s.slotCtx m) (kvRecord (s.mslot m) r i (b2n (cxCur (s.sctx i))) k) 2)
        if n.1 = p then n.2 - s.kvUsed (s.slotCtx m) i k else 0)).sum))).sum

/-- Whether every pool holds the frames of a new stream's lists, beyond those reserved (R285). (DEDUCED, log entry 54) -/
def State.kvFits (s : State) (r : SlotRec) (img : List Byte) : Bool :=
  let needs := (List.range r.kvRecCount).map (fun k => kvNeed (wordsOf 2 (img.drop (r.kvRecOff + kvStride * k))))
  needs.all (fun x =>
    let free := ((List.range (poolPages (s.pool x.1))).filter (s.frameFree x.1)).length
    decide (((needs.filter (fun y => y.1 == x.1)).map Prod.snd).sum + s.kvOwed x.1 ≤ free))

/-! ### Admission and reservation (R60, R387, R388) -/

/-- The lowest stream context that is FREE and not reserved. -/
def State.freeStreamCtx (s : State) : Option Nat :=
  (List.range 65536).find? (fun i => !((mget s.fe.streams i).isSome) && (mget s.pilot.reserved i).isNone && cxState (s.sctx i) == 0)

/-- Fields of STREAM_ADMIT that are malformed (R388). -/
def admitMalformed (q : List Word) : Bool :=
  let w4 := wd q 4
  let w7 := wd q 7
  let src := fld w4 9 8
  let pt := fld w4 30 24
  flag w4 31 || flag w4 11 || (pt != 0 && decide (pt < 96)) || src == 3 || fld w7 31 21 != 0 || fld w7 19 18 == 3 ||
  (!(flag w4 10) && src != 1 && ((q.drop 14).take 4).all (· == 0))

/-- The binding that STREAM_ADMIT asks for. -/
def bindingOf (j : Job) (q : List Word) : Binding :=
  let w4 := wd q 4
  let w7 := wd q 7
  { job := j.id, ch := j.ch, slot := fld w4 7 0, src := fld w4 9 8, pt := fld w4 30 24, extId := fld w4 23 16, ipv6 := flag w7 20
    l16rate := fld w7 19 18, ports := fld w7 17 16, ssrc := wd q 8, sport := fld (wd q 9) 31 16, dport := fld (wd q 9) 15 0
    srcAddr := (q.drop 10).take 4, ackAddr := (q.drop 14).take 4, ackPort := fld (wd q 18) 15 0 }

/-- The words of a context at admission (R36, R388): PRIO no higher a class than PRIO_CEIL, a full bucket, the next admission number. -/
def State.admitWords (s : State) (i m prio ceil src utt : Nat) (mirror egress : Bool) (budget rate tokens : Word) : List Word :=
  let gen := max 1 (cxGen (s.sctx i))
  [w32 (gen * 2 ^ 16 + 2 ^ 12 + max prio ceil * 2 ^ 10 + ceil * 2 ^ 8 + b2n mirror * 2 ^ 4 + src * 2 ^ 2 + b2n egress * 2), w32 m, 0, 0, 0,
   w32 utt, 0, budget, 0, 0, tokens, s.logTime, rate, w32 s.log.admission, w32 (s.log.admission / 2 ^ 32)] ++ List.replicate 17 0

/-- Opens a context: its words in both copies, what is kept of the stream, and the channel that its events go to (R36, R388, R393). -/
def State.openStream (s : State) (i : Nat) (w : List Word) (x : Stream) : State :=
  let s := (s.putSctx i w).putStrm i x
  { s with
    log := { s.log with admission := (s.log.admission + 1) % 2 ^ 64 }
    pilot := { s.pilot with admits := mput s.pilot.admits (cxHandle w i).toNat (x.bind.ch, x.bind.job) } }

/-- Writes an image into both state versions of a context (R268). -/
def State.fillVersions (s : State) (j : Job) (m i : Nat) (img : List Byte) : State :=
  let w := s.mslot m
  (s.ctxPoke j.ctxId (stateAddr w i 0) img).ctxPoke j.ctxId (stateAddr w i 1) img

/-- STREAM_ADMIT (R60, R388). -/
def State.streamAdmitBody (ch : Nat) (q : List Word) (s : State) : State :=
  s.withLive ch q (fun j =>
    let w4 := wd q 4
    let m := fld w4 7 0
    if admitMalformed q then s.deny ch 1
    else match s.jobSlot j m with
      | none => s.deny ch 5
      | some r =>
        let w := s.mslot m
        if ceState (s.cent j.ctxId) ≠ 2 then s.deny ch 6
        else match s.freeStreamCtx with
          | none => s.deny ch 7
          | some i =>
            if 256 * msCapacity w < s.loadOf (s.slotStreams m) + (wd q 6).toNat then s.deny ch 8
            else match s.initImage j r (wd w 2).toNat with
              | none => s.deny ch 6
              | some img =>
                if s.stateReadOnly j m i then s.deny ch 6
                else if !(s.kvFits r img) then s.deny ch 9
                else match s.mapPools j m i with
                  | none => s.deny ch 9
                  | some t =>
                    let t := t.fillVersions j m i img
                    let cw := t.admitWords i m (fld w4 13 12) (fld w4 15 14) (fld w4 9 8) (fld (wd q 7) 15 0) j.mirror (flag w4 10) (wd q 5)
                      (wd q 6) (w32 (2 * msPeriod w))
                    (t.openStream i cw { bind := bindingOf j q, tokAt := t.now }).ok ch [cxHandle cw i])

/-- STREAM_RESERVE (R387): a FREE context with its pool pages is kept for a stream that migrates here. -/
def State.streamReserveBody (ch : Nat) (q : List Word) (s : State) : State :=
  s.withLive ch q (fun j =>
    let m := fld (wd q 4) 7 0
    match s.jobSlot j m with
    | none => s.deny ch 5
    | some _ =>
      match s.freeStreamCtx with
      | none => s.deny ch 7
      | some i =>
        match s.mapPools j m i with
        | none => s.deny ch 9
        | some t =>
          let h := w32 (max 1 (cxGen (t.sctx i)) * 2 ^ 16 + i)
          let r : Reservation := { handle := h, slot := m, since := t.now, job := j.id, ch := j.ch }
          ({ t with pilot := { t.pilot with reserved := mput t.pilot.reserved i r } }).ok ch [h])

/-- A reserved context is free again. -/
def State.unreserve (s : State) (i : Nat) : State := { s with pilot := { s.pilot with reserved := mdel s.pilot.reserved i } }

/-! ### Close, abort, query (R70, R74, R387) -/

/-- STREAM_CLOSE (R70, R74). -/
def State.streamCloseBody (ch : Nat) (q : List Word) (s : State) : State :=
  s.withJob ch q false (fun j =>
    match s.jobHandle j (wd q 4) with
    | none => s.deny ch 5
    | some i =>
      let t := match cxState (s.sctx i) with
        | 3 => s.freeStream i
        | 1 => s.beginClose i (wd q 5)
        | _ => s
      t.ok ch [])

/-- STREAM_ABORT (R74, R445): a live stream is set ABORTED and keeps its context; an ABORTED one is freed. (DEDUCED, log entry 54) -/
def State.streamAbortBody (ch : Nat) (q : List Word) (s : State) : State :=
  s.withJob ch q true (fun j =>
    match s.jobHandle j (wd q 4) with
    | none => s.deny ch 5
    | some i => (if cxState (s.sctx i) = 3 then s.freeStream i else s.abortStream i).ok ch [])

/-- STREAM_QUERY (R387): context words 0 to 12, TOKENS as it stands now. -/
def State.streamQueryBody (ch : Nat) (q : List Word) (s : State) : State :=
  s.withJob ch q false (fun j =>
    match s.jobHandle j (wd q 4) with
    | none => s.deny ch 5
    | some i => s.ok ch (((s.sctx i).set 10 (w32 (s.tokensAt i s.now).1)).take 13))

/-! ### Migration at the source (R370-R373) -/

/-- STREAM_MIGRATE (R370, R371): the stream's chunks are refused from now on. (DEDUCED, log entry 55) -/
def State.streamMigrateBody (ch : Nat) (q : List Word) (s : State) : State :=
  s.withLive ch q (fun j =>
    match s.jobHandle j (wd q 4) with
    | none => s.deny ch 5
    | some i =>
      let kv := match mget s.pilot.slots (cxModel (s.sctx i)) with
        | some r => r.kvRecCount
        | none => 0
      if cxState (s.sctx i) ≠ 1 ∨ (s.strm i).migrating then s.deny ch 6
      else if j.key = 0 ∨ kv ≠ 0 then s.deny ch 0x0E
      else
        let o : MigOut := { ctx := i, dev := fld (wd q 5) 19 0, key := j.key, newHandle := wd q 6 }
        let s := (s.modStrm i (fun x => { x with migrating := true })).modRhb (fun r => { r with migOut := r.migOut ++ [o] })
        s.ok ch [])

/-- What the front end keeps of a stream, as words: binding, resampler history and timeline. -/
def streamWords (x : Stream) : List Word :=
  let b := x.bind
  [w32 b.src, w32 b.pt, w32 b.extId, w32 (b2n b.ipv6), w32 b.l16rate, w32 b.ports, b.ssrc, w32 b.sport, w32 b.dport] ++ b.srcAddr ++ b.ackAddr ++
  [w32 b.ackPort, w32 (x.rate.getD 0), (x.rtp.base.getD 0), w32 x.rtp.start, w32 (x.rtp.lastSeq.getD 0)] ++ x.hist.map (BitVec.ofInt 32)

/-- The record of a migration (R372). -/
def State.migRecord (s : State) (i : Nat) (newHandle : Word) : List Word :=
  let w := s.sctx i
  let bytes := (wd (s.mslot (cxModel w)) 2).toNat
  [cxHandle w i, newHandle, cxAccept w,
   w32 (fld (wd w 5) 15 0 + cxPrio w * 2 ^ 16 + cxCeil w * 2 ^ 18 + cxSrc w * 2 ^ 20 + b2n (cxEgress w) * 2 ^ 22 + b2n (cxMirror w) * 2 ^ 23),
   wd w 8, wd w 7, wd w 12, w32 (s.tokensAt i s.now).1, w32 bytes, w32 (ceilDiv bytes 4096)] ++
  (List.range 54).map (fun k => wd (Config.migPack (streamWords (s.strm i))) k)

/-- Sends a run of bytes as MIGs of up to 512 B, padded to whole lines. -/
def State.sendMig (s : State) (o : MigOut) (block : Nat) (bs : List Byte) : State :=
  (cutList 512 (ceilDiv bs.length 512) bs).zipIdx.foldl (fun s p =>
    s.pushFlow o.dev o.key (fun tid => mkTx 6 o.key o.dev tid 0 (block * 2 ^ 16 + 512 * p.2) 0 (padTo 64 p.1)) none (some o.ctx)) s

/-- A block of a state version as it travels (R371): Facet-coded as BF16 in a group of one, or stored raw at the default threshold. (DEDUCED, log
entry 55) -/
def migBlock (raw : List Byte) : List Byte := (fctStore (fctBuild 0 [raw]) 8 raw).2

/-- MIGRATION_TRANSFER (R371): the stream is idle and fully committed; its record and its blocks go out. -/
def State.doMigrationTransfer (s : State) (i : Nat) : State :=
  let w := s.sctx i
  match s.rhb.migOut.find? (fun m => m.ctx == i && !m.sent) with
  | none => s
  | some o =>
    if cxInflight w || cxAccept w != cxCommit w then s
    else
      let m := s.mslot (cxModel w)
      match s.ctxPeek (s.slotCtx (cxModel w)) (stateAddr m i (b2n (cxCur w))) (wd m 2).toNat with
      | none => s.migFailed i
      | some bs =>
        let n := ceilDiv bs.length 4096
        let s := (s.ctxNote (s.slotCtx (cxModel w)) (stateAddr m i (b2n (cxCur w))) (wd m 2).toNat).sendMig o 0xFFFF (bytesOf (s.migRecord i o.newHandle))
        let s := ((cutList 4096 n bs).zipIdx).foldl (fun s p => s.sendMig o p.2 (migBlock (padTo 4096 p.1))) s
        s.modRhb (fun r => { r with migOut := r.migOut.map (fun m => if m.ctx = i then { m with sent := true } else m) })

/-- The source lets go of a stream that lives on elsewhere (R371 step 7): CLOSING, its results drain and later chunks are refused. -/
def State.migGone (s : State) (i : Nat) : State :=
  let s := s.modSctx i (fun w => if cxState w = 1 then putFld w 0 15 12 2 else w)
  let c := cxAccept (s.sctx i)
  let s := s.modStrm i (fun x => { x with migrating := false, inDoubt := false, closeSeq := some c, rtpClosing := true, rtp := {}, cur := none })
  (s.modRhb (fun r => { r with migOut := r.migOut.filter (fun m => m.ctx != i) })).closeSettle i

/-- MIGACK (R371, R373). -/
def State.doMigack (s : State) (p : Nat) (t : RhbTx) (tagOk : Bool) : State :=
  s.receiveTx p t tagOk 7 (fun s =>
    match s.rhb.migOut.find? (fun m => m.dev == txSrc t && m.key == txKey t && m.commit == some (txTid t)) with
    | none => s
    | some o =>
      let s := (s.cutFlow o.dev o.key (fun x => txOp x.tx == 6 && txTid x.tx == txTid t)).pumpFlow o.dev o.key
      ((s.migEvent o.ctx 0x20 o.newHandle (cxAccept (s.sctx o.ctx))).pBump 0 Reg.rhbCntMigrated).migGone o.ctx)

/-! ### Migration at the target (R371-R373) -/

/-- The new handle of a stream that comes in. -/
def MigIn.handle (x : MigIn) : Word := wd x.record 1

/-- Whether every block has come: 4,096 raw bytes, or the length that a coded block declares. -/
def MigIn.complete (x : MigIn) : Bool :=
  x.record.length == 64 && (List.range (wd x.record 9).toNat).all (fun k =>
    let b := mgetD x.blocks k []
    decide (4096 ≤ b.length) || (decide (32 ≤ b.length) && decide (alignUp (fld (wd (wordsOf 1 b) 0) 7 0 * 32) 64 ≤ b.length)))

/-- The bytes of a block (R371 step 4). (DEDUCED, log entry 55) -/
def migUnblock (b : List Byte) : List Byte :=
  if 4096 ≤ b.length then b.take 4096
  else match fctDecode 0 (fld (wd (wordsOf 1 b) 0) 7 0) b with
    | .ok r => r
    | .error _ => []

/-- The reservation that an incoming stream names. -/
def State.reservation (s : State) (h : Word) : Option Reservation :=
  (mget s.pilot.reserved (hIndex h)).bind (fun r => if r.handle = h then some r else none)

/-- An event about an incoming stream, to the channel that reserved its context. -/
def State.migInEvent (s : State) (r : Reservation) (x : MigIn) (code : Nat) (first : Word) : State :=
  s.pushEvent r.ch code r.job [wd x.record 0, x.handle, first]

/-- Changes the incoming stream that a flow is bringing: the last one begun. -/
def State.modMigIn (s : State) (h : Word) (f : MigIn → MigIn) : State :=
  s.modRhb (fun r => { r with migIn := r.migIn.map (fun x => if x.handle = h then f x else x) })

/-- Gives up an incoming stream (R373): its reservation and partial image are gone. -/
def State.dropMigIn (s : State) (h : Word) : State :=
  (s.modRhb (fun r => { r with migIn := r.migIn.filter (fun x => x.committed || x.handle != h) })).unreserve (hIndex h)

/-- What the target keeps of the front-end record (R372; the layout of its words is DESIGN CHOICE, log entry 18). -/
def streamOf (r : Reservation) (x : MigIn) (src now : Nat) : Stream :=
  let f (k : Nat) : Word := Config.migField k (x.record.drop 10)
  let n (k : Nat) : Nat := (f k).toNat
  let b : Binding :=
    { job := r.job, ch := r.ch, slot := r.slot, src := src, pt := n 0 % 128, extId := n 1 % 256, ipv6 := flag (f 2) 0, l16rate := n 3 % 3
      ports := n 4 % 4, ssrc := f 5, sport := n 6 % 65536, dport := n 7 % 65536, srcAddr := [f 8, f 9, f 10, f 11]
      ackAddr := [f 12, f 13, f 14, f 15], ackPort := n 16 % 65536 }
  let line : RtpLine := { base := if f 17 = 0 then none else some (f 18), start := n 19, lastSeq := if f 17 = 0 then none else some (n 20 % 65536) }
  { bind := b, rate := if n 21 = 0 then none else some (n 21), hist := (List.range (n 22 % 1024)).map (fun k => (f (23 + k)).toInt), rtp := line
    tokAt := now }

/-- Commits an incoming stream (R371 step 6): its blocks stand in version A and the context becomes OPEN. -/
def State.migAccept (s : State) (r : Reservation) (x : MigIn) : State :=
  let i := hIndex x.handle
  let w3 := wd x.record 3
  let w := s.mslot r.slot
  let img := ((List.range (wd x.record 9).toNat).flatMap (fun k => migUnblock (mgetD x.blocks k []))).take (wd w 2).toNat
  let s := s.ctxPoke (s.slotCtx r.slot) (stateAddr w i 0) img
  let cw := s.admitWords i r.slot (fld w3 17 16) (fld w3 19 18) (fld w3 21 20) (fld w3 15 0) (flag w3 23) (flag w3 22) (wd x.record 5)
    (wd x.record 6) (wd x.record 7)
  let cw := ((cw.set 2 (wd x.record 2)).set 3 (wd x.record 2)).set 8 (wd x.record 4)
  let s := (s.openStream i cw (streamOf r x (fld w3 21 20) s.now)).unreserve i
  let s := s.modMigIn x.handle (fun x => { x with committed := true, inDoubt := false, blocks := [] })
  (s.pBump 0 Reg.rhbCntMigrated).migInEvent r x 0x20 (wd x.record 2)

/-- A record arrives (R370, R372): a migration begins, unless no reservation of the same key and state size stands. (DEDUCED, log entry 55) -/
def State.migBegin (s : State) (t : RhbTx) : State × Bool :=
  let ws := wordsOf 64 t.data
  let ok := match s.reservation (wd ws 1) with
    | some r => decide (((s.job r.job).map Job.key) = some (txKey t)) && wd (s.mslot r.slot) 2 == wd ws 8
    | none => false
  let x : MigIn := { dev := txSrc t, key := txKey t, record := ws }
  if ok then (s.modRhb (fun r => { r with migIn := r.migIn.filter (fun y => y.handle != x.handle) ++ [x] }), true)
  else
    let s := match s.reservation (wd ws 1) with
      | some r => (s.dropMigIn (wd ws 1)).migInEvent r x 0x21 0
      | none => s
    (s.sendNack t 2 (txTid t), true)

/-- Whether an incoming stream takes a block of a flow. -/
def MigIn.takes (x : MigIn) (t : RhbTx) : Bool := x.dev == txSrc t && x.key == txKey t && !x.committed

/-- A part of the record or of a block arrives: parts come in the order of their transactions. -/
def State.migPart (s : State) (t : RhbTx) (block : Nat) : State × Bool :=
  match (s.rhb.migIn.filter (fun x => x.takes t)).getLast? with
  | none => (s.sendNack t 2 (txTid t), true)
  | some x => (s.modMigIn x.handle (fun x => { x with blocks := mput x.blocks block (mgetD x.blocks block [] ++ t.data) }), true)

/-- The answer to a commit request. -/
def State.sendMigack (s : State) (t : RhbTx) : State := s.sendTx (mkTx 7 (txKey t) (txSrc t) (txTid t) 0 0 0 [])

/-- The stream that a commit request names. -/
def State.migNamed (s : State) (t : RhbTx) : Option MigIn :=
  let ws := wordsOf 2 t.data
  s.rhb.migIn.find? (fun x => x.dev == txSrc t && x.key == txKey t && wd x.record 0 == wd ws 0 && x.handle == wd ws 1)

/-- A commit request arrives (R371, R373): the stream commits and MIGACK answers; for one that has committed, MIGACK answers again. (DEDUCED, log
entry 55) -/
def State.migCommitted (s : State) (t : RhbTx) : State × Bool :=
  match s.migNamed t with
  | none => (s.sendNack t 2 (txTid t), true)
  | some x =>
    if x.committed then (s.sendMigack t, true)
    else match s.reservation x.handle with
      | none => (s.sendNack t 2 (txTid t), true)
      | some r => ((s.migAccept r x).sendMigack t, true)

/-- MIG (R360, R371). -/
def State.doMig (s : State) (p : Nat) (t : RhbTx) (tagOk : Bool) : State :=
  let block := txAddr t / 2 ^ 16
  s.receiveTx p t tagOk 6 (fun s => s.deliver t
    (fun s => if block = 0xFFFF then s.migBegin t else if block = 0xFFFE then s.migCommitted t else s.migPart t block)
    (fun s =>
      let s := s.dupTx t
      if block = 0xFFFE ∧ (s.migNamed t).any MigIn.committed then s.sendMigack t else s))

/-- RESERVATION_LAPSE (R373, R387): 10 s after its response a reservation ends unless a migration has committed into it. A partial image is
discarded; where every block has come the commit request may have been sent, and the stream is in doubt. (DEDUCED, log entry 55) -/
def State.doReservationLapse (s : State) (i : Nat) : State :=
  match mget s.pilot.reserved i with
  | none => s
  | some r =>
    if s.now < r.since + 10000000 then s
    else match s.rhb.migIn.find? (fun x => x.handle == r.handle && !x.committed) with
      | none => s.unreserve i
      | some x =>
        if x.complete then
          (if x.inDoubt then s else (s.modMigIn x.handle (fun x => { x with inDoubt := true })).migInEvent r x 0x22 0)
        else (s.dropMigIn r.handle).migInEvent r x 0x21 0

/-- Whether the sender of a request may settle a stream of a job: its own channel, or fabric management (R386, R387). (DEDUCED, log entry 56) -/
def State.maySettle (s : State) (ch job : Nat) : Bool :=
  ch == 18 || (match s.job job with
    | some j => j.ch == ch
    | none => false)

/-- STREAM_SETTLE (R373, R387): the named owner of a stream in doubt accepts; the other device lets go. (DEDUCED, log entry 56) -/
def State.streamSettleBody (ch : Nat) (q : List Word) (s : State) : State :=
  let h := wd q 4
  let i := hIndex h
  let owner := flag (wd q 5) 0
  match s.rhb.migIn.find? (fun x => x.handle == h), s.reservation h with
  | some x, some r =>
    if !(s.maySettle ch r.job) then s.deny ch 4
    else if x.committed then s.deny ch 6
    else if owner then (if x.complete then (s.migAccept r x).ok ch [] else s.deny ch 6)
    else ((s.dropMigIn h).migInEvent r x 0x21 0).ok ch []
  | some x, none =>
    if !(x.committed && s.handleLive h) then s.deny ch 5
    else if !(s.maySettle ch (s.strm i).bind.job) then s.deny ch 4
    else if owner then s.ok ch []
    else (s.migGone i).ok ch []
  | none, _ =>
    if !(s.handleLive h) then s.deny ch 5
    else if !(s.maySettle ch (s.strm i).bind.job) then s.deny ch 4
    else if !(s.strm i).inDoubt then s.deny ch 6
    else if owner then
      let s := (s.modStrm i (fun x => { x with migrating := false, inDoubt := false })).modRhb (fun r =>
        { r with migOut := r.migOut.filter (fun m => m.ctx != i) })
      s.ok ch []
    else (s.migGone i).ok ch []

/-! ### The fabric manager (R383, R416) -/

/-- Whether a MGMT transaction is taken: no reserved bit of its header is set (R443), its tag holds, and under key 0 before that is loaded it carries
HELLO or SPDM (R361, R416). (DEDUCED, log entry 59) -/
def State.mgmtTaken (s : State) (t : RhbTx) (tagOk : Bool) : Bool :=
  let op := fld (wd (wordsOf 1 t.data) 0) 15 8
  txClean t && tagOk && txKey t == 0 && (s.keyLoaded 0 || op == 0x01 || op == 0x60)

/-- MGMT (R359, R383): a request for mailbox 2, as a GO would bring it; at BUSY = 1 it is answered with BUSY. (DEDUCED, log entry 59) -/
def State.doMgmt (s : State) (p : Nat) (t : RhbTx) (tagOk : Bool) : State :=
  if !(s.portUp p) || !(s.devValid && txDst t == s.devId) || txOp t != 8 then s
  else
    let s := s.takeRx p t
    if !(s.mgmtTaken t tagOk) then s.pBump 0 Reg.rhbCntTagfail
    else
      let ws := wordsOf 64 t.data
      if (s.chan 18).busy then
        s.sendMgmt (txSrc t) [w32 (0xE9140004 + fld (wd ws 0) 15 8 * 256), w32 (fld (wd ws 1) 31 16 * 65536 + 0x1000), wd ws 2, 0]
      else
        let s := ws.zipIdx.foldl (fun s p => s.modChan 18 (fun c => { c with req := mputD 0 c.req p.2 p.1 })) s
        ({ s with pilot := { s.pilot with mgmtReq := txSrc t } }).doMbxSend 18

end Sys2Proof.Machine
end

