-- ==== Sys2Proof/Machine/Firmware.lean ====
section
/-! DEFINITION. The firmware's slots and boot header (R397, R398), restarts of the Pilot and of the cluster (R394, R395), the choice of the request
to serve (R386), function level resets and the host link (R404), and the relay of Logbook events (R76). -/

namespace Sys2Proof.Machine

/-! ### Firmware slots and the boot header (R387, R398) -/

/-- FW_WRITE (R387): data into the inactive slot. -/
def State.fwWriteBody (ch : Nat) (q : List Word) (s : State) : State :=
  let off := (wd q 4).toNat
  let n := (wd q 5).toNat
  if 0x100000 < off + n then s.deny ch 1
  else (s.flashWrite (slotBase (1 - s.pilot.activeSlot) + off) ((bytesOf (q.drop 6)).take n)).ok ch []

/-- The valid copies of the boot header, as (copy, sequence, active slot) (R398); one with a bit outside its fields set fails its check (R443).
(DEDUCED, log entry 60) -/
def State.bootHeaders (s : State) : List (Nat × Word × Nat) :=
  (List.range 2).filterMap (fun k =>
    let b := s.flashRead (4096 * k) 16
    let w := wordsOf 4 b
    if wd w 0 = 0xB7000000 ∧ (wd w 1).toNat < 2 ∧ crc32c (b.take 12) = wd w 3 then some (k, wd w 2, fld (wd w 1) 0 0) else none)

/-- The copy of the boot header that the ROM uses: the valid one with the higher sequence (R398). -/
def State.bootHeader (s : State) : Option (Nat × Word × Nat) :=
  s.bootHeaders.foldl (fun best h =>
    match best with
    | none => some h
    | some b => if b.2.1.toNat < h.2.1.toNat then some h else some b) none

/-- Writes the other copy of the boot header with the next sequence number (R398). -/
def State.writeHeader (s : State) (slot : Nat) : State :=
  let old := s.bootHeader
  let k := match old with
    | some (0, _, _) => 1
    | _ => 0
  let seq := match old with
    | some (_, q, _) => q + 1
    | none => 1
  let ws : List Word := [0xB7000000, w32 slot, seq]
  s.flashWrite (4096 * k) (bytesOf (ws ++ [crc32c (bytesOf ws)]))

/-! ### Restarts (R394, R395, R412) -/

/-- A restart of the firmware begins (R394, R412): every SPDM session ends, no power request waits to be placed, and the channel under service is
answered afterwards. `cause`: 0 watchdog, 1 FW_ACTIVATE, 2 FW_ACTIVATE in ROM mode. -/
def State.restartPilot (s : State) (cause : Nat) (ch : Option Nat) : State :=
  let s := (List.range 20).foldl State.closeSession s
  { s with
    rst := { s.rst with mode := .restarting cause }
    pilot := { s.pilot with serving := ch, wantPower := [], powerAsk := none, bringUp := 0 } }

/-- FW_ACTIVATE (R394, R398, R402): the inactive slot becomes the active one and the firmware restarts, which answers later; BAD_IMAGE where the
slot is not acceptable. Without the device keys the ROM stays (R406): the header is written, and nothing restarts. (DEDUCED, log entry 60) -/
def State.fwActivateBody (sigOk : Bool) (ch : Nat) (_ : List Word) (s : State) : State :=
  if !sigOk then s.deny ch 0x0C
  else
    let slot := 1 - s.pilot.activeSlot
    let cause := if s.rst.mode = .rom then 2 else 1
    let s := s.writeHeader slot
    if s.rst.mode = .rom ∧ s.secure.keys = none then ({ s with pilot := { s.pilot with activeSlot := slot } }).ok ch []
    else
      let s := s.nextFree
      ({ s with pilot := { s.pilot with activeSlot := slot, version := Config.freeValue (s.freeCtr - 1) } }).restartPilot cause (some ch)

/-- PILOT_WATCHDOG (R394): the firmware has been silent for 100 ms. -/
def State.doPilotWatchdog (s : State) : State := if s.pilotUp then s.restartPilot 0 s.pilot.serving else s

/-- The live unit map that the Declination record gives (R179, R320, R321, R352): disabled cores, banks and lanes. -/
def State.declUnits (s : State) : List Word :=
  let cores := (setBits 32 s.disabledCores).map (fun n => unitEntry 0 n 0 false)
  let banks := (List.range 32).flatMap (fun n =>
    let v := s.declWord (0x014 + 4 * n)
    (if flag v 31 then [unitEntry 1 n (fld v 28 24) false] else []) ++ (if flag v 23 then [unitEntry 1 n (32 + fld v 20 16) false] else []))
  let lanes := (List.range 4).flatMap (fun p => (setBits 32 (s.declWord (0x094 + 4 * p)).toNat).map (fun l => unitEntry 3 p l false))
  cores ++ banks ++ lanes

/-- The cores that the retirement log names and the Declination record enables (R321). -/
def State.heldCores (s : State) : BitVec 32 :=
  s.logEntries.foldl (fun m e => if fld e 31 29 = 0 ∧ fld e 15 8 < 32 ∧ !(s.disabledCores.testBit (fld e 15 8)) then m ||| bit32 (fld e 15 8) else m) 0

/-! ### What a configuration record must hold (R331) -/

/-- A region of the record: its two words. -/
def State.cfgRegion (s : State) (i : Nat) : Word × Word := (s.cfgWord (0x0A0 + 8 * i), s.cfgWord (0x0A4 + 8 * i))

/-- The regions of the record that are VALID. -/
def State.cfgRegions (s : State) : List (Word × Word) := ((List.range 16).map s.cfgRegion).filter (fun r => flag r.1 31)

/-- What a region uses of each stack, in units of 128 MiB: stack, start, length (R330). -/
def stackUse (r : Word × Word) : List (Nat × Nat × Nat) :=
  let l := fld r.2 8 0
  let n := fld r.1 17 9
  match fld r.1 30 29 with
  | 1 => [(fld r.1 28 26, l, 8 * n)]
  | 2 => (List.range 8).map (fun h => (h, l, 2 * n))
  | _ => (List.range 8).map (fun h => (h, l, n))

/-- Whether two regions share no physical address and no address of a stack. -/
def regionsApart (r q : Word × Word) : Bool :=
  !(overlap (fld r.1 8 0) (fld r.1 17 9) (fld q.1 8 0) (fld q.1 17 9)) &&
  (stackUse r).all (fun u => (stackUse q).all (fun v => u.1 != v.1 || !(overlap u.2.1 u.2.2 v.2.1 v.2.2)))

/-- The region of the record that holds a range. -/
def State.cfgHolds (s : State) (a n : Nat) : Option (Word × Word) :=
  s.cfgRegions.find? (fun r => decide (fld r.1 8 0 * gib ≤ a ∧ a + n ≤ (fld r.1 8 0 + fld r.1 17 9) * gib))

/-- Whether a range lies in a mirrored region of the record. -/
def State.cfgMirrored (s : State) (a n : Nat) : Bool := (s.cfgHolds a n).any (fun r => fld r.1 30 29 == 2)

/-- Whether the region table of the record is one that the firmware accepts (R331). (DEDUCED, log entry 60) -/
def State.regionsOk (s : State) : Bool :=
  let rs := s.cfgRegions
  rs.all (fun r => fld r.1 30 29 != 3 && decide (1 ≤ fld r.1 17 9 ∧ fld r.1 8 0 + fld r.1 17 9 ≤ 384) &&
    (stackUse r).all (fun u => decide (u.2.1 + u.2.2 ≤ 384))) &&
  rs.zipIdx.all (fun x => rs.zipIdx.all (fun y => x.2 == y.2 || regionsApart x.1 y.1)) &&
  (match s.cfgHolds (s.cfgBase 0) (2 ^ 23), s.cfgHolds (s.cfgBase 1) (2 ^ 23) with
    | some r, some q => fld r.1 30 29 == 1 && fld q.1 30 29 == 1 && fld r.1 28 26 != fld q.1 28 26
    | _, _ => false) &&
  s.cfgMirrored (s.cfgBase 2) (2 ^ 14) && s.cfgMirrored (s.cfgBase 3) (2 ^ 18) && s.cfgMirrored (s.cfgBase 4) (2 ^ 11) &&
  s.cfgMirrored (s.cfgBase 7) ((s.reg Reg.feHoldSize).toNat * 4096) && s.cfgMirrored (s.cfgBase 8) (112 * 2 ^ 20) &&
  s.cfgMirrored (s.cfgBase 9) ((s.reg Reg.logWlSlots).toNat * 2 ^ 15)

/-- Steps 4 and 5 of a boot (R399): the live unit map, the held cores, and the bring-up; without both records in effect, or with a region table
that R331 does not accept, no domain is powered (R402). (DESIGN CHOICE, log entry 20; DEDUCED, log entry 60) -/
def State.startFirmware (s : State) : State :=
  let s : State := { s with pilot := { s.pilot with unitMap := s.declUnits, held := s.heldCores } }
  if s.pilot.config.isEmpty || s.pilot.decl.isEmpty || !s.regionsOk then { s with rst := { s.rst with mode := .recordFail } }
  else ({ s with rst := { s.rst with mode := .booting } }).startBringUp

/-- The stacks that failed while the firmware did not run. (DEDUCED, log entry 49) -/
def State.stacksUnseen (s : State) : List Nat :=
  (setBits 8 (s.reg (hbmKey 0 Reg.hbmFailed)).toNat).filter (fun h => !(s.pilot.unitMap.any (fun e => fld e 31 29 == 4 && fld e 15 8 == h)))

/-- The mode that the firmware goes on in after a restart (R394, R402), and what it then takes up: stacks and cores that failed meanwhile, pins, teardowns
and Sounding (R294, R315, R316). (DEDUCED, log entry 44; DEDUCED, log entry 60) -/
def State.resumePilot (s : State) (cause : Nat) : State :=
  if cause = 2 then s.startFirmware
  else if s.pilot.config.isEmpty || s.pilot.decl.isEmpty || !s.regionsOk then { s with rst := { s.rst with mode := .recordFail } }
  else
    let s : State := { s with rst := { s.rst with mode := .running } }
    let lost := s.pilot.coresUnseen
    let s := s.stacksUnseen.foldl State.afterStackFail { s with pilot := { s.pilot with coresUnseen := [] } }
    let s := lost.foldl (fun s x => s.coreFailure x.1 x.2.1 x.2.2) s
    let s := ((List.range 32).foldl State.releaseStale s).endTeardowns
    (s.pilot.sounding.map Sounding.core).foldl State.soundNext s

/-- PILOT_RESTARTED (R393, R394): the firmware serves again; the request under way is answered RESTARTED, an FW_ACTIVATE OK. (DEDUCED, log entry 60) -/
def State.doPilotRestarted (s : State) : State :=
  match s.rst.mode with
  | .restarting cause =>
    let asked := s.pilot.serving
    let s := ({ s with pilot := { s.pilot with serving := none } }).resumePilot cause
    let s := match asked with
      | some ch => if (s.chan ch).busy then (if cause = 0 then s.deny ch 0x0D else s.ok ch []) else s
      | none => s
    (List.range 20).foldl (fun s ch => s.pushEvent ch 0x30 0 [s.pilot.version, w32 (min cause 1)]) s
  | _ => s

/-- The cluster restarts (R395, R412): domain 78 goes off and on, but in standby, where it stays off (R22); a request of mailbox 0 not yet started is
discarded, its SPDM session ends. (DESIGN CHOICE, log entry 48) -/
def State.restartCluster (s : State) (cause : Nat) : State :=
  let s : State := { s with pilot := { s.pilot with clusterUp := false, clusterRestart := some cause } }
  let s := if s.pilot.serving = some 0 then s else s.modChan 0 (fun c => { c with busy := false })
  if s.pilot.standby then s.closeSession 0 else ((s.closeSession 0).askPower false [78]).askPower true [78]

/-- CLUSTER_RESTART (R395): answered, then carried out. -/
def State.clusterRestartBody (ch : Nat) (_ : List Word) (s : State) : State := (s.ok ch []).restartCluster 0

/-- CLUSTER_WATCHDOG (R395). -/
def State.doClusterWatchdog (s : State) : State := if s.pilot.clusterUp && s.rst.mode == .running then s.restartCluster 1 else s

/-- CLUSTER_RESTARTED (R393, R395): the private region is filled and the loader starts. -/
def State.doClusterRestarted (s : State) : State :=
  match s.pilot.clusterRestart with
  | some cause =>
    if s.rst.mode == .running && s.domOpen 78 && s.powerSettled then
      let s := ({ s with pilot := { s.pilot with clusterRestart := none } }).startCluster
      [0, 1, 19].foldl (fun s ch => s.pushEvent ch 0x31 0 [w32 cause]) s
    else s
  | none => s

/-! ### The choice of a request (R29, R386) -/

/-- What serves an operation; `checkOk`: the signature or verification data that it checks holds. -/
def serverOf (checkOk : Bool) (op : Nat) : Option (Nat → List Word → State → State) :=
  match op with
  | 0x01 => some State.helloBody
  | 0x02 => some State.unitmapBody
  | 0x03 => some State.countsBody
  | 0x10 => some State.jobCreateBody
  | 0x11 => some State.jobMapBody
  | 0x12 => some State.jobUnmapBody
  | 0x13 => some State.jobDestroyBody
  | 0x14 => some State.listPostBody
  | 0x20 => some State.modelLoadBody
  | 0x21 => some State.modelUnloadBody
  | 0x22 => some State.adapterPublishBody
  | 0x23 => some State.prefixAttachBody
  | 0x30 => some State.streamAdmitBody
  | 0x31 => some State.streamCloseBody
  | 0x32 => some State.streamAbortBody
  | 0x33 => some State.streamQueryBody
  | 0x38 => some State.streamReserveBody
  | 0x39 => some State.streamMigrateBody
  | 0x3A => some State.streamSettleBody
  | 0x40 => some State.powerSetBody
  | 0x41 => some State.powerStandbyBody
  | 0x42 => some State.partitionQueryBody
  | 0x43 => some State.partitionSharesBody
  | 0x50 => some State.fwWriteBody
  | 0x51 => some (State.fwActivateBody checkOk)
  | 0x52 => some State.clusterRestartBody
  | 0x60 => some (State.spdmBody checkOk)
  | _ => none

/-- Serves the request of a channel, whatever it asks. -/
def State.serveAny (s : State) (checkOk : Bool) (ch : Nat) : State :=
  let q := (s.chan ch).words
  match s.reqError ch q, serverOf checkOk (reqOp q) with
  | some e, _ => s.deny ch e
  | none, some f => f ch q s
  | none, none => s.deny ch 2

/-- The channels of mailbox `n` that ask to be served. -/
def State.asking (s : State) (n : Nat) : Bool := (List.range 20).any (fun ch => mailboxOf ch == n && s.serves ch)

/-- EPIAN_REQUEST_SERVE (R386): the arbiter of the mailboxes, and in mailbox 1 that of its channels, pick the request to serve. -/
def State.doEpianRequestServe (s : State) (checkOk : Bool) : State :=
  match arbitrate s.pilot.mboxOrder s.asking with
  | none => s
  | some (n, mo) =>
    let s : State := { s with pilot := { s.pilot with mboxOrder := mo } }
    match n with
    | 0 => s.serveAny checkOk 0
    | 2 => s.serveAny checkOk 18
    | 3 => s.serveAny checkOk 19
    | _ =>
      match arbitrate s.pilot.chanOrder (fun c => s.serves (1 + c)) with
      | none => s
      | some (c, co) => ({ s with pilot := { s.pilot with chanOrder := co } }).serveAny checkOk (1 + c)

/-! ### The host port (R403, R404, R412) -/

/-- A Function Level Reset of one channel: its request, response and event queue are cleared, events number from 1 again (R384), its session ends,
its jobs are torn down and their streams aborted. (DEDUCED, log entry 51; DEDUCED, log entry 61) -/
def State.resetChannel (s : State) (ch : Nat) : State :=
  let s := s.modChan ch (fun c => { c with busy := false, rspReady := false, req := [], rsp := [], events := [], lost := 0, evSeq := 0 })
  let s := s.closeSession ch
  let mine (x : Option Nat) : Option Nat := if x = some ch then none else x
  let s : State := { s with pilot := { s.pilot with serving := mine s.pilot.serving, powerAsk := mine s.pilot.powerAsk } }
  (s.pilot.jobs.filter (fun j => j.ch == ch)).foldl (fun s j => s.startTeardown j false 0 0) s

/-- FUNCTION_LEVEL_RESET (R404): function 0, the physical one, resets all 17 channels. (DEDUCED, log entry 61) -/
def State.doFunctionLevelReset (s : State) (fn : Nat) : State :=
  if fn = 0 then ((List.range 17).map (1 + ·)).foldl State.resetChannel s else s.resetChannel (1 + fn)

/-- Whether the host port can hold a link: its domain is on, PERST_N is high and REFCLK_PCIE runs (R431, R434). -/
def State.hostPortOn (s : State) : Bool := s.domOn 77 && !s.rst.perstLow && !(s.rst.refLost.getLsbD 1)

/-- HOST_LINK_CHANGE (R381, R404): the link is lost, or returns, and what waits is signalled then. -/
def State.doHostLinkChange (s : State) (up : Bool) : State :=
  let on := up && s.hostPortOn
  let was := s.pilot.hostLink
  let s : State := { s with pilot := { s.pilot with hostLink := on } }
  if on && !was then
    ((List.range 17).map (1 + ·)).foldl (fun s ch =>
      let c := s.chan ch
      let s := if flag c.ctrl 0 && c.rspReady then s.signal ch 0 else s
      let s := if flag c.ctrl 1 && !c.events.isEmpty then s.signal ch 1 else s
      if flag c.ctrl 2 && c.err != 0 then s.signal ch 2 else s) s
  else s

/-! ### The Logbook's events (R76, R393) -/

/-- The Pilot removes the head of the Logbook's event queue; the firmware relays it to the admitting channel. -/
def State.relayEvent (s : State) : State :=
  match s.log.evq with
  | [] => s
  | e :: _ =>
    let s := s.evqPop
    let typ := fld (wd e 0) 31 24
    let h := (wd e 1).toNat
    match mget s.pilot.admits h with
    | some (ch, job) =>
      let s := s.pushEvent ch typ job [wd e 1, wd e 2, wd e 3]
      if typ = evClosed then { s with pilot := { s.pilot with admits := mdel s.pilot.admits h } } else s
    | none => s

end Sys2Proof.Machine
end

