-- ==== Sys2Proof/Machine/Board.lean ====
section
/-! DEFINITION. The board's side of the package (R423-R441): full reset and boot (R399, R432-R435), rails and reference clocks (R425, R431),
temperatures and gating (R427-R430), GPIO (R439), and the TAP's instructions (R436). -/

namespace Sys2Proof.Machine

/-! ### Full reset and boot (R398, R399, R402, R432, R433, R435) -/

/-- A full reset (R432): what is left is the flash, the causes, the pins and clocks as they stand, the TAP (R436) and the model's own queue. (DEDUCED,
log entry 62) -/
def State.fullReset (s : State) (cause : Word) : State :=
  let r := s.rst
  { State.reset with
    pending := s.pending, freeCtr := s.freeCtr, flash := s.flash, jtag := s.jtag
    regs := mputD (resetOf Reg.pwrResetCause) [] Reg.pwrResetCause (s.reg Reg.pwrResetCause ||| cause)
    rst := { r with mode := .held }
    gpio := s.gpio.map (fun g => { g with accepted := false, since := 0 })
    fe := { State.reset.fe with linkDown := s.fe.linkDown }
    pilot := { State.reset.pilot with bootCount := s.pilot.bootCount } }

/-- Whether nothing holds the device in full reset (R425, R429, R431, R433). (DEDUCED, log entry 62) -/
def State.released (s : State) : Bool := !(s.rst.pinHeld || s.rst.railHeld || s.rst.clkHeld || s.rst.tripHeld)

/-- Word of a record at a byte offset. -/
def recWord (r : List Byte) (off : Nat) : Word := w32 (leNat ((r.drop off).take 4))

/-- Whether a record's word is an image of the register `key` (R7, R11): no reserved bit, no reserved value. -/
def imageOk (key : Nat) (v : Word) : Bool :=
  match specOf key with
  | some r => v &&& ~~~ r.rw == 0 && r.enc.all (fun e => encOk e v)
  | none => false

/-- Whether a configuration record passes its checks (R400, R443): its signature, and no reserved field or value. (DEDUCED, log entry 60) -/
def configValid (b : BootIn) : Bool :=
  let w := recWord b.config
  b.configOk && fld (w 0) 31 16 == 0xCF01 && (w 0x00C &&& 0xFFFE0000 == 0) && decide (fld (w 0x00C) 16 12 ≤ 16) &&
  imageOk (rhbKey 0 Reg.rhbDevid) (w 0x010) && decide ((w 0x014).toNat < 65536) &&
  (List.range 16).all (fun i => imageOk (coreKey 0 Reg.sxShare) (w (0x024 + 8 * i)) &&
    imageOk (hbmKey 0 (0x800 + 8 * i)) (w (0x0A0 + 8 * i)) && imageOk (hbmKey 0 (0x804 + 8 * i)) (w (0x0A4 + 8 * i)) &&
    (i < 11 || (w (0x120 + 8 * i) == 0 && w (0x124 + 8 * i) == 0))) &&
  (List.range 19).all (fun i => decide ((w (0x1C0 + 4 * i)).toNat < 2 ^ 20))

/-- Whether a Declination record passes its checks (R401, R443): its signature, its PACKAGE_ID, and no reserved field or value. (DEDUCED, log entry 60) -/
def declValid (b : BootIn) : Bool :=
  let w := recWord b.decl
  b.declOk && fld (w 0) 31 16 == 0xDE01 && leNat ((b.decl.drop 4).take 8) == b.packageId && (w 0x00C == 32 || w 0x00C == 28) &&
  (List.range 32).all (fun n => imageOk (coreKey 0 Reg.spdSpare) (w (0x014 + 4 * n)))

/-- Whether firmware slot `k` is acceptable (R398): its signature, and MIN_FW of a valid configuration record. -/
def slotOk (b : BootIn) (k : Nat) : Bool :=
  let v := if k = 0 then b.versionA else b.versionB
  (if k = 0 then b.slotAOk else b.slotBOk) && (!(configValid b) || decide ((recWord b.config 4).toNat ≤ v.toNat))

/-- The slot that the ROM boots: the active one where it is acceptable, else the other (R398). -/
def State.bootSlot (s : State) (b : BootIn) : Option Nat :=
  let a := match s.bootHeader with
    | some (_, _, k) => k
    | none => 0
  if slotOk b a then some a else if slotOk b (1 - a) then some (1 - a) else none

/-! ### The device secret and its keys (R406-R408) -/

/-- HMAC-SHA-512 over blocks of 128 B. -/
def hmacSha512 (key msg : List Byte) : List Byte :=
  let k := fitLen 128 (if 128 < key.length then digest key else key)
  digest (k.map (· ^^^ 0x5C) ++ digest (k.map (· ^^^ 0x36) ++ msg))

/-- The first `n` bytes, at most 64, of HKDF-SHA-512 with an empty salt (RFC 5869, R407): extract, then the first block of expand. -/
def hkdfSha512 (ikm info : List Byte) (n : Nat) : List Byte := (hmacSha512 (hmacSha512 [] ikm) (info ++ [1])).take n

/-- The bytes of an info label (R407). -/
def labelBytes (l : String) : List Byte := l.toList.map (fun c => BitVec.ofNat 8 c.toNat)

/-- The four device keys (R407): functions of DS alone. -/
def deriveKeys (ds : List Byte) : DeviceKeys :=
  let key (l : String) : List Byte := hkdfSha512 ds (labelBytes l) 32
  { memData := key "VDN.mem.data", memTweak := key "VDN.mem.tweak", linkRoot := key "VDN.link.root", idWrap := key "VDN.id.wrap" }

/-- What the `k`-th reconstruction of DS gives (R406). (DESIGN CHOICE, log entry 6) -/
def reconstruct (fails k : Nat) : List Byte := if k < fails then Config.pufMiss Config.pufHelper k else Config.deviceSecret

/-- The ROM's key derivation (R406-R408): a reconstruction of DS, repeated up to 8 times while its check fails; then the keys, the unwrap of the identity
key, and the load of the link root key; DS is zeroed. Where every check or the unwrap fails, there is no key. (DEDUCED, log entry 82) -/
def State.secureBoot (s : State) (b : BootIn) : State :=
  let tries := min 9 (b.dsFails + 1)
  let s : State := { s with secure := { ds := reconstruct b.dsFails (tries - 1), tries := tries } }
  let keys := if b.dsFails < 9 ∧ b.idOk then some (deriveKeys s.secure.ds) else none
  { s with secure := { s.secure with
    ds := List.replicate 32 0, keys := keys, idKey := keys.isSome, linkRoot := keys.map DeviceKeys.linkRoot } }

/-- Steps 1 to 4 of a boot (R399, R402, R406): the device keys, the records in effect, the slot, and the firmware's start; ROM mode where no slot is
acceptable or there are no device keys. The straps are sampled (R433). (DESIGN CHOICE, log entry 20) -/
def State.boot (s : State) (b : BootIn) : State :=
  let s := s.secureBoot b
  let slot := s.bootSlot b
  let s : State := { s with
    rst := { s.rst with strap := b.straps % 8, mode := .rom }
    pilot := { s.pilot with
      config := if configValid b then b.config else [], decl := if declValid b then b.decl else [], loader := b.loader, loaderOk := b.loaderOk
      bootCount := s.pilot.bootCount + 1, activeSlot := slot.getD 0
      version := if slot = some 1 then b.versionB else if slot = some 0 then b.versionA else 0 } }
  if slot.isSome ∧ s.secure.keys ≠ none then s.startFirmware else s

/-- Boots once nothing holds the device in reset. -/
def State.bootIf (s : State) (b : BootIn) : State := if s.rst.mode = .held ∧ s.released then s.boot b else s

/-- RESET_N_LOW (R433): recognised low; ignored after a thermal trip (R429). -/
def State.doResetNLow (s : State) : State :=
  let s : State := { s with rst := { s.rst with pinHeld := true } }
  if s.rst.tripHeld then s else s.fullReset 2

/-- RESET_N_RELEASE (R433). -/
def State.doResetNRelease (s : State) (b : BootIn) : State := ({ s with rst := { s.rst with pinHeld := false } }).bootIf b

/-! ### Rails and reference clocks (R425, R429, R431, R435) -/

/-- RAIL_UNDERVOLTAGE (R425): a full reset, held; UV_RAIL names the lowest rail. With VDD_IO out of tolerance no other monitor is active. VDD_HUB
clears the causes, to POR, and the latch of the thermal trip (R429, R435). (DEDUCED, log entry 62) -/
def State.doRailUndervoltage (s : State) (rails : Nat) : State :=
  match (setBits 12 rails).head? with
  | none => s
  | some r =>
    let s : State := { s with rst := { s.rst with railHeld := true } }
    if rails.testBit 1 then
      let s : State := { s with rst := { s.rst with thermTrip := false, tripHeld := false } }
      ({ s with regs := mdel s.regs Reg.pwrResetCause }).fullReset 0
    else
      let s := s.setReg Reg.pwrResetCause (setFld (s.reg Reg.pwrResetCause) 11 8 r)
      s.fullReset 4

/-- RAIL_RESTORED (R425): every rail has been in tolerance for 1 ms. -/
def State.doRailRestored (s : State) (b : BootIn) : State := ({ s with rst := { s.rst with railHeld := false } }).bootIf b

/-- Marks an input as lost or running. -/
def State.setRef (s : State) (k : Nat) (lost : Bool) : State :=
  let m : BitVec 7 := BitVec.ofNat 7 (2 ^ k)
  { s with rst := { s.rst with refLost := if lost then s.rst.refLost ||| m else s.rst.refLost &&& ~~~ m } }

/-- Sets whether E0 and E1 are down. -/
def State.setEth (s : State) (down : Bool) : State := { s with fe := { s.fe with linkDown := [down, down] } }

/-- REFCLK_LOSS (R431): input 0 SYS, 1 PCIE, 2 ETH, 3 to 6 RHB0 to RHB3. -/
def State.doRefclkLoss (s : State) (k : Nat) : State :=
  let s := s.setRef k true
  if k = 0 then ({ s with rst := { s.rst with clkHeld := true } }).fullReset 8
  else if k = 1 then { s with pilot := { s.pilot with hostLink := false } }
  else if k = 2 then s.setEth true
  else if k < 7 then (if s.portUp (k - 3) then s.linkDown (k - 3) false else s)
  else s

/-- REFCLK_RESTORED (R431): the clock of SYS has run in tolerance for 1 ms, or another input runs again. -/
def State.doRefclkRestored (s : State) (k : Nat) (b : BootIn) : State :=
  let s := s.setRef k false
  if k = 0 then ({ s with rst := { s.rst with clkHeld := false } }).bootIf b
  else if k = 2 then s.setEth false
  else s

/-- PERST_N (R434): while it is low the host port is in reset and its link is lost. -/
def State.doPerstN (s : State) (low : Bool) : State :=
  let s : State := { s with rst := { s.rst with perstLow := low } }
  if low then { s with pilot := { s.pilot with hostLink := false } } else s

/-! ### Temperatures, power and gating (R427-R430) -/

/-- Whether a sensor takes part: a stack whose domain is off does not (R428). -/
def State.sensorOn (s : State) (k : Nat) : Bool := if k < 36 then true else s.domOn (64 + (k - 36))

/-- Alert threshold of a sensor. -/
def State.alertAt (s : State) (k : Nat) : Int :=
  ((if k < 36 then fld (s.reg Reg.pwrThermCtrl) 15 8 else fld (s.reg Reg.pwrThermCtrl) 7 0 : Nat) : Int)

/-- Trip threshold of a sensor. -/
def tripAt (k : Nat) : Int := if k < 36 then 110 else 105

/-- The last reading of a sensor. -/
def State.temp (s : State) (k : Nat) : Int := s.therm.temps.getD k 0

/-- Whether the limit of R427 is exceeded. -/
def State.overLimit (s : State) : Bool := decide (fld (s.reg Reg.pwrLimit) 10 0 < s.therm.power)

/-- Whether dispatch is gated for the alert (R430). -/
def State.thermGate (s : State) : Bool := s.therm.alert && flag (s.reg Reg.pwrThermCtrl) 31

/-- TEMPERATURE_SAMPLE (R428, R429): the alert with its hysteresis; two consecutive readings at a trip threshold trip the device. (DEDUCED, log entry
62) -/
def State.doTemperatureSample (s : State) (readings : List Int) : State :=
  if s.rst.mode = .held then s
  else
    let s : State := { s with therm := { s.therm with temps := readings } }
    let on := (List.range 44).filter s.sensorOn
    let trips := (List.range 44).map (fun k =>
      if s.sensorOn k && decide (tripAt k ≤ s.temp k) then s.therm.tripCount.getD k 0 + 1 else 0)
    let alert := on.any (fun k => decide (s.alertAt k ≤ s.temp k)) ||
      (s.therm.alert && !(on.all (fun k => decide (s.temp k < s.alertAt k - 3))))
    let s : State := { s with therm := { s.therm with tripCount := trips, alert := alert } }
    if trips.any (2 ≤ ·) then ({ s with rst := { s.rst with thermTrip := true, tripHeld := true } }).fullReset 0 else s

/-- POWER_AVERAGE (R427). -/
def State.doPowerAverage (s : State) (watts : Nat) : State :=
  if s.rst.mode = .held then s else { s with therm := { s.therm with power := watts } }

/-- GATE_DUTY_UPDATE (R430): each 1 ms, DUTY falls by 1 to 4 while a gating condition holds, else rises by 1 to 16. (DEDUCED, log entry 62) -/
def State.doGateDutyUpdate (s : State) : State :=
  if s.rst.mode = .held then s
  else
    let d := s.therm.duty
    let s := if d < 16 then s.bump Reg.pwrCntGated else s
    { s with therm := { s.therm with duty := if s.overLimit || s.thermGate then max 4 (d - 1) else min 16 (d + 1) } }

/-! ### GPIO (R439) -/

/-- A pin. -/
def State.pin (s : State) (n : Nat) : Gpio := s.gpio.getD n {}

/-- GPIO_INPUT_CHANGE: the debounce timing starts again; a change not accepted before it counts as a bounce. (DEDUCED, log entry 63) -/
def State.doGpioInputChange (s : State) (n : Nat) (level : Bool) : State :=
  let g := s.pin n
  if g.level = level then s
  else
    let s := if g.level ≠ g.accepted ∧ s.rst.mode ≠ .held then s.bump Reg.pwrCntGpioBounce else s
    { s with gpio := s.gpio.set n { g with level := level, since := s.now } }

/-- GPIO_DEBOUNCE_ACCEPT: the level has been held for the pin's period; an edge enabled for its direction sets its event bit;
nothing is accepted in full reset (R432). (DEDUCED, log entry 63) -/
def State.doGpioDebounceAccept (s : State) (n : Nat) : State :=
  let g := s.pin n
  let us := fld (s.reg (Reg.pwrGpioDeb + 4 * n)) 9 0
  if g.level = g.accepted ∨ s.now < g.since + us ∨ s.rst.mode = .held then s
  else
    let s : State := { s with gpio := s.gpio.set n { g with accepted := g.level } }
    if flag (s.reg (if g.level then Reg.pwrGpioRiseEn else Reg.pwrGpioFallEn)) n then
      { s.orReg Reg.pwrGpioEvt (w32 (2 ^ n)) with gpioLine := true }
    else s

/-! ### The TAP (R436) -/

/-- Updates the TAP's instruction. -/
def State.tapTo (s : State) (ir : Nat) (out : JtagOut) : State := { s with jtag := { s.jtag with ir := ir, outputs := out } }

/-- IDCODE of the part: 0x032A_89A7 on A1, 0x132A_89A7 on B0. -/
def idCode : Word := if Config.steppingB0 then 0x132A89A7 else 0x032A89A7

/-- TAP_RESET: IDCODE is selected. -/
def State.doTapReset (s : State) : State := s.tapTo 0x01 .functional
/-- IDCODE: the 32-bit identifier is captured. -/
def State.doIdcode (s : State) : State := { s.tapTo 0x01 .functional with jtag := { (s.tapTo 0x01 .functional).jtag with data := idCode } }
/-- SAMPLE/PRELOAD. -/
def State.doSamplePreload (s : State) : State := s.tapTo 0x02 .functional
/-- EXTEST: the boundary-scan register drives the lands. -/
def State.doExtest (s : State) : State := s.tapTo 0x03 .driven
/-- CLAMP: the outputs hold. -/
def State.doClamp (s : State) : State := s.tapTo 0x04 .held
/-- HIGHZ: the outputs float. -/
def State.doHighz (s : State) : State := s.tapTo 0x05 .highz
/-- BYPASS. -/
def State.doBypass (s : State) : State := s.tapTo 0xFF .functional

end Sys2Proof.Machine
end

