-- ==== Sys2Proof/Machine/Flags.lean ====
section
/-! DEFINITION. Status views: what the read-only registers that reflect the units' state return (R24, R77, R107, R135, R163, R182, R214, R215, R237,
R297, R325, R326, R348, R349, R375, R428, R430, R440). Every other register returns the value that it holds. -/

namespace Sys2Proof.Machine

/-! ### Cores -/

/-- CORE_STATUS (R107). -/
def State.coreStatusWord (s : State) (n : Nat) : Word :=
  let c := s.core n
  let drain := match c.ctl with
    | .fence _ => true
    | _ => false
  w32 (b2n (flag (s.cReg n Reg.coreFault) 31) * 2 ^ 31 + b2n drain * 2 ^ 30 + b2n (c.ctl == .barrier) * 2 ^ 29 + b2n c.idle * 2 ^ 28 +
    b2n (c.run == .compat) * 2 ^ 27 + c.cur % 32 * 2 ^ 16 + c.curSl.fences % 2 ^ 16)

/-- CORE_QLEVEL (R107). -/
def State.coreQlevelWord (s : State) (n : Nat) : Word :=
  w32 ((s.core n).sxQ.length * 2 ^ 16 + (s.core n).vxQ.length * 2 ^ 8 + (s.core n).mxQ.length)

/-- CORE_SB (R107). -/
def State.coreSbWord (s : State) (n : Nat) : Word := w32 ((s.core n).sxA.length * 2 ^ 16 + (s.core n).sbUsed)

/-- CORE_LOOP (R107). -/
def State.coreLoopWord (s : State) (n : Nat) : Word :=
  let l := (s.core n).curSl.loops
  w32 (l.length * 2 ^ 29 + ((l.head?.map Loop.li).getD 0) % 2 ^ 18)

/-- CORE_PREEMPT (R326): STATE, and DONE as held. -/
def State.corePreemptWord (s : State) (n : Nat) : Word := w32 ((s.core n).preempt * 2 ^ 16 + fld (s.cReg n Reg.corePreempt) 0 0)

/-- MX_STATUS (R135). (DESIGN CHOICE, log entry 23) -/
def State.mxStatusWord (s : State) (n : Nat) : Word :=
  let c := s.core n
  w32 (b2n (c.mxA.any (fun d => !d.done)) * 2 ^ 31 + b2n c.plane1.valid * 2 ^ 30 + b2n c.plane0.valid * 2 ^ 29 + c.front % 2 * 2 ^ 28 +
    c.tileQ.length * 2 ^ 16 + min 2 c.buffers * 2 ^ 14)

/-- MX_LOAD_INFO (R135). -/
def State.mxLoadWord (s : State) (n : Nat) : Word :=
  let p := (s.core n).frontPlane
  w32 (p.fmt * 2 ^ 28 + p.gsize * 2 ^ 26 + p.emax * 2 ^ 20 + p.k * 2 ^ 10 + p.n)

/-- VX_STATUS (R163): a pass waits on the tile queue between commands only where the queue is empty; REGWAIT is left out. (DESIGN CHOICE,
log entry 23) -/
def State.vxStatusWord (s : State) (n : Nat) : Word :=
  match (s.core n).vxA.find? (fun d => !d.done) with
  | some d => w32 (2 ^ 31 + b2n (popsTiles d && (s.core n).tileQ.isEmpty) * 2 ^ 30 + (if isChain d.op then opVxChain else d.op % 256))
  | none => 0

/-- SPD_STATUS (R182). -/
def State.spdStatusWord (s : State) (n : Nat) : Word :=
  let c := s.core n
  w32 (b2n (s.domOpen (32 + n)) * 2 ^ 31 + b2n c.revoking.isSome * 2 ^ 30 + b2n (c.bist.any (fun b => b.1 == 0)) * 2 ^ 29)

/-- The granule that SPD_TAG_SEL names. -/
def State.granuleSel (s : State) (n : Nat) : Nat := fld (s.cReg n Reg.spdTagSel) 11 0

/-- SPD_TAG (R182). -/
def State.spdTagWord (s : State) (n : Nat) : Word :=
  match mget (s.core n).tags (s.granuleSel n) with
  | some c => w32 (2 ^ 31 + c % 4096)
  | none => 0

/-- The written bits of the selected granule (R182). -/
def State.writtenSel (s : State) (n : Nat) : Nat := (mgetD (s.core n).written (s.granuleSel n) (0 : BitVec 64)).toNat

/-- SX_STATUS (R214). -/
def State.sxStatusWord (s : State) (n : Nat) : Word :=
  w32 (fld (s.cReg n Reg.sxCtrl) 1 0 * 2 ^ 30 + (s.core n).sxA.length * 2 ^ 16 + (s.core n).outs.length)

/-- SX_DESC (R214). -/
def State.sxDescWord (s : State) (n : Nat) : Word :=
  let sel := s.cReg n Reg.sxDescSel
  let c := s.core n
  let d := c.desc (fld sel 12 8) (fld sel 3 0)
  let st := if d.pending then 2 else if d.live.length = 0 then 0 else if d.live.length = 1 then 1 else 3
  let out := (c.outs.filter (fun x => d.live.any (fun g => g.2 == x.seq))).length
  w32 (st * 2 ^ 30 + d.gen % 256 * 2 ^ 20 + (d.live.head?.map Prod.fst).getD 0 % 256 * 2 ^ 12 + out)

/-- NKL_STATUS (R215). (DESIGN CHOICE, log entry 23) -/
def State.nklStatusWord (s : State) (n : Nat) : Word :=
  w32 (b2n (s.core n).bypass * 2 ^ 31 + (s.core n).takeQ.length * 2 ^ 8 + min 64 (s.core n).inbox.length * 2 ^ 16 + (s.core n).takes.length)

/-- The selected entry of the seen table (R215). -/
def State.seenSel (s : State) (n : Nat) : Option Seen := (s.core n).seen[fld (s.cReg n Reg.nklSeenSel) 3 0]?

/-- NKL_SEEN0 (R215). -/
def State.seen0Word (s : State) (n : Nat) : Word :=
  match s.seenSel n with
  | some e => w32 (2 ^ 31 + b2n e.done * 2 ^ 30 + e.ctx % 4096 * 2 ^ 16 + e.ntag % 2 ^ 16)
  | none => 0

/-- NKL_SEEN1 (R215). -/
def State.seen1Word (s : State) (n : Nat) : Word :=
  match s.seenSel n with
  | some e => w32 (e.batch % 2 ^ 16 * 2 ^ 16 + e.last % 2 ^ 16)
  | none => 0

/-- The Loupe's request whose turn it is (R230). -/
def Core.loupeTurn (c : Core) : Option LoupeReq :=
  (c.loupeOrder.find? (fun r => c.loupe.any (fun x => x.req == r && decide (x.next < x.blocks)))).bind
    (fun r => c.loupe.find? (fun x => x.req == r && decide (x.next < x.blocks)))

/-- LPE_STATUS (R237). (DESIGN CHOICE, log entry 23) -/
def State.lpeStatusWord (s : State) (n : Nat) : Word :=
  let bufs := min 2 (((s.core n).loupe.map (fun r => ceilDiv r.out.length 4096)).sum)
  match (s.core n).loupeTurn with
  | some r => w32 (2 ^ 31 + r.req * 2 ^ 29 + bufs * 2 ^ 24 + r.next % 2 ^ 16)
  | none => w32 (bufs * 2 ^ 24)

/-- The views of a core window. -/
def coreViews : List (Nat × (State → Nat → Word)) :=
  [(Reg.coreStatus, State.coreStatusWord), (Reg.coreQlevel, State.coreQlevelWord), (Reg.coreSb, State.coreSbWord),
   (Reg.coreLoop, State.coreLoopWord), (Reg.corePcLo, fun s n => w32 (s.core n).curSl.pc),
   (Reg.corePcHi, fun s n => w32 ((s.core n).curSl.pc / 2 ^ 32 % 2 ^ 16)), (Reg.coreWdogCnt, fun s n => w32 (min (s.core n).wdog 0xFFFFFFFF)),
   (Reg.corePreempt, State.corePreemptWord), (Reg.coreLive, fun s n => w32 (((s.core n).slices.map SliceSt.live).sum % 2 ^ 19)),
   (Reg.mxStatus, State.mxStatusWord), (Reg.mxLoadInfo, State.mxLoadWord),
   (Reg.mxEscInfo, fun s n => w32 ((s.core n).frontPlane.escTotal % 2 ^ 16)), (Reg.vxStatus, State.vxStatusWord),
   (Reg.vxWss, fun s n => w32 (s.core n).wss.toNat), (Reg.vxTag, fun s n => (s.core n).vxTag), (Reg.spdStatus, State.spdStatusWord),
   (Reg.spdTag, State.spdTagWord), (Reg.spdWrittenLo, fun s n => w32 (s.writtenSel n)),
   (Reg.spdWrittenHi, fun s n => w32 (s.writtenSel n / 2 ^ 32)), (Reg.sxStatus, State.sxStatusWord), (Reg.sxDesc, State.sxDescWord),
   (Reg.nklStatus, State.nklStatusWord), (Reg.nklSeen0, State.seen0Word), (Reg.nklSeen1, State.seen1Word), (Reg.lpeStatus, State.lpeStatusWord)]

/-! ### The hub -/

/-- Word `k` of the event at the head of the Logbook's queue (R77). -/
def State.evqWord (s : State) (k : Nat) : Word := wd (s.log.evq.headD []) k

/-- LOG_SCHED_STATUS (R325). -/
def State.schedStatusWord (s : State) : Word :=
  let pre := ((List.range 32).filter (fun n => (s.core n).preempt == 1 || (s.core n).preempt == 2)).length
  w32 (s.sched.ready.length * 2 ^ 16 + s.sched.grants.length * 2 ^ 8 + pre)

/-- LOG_SCHED_GRANT (R325). -/
def State.grantWord (s : State) : Word :=
  match s.sched.grants.head? with
  | some g => w32 (2 ^ 31 + g.1 % 4096)
  | none => 0

/-- LOG_KV_STATUS (R297). -/
def State.kvStatusWord (s : State) : Word :=
  w32 (b2n (!s.log.kv.queue.isEmpty) * 2 ^ 31 + s.log.kv.queue.length * 2 ^ 16 + s.log.kv.copies.length % 128)

/-- PWR_STATUS (R24). -/
def State.pwrStatusWord (s : State) : Word :=
  match s.pwr.cur with
  | some r => w32 (2 ^ 31 + s.pwr.queue.length * 2 ^ 16 + b2n r.on * 2 ^ 15 + r.domain)
  | none => w32 (s.pwr.queue.length * 2 ^ 16)

/-- The sensor with the highest reading among those that take part (R440). -/
def State.hottest (s : State) : Nat :=
  ((List.range 44).filter s.sensorOn).foldl (fun b k => if s.temp b < s.temp k then k else b) 0

/-- A reading as 8 bits, two's complement. -/
def temp8 (t : Int) : Nat := (t % 256).toNat

/-- The highest reading of a list of sensors, or 0 when there is none. -/
def State.maxTemp (s : State) (ks : List Nat) : Int := ((ks.map s.temp).max?).getD 0

/-- PWR_THERM_STATUS (R440). -/
def State.thermStatusWord (s : State) : Word :=
  w32 (b2n s.therm.alert * 2 ^ 31 + s.hottest * 2 ^ 16 + temp8 (s.maxTemp (List.range 36)) * 2 ^ 8 +
    temp8 (s.maxTemp (((List.range 8).map (36 + ·)).filter s.sensorOn)))

/-- PWR_GATE (R440). -/
def State.gateWord (s : State) : Word := w32 (b2n s.overLimit * 2 ^ 31 + b2n s.thermGate * 2 ^ 30 + s.therm.duty)

/-- PWR_GPIO_IN (R440). -/
def State.gpioInWord (s : State) : Word := s.gpio.zipIdx.foldl (fun m g => if g.1.accepted then m ||| w32 (2 ^ g.2) else m) 0

/-- The views of the Logbook, the front end and the power controller. LOG_OVC counts OPEN and CLOSING contexts alone. (DESIGN CHOICE, log entry 78) -/
def hubViews : List (Nat × (State → Word)) :=
  [(Reg.pwrState0, fun s => s.pwrImage 0), (Reg.pwrState1, fun s => s.pwrImage 1), (Reg.pwrState2, fun s => s.pwrImage 2),
   (Reg.pwrStatus, State.pwrStatusWord), (Reg.logTime, State.logTime), (Reg.logOpen, fun s => w32 s.openCtxs.length),
   (Reg.logEvqStatus, fun s => w32 (fld (s.reg Reg.logEvqStatus) 31 31 * 2 ^ 31 + s.log.evq.length)),
   (Reg.logEvqData0, fun s => s.evqWord 0), (Reg.logEvqData1, fun s => s.evqWord 1), (Reg.logEvqData2, fun s => s.evqWord 2),
   (Reg.logEvqData3, fun s => s.evqWord 3), (Reg.logOvc, fun s => w32 ((s.openCtxs.filter (fun i => cxOvc (s.sctx i))).length)),
   (Reg.logWlBusy, fun s => w32 ((s.log.batches.filter (fun b => b.slot.isSome)).length)), (Reg.logKvStatus, State.kvStatusWord),
   (Reg.logSchedStatus, State.schedStatusWord), (Reg.logSchedGrant, State.grantWord),
   (Reg.logSchedGrantCores, fun s => w32 ((s.sched.grants.head?.map (fun g => g.2.toNat)).getD 0)),
   (Reg.pwrThermStatus, State.thermStatusWord), (Reg.pwrThermTemp, fun s => w32 (temp8 (s.temp (fld (s.reg Reg.pwrThermSel) 5 0)))),
   (Reg.pwrPower, fun s => w32 (s.therm.power % 2048)), (Reg.pwrGate, State.gateWord), (Reg.pwrGpioIn, State.gpioInWord)]

/-! ### Memory controllers and Rhumb -/

/-- HBM_XLAT_STATUS (R349). -/
def State.xlatStatusWord (s : State) : Word := w32 (b2n (!s.hub.invQueue.isEmpty) * 2 ^ 31 + s.hub.invQueue.length)

/-- HBM_FILL_STATUS (R349). -/
def State.fillStatusWord (s : State) : Word := w32 (b2n (!s.hub.fills.isEmpty) * 2 ^ 31 + s.hub.fills.length)

/-- A register of the controller of stack `h`. -/
def State.hbmView (s : State) (h off : Nat) : Word :=
  if off = Reg.hbmStatus then w32 (fld (s.reg (hbmKey h off)) 31 28 * 2 ^ 28 + temp8 (s.temp (36 + h)))
  else if off = Reg.hbmXlatStatus then s.xlatStatusWord
  else if off = Reg.hbmFillStatus then s.fillStatusWord
  else s.reg (hbmKey h off)

/-- The entry that RHB_ROUTE_SEL names. -/
def State.routeSel (s : State) : Nat := 1024 * fld (s.pReg 0 Reg.rhbRouteSel) 31 31 + fld (s.pReg 0 Reg.rhbRouteSel) 9 0

/-- RHB_KEY_VALID `k` (R375). -/
def State.keyValidWord (s : State) (k : Nat) : Word :=
  (List.range 32).foldl (fun m i => if s.keyLoaded (32 * k + i) then m ||| w32 (2 ^ i) else m) 0

/-- A register of Rhumb port `p`. -/
def State.rhbView (s : State) (p off : Nat) : Word :=
  if off = Reg.rhbRoute then mgetD s.rhb.routes s.routeSel 0
  else if Reg.rhbKeyValid0 ≤ off ∧ off ≤ Reg.rhbKeyValid7 ∧ off % 4 = 0 then s.keyValidWord ((off - Reg.rhbKeyValid0) / 4)
  else s.reg (rhbKey p off)

end Sys2Proof.Machine
end

