-- ==== Sys2Proof/Machine/Registers.lean ====
section
/-! DEFINITION. The register space: who reaches what (R25-R28), widths and 64-bit quantities (R5, R8), reads and writes of every register (R6, R7, R9)
with the actions that they trigger, accesses to HBM (R332, R342, R403), and the ways in: the register bus, JTAG (R437) and the management bus (R382,
R438). -/

namespace Sys2Proof.Machine

/-! ### The address map (R25-R28, R377) -/

/-- The base of the register space. -/
abbrev regBase : Nat := 0xF0000000000

/-- What an address of the register space names: a channel of the mailboxes, a hub unit, a Rhumb port, a memory controller, a core window; each
with an offset. -/
inductive RegAt where
  | mbx (ch off : Nat)
  | hub (off : Nat)
  | rhb (p off : Nat)
  | hbm (h off : Nat)
  | core (n off : Nat)
  deriving DecidableEq, Repr

/-- The place that an address names, if it lies in an assigned range. BAR0 of virtual function v is written as 2^44 + 65,536 * v (DESIGN CHOICE, log
entry 19). -/
def regAt (addr : Nat) : Option RegAt :=
  if 2 ^ 44 ≤ addr then
    let v := (addr - 2 ^ 44) / 65536
    let off := (addr - 2 ^ 44) % 65536
    if 1 ≤ v ∧ v ≤ 16 ∧ off < 4096 then some (.mbx (1 + v) off) else none
  else if addr < regBase then none
  else
    let d := addr - regBase
    if d < 0x1000 then some (.mbx 0 d)
    else if d < 0x2000 then some (.mbx 1 (d % 4096))
    else if d < 0x3000 then some (.mbx 18 (d % 4096))
    else if d < 0x4000 then some (.mbx 19 (d % 4096))
    else if d < 0x100000 then none
    else if d < 0x400000 then some (.hub d)
    else if d < 0x440000 then some (.rhb ((d - 0x400000) / 0x10000) (d % 0x10000))
    else if d < 0x500000 then none
    else if d < 0x580000 then some (.hbm ((d - 0x500000) / 0x10000) (d % 0x10000))
    else if d < 0x1000000 then none
    else if d < 0x3000000 then some (.core ((d - 0x1000000) / 0x100000) (d % 0x100000))
    else none

/-- Whether a place answers: its domain is on and open, and a core is neither disabled nor retired (R21, R28). -/
def State.answers (s : State) : RegAt → Bool
  | .mbx ch _ => ch ≤ 1 || 17 < ch || decide (ch - 1 ≤ fld s.features 16 12)
  | .hub off => decide (off < 0x200000 ∨ 0x300000 ≤ off) || s.domOpen 79
  | .rhb p _ => s.domOpen (72 + p)
  | .hbm h _ => s.domOpen (64 + h)
  | .core n _ => s.domOpen n && s.coreAllowed n

/-- Whether JTAG reaches the register space (R27, R437). -/
def State.jtagMay (s : State) : Bool := flag s.features 1 && s.rst.mode != .held && s.rst.mode != .rom

/-- Whether an address lies within the grant of an agent (R27, R377). (DESIGN CHOICE, log entry 22) -/
def State.granted (s : State) (ag : Agent) (addr : Nat) : Bool :=
  match ag, regAt addr with
  | .pilot, _ => decide (addr < 2 ^ 44)
  | .jtag, _ => s.jtagMay && decide (addr < 2 ^ 44)
  | .cluster, some (.mbx 0 _) => true
  | .host, some (.mbx ch _) => decide (1 ≤ ch ∧ ch ≤ 17)
  | .rhumb, some (.mbx 18 _) => true
  | .smbus, some (.mbx 19 _) => true
  | _, _ => false

/-- The number of an agent in the bus's tables. -/
def agentNo : Agent → Nat
  | .pilot => 0
  | .cluster => 1
  | .host => 2
  | .rhumb => 3
  | .smbus => 4
  | .jtag => 5

/-! ### 64-bit quantities (R8) -/

/-- The low words of the 64-bit quantities among the hub registers, the core window, a Rhumb block and an HBM block. -/
def lowHub : List Nat :=
  [Reg.logCtxBaseLo, Reg.logCtxMirrorLo, Reg.logModelBaseLo, Reg.logWlBaseLo, Reg.feHoldBaseLo, Reg.feLocalBaseLo, Reg.logKvPooltabLo,
   Reg.logKvReqVaLo, Reg.logSchedCtxtabLo]
/-- Those of a core window. -/
def lowCore : List Nat :=
  [Reg.coreProgBaseLo, Reg.coreListBaseLo, Reg.corePcLo, Reg.coreFaultVaLo, Reg.coreXlatVaLo, Reg.spdWrittenLo, Reg.lpeMapBaseLo]
/-- Those of a memory controller. -/
def lowHbm : List Nat := [Reg.hbmErrPaLo, Reg.hbmXlatRootLo, Reg.hbmXlatInvVaLo, Reg.hbmFillPaLo]

/-- Whether a place is the low word of a 64-bit quantity. -/
def isLow : RegAt → Bool
  | .mbx _ _ => false
  | .hub off => lowHub.contains off
  | .rhb _ off => off == Reg.rhbPeertabLo
  | .hbm _ off => lowHbm.contains off
  | .core _ off => lowCore.contains off

/-- The register after a place. -/
def RegAt.next : RegAt → RegAt
  | .mbx ch off => .mbx ch (off + 4)
  | .hub off => .hub (off + 4)
  | .rhb p off => .rhb p (off + 4)
  | .hbm h off => .hbm h (off + 4)
  | .core n off => .core n (off + 4)

/-- The register before a place. -/
def RegAt.prev : RegAt → RegAt
  | .mbx ch off => .mbx ch (off - 4)
  | .hub off => .hub (off - 4)
  | .rhb p off => .rhb p (off - 4)
  | .hbm h off => .hbm h (off - 4)
  | .core n off => .core n (off - 4)

/-- Whether a place is the high word of a 64-bit quantity. -/
def isHigh (r : RegAt) : Bool := isLow r.prev && r.prev.next == r

/-- The key of a place in the register file. -/
def keyOf : RegAt → Nat
  | .mbx ch off => 4096 * ch + off
  | .hub off => off
  | .rhb p off => rhbKey p off
  | .hbm h off => hbmKey h off
  | .core n off => coreKey n off

/-! ### Reads (R6, R9) -/

/-- A register of a channel (R378). -/
def State.mbxView (s : State) (ch off : Nat) : Word :=
  let c := s.chan ch
  if off = 0x000 then s.mbxStatus ch
  else if off = 0x008 then c.ctrl
  else if off = 0x00C then c.err
  else if off = 0x014 then c.evDrop
  else if off % 4 ≠ 0 then 0
  else if 0x100 ≤ off ∧ off < 0x200 then mgetD c.req ((off - 0x100) / 4) 0
  else if 0x200 ≤ off ∧ off < 0x300 then mgetD c.rsp ((off - 0x200) / 4) 0
  else if 0x300 ≤ off ∧ off < 0x320 then wd (c.events.headD []) ((off - 0x300) / 4)
  else 0

/-- What a place reads as. -/
def State.view (s : State) : RegAt → Word
  | .mbx ch off => s.mbxView ch off
  | .hub off =>
    match hubViews.find? (fun v => v.1 == off) with
    | some v => v.2 s
    | none => s.reg off
  | .rhb p off => if off % 4 = 0 ∧ off < 0x1000 then s.rhbView p off else 0
  | .hbm h off => if off % 4 = 0 ∧ off < 0x1000 then s.hbmView h off else 0
  | .core n off =>
    match coreViews.find? (fun v => v.1 == off) with
    | some v => v.2 s n
    | none => s.cReg n off

/-! ### Writes (R6-R9) -/

/-- Registers that ignore a write while the core is not idle (R107, R182, R237, R326). -/
def busyRegs : List Nat :=
  [Reg.coreCtx, Reg.coreSlices, Reg.coreProgBaseLo, Reg.coreProgBaseHi, Reg.coreListBaseLo, Reg.coreListBaseHi, Reg.lpeMapBaseLo, Reg.lpeMapBaseHi,
   Reg.coreWdog, Reg.spdSpare]

/-- CORE_CTRL (R107): COMPAT_EN; ABORT on a running core, START on an idle one. (DEDUCED, log entry 65) -/
def State.writeCoreCtrl (s : State) (n : Nat) (v : Word) : State :=
  let idle := (s.core n).idle
  let s := s.plainWrite (coreKey n Reg.coreCtrl) v
  if idle && flag v 0 then s.doCoreStart n (flag v 3) else if flag v 1 then s.doCoreAbort n else s

/-- CORE_PREEMPT (R326). -/
def State.writeCorePreempt (s : State) (n : Nat) (v : Word) : State :=
  let s := s.plainWrite (coreKey n Reg.corePreempt) v
  let s := if flag v 31 then s.doPreemptRequest n else s
  if flag v 30 then s.doPreemptResume n else s

/-- A write to a register of a core window. -/
def State.writeCore (s : State) (n off : Nat) (v : Word) : State :=
  if off = Reg.coreCtrl then s.writeCoreCtrl n v
  else if off = Reg.corePreempt then s.writeCorePreempt n v
  else if off = Reg.mxBist then (if flag v 31 then s.doMxBist n else s)
  else if off = Reg.vxBist then (if flag v 31 then s.doVxBist n else s)
  else if off = Reg.spdBist then (if flag v 31 then s.doSpdBist n (fld v 5 0) else s.plainWrite (coreKey n off) v)
  else if off = Reg.spdRevoke then (if flag v 31 then s.doSpdRevoke n (fld v 11 0) (s.core n).idle else s)
  else if off = Reg.spdSpare then s.writeSpare n v
  else if off = Reg.sxShare then s.doSxShareWrite n v
  else if off = Reg.sxBurst then
    let s := s.plainWrite (coreKey n off) v
    s.modCore n (fun c => { c with buckets := c.buckets.map (min (s.bucketCap n)) })
  else s.plainWrite (coreKey n off) v

/-- A write to a register of the Logbook, the front end or the power controller. -/
def State.writeHub (s : State) (off : Nat) (v : Word) : State :=
  if off = Reg.pwrReq then s.pwrRequest (flag v 31) (fld v 6 0)
  else if off = Reg.logKvCtrl then (s.plainWrite off v).kvAdmit
  else if off = Reg.logKvReq then s.kvReqWrite v
  else if off = Reg.logSchedSubmit then (if flag v 31 then s.doLogSchedSubmit (fld v 11 0) else s)
  else if off = Reg.logSchedRedispatch then (if flag v 31 then s.doLogSchedRedispatch (fld v 4 0) else s)
  else s.plainWrite off v

/-- A write to a register of a memory controller. -/
def State.writeHbm (s : State) (h off : Nat) (v : Word) : State :=
  if off = Reg.hbmTest then (if flag v 31 then s.doHbmTest h (fld v 5 0) else s.plainWrite (hbmKey h off) v)
  else if off = Reg.hbmXlatInv then (if flag v 31 then s.doHbmXlatInv v else s.setInvN v)
  else if off = Reg.hbmFillReq then (if flag v 31 then s.doHbmFillReq (flag v 30) else s)
  else if off = Reg.hbmFail then (if flag v 31 then s.doHbmFail (fld v 2 0) else s)
  else if off = Reg.hbmRgnLock then s.doHbmRgnLock v
  else if Reg.hbmRgnA ≤ off ∧ off < Reg.hbmRgnLock ∧ flag (s.reg (hbmKey 0 Reg.hbmRgnLock)) 0 then s.orReg (hbmKey 0 Reg.hbmHubErr) 1
  else s.plainWrite (hbmKey h off) v

/-- RHB_CTRL (R374): a port that is enabled trains; one that is disabled goes down. -/
def State.writeRhbCtrl (s : State) (p : Nat) (v : Word) : State :=
  let was := flag (s.pReg p Reg.rhbCtrl) 0
  let s := s.plainWrite (rhbKey p Reg.rhbCtrl) v
  let on := flag (s.pReg p Reg.rhbCtrl) 0
  let s := if on && !was && !(s.portTesting p) then (s.setStatus p false true false false 0).modPort p (fun x => { x with downAt := some s.now })
    else if was && !on then s.linkDown p (s.portTesting p) else s
  if flag v 1 then s.doRhbRetrain p else s

/-- A write to a register of a Rhumb block. RHB_KEY_CTRL with LOAD and CLEAR both 1 loads, then clears. (DESIGN CHOICE, log entry 72) -/
def State.writeRhb (s : State) (p off : Nat) (v : Word) : State :=
  if off = Reg.rhbCtrl then s.writeRhbCtrl p v
  else if off = Reg.rhbTest then (if flag v 31 then s.doRhbTest p else s)
  else if off = Reg.rhbDevid then s.doRhbDevidWrite v
  else if off = Reg.rhbRoute then s.modRhb (fun r => { r with routes := mputD 0 r.routes s.routeSel (v &&& 0xC000000F) })
  else if off = Reg.rhbKeyCtrl then
    let s := if flag v 31 then s.doRhbKeyLoad (fld v 7 0) else s
    if flag v 30 then s.doRhbKeyClear (fld v 7 0) else s
  else if Reg.rhbKeyData0 ≤ off ∧ off ≤ Reg.rhbKeyData7 ∧ off % 4 = 0 then
    s.modRhb (fun r => { r with keyData := mputD 0 r.keyData ((off - Reg.rhbKeyData0) / 4) v })
  else s.plainWrite (rhbKey p off) v

/-- MBX_CTRL (R378, R381): a condition enabled while it holds signals. (DEDUCED, log entry 64) -/
def State.writeMbxCtrl (s : State) (ch : Nat) (v : Word) : State :=
  let c := s.chan ch
  let s := s.modChan ch (fun c => { c with ctrl := v &&& 7 })
  let s := if flag v 1 && !(flag c.ctrl 1) && !c.events.isEmpty then s.signal ch 1 else s
  if flag v 2 && !(flag c.ctrl 2) && c.err != 0 then s.signal ch 2 else s

/-- A write to a register of a channel (R378-R380). -/
def State.writeMbx (s : State) (ch off : Nat) (v : Word) : State :=
  if off = 0x000 then (if flag v 27 then s.modChan ch (fun c => { c with evtOvf := false }) else s)
  else if off = 0x004 then (if flag v 31 then s.doMbxSend ch else s)
  else if off = 0x008 then s.writeMbxCtrl ch v
  else if off = 0x00C then s.modChan ch (fun c => { c with err := c.err &&& ~~~ v })
  else if off = 0x010 then (if flag v 31 then s.popEvent ch else s)
  else if 0x100 ≤ off ∧ off < 0x200 ∧ off % 4 = 0 then s.mbxReq ch ((off - 0x100) / 4) v
  else s

/-- A write to a place, after the rules for pairs. -/
def State.writeAt (s : State) (r : RegAt) (v : Word) : State :=
  match r with
  | .mbx ch off => s.writeMbx ch off v
  | .hub off => s.writeHub off v
  | .rhb p off => s.writeRhb p off v
  | .hbm h off => s.writeHbm h off v
  | .core n off => s.writeCore n off v

/-- Whether a place ignores writes now because its core is not idle. -/
def State.coreBusy (s : State) : RegAt → Option Nat
  | .core n off => if busyRegs.contains off && !((s.core n).idle) then some n else none
  | _ => none

/-- Changes the bus. -/
def State.modBus (s : State) (f : Bus → Bus) : State := { s with bus := f s.bus }

/-- A write with the rules for busy cores and for pairs (R8): a low word waits for its high word, with which both take effect. -/
def State.writeReg (s : State) (r : RegAt) (v : Word) : State :=
  match s.coreBusy r with
  | some n => s.cBump n Reg.coreCntBusywr
  | none =>
    if isLow r then s.modBus (fun b => { b with low := mput b.low (keyOf r) v })
    else if isHigh r then
      match mget s.bus.low (keyOf r.prev) with
      | some lo => ((s.modBus (fun b => { b with low := mdel b.low (keyOf r.prev) })).writeAt r.prev lo).writeAt r v
      | none => s.writeAt r v
    else s.writeAt r v

/-! ### The bus (R5, R8, R27, R28) -/

/-- An error response. -/
def State.busError (s : State) : State := s.modBus (fun b => { b with err := true, data := 0 })

/-- A response without error. -/
def State.busOk (s : State) (v : Word) : State := s.modBus (fun b => { b with err := false, data := v })

/-- An access outside an agent's grant (R27): an error response, counted. (DESIGN CHOICE, log entry 22) -/
def State.busRefused (s : State) (ag : Agent) : State :=
  s.busError.modBus (fun b => { b with refused := mput b.refused (agentNo ag) (mgetD b.refused (agentNo ag) 0 + 1) })

/-- The place that an access reaches, if it is in the agent's grant, 4 B wide and aligned, in an assigned range, and answers. -/
def State.reach (s : State) (addr width : Nat) : Option RegAt :=
  if width ≠ 4 ∨ addr % 4 ≠ 0 then none
  else match regAt addr with
    | some r => if s.answers r then some r else none
    | none => none

/-! ### Accesses to HBM (R332, R336, R342, R403, R420; DESIGN CHOICE, log entry 66) -/

/-- Where an access to HBM goes: a physical address with the agent that R332 names and, for a virtual function, its region; or a virtual address in
the space of a context. -/
inductive MemAt where
  | phys (ag : PhysAgent) (pa : Nat) (region : Option Nat)
  | ctx (c va : Nat)
  deriving DecidableEq, Repr

/-- The end of the HBM range (R25). -/
abbrev hbmEnd : Nat := 384 * gib

/-- The region of the BAR2 of virtual function v (R400, R403). (DESIGN CHOICE, log entry 66) -/
def State.bar2Region (s : State) (v : Nat) : Nat := fld (s.cfgWord (0x1B0 + (v - 1))) 7 0

/-- What an access of an agent names in HBM, if anything. An address below 384 GiB is in the HBM range (R25): physical for the cluster and the host's
physical function, and for the Pilot unless HBM_PILOT_AS.EN = 1 makes it a virtual address of CTX_ID (R342). From 2^45 on stand the 48-bit virtual
addresses of the Pilot, and for the host 2^45 + 2^40 * v + PA is the BAR2 of virtual function v (DESIGN CHOICE, log entry 66). -/
def State.memAt (s : State) (ag : Agent) (addr : Nat) : Option MemAt :=
  match ag with
  | .pilot =>
    let as := s.reg (hbmKey 0 Reg.hbmPilotAs)
    if addr < hbmEnd then some (if flag as 31 then .ctx (fld as 11 0) addr else .phys .hub addr none)
    else if 2 ^ 45 ≤ addr ∧ addr < 2 ^ 45 + 2 ^ 48 ∧ flag as 31 = true then some (.ctx (fld as 11 0) (addr - 2 ^ 45))
    else none
  | .cluster => if addr < hbmEnd then some (.phys .app addr none) else none
  | .host =>
    if addr < hbmEnd then some (.phys .host addr none)
    else
      let v := (addr - 2 ^ 45) / 2 ^ 40
      let pa := (addr - 2 ^ 45) % 2 ^ 40
      if 2 ^ 45 ≤ addr ∧ 1 ≤ v ∧ v ≤ fld s.features 16 12 ∧ pa < hbmEnd then some (.phys .host pa (some (s.bar2Region v))) else none
  | _ => none

/-- Whether an access by physical address is let through: the region grants it to the agent, it is the region of a virtual function's BAR2, the agent's
domain is open, and the fill of the regions at boot has ended (R332, R403, R420). (DESIGN CHOICE, log entry 66) -/
def State.memLets (s : State) (ag : PhysAgent) (pa : Nat) (region : Option Nat) : Bool :=
  s.physGrant ag pa && (region.isNone || s.regionOf pa == region) &&
  (match ag with
    | .hub => true
    | .app => s.domOpen 78
    | .host => s.domOpen 77 && s.pilot.bringUp != 5)

/-- Whether the access has a width that HBM takes: 1, 2 or 4 bytes, aligned (DESIGN CHOICE, log entry 66). -/
def memWidth (addr width : Nat) : Bool := (width == 1 || width == 2 || width == 4) && addr % width == 0

/-- A write to HBM; an error response where it is not let through, does not translate, meets no live copy, or cannot be merged with old data. (DESIGN
CHOICE, log entry 66) -/
def State.memWrite (s : State) (m : MemAt) (width : Nat) (v : Word) : State :=
  let bs := natLe width v.toNat
  match m with
  | .phys ag pa region =>
    if memWidth pa width && s.memLets ag pa region then
      let t := s.poke hubIdent pa bs
      if s.writable pa width then t.busOk 0 else t.busError
    else s.busError
  | .ctx c va =>
    if memWidth va width then
      let s := s.hubXlate c va width
      match s.vwrite s.hub.tlb c va bs with
      | .ok t => t.busOk 0
      | .error _ => s.busError
    else s.busError

/-- A read of HBM, with its effects on error state and counters (R334); an error response where no data is delivered. (DESIGN CHOICE, log entry 66) -/
def State.memRead (s : State) (m : MemAt) (width : Nat) : State :=
  match m with
  | .phys ag pa region =>
    if memWidth pa width && s.memLets ag pa region then
      match s.peek hubIdent pa width with
      | some bs => (s.noteRead pa width).busOk (w32 (leNat bs))
      | none => (s.noteRead pa width).busError
    else s.busError
  | .ctx c va =>
    if memWidth va width then
      match s.vread s.hub.tlb c va width with
      | .ok bs => (s.ctxNote c va width).busOk (w32 (leNat bs))
      | .error _ => (s.ctxNote c va width).busError
    else s.busError

/-- A write access: to HBM, or to the register space (R5-R9, R27, R28). (DESIGN CHOICE, log entry 22; DESIGN CHOICE, log entry 66) -/
def State.busWrite (s : State) (ag : Agent) (addr width : Nat) (v : Word) : State :=
  if s.rst.mode = .held then s.busError
  else match s.memAt ag addr with
  | some m => s.memWrite m width v
  | none =>
    if !(s.granted ag addr) then s.busRefused ag
    else match s.reach addr width with
      | none => s.busError
      | some r => (s.writeReg r v).busOk 0

/-- The key of a capture. -/
def captureKey (ag : Agent) (r : RegAt) : Nat := 2 ^ 28 * agentNo ag + keyOf r

/-- What a read does beside its answer: LOG_EVQ_DATA3 removes the event, LOG_SCHED_GRANT_CORES the grant (R77, R325). The Pilot's firmware relays the
event, or starts the granted lists. -/
def State.readEffect (s : State) (ag : Agent) (r : RegAt) : State :=
  if r = .hub Reg.logEvqData3 then (if ag = .pilot then s.relayEvent else s.evqPop)
  else if r = .hub Reg.logSchedGrantCores then (if ag = .pilot then s.takeGrant else s.grantPop)
  else s

/-- A read access: of HBM, or of the register space, where a low word captures its high word for the agent, whose next read of that returns the
capture (R8). (DESIGN CHOICE, log entry 22; DESIGN CHOICE, log entry 66) -/
def State.busRead (s : State) (ag : Agent) (addr width : Nat) : State :=
  if s.rst.mode = .held then s.busError
  else match s.memAt ag addr with
  | some m => s.memRead m width
  | none =>
    if !(s.granted ag addr) then s.busRefused ag
    else match s.reach addr width with
    | none => s.busError
    | some r =>
      let v := match mget s.bus.capture (captureKey ag r) with
        | some v => v
        | none => s.view r
      let hi := s.view r.next
      let s := (s.readEffect ag r).modBus (fun b => { b with capture := mdel b.capture (captureKey ag r) })
      let s := if isLow r then s.modBus (fun b => { b with capture := mput b.capture (captureKey ag r.next) hi }) else s
      s.busOk v

/-- LOG_EVQ_POP (R76, R77): the agent reads LOG_EVQ_DATA3; the firmware does so only while it runs (R394). (DEDUCED, log entry 50) -/
def State.doLogEvqPop (s : State) (ag : Agent) : State :=
  if ag = .pilot ∧ !s.firmwareRuns then s else s.busRead ag (regBase + Reg.logEvqData3) 4

/-- GRANT_POP (R325): the agent reads LOG_SCHED_GRANT_CORES. (DEDUCED, log entry 50) -/
def State.doGrantPop (s : State) (ag : Agent) : State :=
  if ag = .pilot ∧ !s.firmwareRuns then s else s.busRead ag (regBase + Reg.logSchedGrantCores) 4

/-! ### JTAG (R437) -/

/-- REG_ACCESS: an access of JTAG, whose result the next Capture-DR shows. (DESIGN CHOICE, log entry 22) -/
def State.doRegAccess (s : State) (dr : Nat) : State :=
  let w := dr % 2 = 1
  let off := bits dr 1 24
  let s := s.tapTo 0x20 .functional
  let s : State := { s with jtag := { s.jtag with write := w, offset := off } }
  if !s.jtagMay then { s with jtag := { s.jtag with status := 3 } }
  else
    let a := regBase + 4 * off
    let s := if w then s.busWrite .jtag a 4 (w32 (bits dr 25 32)) else s.busRead .jtag a 4
    { s with jtag := { s.jtag with status := b2n s.bus.err, data := s.bus.data } }

/-! ### The management bus (R382, R438) -/

/-- Whether the device's target interface works. -/
def State.smbusOn (s : State) : Bool := s.rst.mode != .held

/-- Records whether a transfer was acknowledged. -/
def State.smbusAck (s : State) (ok : Bool) : State := { s with smbus := { s.smbus with acked := ok } }

/-- SMBUS_BLOCK_WRITE (R382): a 32-bit write at an offset of mailbox 3; another count or a failing PEC is NACKed. A write to a misaligned
offset is acknowledged although the bus refuses it (R5). (DESIGN CHOICE, log entry 71) -/
def State.doSmbusBlockWrite (s : State) (off : Nat) (v : Word) (count : Nat) (pecOk : Bool) : State :=
  if !s.smbusOn || count != 6 || !pecOk then s.smbusAck false
  else (s.busWrite .smbus (regBase + 0x3000 + off % 4096) 4 v).smbusAck true

/-- SMBUS_SET_POINTER (R382). -/
def State.doSmbusSetPointer (s : State) (off : Nat) (pecOk : Bool) : State :=
  if !s.smbusOn || !pecOk then s.smbusAck false
  else ({ s with smbus := { s.smbus with pointer := off % 4096 } }).smbusAck true

/-- SMBUS_BLOCK_READ (R382): 32 B from the pointer, which advances by 32. (DEDUCED, log entry 64) -/
def State.doSmbusBlockRead (s : State) (count : Nat) : State :=
  if !s.smbusOn || count != 32 then s.smbusAck false
  else
    let p := s.smbus.pointer
    let byte (k : Nat) : Byte := (natLe 4 (s.mbxView 19 (k % 4096 / 4 * 4)).toNat).getD (k % 4) 0
    ({ s with smbus := { s.smbus with lastBlock := (List.range 32).map (fun k => byte (p + k)), pointer := (p + 32) % 4096 } }).smbusAck true

/-- ALERT_RESPONSE (R438): while SMBALERT# is low the device answers with its address. -/
def State.doAlertResponse (s : State) : State :=
  if s.smbusOn && s.mbxLevel 19 then ({ s with smbus := { s.smbus with alertAddr := some (0x58 + s.rst.strap) } }).smbusAck true
  else ({ s with smbus := { s.smbus with alertAddr := none } }).smbusAck false

/-- SMBUS_TIMEOUT (R438): the interface is reset. (DEDUCED, log entry 64) -/
def State.doSmbusTimeout (s : State) : State := { s with smbus := {} }

end Sys2Proof.Machine
end

