-- ==== Sys2Proof/Machine/Guards.lean ====
section
/-! DEFINITION. Where a command finds its unit: in a unit that has no supply nothing happens (R18, R21), and a register of it takes no write
(R21, R28). -/

namespace Sys2Proof.Machine

/-- An event in the domain `d`: nothing happens while it is off (R18, R22). -/
def State.onDomain (s : State) (d : Nat) (f : State → State) : Host.Outcome State Fault Refusal :=
  .next (if s.domOn d then f s else s)

/-- An event that crosses into the domain `d` from outside: it is taken while the domain is on and not fenced (R20). -/
def State.intoDomain (s : State) (d : Nat) (f : State → State) : Host.Outcome State Fault Refusal :=
  .next (if s.domOpen d then f s else s)

/-- An event in core `n`, whose domain is `n` (R18). (DESIGN CHOICE, log entry 21) -/
def State.onCore (s : State) (n : Nat) (f : State → State) : Host.Outcome State Fault Refusal :=
  .next (if n < 32 ∧ s.domOn n then f s else s)

/-- A write to a register of the window of core `n`, which answers only while its domain is on and not fenced (R20, R21, R28). -/
def State.onWindow (s : State) (n : Nat) (f : State → State) : Host.Outcome State Fault Refusal :=
  .next (if n < 32 ∧ s.answers (.core n 0) then f s else s)

/-- An event in the stream front end, domain 79 (R18). -/
def State.onFrontEnd (s : State) (f : State → State) : Host.Outcome State Fault Refusal := s.onDomain 79 f

/-- An event in the units of the main supply: the Logbook, the power controller, the memory path and the fabric, which run but in full reset (R18,
R433). -/
def State.onHub (s : State) (f : State → State) : Host.Outcome State Fault Refusal :=
  .next (if s.rst.mode = .held then s else f s)

end Sys2Proof.Machine
end

