-- ==== Sys2Proof/Machine/ExecBoard.lean ====
section
/-! DEFINITION. Meanings of the commands of the management bus, resets, clocks, temperature, GPIO and JTAG, one definition for each constructor of
Instr. -/

namespace Sys2Proof.Machine

/-- SMBUS_BLOCK_WRITE (R382): command 0x10 of the board controller. -/
def execSmbusBlockWrite (offset : Nat) (data : Word) (count : Nat) (pecOk : Bool) (s : State) : Host.Outcome State Fault Refusal :=
  .next (s.doSmbusBlockWrite offset data count pecOk)

/-- SMBUS_SET_POINTER (R382): command 0x11 of the board controller. -/
def execSmbusSetPointer (offset : Nat) (pecOk : Bool) (s : State) : Host.Outcome State Fault Refusal :=
  .next (s.doSmbusSetPointer offset pecOk)

/-- SMBUS_BLOCK_READ (R382): command 0x12 of the board controller. -/
def execSmbusBlockRead (count : Nat) (s : State) : Host.Outcome State Fault Refusal := .next (s.doSmbusBlockRead count)

/-- ALERT_RESPONSE (R438): a read of the Alert Response Address. -/
def execAlertResponse (s : State) : Host.Outcome State Fault Refusal := .next (s.doAlertResponse)

/-- SMBUS_TIMEOUT (R438): the bus has been held low for 35 ms. -/
def execSmbusTimeout (s : State) : Host.Outcome State Fault Refusal := .next (s.doSmbusTimeout)

/-- FUNCTION_LEVEL_RESET (R404): a Function Level Reset of function `fn`: 0 the physical one, v virtual function v. -/
def execFunctionLevelReset (fn : Nat) (s : State) : Host.Outcome State Fault Refusal :=
  .next (if fn ≤ 16 then s.doFunctionLevelReset fn else s)

/-- PERST_N (R434): the level of PERST_N. -/
def execPerstN (low : Bool) (s : State) : Host.Outcome State Fault Refusal := .next (s.doPerstN low)

/-- RESET_N_LOW (R433): RESET_N is recognised low. -/
def execResetNLow (s : State) : Host.Outcome State Fault Refusal := .next (s.doResetNLow)

/-- RESET_N_RELEASE (R433, R399): RESET_N is recognised released; `boot` is what the board and the checks of the ROM give. -/
def execResetNRelease (boot : BootIn) (s : State) : Host.Outcome State Fault Refusal := .next (s.doResetNRelease boot)

/-- RAIL_UNDERVOLTAGE (R425): the rails of the 12-bit mask are below their thresholds. -/
def execRailUndervoltage (rails : Nat) (s : State) : Host.Outcome State Fault Refusal := .next (s.doRailUndervoltage rails)

/-- REFCLK_LOSS (R431): an input is lost: 0 SYS, 1 PCIE, 2 ETH, 3 to 6 RHB0 to RHB3. -/
def execRefclkLoss (input : Nat) (s : State) : Host.Outcome State Fault Refusal := .next (s.doRefclkLoss input)

/-- TEMPERATURE_SAMPLE (R428): the 44 temperatures are read, in °C. -/
def execTemperatureSample (readings : List Int) (s : State) : Host.Outcome State Fault Refusal := .next (s.doTemperatureSample readings)

/-- POWER_AVERAGE (R427): the power average of the last 1 ms. -/
def execPowerAverage (watts : Nat) (s : State) : Host.Outcome State Fault Refusal := .next (s.doPowerAverage watts)

/-- GATE_DUTY_UPDATE (R430): the 1 ms update of DUTY. -/
def execGateDutyUpdate (s : State) : Host.Outcome State Fault Refusal := .next (s.doGateDutyUpdate)

/-- GPIO_INPUT_CHANGE (R439): a synchronised input changes. -/
def execGpioInputChange (pin : Nat) (level : Bool) (s : State) : Host.Outcome State Fault Refusal := .next (s.doGpioInputChange pin level)

/-- GPIO_DEBOUNCE_ACCEPT (R439): an input has held its level for the debounce period. -/
def execGpioDebounceAccept (pin : Nat) (s : State) : Host.Outcome State Fault Refusal := .next (s.doGpioDebounceAccept pin)

/-- TAP_RESET (R436): TRST_N low, or five TCK cycles with TMS high. -/
def execTapReset (s : State) : Host.Outcome State Fault Refusal := .next (s.doTapReset)

/-- IDCODE (R436): the instruction IDCODE is updated. -/
def execIdcode (s : State) : Host.Outcome State Fault Refusal := .next (s.doIdcode)

/-- SAMPLE_PRELOAD (R436): the instruction SAMPLE/PRELOAD is updated. -/
def execSamplePreload (s : State) : Host.Outcome State Fault Refusal := .next (s.doSamplePreload)

/-- EXTEST (R436): the instruction EXTEST is updated. -/
def execExtest (s : State) : Host.Outcome State Fault Refusal := .next (s.doExtest)

/-- CLAMP (R436): the instruction CLAMP is updated. -/
def execClamp (s : State) : Host.Outcome State Fault Refusal := .next (s.doClamp)

/-- HIGHZ (R436): the instruction HIGHZ is updated. -/
def execHighz (s : State) : Host.Outcome State Fault Refusal := .next (s.doHighz)

/-- BYPASS (R436): the instruction BYPASS is updated. -/
def execBypass (s : State) : Host.Outcome State Fault Refusal := .next (s.doBypass)

/-- REG_ACCESS (R437): Update-DR with the 59 bits `dr` under REG_ACCESS. -/
def execRegAccess (dr : Nat) (s : State) : Host.Outcome State Fault Refusal := .next (s.doRegAccess dr)

/-- HOST_LINK_CHANGE (R404): the PCIe link of the host port is lost or returns. -/
def execHostLinkChange (up : Bool) (s : State) : Host.Outcome State Fault Refusal := .next (s.doHostLinkChange up)

/-- RAIL_RESTORED (R425): every rail is back in tolerance for 1 ms. -/
def execRailRestored (boot : BootIn) (s : State) : Host.Outcome State Fault Refusal := .next (s.doRailRestored boot)

/-- REFCLK_RESTORED (R431): a lost input runs in tolerance again. -/
def execRefclkRestored (input : Nat) (boot : BootIn) (s : State) : Host.Outcome State Fault Refusal := .next (s.doRefclkRestored input boot)

end Sys2Proof.Machine
end

