-- ==== Sys2Proof/Machine/ExecCore.lean ====
section
/-! DEFINITION. Meanings of the commands of a core run: start, lists, control commands and the VDN-8E commands, one definition for each constructor of
Instr. -/

namespace Sys2Proof.Machine

/-- CORE_START (R107): the Pilot writes CORE_CTRL with START = 1. -/
def execCoreStart (core : Nat) (legacy : Bool) (s : State) : Host.Outcome State Fault Refusal :=
  s.onWindow core (fun s => s.doCoreStart core legacy)

/-- CORE_ABORT (R107): the Pilot writes CORE_CTRL with ABORT = 1. -/
def execCoreAbort (core : Nat) (s : State) : Host.Outcome State Fault Refusal := s.onWindow core (fun s => s.doCoreAbort core)

/-- CORE_BATCH_START (R305): the oldest work-list descriptor of core `core` starts its batch. -/
def execCoreBatchStart (core : Nat) (s : State) : Host.Outcome State Fault Refusal := s.onCore core (fun s => s.doCoreBatchStart core)

/-- LIST_FETCH_DATA (R79): the list fetcher of core `core` delivers the next line of command words. -/
def execListFetchData (core : Nat) (s : State) : Host.Outcome State Fault Refusal := s.onCore core (fun s => s.doListFetchData core)

/-- COMMAND_RETIRE (R95): the oldest issued command of the engine retires. -/
def execCommandRetire (core : Nat) (engine : Engine) (s : State) : Host.Outcome State Fault Refusal :=
  s.onCore core (fun s => s.doCommandRetire core engine)

/-- NOP (R88): the dispatcher of core `core` meets NOP. -/
def execNop (core : Nat) (s : State) : Host.Outcome State Fault Refusal := s.onCore core (fun s => s.doNop core)

/-- FENCE (R97): the dispatcher meets FENCE. -/
def execFence (core : Nat) (s : State) : Host.Outcome State Fault Refusal := s.onCore core (fun s => s.doFence core)

/-- FENCE_DRAIN_COMPLETE (R97): the drain conditions of the fence hold. -/
def execFenceDrainComplete (core : Nat) (s : State) : Host.Outcome State Fault Refusal :=
  s.onCore core (fun s => s.doFenceDrainComplete core)

/-- BARRIER_OPEN (R98): the barrier that core `core` waits at opens. -/
def execBarrierOpen (core : Nat) (s : State) : Host.Outcome State Fault Refusal := s.onCore core (fun s => s.doBarrierOpen core)

/-- END (R444): the dispatcher meets END. -/
def execEndList (core : Nat) (s : State) : Host.Outcome State Fault Refusal := s.onCore core (fun s => s.doEnd core)

/-- END_COMPLETE (R444): the drain of END has finished. -/
def execEndComplete (core : Nat) (s : State) : Host.Outcome State Fault Refusal := s.onCore core (fun s => s.doEndComplete core)

/-- LOOP (R90): the dispatcher meets LOOP. -/
def execLoop (core : Nat) (s : State) : Host.Outcome State Fault Refusal := s.onCore core (fun s => s.doLoop core)

/-- ENDLOOP (R90): the dispatcher meets ENDLOOP. -/
def execEndloop (core : Nat) (s : State) : Host.Outcome State Fault Refusal := s.onCore core (fun s => s.doEndloop core)

/-- BANK_POWER (R91, R180): the dispatcher meets BANK_POWER. -/
def execBankPower (core : Nat) (s : State) : Host.Outcome State Fault Refusal := s.onCore core (fun s => s.doBankPower core)

/-- COMPLETE (R92): the dispatcher meets COMPLETE. -/
def execComplete (core : Nat) (s : State) : Host.Outcome State Fault Refusal := s.onCore core (fun s => s.doComplete core)

/-- LOADW (R103): the VDN-8E command LOADW. -/
def execLoadw (core : Nat) (s : State) : Host.Outcome State Fault Refusal := s.onCore core (fun s => s.doLoadw core)

/-- GEMM (R103): the VDN-8E command GEMM. -/
def execGemm (core : Nat) (s : State) : Host.Outcome State Fault Refusal := s.onCore core (fun s => s.doGemm core)

/-- VOP (R103): the VDN-8E command VOP. -/
def execVop (core : Nat) (s : State) : Host.Outcome State Fault Refusal := s.onCore core (fun s => s.doVop core)

/-- DMA_IN (R103): the VDN-8E command DMA_IN. -/
def execDmaIn (core : Nat) (s : State) : Host.Outcome State Fault Refusal := s.onCore core (fun s => s.doDmaIn core)

/-- DMA_OUT (R103): the VDN-8E command DMA_OUT. -/
def execDmaOut (core : Nat) (s : State) : Host.Outcome State Fault Refusal := s.onCore core (fun s => s.doDmaOut core)

/-- SYNC (R103): the VDN-8E command SYNC. -/
def execSync (core : Nat) (s : State) : Host.Outcome State Fault Refusal := s.onCore core (fun s => s.doSync core)

/-- STEP_END (R103): the VDN-8E command STEP_END. -/
def execStepEnd (core : Nat) (s : State) : Host.Outcome State Fault Refusal := s.onCore core (fun s => s.doStepEnd core)

/-- CHAIN_TEST_DONE (R318): the Necklace chain test through the hop of core `core` ends. -/
def execChainTestDone (core : Nat) (pass : Bool) (s : State) : Host.Outcome State Fault Refusal :=
  s.onCore core (fun s => (s.doChainTestDone core pass).continueUp)

end Sys2Proof.Machine
end

