-- ==== Sys2Proof/Machine/ExecEngine.lean ====
section
/-! DEFINITION. Meanings of the commands of the matrix unit, the vector unit and the scratchpad, one definition for each constructor of Instr. -/

namespace Sys2Proof.Machine

/-- MX_LOAD (R115): the dispatcher meets MX_LOAD, or the waiting one issues and runs. -/
def execMxLoad (core : Nat) (inj : Inject) (s : State) : Host.Outcome State Fault Refusal := s.onCore core (fun s => s.doMxLoad core inj)

/-- MX_MATMUL (R122): the dispatcher meets MX_MATMUL, or the waiting one issues and runs. -/
def execMxMatmul (core : Nat) (inj : Inject) (s : State) : Host.Outcome State Fault Refusal := s.onCore core (fun s => s.doMxMatmul core inj)

/-- TILE_PUSH (R129): the oldest full staging buffer is pushed to the tile queue. -/
def execTilePush (core : Nat) (s : State) : Host.Outcome State Fault Refusal := s.onCore core (fun s => s.doTilePush core)

/-- MX_BIST (R134): the Pilot writes MX_BIST with START = 1. -/
def execMxBist (core : Nat) (s : State) : Host.Outcome State Fault Refusal := s.onWindow core (fun s => s.doMxBist core)

/-- MX_BIST_DONE (R134): the array BIST ends with the outcome `pass`. -/
def execMxBistDone (core : Nat) (pass : Bool) (s : State) : Host.Outcome State Fault Refusal :=
  s.onCore core (fun s => (s.doMxBistDone core pass).continueUp)

/-- MX_ATTN (R286): the dispatcher meets MX_ATTN, or the waiting one issues and runs. -/
def execMxAttn (core : Nat) (inj : Inject) (s : State) : Host.Outcome State Fault Refusal := s.onCore core (fun s => s.doMxAttn core inj)

/-- VX_CHAIN (R141): the dispatcher meets VX_CHAIN, or the waiting one issues and runs. -/
def execVxChain (core : Nat) (inj : Inject) (s : State) : Host.Outcome State Fault Refusal := s.onCore core (fun s => s.doVxChain core inj)

/-- VX_REDUCE (R151): the dispatcher meets VX_REDUCE, or the waiting one issues and runs. -/
def execVxReduce (core : Nat) (inj : Inject) (s : State) : Host.Outcome State Fault Refusal := s.onCore core (fun s => s.doVxReduce core inj)

/-- VX_SCAN (R153): the dispatcher meets VX_SCAN, or the waiting one issues and runs. -/
def execVxScan (core : Nat) (inj : Inject) (s : State) : Host.Outcome State Fault Refusal := s.onCore core (fun s => s.doVxScan core inj)

/-- VX_LOAD (R156): the dispatcher meets VX_LOAD, or the waiting one issues and runs. -/
def execVxLoad (core : Nat) (inj : Inject) (s : State) : Host.Outcome State Fault Refusal := s.onCore core (fun s => s.doVxLoad core inj)

/-- VX_STORE (R157): the dispatcher meets VX_STORE, or the waiting one issues and runs. -/
def execVxStore (core : Nat) (inj : Inject) (s : State) : Host.Outcome State Fault Refusal := s.onCore core (fun s => s.doVxStore core inj)

/-- VX_ATTN (R287): the dispatcher meets VX_ATTN, or the waiting one issues and runs. -/
def execVxAttn (core : Nat) (inj : Inject) (s : State) : Host.Outcome State Fault Refusal := s.onCore core (fun s => s.doVxAttn core inj)

/-- VX_BIST (R162): the Pilot writes VX_BIST with START = 1. -/
def execVxBist (core : Nat) (s : State) : Host.Outcome State Fault Refusal := s.onWindow core (fun s => s.doVxBist core)

/-- VX_BIST_DONE (R162): the register march test ends with the outcome `pass`. -/
def execVxBistDone (core : Nat) (pass : Bool) (s : State) : Host.Outcome State Fault Refusal :=
  s.onCore core (fun s => (s.doVxBistDone core pass).continueUp)

/-- SPD_REVOKE (R174): the Pilot writes SPD_REVOKE with GO = 1. -/
def execSpdRevoke (core : Nat) (ctxId : Nat) (s : State) : Host.Outcome State Fault Refusal :=
  s.onWindow core (fun s => s.doSpdRevoke core ctxId (s.core core).idle)

/-- SPD_REVOKE_DONE (R174): the tag pass of the revoke ends. -/
def execSpdRevokeDone (core : Nat) (s : State) : Host.Outcome State Fault Refusal := s.onCore core (fun s => s.doSpdRevokeDone core)

/-- SPD_BIST (R178): the Pilot writes SPD_BIST with START = 1. -/
def execSpdBist (core : Nat) (bank : Nat) (s : State) : Host.Outcome State Fault Refusal := s.onWindow core (fun s => s.doSpdBist core bank)

/-- SPD_BIST_DONE (R179): the bank march test ends with the outcome `pass`. -/
def execSpdBistDone (core : Nat) (pass : Bool) (s : State) : Host.Outcome State Fault Refusal :=
  s.onCore core (fun s => (s.doSpdBistDone core pass).continueUp)

end Sys2Proof.Machine
end

