-- ==== Sys2Proof/Machine/ExecEpian.lean ====
section
/-! DEFINITION. Meanings of the commands of the mailboxes and the Epian requests, one definition for each constructor of Instr. -/

namespace Sys2Proof.Machine

/-- MBX_SEND (R379): the partner of channel `ch` writes MBX_SEND with GO = 1. -/
def execMbxSend (ch : Nat) (s : State) : Host.Outcome State Fault Refusal := s.onHub (fun s => if ch < 20 then s.doMbxSend ch else s)

/-- MBX_EVT_POP (R380): the partner of channel `ch` writes MBX_EVT_POP with GO = 1. -/
def execMbxEvtPop (ch : Nat) (s : State) : Host.Outcome State Fault Refusal := s.onHub (fun s => if ch < 20 then s.popEvent ch else s)

/-- EPIAN_REQUEST_SERVE (R386): the Pilot firmware picks a busy channel and serves its request; `checkOk`: a signature or verification data that it
checks holds. -/
def execEpianRequestServe (checkOk : Bool) (s : State) : Host.Outcome State Fault Refusal := .next (s.doEpianRequestServe checkOk)

/-- HELLO (R387): the request HELLO of channel `ch` is served. -/
def execHello (ch : Nat) (s : State) : Host.Outcome State Fault Refusal := .next (s.serve ch 0x01 (State.helloBody ch))

/-- UNITMAP_READ (R387): the request UNITMAP_READ of the channel is served. -/
def execUnitmapRead (ch : Nat) (s : State) : Host.Outcome State Fault Refusal := .next (s.serve ch 0x02 (State.unitmapBody ch))

/-- COUNTS_READ (R322): the request COUNTS_READ of the channel is served. -/
def execCountsRead (ch : Nat) (s : State) : Host.Outcome State Fault Refusal := .next (s.serve ch 0x03 (State.countsBody ch))

/-- JOB_CREATE (R387): the request JOB_CREATE of the channel is served. -/
def execJobCreate (ch : Nat) (s : State) : Host.Outcome State Fault Refusal := .next (s.serve ch 0x10 (State.jobCreateBody ch))

/-- JOB_MAP (R387): the request JOB_MAP of the channel is served. -/
def execJobMap (ch : Nat) (s : State) : Host.Outcome State Fault Refusal := .next (s.serve ch 0x11 (State.jobMapBody ch))

/-- JOB_UNMAP (R387): the request JOB_UNMAP of the channel is served. -/
def execJobUnmap (ch : Nat) (s : State) : Host.Outcome State Fault Refusal := .next (s.serve ch 0x12 (State.jobUnmapBody ch))

/-- JOB_DESTROY (R387, R445): the request JOB_DESTROY of the channel is served. -/
def execJobDestroy (ch : Nat) (s : State) : Host.Outcome State Fault Refusal := .next (s.serve ch 0x13 (State.jobDestroyBody ch))

/-- LIST_POST (R389): the request LIST_POST of the channel is served. -/
def execListPost (ch : Nat) (s : State) : Host.Outcome State Fault Refusal := .next (s.serve ch 0x14 (State.listPostBody ch))

/-- MODEL_LOAD (R392): the request MODEL_LOAD of the channel is served. -/
def execModelLoad (ch : Nat) (s : State) : Host.Outcome State Fault Refusal := .next (s.serve ch 0x20 (State.modelLoadBody ch))

/-- MODEL_UNLOAD (R392): the request MODEL_UNLOAD of the channel is served. -/
def execModelUnload (ch : Nat) (s : State) : Host.Outcome State Fault Refusal := .next (s.serve ch 0x21 (State.modelUnloadBody ch))

/-- ADAPTER_PUBLISH (R257): the request ADAPTER_PUBLISH of the channel is served. -/
def execAdapterPublish (ch : Nat) (s : State) : Host.Outcome State Fault Refusal := .next (s.serve ch 0x22 (State.adapterPublishBody ch))

/-- ADAPTER_RECLAIM (R259): the old adapter generation of the slot is reclaimed. -/
def execAdapterReclaim (slot : Nat) (gen : Nat) (s : State) : Host.Outcome State Fault Refusal := .next (s.doAdapterReclaim slot gen)

/-- PREFIX_ATTACH (R387): the request PREFIX_ATTACH of the channel is served. -/
def execPrefixAttach (ch : Nat) (s : State) : Host.Outcome State Fault Refusal := .next (s.serve ch 0x23 (State.prefixAttachBody ch))

/-- STREAM_ADMIT (R388): the request STREAM_ADMIT of the channel is served. -/
def execStreamAdmit (ch : Nat) (s : State) : Host.Outcome State Fault Refusal := .next (s.serve ch 0x30 (State.streamAdmitBody ch))

/-- STREAM_CLOSE (R70): the request STREAM_CLOSE of the channel is served. -/
def execStreamClose (ch : Nat) (s : State) : Host.Outcome State Fault Refusal := .next (s.serve ch 0x31 (State.streamCloseBody ch))

/-- STREAM_ABORT (R74): the request STREAM_ABORT of the channel is served. -/
def execStreamAbort (ch : Nat) (s : State) : Host.Outcome State Fault Refusal := .next (s.serve ch 0x32 (State.streamAbortBody ch))

/-- STREAM_QUERY (R387): the request STREAM_QUERY of the channel is served. -/
def execStreamQuery (ch : Nat) (s : State) : Host.Outcome State Fault Refusal := .next (s.serve ch 0x33 (State.streamQueryBody ch))

/-- STREAM_RESERVE (R387): the request STREAM_RESERVE of the channel is served. -/
def execStreamReserve (ch : Nat) (s : State) : Host.Outcome State Fault Refusal := .next (s.serve ch 0x38 (State.streamReserveBody ch))

/-- RESERVATION_LAPSE (R387): 10 s after its response the reservation of context `ctx` lapses. -/
def execReservationLapse (ctx : Nat) (s : State) : Host.Outcome State Fault Refusal := .next (s.doReservationLapse ctx)

/-- STREAM_MIGRATE (R371): the request STREAM_MIGRATE of the channel is served. -/
def execStreamMigrate (ch : Nat) (s : State) : Host.Outcome State Fault Refusal := .next (s.serve ch 0x39 (State.streamMigrateBody ch))

/-- STREAM_SETTLE (R373): the request STREAM_SETTLE of the channel is served. -/
def execStreamSettle (ch : Nat) (s : State) : Host.Outcome State Fault Refusal := .next (s.serve ch 0x3A (State.streamSettleBody ch))

/-- POWER_SET (R390): the request POWER_SET of the channel is served. -/
def execPowerSet (ch : Nat) (s : State) : Host.Outcome State Fault Refusal := .next (s.serve ch 0x40 (State.powerSetBody ch))

/-- POWER_STANDBY (R390): the request POWER_STANDBY of the channel is served. -/
def execPowerStandby (ch : Nat) (s : State) : Host.Outcome State Fault Refusal := .next (s.serve ch 0x41 (State.powerStandbyBody ch))

/-- PARTITION_QUERY (R387): the request PARTITION_QUERY of the channel is served. -/
def execPartitionQuery (ch : Nat) (s : State) : Host.Outcome State Fault Refusal := .next (s.serve ch 0x42 (State.partitionQueryBody ch))

/-- PARTITION_SHARES (R390): the request PARTITION_SHARES of the channel is served. -/
def execPartitionShares (ch : Nat) (s : State) : Host.Outcome State Fault Refusal := .next (s.serve ch 0x43 (State.partitionSharesBody ch))

/-- FW_WRITE (R387): the request FW_WRITE of the channel is served. -/
def execFwWrite (ch : Nat) (s : State) : Host.Outcome State Fault Refusal := .next (s.serve ch 0x50 (State.fwWriteBody ch))

/-- FW_ACTIVATE (R394): the request FW_ACTIVATE of the channel is served; `sigOk`: the inactive slot's signature verifies. -/
def execFwActivate (ch : Nat) (sigOk : Bool) (s : State) : Host.Outcome State Fault Refusal :=
  .next (s.serve ch 0x51 (State.fwActivateBody sigOk ch))

/-- CLUSTER_RESTART (R395): the request CLUSTER_RESTART of the channel is served. -/
def execClusterRestart (ch : Nat) (s : State) : Host.Outcome State Fault Refusal := .next (s.serve ch 0x52 (State.clusterRestartBody ch))

/-- CLUSTER_WATCHDOG (R395): the cluster watchdog expires. -/
def execClusterWatchdog (s : State) : Host.Outcome State Fault Refusal := .next (s.doClusterWatchdog)

/-- CLUSTER_RESTARTED (R393): the loader of the application cluster starts. -/
def execClusterRestarted (s : State) : Host.Outcome State Fault Refusal := .next (s.doClusterRestarted)

/-- PILOT_WATCHDOG (R394): the Pilot watchdog finds the firmware silent for 100 ms. -/
def execPilotWatchdog (s : State) : Host.Outcome State Fault Refusal := .next (s.doPilotWatchdog)

/-- PILOT_RESTARTED (R394): the restarted firmware serves again. -/
def execPilotRestarted (s : State) : Host.Outcome State Fault Refusal := .next (s.doPilotRestarted)

end Sys2Proof.Machine
end

