-- ==== Sys2Proof/Machine/ExecHbm.lean ====
section
/-! DEFINITION. Meanings of the commands of translation, fills and the memory controllers, one definition for each constructor of Instr. -/

namespace Sys2Proof.Machine

/-- HBM_XLAT_INV (R341): the Pilot writes HBM_XLAT_INV with GO = 1. -/
def execHbmXlatInv (value : Word) (s : State) : Host.Outcome State Fault Refusal := s.onHub (fun s => s.doHbmXlatInv value)

/-- INVALIDATION_COMPLETE (R341): the invalidation being served completes. -/
def execInvalidationComplete (s : State) : Host.Outcome State Fault Refusal := s.onHub (fun s => s.doInvalidationComplete.endTeardowns)

/-- HBM_FILL_REQ (R343): the Pilot writes HBM_FILL_REQ with GO = 1. -/
def execHbmFillReq (size : Bool) (s : State) : Host.Outcome State Fault Refusal := s.onHub (fun s => s.doHbmFillReq size)

/-- FILL_COMPLETE (R343): the fill engine finishes the oldest fill. -/
def execFillComplete (s : State) : Host.Outcome State Fault Refusal := s.onHub (fun s => s.doFillComplete)

/-- WALK_COMPLETE (R339): the oldest translation walk of core `core` ends. -/
def execWalkComplete (core : Nat) (s : State) : Host.Outcome State Fault Refusal := s.onCore core (fun s => s.doWalkComplete core)

/-- PATROL_READ (R335): the patrol of the stack reads its next line. -/
def execPatrolRead (stack : Nat) (inj : Inject) (s : State) : Host.Outcome State Fault Refusal :=
  .next (if stack < 8 then s.doPatrolRead stack inj else s)

/-- ON_DIE_ECC_POLL (R328): the controller polls the stack's on-die ECC, which reports `count` corrections. -/
def execOnDieEccPoll (stack : Nat) (count : Nat) (s : State) : Host.Outcome State Fault Refusal :=
  .next (if stack < 8 then s.doOnDieEccPoll stack count else s)

/-- HBM_TEST (R345): the Pilot writes HBM_TEST with START = 1. -/
def execHbmTest (stack : Nat) (pc : Nat) (s : State) : Host.Outcome State Fault Refusal :=
  .next (if stack < 8 then s.doHbmTest stack pc else s)

/-- HBM_TEST_DONE (R345): the channel test ends with `badLines` double-bit lines. -/
def execHbmTestDone (stack : Nat) (badLines : Nat) (s : State) : Host.Outcome State Fault Refusal :=
  .next (if stack < 8 then s.doHbmTestDone stack badLines else s)

/-- STACK_TIMEOUT (R345): a request of the stack goes unanswered, or its PHY does not retrain. -/
def execStackTimeout (stack : Nat) (_phy : Bool) (s : State) : Host.Outcome State Fault Refusal :=
  .next (if stack < 8 then s.doStackTimeout stack else s)

/-- HBM_FAIL (R346): the Pilot writes HBM_FAIL with GO = 1. -/
def execHbmFail (stack : Nat) (s : State) : Host.Outcome State Fault Refusal := s.onHub (fun s => if stack < 8 then s.doHbmFail stack else s)

/-- HBM_RGN_LOCK (R331): the Pilot writes HBM_RGN_LOCK. -/
def execHbmRgnLock (value : Word) (s : State) : Host.Outcome State Fault Refusal := s.onHub (fun s => s.doHbmRgnLock value)

end Sys2Proof.Machine
end

