-- ==== Sys2Proof/Machine/ExecHub.lean ====
section
/-! DEFINITION. Meanings of the commands of the registers and the power controller, one definition for each constructor of Instr. -/

namespace Sys2Proof.Machine

/-- REGISTER_WRITE (R6, R8, R27): `agent` writes `value` in an access of `width` bytes at the physical address `addr`. -/
def execRegisterWrite (agent : Agent) (addr : Nat) (width : Nat) (value : Word) (s : State) : Host.Outcome State Fault Refusal :=
  .next (s.busWrite agent addr width value)

/-- LOW_WORD_READ_CAPTURE (R8): `agent` reads the register at `addr` in an access of `width` bytes; a low word captures its high word. -/
def execLowWordReadCapture (agent : Agent) (addr : Nat) (width : Nat) (s : State) : Host.Outcome State Fault Refusal :=
  .next (s.busRead agent addr width)

/-- PWR_REQ_TURN_ON (R23, R24): the Pilot writes PWR_REQ with TURN_ON = 1 and DOMAIN = `domain` mod 128. -/
def execPwrReqTurnOn (domain : Nat) (s : State) : Host.Outcome State Fault Refusal := s.onHub (fun s => s.doPwrReqTurnOn domain)

/-- PWR_REQ_TURN_OFF (R23, R24): the Pilot writes PWR_REQ with TURN_ON = 0 and DOMAIN = `domain` mod 128. -/
def execPwrReqTurnOff (domain : Nat) (s : State) : Host.Outcome State Fault Refusal := s.onHub (fun s => s.doPwrReqTurnOff domain)

/-- POWER_REQUEST_JUDGED (R23): the request at the head of the power queue is judged. -/
def execPowerRequestJudged (s : State) : Host.Outcome State Fault Refusal := s.onHub (fun s => s.doPowerRequestJudged)

/-- POWER_OFF_DRAINED (R20): the fenced domain has drained; its supply is removed. -/
def execPowerOffDrained (s : State) : Host.Outcome State Fault Refusal := s.onHub (fun s => s.doPowerOffDrained)

/-- DOMAIN_TRANSITION_COMPLETE (R24): the transition in progress completes. -/
def execDomainTransitionComplete (s : State) : Host.Outcome State Fault Refusal := s.onHub (fun s => s.doDomainTransitionComplete)

end Sys2Proof.Machine
end

