-- ==== Sys2Proof/Machine/ExecNet.lean ====
section
/-! DEFINITION. Meanings of the commands of the stream front end, the Logbook and the cluster rings, one definition for each constructor of Instr. -/

namespace Sys2Proof.Machine

/-- MAC_FRAME_RECEIVE (R405, R14): the MAC of port E`port` receives a frame. -/
def execMacFrameReceive (port : Nat) (frame : NetFrame) (s : State) : Host.Outcome State Fault Refusal :=
  s.intoDomain 76 (fun s => if port < 2 then s.doMacFrameReceive port frame else s)

/-- FE_DATAGRAM_PARSE (R40): the front end takes the oldest frame descriptor of port E`port`. -/
def execFeDatagramParse (port : Nat) (s : State) : Host.Outcome State Fault Refusal :=
  s.intoDomain 79 (fun s => if port < 2 then s.doFeDatagramParse port else s)

/-- RTP_PACKET (R46): the RTP packet that the parse of port E`port` matched is taken. -/
def execRtpPacket (port : Nat) (s : State) : Host.Outcome State Fault Refusal :=
  s.onFrontEnd (fun s => if port < 2 then s.doRtpPacket port else s)

/-- RTP_JITTER_CLOSE (R46): JITTER_US after the first packet beyond the open chunk of context `ctx`. -/
def execRtpJitterClose (ctx : Nat) (s : State) : Host.Outcome State Fault Refusal := s.onFrontEnd (fun s => s.doRtpJitterClose ctx)

/-- RTP_SILENCE_CLOSE (R46): one chunk period and JITTER_US after the last packet of context `ctx`. -/
def execRtpSilenceClose (ctx : Nat) (s : State) : Host.Outcome State Fault Refusal := s.onFrontEnd (fun s => s.doRtpSilenceClose ctx)

/-- VSF_DATA (R43): the VSF DATA frame that the parse of port E`port` matched is taken. -/
def execVsfData (port : Nat) (s : State) : Host.Outcome State Fault Refusal :=
  s.onFrontEnd (fun s => if port < 2 then s.doVsfData port else s)

/-- VSF_RACK (R69): the VSF RACK frame that the parse of port E`port` matched is taken. -/
def execVsfRack (port : Nat) (s : State) : Host.Outcome State Fault Refusal :=
  s.onFrontEnd (fun s => if port < 2 then s.doVsfRack port else s)

/-- VSF_CLOSE (R70): the VSF CLOSE frame that the parse of port E`port` matched is taken. -/
def execVsfClose (port : Nat) (s : State) : Host.Outcome State Fault Refusal :=
  s.onFrontEnd (fun s => if port < 2 then s.doVsfClose port else s)

/-- LOCAL_FRAME_INJECT (R44): the front end takes the entry at the consumer index of the local injection ring. -/
def execLocalFrameInject (s : State) : Host.Outcome State Fault Refusal := s.intoDomain 79 (fun s => s.doLocalFrameInject)

/-- HELD_CHUNK_RELEASE (R47): the first held chunk of context `ctx` finds its tokens. -/
def execHeldChunkRelease (ctx : Nat) (s : State) : Host.Outcome State Fault Refusal := s.onFrontEnd (fun s => s.doHeldChunkRelease ctx)

/-- HOLD_TIMEOUT (R47): 4 chunk periods after the start of the hold of context `ctx`. -/
def execHoldTimeout (ctx : Nat) (s : State) : Host.Outcome State Fault Refusal := s.onFrontEnd (fun s => s.doHoldTimeout ctx)

/-- CHUNK_ACCEPTED (R49): the acceptance writes of context `ctx` have completed at the memory controllers. -/
def execChunkAccepted (ctx : Nat) (s : State) : Host.Outcome State Fault Refusal := s.onFrontEnd (fun s => s.doChunkAccepted ctx)

/-- TICK (R54): the 1 ms tick. -/
def execTick (s : State) : Host.Outcome State Fault Refusal := s.onHub (fun s => s.doTick)

/-- HELD_BATCH_DISPATCH (R77): the first held batch finds a work-list slot and room in its queues. -/
def execHeldBatchDispatch (s : State) : Host.Outcome State Fault Refusal := s.onHub (fun s => s.doHeldBatchDispatch)

/-- SLICE_COMPLETION (R92): the oldest completion of core `core` reaches the Logbook. -/
def execSliceCompletion (core : Nat) (s : State) : Host.Outcome State Fault Refusal := s.onHub (fun s => s.doSliceCompletion core)

/-- RESULT_RELEASE (R66): the results of the oldest committed chunk of context `ctx` are released. -/
def execResultRelease (ctx : Nat) (s : State) : Host.Outcome State Fault Refusal := s.onHub (fun s => s.doResultRelease ctx)

/-- RESULT_RETRANSMIT (R69): RTO_MS after the last sending of the oldest unacknowledged result of context `ctx`. -/
def execResultRetransmit (ctx : Nat) (s : State) : Host.Outcome State Fault Refusal := s.onFrontEnd (fun s => s.doResultRetransmit ctx)

/-- LOG_EVQ_POP (R77): `agent` reads LOG_EVQ_DATA3. -/
def execLogEvqPop (agent : Agent) (s : State) : Host.Outcome State Fault Refusal := .next (s.doLogEvqPop agent)

/-- CLUSTER_FRAME_TRANSMIT (R396): the front end takes a frame from the cluster transmit ring of port E`port`. -/
def execClusterFrameTransmit (port : Nat) (s : State) : Host.Outcome State Fault Refusal :=
  s.onFrontEnd (fun s => if port < 2 then s.doClusterFrameTransmit port else s)

/-- LOCAL_RESULT_RING_FREE (R44): the application cluster writes the consumer index of the local result ring. -/
def execLocalResultRingFree (index : Word) (s : State) : Host.Outcome State Fault Refusal :=
  s.onFrontEnd (fun s => s.doLocalResultRingFree index)

end Sys2Proof.Machine
end

