-- ==== Sys2Proof/Machine/ExecRhumb.lean ====
section
/-! DEFINITION. Meanings of the commands of the Rhumb ports, flows, keys and migration, one definition for each constructor of Instr. -/

namespace Sys2Proof.Machine

/-- RHUMB_FLIT_RECEIVE (R353, R354): port P`port` receives a flit. -/
def execRhumbFlitReceive (port : Nat) (flit : RhbFlit) (crcOk : Bool) (s : State) : Host.Outcome State Fault Refusal :=
  .next (if port < 4 then s.doRhumbFlitReceive port flit crcOk else s)

/-- LANE_TEST_DONE (R355): the lane test ends with the failing lanes `failMask`. -/
def execLaneTestDone (port : Nat) (failMask : Word) (s : State) : Host.Outcome State Fault Refusal :=
  .next (if port < 4 then s.doLaneTestDone port failMask else s)

/-- RHB_TEST (R374): the Pilot writes RHB_TEST with START = 1. -/
def execRhbTest (port : Nat) (s : State) : Host.Outcome State Fault Refusal := .next (if port < 4 then s.doRhbTest port else s)

/-- RHB_RETRAIN (R374): the Pilot writes RHB_CTRL with RETRAIN = 1. -/
def execRhbRetrain (port : Nat) (s : State) : Host.Outcome State Fault Refusal := .next (if port < 4 then s.doRhbRetrain port else s)

/-- LINK_UP_CHANGE (R352, R357): the UP of the port rises or falls. -/
def execLinkUpChange (port : Nat) (up : Bool) (s : State) : Host.Outcome State Fault Refusal :=
  .next (if port < 4 then s.doLinkUpChange port up else s)

/-- PORT_FAIL (R369): the link is not retrained within 1 ms. -/
def execPortFail (port : Nat) (s : State) : Host.Outcome State Fault Refusal := .next (if port < 4 then s.doPortFail port else s)

/-- PORT_RETRY_TRAINING (R369): a failed port retries training. -/
def execPortRetryTraining (port : Nat) (s : State) : Host.Outcome State Fault Refusal :=
  .next (if port < 4 then s.doPortRetryTraining port else s)

/-- PUT (R363): a PUT arrives for this device. -/
def execPut (port : Nat) (tx : RhbTx) (tagOk : Bool) (s : State) : Host.Outcome State Fault Refusal :=
  .next (if port < 4 then s.doPut port tx tagOk else s)

/-- GET (R363): a GET arrives for this device. -/
def execGet (port : Nat) (tx : RhbTx) (tagOk : Bool) (s : State) : Host.Outcome State Fault Refusal :=
  .next (if port < 4 then s.doGet port tx tagOk else s)

/-- GETDATA (R364): a GETDATA arrives for this device. -/
def execGetdata (port : Nat) (tx : RhbTx) (tagOk : Bool) (s : State) : Host.Outcome State Fault Refusal :=
  .next (if port < 4 then s.doGetdata port tx tagOk else s)

/-- ACK (R364): an ACK arrives for this device. -/
def execAck (port : Nat) (tx : RhbTx) (tagOk : Bool) (s : State) : Host.Outcome State Fault Refusal :=
  .next (if port < 4 then s.doAck port tx tagOk else s)

/-- NACK (R360): a NACK arrives for this device. -/
def execNack (port : Nat) (tx : RhbTx) (tagOk : Bool) (s : State) : Host.Outcome State Fault Refusal :=
  .next (if port < 4 then s.doNack port tx tagOk else s)

/-- MIG (R371): a MIG arrives for this device. -/
def execMig (port : Nat) (tx : RhbTx) (tagOk : Bool) (s : State) : Host.Outcome State Fault Refusal :=
  .next (if port < 4 then s.doMig port tx tagOk else s)

/-- MIGACK (R371): a MIGACK arrives for this device. -/
def execMigack (port : Nat) (tx : RhbTx) (tagOk : Bool) (s : State) : Host.Outcome State Fault Refusal :=
  .next (if port < 4 then s.doMigack port tx tagOk else s)

/-- MGMT (R383): a MGMT arrives for this device. -/
def execMgmt (port : Nat) (tx : RhbTx) (tagOk : Bool) (s : State) : Host.Outcome State Fault Refusal :=
  .next (if port < 4 then s.doMgmt port tx tagOk else s)

/-- TRANSIT_FORWARD (R358): a transaction for another device arrives. -/
def execTransitForward (port : Nat) (tx : RhbTx) (s : State) : Host.Outcome State Fault Refusal :=
  .next (if port < 4 then s.doTransitForward port tx else s)

/-- FLOW_TIMEOUT (R360): TIMEOUT_US without an acknowledgement on the sender's flow. -/
def execFlowTimeout (flow : Nat) (s : State) : Host.Outcome State Fault Refusal := .next (s.doFlowTimeout flow)

/-- ACK_TIMER (R360): 1 µs after a delivery on the receiver's flow without an ACK. -/
def execAckTimer (flow : Nat) (s : State) : Host.Outcome State Fault Refusal := .next (s.doAckTimer flow)

/-- MIGRATION_TRANSFER (R371): the migrating stream `ctx` is idle and fully committed. -/
def execMigrationTransfer (ctx : Nat) (s : State) : Host.Outcome State Fault Refusal := .next (s.doMigrationTransfer ctx)

/-- RHB_DEVID_WRITE (R375): the Pilot writes RHB_DEVID. -/
def execRhbDevidWrite (value : Word) (s : State) : Host.Outcome State Fault Refusal := s.onHub (fun s => s.doRhbDevidWrite value)

/-- RHB_KEY_LOAD (R375): the Pilot writes RHB_KEY_CTRL with LOAD = 1. -/
def execRhbKeyLoad (index : Nat) (s : State) : Host.Outcome State Fault Refusal := s.onHub (fun s => s.doRhbKeyLoad index)

/-- RHB_KEY_CLEAR (R375): the Pilot writes RHB_KEY_CTRL with CLEAR = 1. -/
def execRhbKeyClear (index : Nat) (s : State) : Host.Outcome State Fault Refusal := s.onHub (fun s => s.doRhbKeyClear index)

end Sys2Proof.Machine
end

