-- ==== Sys2Proof/Machine/ExecSched.lean ====
section
/-! DEFINITION. Meanings of the commands of the page-table unit, the scheduler, pre-emption, faults and teardown, one definition for each constructor
of Instr. -/

namespace Sys2Proof.Machine

/-- PIN (R277): the request PIN at the head of the page-table unit's queue is served. -/
def execPin (s : State) : Host.Outcome State Fault Refusal := s.onHub (fun s => s.doPin)

/-- UNPIN (R277): the request UNPIN at the head of the queue is served. -/
def execUnpin (s : State) : Host.Outcome State Fault Refusal := s.onHub (fun s => s.doUnpin)

/-- MAP_FRESH (R277): the request MAP_FRESH at the head of the queue is served. -/
def execMapFresh (s : State) : Host.Outcome State Fault Refusal := s.onHub (fun s => s.doMapFresh)

/-- COW (R277): the request COW at the head of the queue is served. -/
def execCow (s : State) : Host.Outcome State Fault Refusal := s.onHub (fun s => s.doCow)

/-- COW_COMPLETION (R277): the fill engine finishes the oldest copy. -/
def execCowCompletion (s : State) : Host.Outcome State Fault Refusal := s.onHub (fun s => s.doCowCompletion)

/-- ATTACH (R277): the request ATTACH at the head of the queue is served. -/
def execAttach (s : State) : Host.Outcome State Fault Refusal := s.onHub (fun s => s.doAttach)

/-- UNMAP (R277): the request UNMAP at the head of the queue is served. -/
def execUnmap (s : State) : Host.Outcome State Fault Refusal := s.onHub (fun s => s.doUnmap)

/-- RELEASE_CORE (R277): the request RELEASE_CORE at the head of the queue is served. -/
def execReleaseCore (s : State) : Host.Outcome State Fault Refusal := s.onHub (fun s => s.doReleaseCore)

/-- POOL_LOAD (R277): the request POOL_LOAD at the head of the queue is served. -/
def execPoolLoad (s : State) : Host.Outcome State Fault Refusal := s.onHub (fun s => s.doPoolLoad)

/-- FRAME_SCRUBBED (R279): the oldest frame at the scrubber has been scrubbed. -/
def execFrameScrubbed (s : State) : Host.Outcome State Fault Refusal := s.onHub (fun s => s.doFrameScrubbed)

/-- SCHEDULER_PLACE (R302): the scheduler takes the head of the ready queue. -/
def execSchedulerPlace (s : State) : Host.Outcome State Fault Refusal := s.onHub (fun s => s.doSchedulerPlace)

/-- LOG_SCHED_SUBMIT (R325): the Pilot writes LOG_SCHED_SUBMIT with GO = 1. -/
def execLogSchedSubmit (ctxId : Nat) (s : State) : Host.Outcome State Fault Refusal := s.onHub (fun s => s.doLogSchedSubmit ctxId)

/-- GRANT_POP (R325): `agent` reads LOG_SCHED_GRANT_CORES. -/
def execGrantPop (agent : Agent) (s : State) : Host.Outcome State Fault Refusal := .next (s.doGrantPop agent)

/-- PREEMPT_REQUEST (R308): CORE_PREEMPT is written with REQ = 1. -/
def execPreemptRequest (core : Nat) (s : State) : Host.Outcome State Fault Refusal := s.onWindow core (fun s => s.doPreemptRequest core)

/-- PREEMPT_BOUNDARY (R308): the core stands at a kernel boundary under pre-emption. -/
def execPreemptBoundary (core : Nat) (s : State) : Host.Outcome State Fault Refusal := s.onCore core (fun s => s.doPreemptBoundary core)

/-- SPILL_COMPLETE (R308): every spill write is acknowledged. -/
def execSpillComplete (core : Nat) (s : State) : Host.Outcome State Fault Refusal := s.onCore core (fun s => s.doSpillComplete core)

/-- PREEMPT_RESUME (R311): CORE_PREEMPT is written with RESUME = 1. -/
def execPreemptResume (core : Nat) (s : State) : Host.Outcome State Fault Refusal := s.onWindow core (fun s => s.doPreemptResume core)

/-- REFILL_COMPLETE (R311): the refill ends. -/
def execRefillComplete (core : Nat) (s : State) : Host.Outcome State Fault Refusal := s.onCore core (fun s => s.doRefillComplete core)

/-- SX_WAIT_REMOTE (R365): the dispatcher meets SX_WAIT_REMOTE, or the waiting one tries again. -/
def execSxWaitRemote (core : Nat) (s : State) : Host.Outcome State Fault Refusal := s.onCore core (fun s => s.doSxWaitRemote core)

/-- WATCHDOG (R307): CORE_WDOG_CNT reaches its limit. -/
def execWatchdog (core : Nat) (s : State) : Host.Outcome State Fault Refusal := s.onCore core (fun s => s.doWatchdog core)

/-- FAULT_HANDLING (R313): the Pilot firmware handles the fault of core `core`. -/
def execFaultHandling (core : Nat) (s : State) : Host.Outcome State Fault Refusal := .next (if core < 32 then s.doFaultHandling core else s)

/-- CORE_ACCESS_TIMEOUT (R316): a Pilot access to the window of core `core` goes unanswered. -/
def execCoreAccessTimeout (core : Nat) (s : State) : Host.Outcome State Fault Refusal :=
  .next (if core < 32 then s.doCoreAccessTimeout core else s)

/-- UNREQUESTED_POWER_LOSS (R316): the domain leaves the on state without a request. -/
def execUnrequestedPowerLoss (domain : Nat) (s : State) : Host.Outcome State Fault Refusal := .next (s.doUnrequestedPowerLoss domain)

/-- LOG_SCHED_REDISPATCH (R317): the Pilot writes LOG_SCHED_REDISPATCH with GO = 1. -/
def execLogSchedRedispatch (core : Nat) (s : State) : Host.Outcome State Fault Refusal := s.onHub (fun s => s.doLogSchedRedispatch core)

/-- REDISPATCH_IDLE_TIMEOUT (R317): the failed core is not idle after 20 µs. -/
def execRedispatchIdleTimeout (core : Nat) (s : State) : Host.Outcome State Fault Refusal :=
  .next (if core < 32 then s.doRedispatchIdleTimeout core else s)

/-- REDISPATCH_BATCH (R317): the affected cores are idle and the next affected batch is re-dispatched. -/
def execRedispatchBatch (s : State) : Host.Outcome State Fault Refusal := .next (s.doRedispatchBatch)

/-- CONTEXT_TEARDOWN (R314): the Pilot firmware tears the context down. -/
def execContextTeardown (ctxId : Nat) (s : State) : Host.Outcome State Fault Refusal := .next (s.doContextTeardown ctxId)

end Sys2Proof.Machine
end

