-- ==== Sys2Proof/Machine/ExecSpdm.lean ====
section
/-! DEFINITION. Meanings of the commands of the SPDM responder and key transfer, one definition for each constructor of Instr. -/

namespace Sys2Proof.Machine

/-- SPDM (R410): the request SPDM of the channel is served; `macOk`: the verification data of a FINISH holds. -/
def execSpdm (ch : Nat) (macOk : Bool) (s : State) : Host.Outcome State Fault Refusal := .next (s.serve ch 0x60 (State.spdmBody macOk ch))

/-- GET_VERSION (R411): the SPDM request GET_VERSION. -/
def execGetVersion (ch : Nat) (s : State) : Host.Outcome State Fault Refusal := .next (s.serveSpdm ch 0x84 false)

/-- GET_CAPABILITIES (R411): the SPDM request GET_CAPABILITIES. -/
def execGetCapabilities (ch : Nat) (s : State) : Host.Outcome State Fault Refusal := .next (s.serveSpdm ch 0xE1 false)

/-- NEGOTIATE_ALGORITHMS (R411): the SPDM request NEGOTIATE_ALGORITHMS. -/
def execNegotiateAlgorithms (ch : Nat) (s : State) : Host.Outcome State Fault Refusal := .next (s.serveSpdm ch 0xE3 false)

/-- GET_DIGESTS (R411): the SPDM request GET_DIGESTS. -/
def execGetDigests (ch : Nat) (s : State) : Host.Outcome State Fault Refusal := .next (s.serveSpdm ch 0x81 false)

/-- GET_CERTIFICATE (R411): the SPDM request GET_CERTIFICATE. -/
def execGetCertificate (ch : Nat) (s : State) : Host.Outcome State Fault Refusal := .next (s.serveSpdm ch 0x82 false)

/-- CHALLENGE (R411): the SPDM request CHALLENGE. -/
def execChallenge (ch : Nat) (s : State) : Host.Outcome State Fault Refusal := .next (s.serveSpdm ch 0x83 false)

/-- GET_MEASUREMENTS (R417): the SPDM request GET_MEASUREMENTS. -/
def execGetMeasurements (ch : Nat) (s : State) : Host.Outcome State Fault Refusal := .next (s.serveSpdm ch 0xE0 false)

/-- KEY_EXCHANGE (R412): the SPDM request KEY_EXCHANGE. -/
def execKeyExchange (ch : Nat) (s : State) : Host.Outcome State Fault Refusal := .next (s.serveSpdm ch 0xE4 false)

/-- FINISH (R411): the SPDM request FINISH; `macOk`: its verification data holds. -/
def execFinish (ch : Nat) (macOk : Bool) (s : State) : Host.Outcome State Fault Refusal := .next (s.serveSpdm ch 0xE5 macOk)

/-- HEARTBEAT (R411): the SPDM request HEARTBEAT. -/
def execHeartbeat (ch : Nat) (s : State) : Host.Outcome State Fault Refusal := .next (s.serveSpdm ch 0xE8 false)

/-- KEY_UPDATE (R411): the SPDM request KEY_UPDATE. -/
def execKeyUpdate (ch : Nat) (s : State) : Host.Outcome State Fault Refusal := .next (s.serveSpdm ch 0xE9 false)

/-- END_SESSION (R412): the SPDM request END_SESSION. -/
def execEndSession (ch : Nat) (s : State) : Host.Outcome State Fault Refusal := .next (s.serveSpdm ch 0xEC false)

/-- CHUNK_SEND (R411): the SPDM request CHUNK_SEND. -/
def execChunkSend (ch : Nat) (s : State) : Host.Outcome State Fault Refusal := .next (s.serveSpdm ch 0x85 false)

/-- CHUNK_GET (R411): the SPDM request CHUNK_GET. -/
def execChunkGet (ch : Nat) (s : State) : Host.Outcome State Fault Refusal := .next (s.serveSpdm ch 0x86 false)

/-- SESSION_HEARTBEAT_TIMEOUT (R412): two heartbeat periods pass without a message in the session of channel `ch`. -/
def execSessionHeartbeatTimeout (ch : Nat) (s : State) : Host.Outcome State Fault Refusal := .next (s.doSessionHeartbeatTimeout ch)

/-- KEY_LOAD (R414): a key-transfer LOAD arrives in the session of channel `ch`. -/
def execKeyLoad (ch : Nat) (s : State) : Host.Outcome State Fault Refusal := .next (s.serveSpdm ch 0x4B01 false)

/-- KEY_CLEAR (R414): a key-transfer CLEAR arrives in the session. -/
def execKeyClear (ch : Nat) (s : State) : Host.Outcome State Fault Refusal := .next (s.serveSpdm ch 0x4B02 false)

/-- KEY_STATUS (R414): a key-transfer STATUS arrives in the session. -/
def execKeyStatus (ch : Nat) (s : State) : Host.Outcome State Fault Refusal := .next (s.serveSpdm ch 0x4B03 false)

end Sys2Proof.Machine
end

