-- ==== Sys2Proof/Machine/ExecTransfer.lean ====
section
/-! DEFINITION. Meanings of the commands of the stream engine, the Necklace, the Facet encoder and the Loupe, one definition for each constructor of
Instr. -/

namespace Sys2Proof.Machine

/-- SX_ARM (R192): the dispatcher meets SX_ARM, or the waiting one issues. -/
def execSxArm (core : Nat) (s : State) : Host.Outcome State Fault Refusal := s.onCore core (fun s => s.doSxArm core)

/-- TRANSFER_ENTER (R188): the oldest waiting transfer of the class enters the memory port. -/
def execTransferEnter (core : Nat) (cls : Nat) (s : State) : Host.Outcome State Fault Refusal :=
  s.onCore core (fun s => s.doTransferEnter core cls)

/-- TRANSFER_COMPLETE (R185): the outstanding transfer `idx` of core `core` completes. -/
def execTransferComplete (core : Nat) (idx : Nat) (inj : Inject) (s : State) : Host.Outcome State Fault Refusal :=
  s.onCore core (fun s => s.doTransferComplete core idx inj)

/-- GENERATION_START (R199): an ARMED_PENDING generation starts sending. -/
def execGenerationStart (core : Nat) (slice : Nat) (slot : Nat) (s : State) : Host.Outcome State Fault Refusal :=
  s.onCore core (fun s => s.doGenerationStart core slice slot)

/-- SX_WAIT (R200): the dispatcher meets SX_WAIT, or the waiting one issues. -/
def execSxWait (core : Nat) (s : State) : Host.Outcome State Fault Refusal := s.onCore core (fun s => s.doSxWait core)

/-- SX_SHARE_WRITE (R214): the Pilot writes SX_SHARE. -/
def execSxShareWrite (core : Nat) (value : Word) (s : State) : Host.Outcome State Fault Refusal :=
  s.onWindow core (fun s => s.doSxShareWrite core value)

/-- SX_NKL_SOURCE (R205): the dispatcher meets SX_NKL_SOURCE, or the waiting one issues and injects a segment. -/
def execSxNklSource (core : Nat) (s : State) : Host.Outcome State Fault Refusal := s.onCore core (fun s => s.doSxNklSource core)

/-- SX_NKL_TAKE (R206): the dispatcher meets SX_NKL_TAKE, or the waiting one issues. -/
def execSxNklTake (core : Nat) (s : State) : Host.Outcome State Fault Refusal := s.onCore core (fun s => s.doSxNklTake core)

/-- FLIT_ARRIVE (R203, R207): the oldest flit on its way to the hop of core `core` arrives. -/
def execFlitArrive (core : Nat) (crcOk : Bool) (takeFull : Bool) (s : State) : Host.Outcome State Fault Refusal :=
  .next (if core < 32 then s.doFlitArrive core crcOk takeFull else s)

/-- TAKE_FIRST_TIMEOUT (R208): FIRST_TO passes without a segment for the take. -/
def execTakeFirstTimeout (core : Nat) (take : Nat) (s : State) : Host.Outcome State Fault Refusal :=
  s.onCore core (fun s => s.doTakeFirstTimeout core take)

/-- TAKE_GAP_TIMEOUT (R208): GAP_TO passes without a further segment for the take. -/
def execTakeGapTimeout (core : Nat) (take : Nat) (s : State) : Host.Outcome State Fault Refusal :=
  s.onCore core (fun s => s.doTakeGapTimeout core take)

/-- SX_FACET_ENC (R225): the dispatcher meets SX_FACET_ENC, or the waiting one issues and runs. -/
def execSxFacetEnc (core : Nat) (s : State) : Host.Outcome State Fault Refusal := s.onCore core (fun s => s.doSxFacetEnc core)

/-- LOUPE_BLOCK_DECODE (R233): the Loupe decodes the next block of its request. -/
def execLoupeBlockDecode (core : Nat) (s : State) : Host.Outcome State Fault Refusal := s.onCore core (fun s => s.doLoupeBlockDecode core)

end Sys2Proof.Machine
end

