-- ==== Sys2Proof/Machine/Dispatch.lean ====
section
/-! DEFINITION. The dispatch of a command to its meaning, one arm for each constructor of Instr. -/

namespace Sys2Proof.Machine

def exec (i : Instr) (s : State) : Host.Outcome State Fault Refusal :=
  match i with
  | .registerWrite agent addr width value => Sys2Proof.Machine.execRegisterWrite agent addr width value s
  | .lowWordReadCapture agent addr width => Sys2Proof.Machine.execLowWordReadCapture agent addr width s
  | .pwrReqTurnOn domain => Sys2Proof.Machine.execPwrReqTurnOn domain s
  | .pwrReqTurnOff domain => Sys2Proof.Machine.execPwrReqTurnOff domain s
  | .powerRequestJudged => Sys2Proof.Machine.execPowerRequestJudged s
  | .powerOffDrained => Sys2Proof.Machine.execPowerOffDrained s
  | .domainTransitionComplete => Sys2Proof.Machine.execDomainTransitionComplete s
  | .macFrameReceive port frame => Sys2Proof.Machine.execMacFrameReceive port frame s
  | .feDatagramParse port => Sys2Proof.Machine.execFeDatagramParse port s
  | .rtpPacket port => Sys2Proof.Machine.execRtpPacket port s
  | .rtpJitterClose ctx => Sys2Proof.Machine.execRtpJitterClose ctx s
  | .rtpSilenceClose ctx => Sys2Proof.Machine.execRtpSilenceClose ctx s
  | .vsfData port => Sys2Proof.Machine.execVsfData port s
  | .vsfRack port => Sys2Proof.Machine.execVsfRack port s
  | .vsfClose port => Sys2Proof.Machine.execVsfClose port s
  | .localFrameInject => Sys2Proof.Machine.execLocalFrameInject s
  | .heldChunkRelease ctx => Sys2Proof.Machine.execHeldChunkRelease ctx s
  | .holdTimeout ctx => Sys2Proof.Machine.execHoldTimeout ctx s
  | .chunkAccepted ctx => Sys2Proof.Machine.execChunkAccepted ctx s
  | .tick => Sys2Proof.Machine.execTick s
  | .heldBatchDispatch => Sys2Proof.Machine.execHeldBatchDispatch s
  | .sliceCompletion core => Sys2Proof.Machine.execSliceCompletion core s
  | .resultRelease ctx => Sys2Proof.Machine.execResultRelease ctx s
  | .resultRetransmit ctx => Sys2Proof.Machine.execResultRetransmit ctx s
  | .logEvqPop agent => Sys2Proof.Machine.execLogEvqPop agent s
  | .coreStart core legacy => Sys2Proof.Machine.execCoreStart core legacy s
  | .coreAbort core => Sys2Proof.Machine.execCoreAbort core s
  | .coreBatchStart core => Sys2Proof.Machine.execCoreBatchStart core s
  | .listFetchData core => Sys2Proof.Machine.execListFetchData core s
  | .commandRetire core engine => Sys2Proof.Machine.execCommandRetire core engine s
  | .nop core => Sys2Proof.Machine.execNop core s
  | .fence core => Sys2Proof.Machine.execFence core s
  | .fenceDrainComplete core => Sys2Proof.Machine.execFenceDrainComplete core s
  | .barrierOpen core => Sys2Proof.Machine.execBarrierOpen core s
  | .endList core => Sys2Proof.Machine.execEndList core s
  | .endComplete core => Sys2Proof.Machine.execEndComplete core s
  | .loop core => Sys2Proof.Machine.execLoop core s
  | .endloop core => Sys2Proof.Machine.execEndloop core s
  | .bankPower core => Sys2Proof.Machine.execBankPower core s
  | .complete core => Sys2Proof.Machine.execComplete core s
  | .loadw core => Sys2Proof.Machine.execLoadw core s
  | .gemm core => Sys2Proof.Machine.execGemm core s
  | .vop core => Sys2Proof.Machine.execVop core s
  | .dmaIn core => Sys2Proof.Machine.execDmaIn core s
  | .dmaOut core => Sys2Proof.Machine.execDmaOut core s
  | .sync core => Sys2Proof.Machine.execSync core s
  | .stepEnd core => Sys2Proof.Machine.execStepEnd core s
  | .mxLoad core inj => Sys2Proof.Machine.execMxLoad core inj s
  | .mxMatmul core inj => Sys2Proof.Machine.execMxMatmul core inj s
  | .tilePush core => Sys2Proof.Machine.execTilePush core s
  | .mxBist core => Sys2Proof.Machine.execMxBist core s
  | .mxBistDone core pass => Sys2Proof.Machine.execMxBistDone core pass s
  | .mxAttn core inj => Sys2Proof.Machine.execMxAttn core inj s
  | .vxChain core inj => Sys2Proof.Machine.execVxChain core inj s
  | .vxReduce core inj => Sys2Proof.Machine.execVxReduce core inj s
  | .vxScan core inj => Sys2Proof.Machine.execVxScan core inj s
  | .vxLoad core inj => Sys2Proof.Machine.execVxLoad core inj s
  | .vxStore core inj => Sys2Proof.Machine.execVxStore core inj s
  | .vxAttn core inj => Sys2Proof.Machine.execVxAttn core inj s
  | .vxBist core => Sys2Proof.Machine.execVxBist core s
  | .vxBistDone core pass => Sys2Proof.Machine.execVxBistDone core pass s
  | .spdRevoke core ctxId => Sys2Proof.Machine.execSpdRevoke core ctxId s
  | .spdRevokeDone core => Sys2Proof.Machine.execSpdRevokeDone core s
  | .spdBist core bank => Sys2Proof.Machine.execSpdBist core bank s
  | .spdBistDone core pass => Sys2Proof.Machine.execSpdBistDone core pass s
  | .sxArm core => Sys2Proof.Machine.execSxArm core s
  | .transferEnter core cls => Sys2Proof.Machine.execTransferEnter core cls s
  | .transferComplete core idx inj => Sys2Proof.Machine.execTransferComplete core idx inj s
  | .generationStart core slice slot => Sys2Proof.Machine.execGenerationStart core slice slot s
  | .sxWait core => Sys2Proof.Machine.execSxWait core s
  | .sxShareWrite core value => Sys2Proof.Machine.execSxShareWrite core value s
  | .sxNklSource core => Sys2Proof.Machine.execSxNklSource core s
  | .sxNklTake core => Sys2Proof.Machine.execSxNklTake core s
  | .flitArrive core crcOk takeFull => Sys2Proof.Machine.execFlitArrive core crcOk takeFull s
  | .takeFirstTimeout core take => Sys2Proof.Machine.execTakeFirstTimeout core take s
  | .takeGapTimeout core take => Sys2Proof.Machine.execTakeGapTimeout core take s
  | .sxFacetEnc core => Sys2Proof.Machine.execSxFacetEnc core s
  | .loupeBlockDecode core => Sys2Proof.Machine.execLoupeBlockDecode core s
  | .pin => Sys2Proof.Machine.execPin s
  | .unpin => Sys2Proof.Machine.execUnpin s
  | .mapFresh => Sys2Proof.Machine.execMapFresh s
  | .cow => Sys2Proof.Machine.execCow s
  | .cowCompletion => Sys2Proof.Machine.execCowCompletion s
  | .attach => Sys2Proof.Machine.execAttach s
  | .unmap => Sys2Proof.Machine.execUnmap s
  | .releaseCore => Sys2Proof.Machine.execReleaseCore s
  | .poolLoad => Sys2Proof.Machine.execPoolLoad s
  | .frameScrubbed => Sys2Proof.Machine.execFrameScrubbed s
  | .schedulerPlace => Sys2Proof.Machine.execSchedulerPlace s
  | .logSchedSubmit ctxId => Sys2Proof.Machine.execLogSchedSubmit ctxId s
  | .grantPop agent => Sys2Proof.Machine.execGrantPop agent s
  | .preemptRequest core => Sys2Proof.Machine.execPreemptRequest core s
  | .preemptBoundary core => Sys2Proof.Machine.execPreemptBoundary core s
  | .spillComplete core => Sys2Proof.Machine.execSpillComplete core s
  | .preemptResume core => Sys2Proof.Machine.execPreemptResume core s
  | .refillComplete core => Sys2Proof.Machine.execRefillComplete core s
  | .sxWaitRemote core => Sys2Proof.Machine.execSxWaitRemote core s
  | .watchdog core => Sys2Proof.Machine.execWatchdog core s
  | .faultHandling core => Sys2Proof.Machine.execFaultHandling core s
  | .coreAccessTimeout core => Sys2Proof.Machine.execCoreAccessTimeout core s
  | .unrequestedPowerLoss domain => Sys2Proof.Machine.execUnrequestedPowerLoss domain s
  | .logSchedRedispatch core => Sys2Proof.Machine.execLogSchedRedispatch core s
  | .redispatchIdleTimeout core => Sys2Proof.Machine.execRedispatchIdleTimeout core s
  | .redispatchBatch => Sys2Proof.Machine.execRedispatchBatch s
  | .contextTeardown ctxId => Sys2Proof.Machine.execContextTeardown ctxId s
  | .hbmXlatInv value => Sys2Proof.Machine.execHbmXlatInv value s
  | .invalidationComplete => Sys2Proof.Machine.execInvalidationComplete s
  | .hbmFillReq size => Sys2Proof.Machine.execHbmFillReq size s
  | .fillComplete => Sys2Proof.Machine.execFillComplete s
  | .walkComplete core => Sys2Proof.Machine.execWalkComplete core s
  | .patrolRead stack inj => Sys2Proof.Machine.execPatrolRead stack inj s
  | .onDieEccPoll stack count => Sys2Proof.Machine.execOnDieEccPoll stack count s
  | .hbmTest stack pc => Sys2Proof.Machine.execHbmTest stack pc s
  | .hbmTestDone stack badLines => Sys2Proof.Machine.execHbmTestDone stack badLines s
  | .stackTimeout stack phy => Sys2Proof.Machine.execStackTimeout stack phy s
  | .hbmFail stack => Sys2Proof.Machine.execHbmFail stack s
  | .hbmRgnLock value => Sys2Proof.Machine.execHbmRgnLock value s
  | .rhumbFlitReceive port flit crcOk => Sys2Proof.Machine.execRhumbFlitReceive port flit crcOk s
  | .laneTestDone port failMask => Sys2Proof.Machine.execLaneTestDone port failMask s
  | .rhbTest port => Sys2Proof.Machine.execRhbTest port s
  | .rhbRetrain port => Sys2Proof.Machine.execRhbRetrain port s
  | .linkUpChange port up => Sys2Proof.Machine.execLinkUpChange port up s
  | .portFail port => Sys2Proof.Machine.execPortFail port s
  | .portRetryTraining port => Sys2Proof.Machine.execPortRetryTraining port s
  | .put port tx tagOk => Sys2Proof.Machine.execPut port tx tagOk s
  | .get port tx tagOk => Sys2Proof.Machine.execGet port tx tagOk s
  | .getdata port tx tagOk => Sys2Proof.Machine.execGetdata port tx tagOk s
  | .ack port tx tagOk => Sys2Proof.Machine.execAck port tx tagOk s
  | .nack port tx tagOk => Sys2Proof.Machine.execNack port tx tagOk s
  | .mig port tx tagOk => Sys2Proof.Machine.execMig port tx tagOk s
  | .migack port tx tagOk => Sys2Proof.Machine.execMigack port tx tagOk s
  | .mgmt port tx tagOk => Sys2Proof.Machine.execMgmt port tx tagOk s
  | .transitForward port tx => Sys2Proof.Machine.execTransitForward port tx s
  | .flowTimeout flow => Sys2Proof.Machine.execFlowTimeout flow s
  | .ackTimer flow => Sys2Proof.Machine.execAckTimer flow s
  | .migrationTransfer ctx => Sys2Proof.Machine.execMigrationTransfer ctx s
  | .rhbDevidWrite value => Sys2Proof.Machine.execRhbDevidWrite value s
  | .rhbKeyLoad index => Sys2Proof.Machine.execRhbKeyLoad index s
  | .rhbKeyClear index => Sys2Proof.Machine.execRhbKeyClear index s
  | .mbxSend ch => Sys2Proof.Machine.execMbxSend ch s
  | .mbxEvtPop ch => Sys2Proof.Machine.execMbxEvtPop ch s
  | .epianRequestServe checkOk => Sys2Proof.Machine.execEpianRequestServe checkOk s
  | .hello ch => Sys2Proof.Machine.execHello ch s
  | .unitmapRead ch => Sys2Proof.Machine.execUnitmapRead ch s
  | .countsRead ch => Sys2Proof.Machine.execCountsRead ch s
  | .jobCreate ch => Sys2Proof.Machine.execJobCreate ch s
  | .jobMap ch => Sys2Proof.Machine.execJobMap ch s
  | .jobUnmap ch => Sys2Proof.Machine.execJobUnmap ch s
  | .jobDestroy ch => Sys2Proof.Machine.execJobDestroy ch s
  | .listPost ch => Sys2Proof.Machine.execListPost ch s
  | .modelLoad ch => Sys2Proof.Machine.execModelLoad ch s
  | .modelUnload ch => Sys2Proof.Machine.execModelUnload ch s
  | .adapterPublish ch => Sys2Proof.Machine.execAdapterPublish ch s
  | .adapterReclaim slot gen => Sys2Proof.Machine.execAdapterReclaim slot gen s
  | .prefixAttach ch => Sys2Proof.Machine.execPrefixAttach ch s
  | .streamAdmit ch => Sys2Proof.Machine.execStreamAdmit ch s
  | .streamClose ch => Sys2Proof.Machine.execStreamClose ch s
  | .streamAbort ch => Sys2Proof.Machine.execStreamAbort ch s
  | .streamQuery ch => Sys2Proof.Machine.execStreamQuery ch s
  | .streamReserve ch => Sys2Proof.Machine.execStreamReserve ch s
  | .reservationLapse ctx => Sys2Proof.Machine.execReservationLapse ctx s
  | .streamMigrate ch => Sys2Proof.Machine.execStreamMigrate ch s
  | .streamSettle ch => Sys2Proof.Machine.execStreamSettle ch s
  | .powerSet ch => Sys2Proof.Machine.execPowerSet ch s
  | .powerStandby ch => Sys2Proof.Machine.execPowerStandby ch s
  | .partitionQuery ch => Sys2Proof.Machine.execPartitionQuery ch s
  | .partitionShares ch => Sys2Proof.Machine.execPartitionShares ch s
  | .fwWrite ch => Sys2Proof.Machine.execFwWrite ch s
  | .fwActivate ch sigOk => Sys2Proof.Machine.execFwActivate ch sigOk s
  | .clusterRestart ch => Sys2Proof.Machine.execClusterRestart ch s
  | .clusterWatchdog => Sys2Proof.Machine.execClusterWatchdog s
  | .clusterRestarted => Sys2Proof.Machine.execClusterRestarted s
  | .clusterFrameTransmit port => Sys2Proof.Machine.execClusterFrameTransmit port s
  | .pilotWatchdog => Sys2Proof.Machine.execPilotWatchdog s
  | .pilotRestarted => Sys2Proof.Machine.execPilotRestarted s
  | .spdm ch macOk => Sys2Proof.Machine.execSpdm ch macOk s
  | .getVersion ch => Sys2Proof.Machine.execGetVersion ch s
  | .getCapabilities ch => Sys2Proof.Machine.execGetCapabilities ch s
  | .negotiateAlgorithms ch => Sys2Proof.Machine.execNegotiateAlgorithms ch s
  | .getDigests ch => Sys2Proof.Machine.execGetDigests ch s
  | .getCertificate ch => Sys2Proof.Machine.execGetCertificate ch s
  | .challenge ch => Sys2Proof.Machine.execChallenge ch s
  | .getMeasurements ch => Sys2Proof.Machine.execGetMeasurements ch s
  | .keyExchange ch => Sys2Proof.Machine.execKeyExchange ch s
  | .finish ch macOk => Sys2Proof.Machine.execFinish ch macOk s
  | .heartbeat ch => Sys2Proof.Machine.execHeartbeat ch s
  | .keyUpdate ch => Sys2Proof.Machine.execKeyUpdate ch s
  | .endSession ch => Sys2Proof.Machine.execEndSession ch s
  | .chunkSend ch => Sys2Proof.Machine.execChunkSend ch s
  | .chunkGet ch => Sys2Proof.Machine.execChunkGet ch s
  | .sessionHeartbeatTimeout ch => Sys2Proof.Machine.execSessionHeartbeatTimeout ch s
  | .keyLoad ch => Sys2Proof.Machine.execKeyLoad ch s
  | .keyClear ch => Sys2Proof.Machine.execKeyClear ch s
  | .keyStatus ch => Sys2Proof.Machine.execKeyStatus ch s
  | .smbusBlockWrite offset data count pecOk => Sys2Proof.Machine.execSmbusBlockWrite offset data count pecOk s
  | .smbusSetPointer offset pecOk => Sys2Proof.Machine.execSmbusSetPointer offset pecOk s
  | .smbusBlockRead count => Sys2Proof.Machine.execSmbusBlockRead count s
  | .alertResponse => Sys2Proof.Machine.execAlertResponse s
  | .smbusTimeout => Sys2Proof.Machine.execSmbusTimeout s
  | .functionLevelReset fn => Sys2Proof.Machine.execFunctionLevelReset fn s
  | .perstN low => Sys2Proof.Machine.execPerstN low s
  | .resetNLow => Sys2Proof.Machine.execResetNLow s
  | .resetNRelease boot => Sys2Proof.Machine.execResetNRelease boot s
  | .railUndervoltage rails => Sys2Proof.Machine.execRailUndervoltage rails s
  | .refclkLoss input => Sys2Proof.Machine.execRefclkLoss input s
  | .temperatureSample readings => Sys2Proof.Machine.execTemperatureSample readings s
  | .powerAverage watts => Sys2Proof.Machine.execPowerAverage watts s
  | .gateDutyUpdate => Sys2Proof.Machine.execGateDutyUpdate s
  | .gpioInputChange pin level => Sys2Proof.Machine.execGpioInputChange pin level s
  | .gpioDebounceAccept pin => Sys2Proof.Machine.execGpioDebounceAccept pin s
  | .tapReset => Sys2Proof.Machine.execTapReset s
  | .idcode => Sys2Proof.Machine.execIdcode s
  | .samplePreload => Sys2Proof.Machine.execSamplePreload s
  | .extest => Sys2Proof.Machine.execExtest s
  | .clamp => Sys2Proof.Machine.execClamp s
  | .highz => Sys2Proof.Machine.execHighz s
  | .bypass => Sys2Proof.Machine.execBypass s
  | .regAccess dr => Sys2Proof.Machine.execRegAccess dr s
  | .localResultRingFree index => Sys2Proof.Machine.execLocalResultRingFree index s
  | .hostLinkChange up => Sys2Proof.Machine.execHostLinkChange up s
  | .railRestored boot => Sys2Proof.Machine.execRailRestored boot s
  | .refclkRestored input boot => Sys2Proof.Machine.execRefclkRestored input boot s
  | .chainTestDone core pass => Sys2Proof.Machine.execChainTestDone core pass s

end Sys2Proof.Machine
end

