-- ==== Sys2Proof/Machine/Clock.lean ====
section
/-! DEFINITION. What happens while no command waits: 1 µs passes (DESIGN CHOICE, log entry 1). -/

namespace Sys2Proof.Machine

/-- 1 µs of core `n`: 900 CCLK cycles of tokens (R188) and of its watchdog (R307); port 5 empties the take queue (R207); the firmware starts a list
granted to it once it is free. -/
def State.coreMicro (s : State) (n : Nat) : State :=
  if s.domOn n then
    let s := s.refillBuckets n 900
    let s := s.drainTakeQ n
    let s := if s.wdogRuns n then s.modCore n (fun c => { c with wdog := c.wdog + 900 }) else s
    s.startGranted n
  else s

/-- 1 µs without a command. (DEDUCED, log entry 27; DEDUCED, log entry 50) -/
def State.idleTick (s : State) : State :=
  (List.range 32).foldl State.coreMicro { s with now := s.now + 1 }

end Sys2Proof.Machine
end

