-- ==== Sys2Proof/Machine/Step.lean ====
section
/-! DEFINITION. One step: the command at the front of the queue, or 1 µs without one. -/

namespace Sys2Proof.Machine

/-- One step (DESIGN CHOICE, log entry 1): the command at the front of the queue leaves it and has its effect; on an empty queue 1 µs passes. -/
def step (s : State) : Host.Outcome State Fault Refusal :=
  match s.pending with
  | c :: rest => exec c { s with pending := rest }
  | [] => .next s.idleTick

/-- The state with the command that a word spells in front of the queue. (DESIGN CHOICE, log entry 20) -/
def State.withFetchWord (s : State) (nbits w : Nat) : State :=
  match decodeTableWord nbits w with
  | some c => { s with pending := c :: s.pending }
  | none => s

end Sys2Proof.Machine
end

