-- ==== Sys2Proof/WellFormed.lean ====
section
/-! DEFINITION. Well-formed commands: every operand in the range that the spec gives it. No meaning relies on it: what lies outside changes
nothing, or is reduced to its field. -/

namespace Sys2Proof

/-- Whether the operands of a command lie in their ranges (R18, R25, R34, R78, R304, R319, R352, R359, R378, R403, R405, R425, R428, R431, R437,
R439). -/
def Instr.wf : Instr → Bool
  | .registerWrite _ addr _ _ => decide (addr < 2 ^ 64)
  | .lowWordReadCapture _ addr _ => decide (addr < 2 ^ 64)
  | .pwrReqTurnOn domain => decide (domain < 128)
  | .pwrReqTurnOff domain => decide (domain < 128)
  | .powerRequestJudged => true
  | .powerOffDrained => true
  | .domainTransitionComplete => true
  | .macFrameReceive port frame => decide (port < 2 ∧ frame.dstMac < 2 ^ 48)
  | .feDatagramParse port => decide (port < 2)
  | .rtpPacket port => decide (port < 2)
  | .rtpJitterClose ctx => decide (ctx < 65536)
  | .rtpSilenceClose ctx => decide (ctx < 65536)
  | .vsfData port => decide (port < 2)
  | .vsfRack port => decide (port < 2)
  | .vsfClose port => decide (port < 2)
  | .localFrameInject => true
  | .heldChunkRelease ctx => decide (ctx < 65536)
  | .holdTimeout ctx => decide (ctx < 65536)
  | .chunkAccepted ctx => decide (ctx < 65536)
  | .tick => true
  | .heldBatchDispatch => true
  | .sliceCompletion core => decide (core < 32)
  | .resultRelease ctx => decide (ctx < 65536)
  | .resultRetransmit ctx => decide (ctx < 65536)
  | .logEvqPop _ => true
  | .coreStart core _ => decide (core < 32)
  | .coreAbort core => decide (core < 32)
  | .coreBatchStart core => decide (core < 32)
  | .listFetchData core => decide (core < 32)
  | .commandRetire core _ => decide (core < 32)
  | .nop core => decide (core < 32)
  | .fence core => decide (core < 32)
  | .fenceDrainComplete core => decide (core < 32)
  | .barrierOpen core => decide (core < 32)
  | .endList core => decide (core < 32)
  | .endComplete core => decide (core < 32)
  | .loop core => decide (core < 32)
  | .endloop core => decide (core < 32)
  | .bankPower core => decide (core < 32)
  | .complete core => decide (core < 32)
  | .loadw core => decide (core < 32)
  | .gemm core => decide (core < 32)
  | .vop core => decide (core < 32)
  | .dmaIn core => decide (core < 32)
  | .dmaOut core => decide (core < 32)
  | .sync core => decide (core < 32)
  | .stepEnd core => decide (core < 32)
  | .mxLoad core _ => decide (core < 32)
  | .mxMatmul core _ => decide (core < 32)
  | .tilePush core => decide (core < 32)
  | .mxBist core => decide (core < 32)
  | .mxBistDone core _ => decide (core < 32)
  | .mxAttn core _ => decide (core < 32)
  | .vxChain core _ => decide (core < 32)
  | .vxReduce core _ => decide (core < 32)
  | .vxScan core _ => decide (core < 32)
  | .vxLoad core _ => decide (core < 32)
  | .vxStore core _ => decide (core < 32)
  | .vxAttn core _ => decide (core < 32)
  | .vxBist core => decide (core < 32)
  | .vxBistDone core _ => decide (core < 32)
  | .spdRevoke core ctxId => decide (core < 32 ∧ ctxId < 4096)
  | .spdRevokeDone core => decide (core < 32)
  | .spdBist core bank => decide (core < 32 ∧ bank < 64)
  | .spdBistDone core _ => decide (core < 32)
  | .sxArm core => decide (core < 32)
  | .transferEnter core cls => decide (core < 32 ∧ cls < 3)
  | .transferComplete core _ _ => decide (core < 32)
  | .generationStart core slice slot => decide (core < 32 ∧ slice < 32 ∧ slot < 16)
  | .sxWait core => decide (core < 32)
  | .sxShareWrite core _ => decide (core < 32)
  | .sxNklSource core => decide (core < 32)
  | .sxNklTake core => decide (core < 32)
  | .flitArrive core _ _ => decide (core < 32)
  | .takeFirstTimeout core _ => decide (core < 32)
  | .takeGapTimeout core _ => decide (core < 32)
  | .sxFacetEnc core => decide (core < 32)
  | .loupeBlockDecode core => decide (core < 32)
  | .pin => true
  | .unpin => true
  | .mapFresh => true
  | .cow => true
  | .cowCompletion => true
  | .attach => true
  | .unmap => true
  | .releaseCore => true
  | .poolLoad => true
  | .frameScrubbed => true
  | .schedulerPlace => true
  | .logSchedSubmit ctxId => decide (ctxId < 4096)
  | .grantPop _ => true
  | .preemptRequest core => decide (core < 32)
  | .preemptBoundary core => decide (core < 32)
  | .spillComplete core => decide (core < 32)
  | .preemptResume core => decide (core < 32)
  | .refillComplete core => decide (core < 32)
  | .sxWaitRemote core => decide (core < 32)
  | .watchdog core => decide (core < 32)
  | .faultHandling core => decide (core < 32)
  | .coreAccessTimeout core => decide (core < 32)
  | .unrequestedPowerLoss domain => decide (domain < 80)
  | .logSchedRedispatch core => decide (core < 32)
  | .redispatchIdleTimeout core => decide (core < 32)
  | .redispatchBatch => true
  | .contextTeardown ctxId => decide (ctxId < 4096)
  | .hbmXlatInv _ => true
  | .invalidationComplete => true
  | .hbmFillReq _ => true
  | .fillComplete => true
  | .walkComplete core => decide (core < 32)
  | .patrolRead stack _ => decide (stack < 8)
  | .onDieEccPoll stack _ => decide (stack < 8)
  | .hbmTest stack pc => decide (stack < 8 ∧ pc < 64)
  | .hbmTestDone stack _ => decide (stack < 8)
  | .stackTimeout stack _ => decide (stack < 8)
  | .hbmFail stack => decide (stack < 8)
  | .hbmRgnLock _ => true
  | .rhumbFlitReceive port flit _ => decide (port < 4 ∧ flit.payload.length = 240)
  | .laneTestDone port _ => decide (port < 4)
  | .rhbTest port => decide (port < 4)
  | .rhbRetrain port => decide (port < 4)
  | .linkUpChange port _ => decide (port < 4)
  | .portFail port => decide (port < 4)
  | .portRetryTraining port => decide (port < 4)
  | .put port tx _ => decide (port < 4 ∧ tx.hdr.length = 8 ∧ tx.data.length ≤ 512)
  | .get port tx _ => decide (port < 4 ∧ tx.hdr.length = 8 ∧ tx.data.length ≤ 512)
  | .getdata port tx _ => decide (port < 4 ∧ tx.hdr.length = 8 ∧ tx.data.length ≤ 512)
  | .ack port tx _ => decide (port < 4 ∧ tx.hdr.length = 8 ∧ tx.data.length ≤ 512)
  | .nack port tx _ => decide (port < 4 ∧ tx.hdr.length = 8 ∧ tx.data.length ≤ 512)
  | .mig port tx _ => decide (port < 4 ∧ tx.hdr.length = 8 ∧ tx.data.length ≤ 512)
  | .migack port tx _ => decide (port < 4 ∧ tx.hdr.length = 8 ∧ tx.data.length ≤ 512)
  | .mgmt port tx _ => decide (port < 4 ∧ tx.hdr.length = 8 ∧ tx.data.length ≤ 512)
  | .transitForward port tx => decide (port < 4 ∧ tx.hdr.length = 8 ∧ tx.data.length ≤ 512)
  | .flowTimeout _ => true
  | .ackTimer _ => true
  | .migrationTransfer ctx => decide (ctx < 65536)
  | .rhbDevidWrite _ => true
  | .rhbKeyLoad index => decide (index < 256)
  | .rhbKeyClear index => decide (index < 256)
  | .mbxSend ch => decide (ch < 20)
  | .mbxEvtPop ch => decide (ch < 20)
  | .epianRequestServe _ => true
  | .hello ch => decide (ch < 20)
  | .unitmapRead ch => decide (ch < 20)
  | .countsRead ch => decide (ch < 20)
  | .jobCreate ch => decide (ch < 20)
  | .jobMap ch => decide (ch < 20)
  | .jobUnmap ch => decide (ch < 20)
  | .jobDestroy ch => decide (ch < 20)
  | .listPost ch => decide (ch < 20)
  | .modelLoad ch => decide (ch < 20)
  | .modelUnload ch => decide (ch < 20)
  | .adapterPublish ch => decide (ch < 20)
  | .adapterReclaim slot _ => decide (slot < 64)
  | .prefixAttach ch => decide (ch < 20)
  | .streamAdmit ch => decide (ch < 20)
  | .streamClose ch => decide (ch < 20)
  | .streamAbort ch => decide (ch < 20)
  | .streamQuery ch => decide (ch < 20)
  | .streamReserve ch => decide (ch < 20)
  | .reservationLapse ctx => decide (ctx < 65536)
  | .streamMigrate ch => decide (ch < 20)
  | .streamSettle ch => decide (ch < 20)
  | .powerSet ch => decide (ch < 20)
  | .powerStandby ch => decide (ch < 20)
  | .partitionQuery ch => decide (ch < 20)
  | .partitionShares ch => decide (ch < 20)
  | .fwWrite ch => decide (ch < 20)
  | .fwActivate ch _ => decide (ch < 20)
  | .clusterRestart ch => decide (ch < 20)
  | .clusterWatchdog => true
  | .clusterRestarted => true
  | .clusterFrameTransmit port => decide (port < 2)
  | .pilotWatchdog => true
  | .pilotRestarted => true
  | .spdm ch _ => decide (ch < 20)
  | .getVersion ch => decide (ch < 20)
  | .getCapabilities ch => decide (ch < 20)
  | .negotiateAlgorithms ch => decide (ch < 20)
  | .getDigests ch => decide (ch < 20)
  | .getCertificate ch => decide (ch < 20)
  | .challenge ch => decide (ch < 20)
  | .getMeasurements ch => decide (ch < 20)
  | .keyExchange ch => decide (ch < 20)
  | .finish ch _ => decide (ch < 20)
  | .heartbeat ch => decide (ch < 20)
  | .keyUpdate ch => decide (ch < 20)
  | .endSession ch => decide (ch < 20)
  | .chunkSend ch => decide (ch < 20)
  | .chunkGet ch => decide (ch < 20)
  | .sessionHeartbeatTimeout ch => decide (ch < 20)
  | .keyLoad ch => decide (ch < 20)
  | .keyClear ch => decide (ch < 20)
  | .keyStatus ch => decide (ch < 20)
  | .smbusBlockWrite offset _ _ _ => decide (offset < 65536)
  | .smbusSetPointer offset _ => decide (offset < 65536)
  | .smbusBlockRead _ => true
  | .alertResponse => true
  | .smbusTimeout => true
  | .functionLevelReset fn => decide (fn ≤ 16)
  | .perstN _ => true
  | .resetNLow => true
  | .resetNRelease boot => decide (boot.straps < 8 ∧ boot.dsFails < 10 ∧ boot.packageId < 2 ^ 64 ∧ boot.testPass < 2 ^ 32)
  | .railUndervoltage rails => decide (rails < 4096)
  | .refclkLoss input => decide (input < 7)
  | .temperatureSample readings => decide (readings.length = 44)
  | .powerAverage _ => true
  | .gateDutyUpdate => true
  | .gpioInputChange n _ => decide (n < 16)
  | .gpioDebounceAccept n => decide (n < 16)
  | .tapReset => true
  | .idcode => true
  | .samplePreload => true
  | .extest => true
  | .clamp => true
  | .highz => true
  | .bypass => true
  | .regAccess dr => decide (dr < 2 ^ 59)
  | .localResultRingFree _ => true
  | .hostLinkChange _ => true
  | .railRestored boot => decide (boot.straps < 8 ∧ boot.dsFails < 10 ∧ boot.packageId < 2 ^ 64 ∧ boot.testPass < 2 ^ 32)
  | .refclkRestored input boot => decide (input < 7 ∧ boot.straps < 8 ∧ boot.dsFails < 10 ∧ boot.packageId < 2 ^ 64 ∧ boot.testPass < 2 ^ 32)
  | .chainTestDone core _ => decide (core < 32)

/-- A command whose operands all lie in their ranges. -/
abbrev Instr.WellFormed (i : Instr) : Prop := i.wf = true

end Sys2Proof
end

