-- ==== Sys2Proof/Safety.lean ====
section
/-! DEFINITION. What counts as a safe run, and the form that every state of a run keeps. -/

namespace Sys2Proof.Machine

/-- HBM and the flash are in canonical form: one list of cells for each value. -/
def State.memWf (s : State) : Prop := cellsWf s.mem.bytes = true ∧ cellsWf s.flash = true

/-- The units that the device has (R1, R439, R378, R412): 32 cores, 16 GPIO pins, 20 channels, and what the SPDM responder keeps of each. -/
def State.unitsWf (s : State) : Prop := s.cores.length = 32 ∧ s.gpio.length = 16 ∧ s.mbx.length = 20 ∧ s.pilot.spdm.length = 20

/-- The tables that are kept by number list their numbers rising: registers, streams, model slots, reservations, key bindings, keys, nonce counters,
and the rotation of the spread over cores. -/
def State.mapsWf (s : State) : Prop :=
  mrising s.regs = true ∧ mrising s.fe.streams = true ∧ mrising s.pilot.slots = true ∧ mrising s.pilot.reserved = true ∧
  mrising s.pilot.keyBind = true ∧ mrising s.rhb.keys = true ∧ mrising s.rhb.nctr = true ∧ mrising s.sched.rot = true

/-- The form that every state of a run keeps, whatever commands come. -/
def State.Inv (s : State) : Prop := s.unitsWf ∧ s.memWf ∧ s.mapsWf

/-- What a full reset leaves (R432, R435): every domain off, memory, cores and registers as at reset but the causes, which gain `cause`; the flash, the
TAP and the waiting commands stay. -/
def State.afterReset (s t : State) (cause : Word) : Prop :=
  t.rst.mode = .held ∧ t.pwr = State.reset.pwr ∧ t.mem = State.reset.mem ∧ t.cores = State.reset.cores ∧ t.mbx = State.reset.mbx ∧
  t.reg Reg.pwrResetCause = s.reg Reg.pwrResetCause ||| cause ∧ (∀ k, k ≠ Reg.pwrResetCause → t.reg k = resetOf k) ∧
  t.flash = s.flash ∧ t.jtag = s.jtag ∧ t.pending = s.pending

/-- A step that goes on: no fault and no refusal. -/
def goesOn (s : State) : Prop := ∃ t, step s = .next t

/-- A run of `k` steps that goes on to its end. -/
def runsFor (k : Nat) (s : State) : Prop := ∃ t, Host.Core.run
  { State := State, Fault := Fault, Refusal := Refusal, step := step, reset := State.reset } k s = .next t

end Sys2Proof.Machine
end

