-- ==== Sys2Proof/Certificates/Slice0/Obligations.lean ====
section
/-! DEFINITION. The statements for the provers. -/

open Sys2Proof Sys2Proof.Machine

/-- The step of a state with `c` at the front of its queue is `exec c` on the state with the rest of the queue (DESIGN CHOICE, log entry 1: the queue is the
model's own); every command answers a next state. -/
def Obligations.StepRunsFrontCommand : Prop :=
  ∀ (c : Instr) (rest : List Instr) (s : State),
    step { s with pending := c :: rest } = exec c { s with pending := rest } ∧ ∃ t, exec c s = .next t

/-- On an empty queue 1 µs passes (the model's choice, DESIGN CHOICE, log entry 1); with every core domain off nothing else changes. -/
def Obligations.StepIdleAdvancesTime : Prop :=
  ∀ s : State, s.pending = [] → (∀ n < 32, s.domOn n = false) → step s = .next { s with now := s.now + 1 }

/-- R5: an access of another width or alignment. -/
def Obligations.WrongWidthOrAlignmentHasNoEffect : Prop :=
  ∀ (s : State) (ag : Agent) (addr width : Nat) (v : Word), regBase ≤ addr → addr < 2 ^ 45 → width ≠ 4 ∨ addr % 4 ≠ 0 →
    (∃ t, exec (.registerWrite ag addr width v) s = .next t ∧ t.bus.err = true ∧ { t with bus := s.bus } = s) ∧
    (∃ t, exec (.lowWordReadCapture ag addr width) s = .next t ∧ t.bus.err = true ∧ { t with bus := s.bus } = s)

/-- R27: accesses outside the grant. -/
def Obligations.AccessOutsideGrantIsRefused : Prop :=
  ∀ (s : State) (ag : Agent) (addr : Nat) (v : Word), s.rst.mode ≠ .held → regBase ≤ addr → addr < 2 ^ 45 →
    (s.granted ag addr = false →
      (∃ t, exec (.registerWrite ag addr 4 v) s = .next t ∧ t.bus.err = true ∧ { t with bus := s.bus } = s ∧
        mget t.bus.refused (agentNo ag) = some (mgetD s.bus.refused (agentNo ag) 0 + 1)) ∧
      (∃ t, exec (.lowWordReadCapture ag addr 4) s = .next t ∧ t.bus.err = true ∧ { t with bus := s.bus } = s ∧
        mget t.bus.refused (agentNo ag) = some (mgetD s.bus.refused (agentNo ag) 0 + 1))) ∧
    ((∀ ch off, regAt addr ≠ some (.mbx ch off)) → ag ≠ .pilot → ag ≠ .jtag → s.granted ag addr = false) ∧
    (s.jtagMay = false → s.granted .jtag addr = false)

/-- R6, R7: a write with no behaviour of its own, by field, with its frame. -/
def Obligations.PlainRegisterWrite : Prop :=
  ∀ (s : State) (off : Nat) (r : RegSpec) (v : Word), s.rst.mode ≠ .held → mrising s.regs = true →
    off % 4 = 0 → regAt (regBase + off) = some (.hub off) → s.answers (.hub off) = true → specOf off = some r →
    isLow (.hub off) = false → isHigh (.hub off) = false →
    off ∉ [Reg.pwrReq, Reg.logKvCtrl, Reg.logKvReq, Reg.logSchedSubmit, Reg.logSchedRedispatch] →
    ∃ t, exec (.registerWrite .pilot (regBase + off) 4 v) s = .next t ∧ t.bus.err = false ∧
      t.reg off = writtenValue r (s.reg off) v ∧ (∀ k, k ≠ off → t.reg k = s.reg k) ∧ { t with bus := s.bus, regs := s.regs } = s ∧
      (∀ i < 32, flag r.rw i = false → flag r.w1c i = true → flag (t.reg off) i = (flag (s.reg off) i && !(flag v i))) ∧
      (∀ i < 32, flag r.rw i = false → flag r.w1c i = false → flag (t.reg off) i = flag (s.reg off) i) ∧
      (r.enc = [] → ∀ i < 32, flag r.rw i = true → flag r.w1c i = false → flag (t.reg off) i = flag v i) ∧
      (∀ e ∈ r.enc, encOk e v = false → ∀ i < 32, e.1 ≤ i → i < e.1 + e.2.1 → flag r.w1c i = false → flag (t.reg off) i = flag (s.reg off) i)

/-- R8: pairs of registers, here those of the hub, written and read by the Pilot. -/
def Obligations.RegisterPairs : Prop :=
  ∀ (s : State) (off : Nat) (lo hi : Word), s.rst.mode ≠ .held → off ∈ lowHub → s.answers (.hub off) = true →
    s.answers (.hub (off + 4)) = true →
    (∃ t, exec (.registerWrite .pilot (regBase + off) 4 lo) s = .next t ∧ t.bus.err = false ∧ { t with bus := s.bus } = s ∧
      ∃ u, exec (.registerWrite .pilot (regBase + (off + 4)) 4 hi) t = .next u ∧ u.bus.err = false ∧
        u.regs = ((s.plainWrite off lo).plainWrite (off + 4) hi).regs ∧ { u with bus := s.bus, regs := s.regs } = s) ∧
    (s.bus.capture = [] →
      ∃ t, exec (.lowWordReadCapture .pilot (regBase + off) 4) s = .next t ∧ t.bus.err = false ∧ t.bus.data = s.view (.hub off) ∧
        { t with bus := s.bus } = s ∧
        ∀ x : State, x.bus = t.bus → x.rst = s.rst → x.pwr = s.pwr →
          ∃ u, exec (.lowWordReadCapture .pilot (regBase + (off + 4)) 4) x = .next u ∧
            u.bus.data = s.view (.hub (off + 4)) ∧ u.bus.capture = [])

/-- R19, R20, R23, R24: PWR_REQ; judgement, fence, drain. -/
def Obligations.PowerRequests : Prop :=
  (∀ (s : State) (d : Nat) (on : Bool), s.rst.mode ≠ .held → d < 128 →
      let c : Instr := if on then .pwrReqTurnOn d else .pwrReqTurnOff d
      (d < 80 → s.pwr.queue.length < 8 →
        exec c s = .next { s with pwr := { s.pwr with queue := s.pwr.queue ++ [{ on := on, domain := d, src := 0 }] } }) ∧
      (d < 80 → 8 ≤ s.pwr.queue.length →
        ∃ t, exec c s = .next t ∧ t.regs = (s.orReg Reg.pwrErr 4).regs ∧ t.pwr.errorLine = true ∧ t.pwr.queue = s.pwr.queue ∧ t.pwr.on = s.pwr.on) ∧
      (80 ≤ d →
        ∃ t, exec c s = .next t ∧ t.regs = (s.orReg Reg.pwrErr 2).regs ∧ t.pwr.errorLine = true ∧ t.pwr.queue = s.pwr.queue ∧ t.pwr.on = s.pwr.on)) ∧
  (∀ (s : State) (r : PwrReq) (q : List PwrReq), s.rst.mode ≠ .held →
      (s.pwr.cur = none → s.pwr.queue = r :: q → r.domain < 80 →
        (s.domOn r.domain = false → r.on = true → s.pwrAllowed r = true →
          exec .powerRequestJudged s = .next { s with pwr := { s.pwr with queue := q, cur := some r, drained := false } }) ∧
        (s.domOn r.domain = true → r.on = false → s.pwrAllowed r = true →
          ∃ t, exec .powerRequestJudged s = .next t ∧ t.pwr.cur = some r ∧ t.pwr.queue = q ∧ t.domOpen r.domain = false ∧
            t.domOn r.domain = true ∧ t.mem = s.mem) ∧
        (s.domOn r.domain = r.on → r.src = 0 → s.firmwareRuns = false → s.pilot.wantPower = [] → s.pilot.powerAsk = none →
          exec .powerRequestJudged s = .next { s with pwr := { s.pwr with queue := q, completionLine := true } }) ∧
        (s.domOn r.domain ≠ r.on → s.pwrAllowed r = false → r.src = 0 → s.firmwareRuns = false → s.pilot.wantPower = [] → s.pilot.powerAsk = none →
          ∃ t, exec .powerRequestJudged s = .next t ∧ t.regs = (s.orReg Reg.pwrErr 1).regs ∧ t.pwr.errorLine = true ∧ t.pwr.on = s.pwr.on ∧
            t.pwr.fenced = s.pwr.fenced ∧ t.pwr.queue = q)) ∧
      (s.pwr.cur = some r → r.on = false → s.pwr.drained = false → s.domDrained r.domain = true → r.domain < 80 →
        ∃ t, exec .powerOffDrained s = .next t ∧ t.domOn r.domain = false ∧ t.pwr.drained = true ∧
          (∀ d, d ≠ r.domain → d < 80 → t.domOn d = s.domOn d)) ∧
      (s.pwr.cur = some r → (r.on = true ∨ s.pwr.drained = true) → 76 ≤ r.domain → r.domain < 79 → r.src = 0 → s.firmwareRuns = false →
        s.pilot.wantPower = [] → s.pilot.powerAsk = none →
        exec .domainTransitionComplete s = .next { s with pwr := { s.pwr with
          cur := none, drained := false, completionLine := true
          on := if r.on then s.pwr.on ||| BitVec.ofNat 80 (2 ^ r.domain) else s.pwr.on
          fenced := s.pwr.fenced &&& ~~~ (BitVec.ofNat 80 (2 ^ r.domain)) } }))

/-- R29: the arbiters. -/
def Obligations.ArbitersRotate : Prop :=
  (State.reset.pilot.mboxOrder = List.range 4 ∧ State.reset.pilot.chanOrder = List.range 17 ∧
    (∀ c ∈ State.reset.cores, c.loupeOrder = List.range 3) ∧
    (∀ (s : State) (n : Nat), n < 32 → s.cores.length = 32 → ((s.upDomain n).core n).loupeOrder = List.range 3)) ∧
  (∀ (order : List Nat) (req : Nat → Bool),
    (arbitrate order req = none ↔ ∀ r ∈ order, req r = false) ∧
    (∀ pre w post, order = pre ++ w :: post → (∀ r ∈ pre, req r = false) → req w = true → order.Nodup →
      arbitrate order req = some (w, pre ++ post ++ [w]))) ∧
  (∀ (order : List Nat) (r : Nat) (reqs : List (Nat → Bool)), order.Nodup → r ∈ order → reqs.length = order.length → (∀ q ∈ reqs, q r = true) →
    r ∈ (reqs.foldl (fun (x : List Nat × List Nat) q => match arbitrate x.1 q with
      | some (w, o) => (o, x.2 ++ [w])
      | none => x) (order, [])).2)

/-- R405, R14, R40: from the wire to the match. -/
def Obligations.FramesAreReceivedAndParsed : Prop :=
  ∀ (s : State) (p : Nat), p < 2 →
    (∀ f : NetFrame, s.domOpen 76 = true → s.fe.linkDown.getD p false = false → flag (s.reg Reg.feCtrl) (1 + p) = true → s.macTakes p f = true →
      (s.rxBytes p + f.bytes.length ≤ 262144 →
        exec (.macFrameReceive p f) s = .next { s with fe := { s.fe with rx := lmod s.fe.rx p (· ++ [(f, s.vsfPort)]) } }) ∧
      (262144 < s.rxBytes p + f.bytes.length → exec (.macFrameReceive p f) s = .next (s.bump (Reg.feCntRxovfE0 + 4 * p)))) ∧
    (∀ f : NetFrame, s.macTakes p f = false → exec (.macFrameReceive p f) s = .next s) ∧
    (∀ (f : NetFrame) (port : Nat) (r : List (NetFrame × Nat)), s.domOpen 79 = true → s.fe.rx.getD p [] = (f, port) :: r →
      let u : State := { s with fe := { s.fe with rx := s.fe.rx.set p r } }
      (f.udp = none → exec (.feDatagramParse p) s = .next (u.toCluster p f.bytes)) ∧
      (∀ d, f.udp = some d →
        ((if d.csumZero then d.ipv6 else !d.csumOk) = true → exec (.feDatagramParse p) s = .next (u.bump Reg.feCntBadcsum)) ∧
        ((if d.csumZero then d.ipv6 else !d.csumOk) = false →
          (∀ v, port ≠ 0 → d.dstPort = port → vsfOf d.payload = some v →
            (s.handleLive v.handle = false → s.handleAborted v.handle = false →
              exec (.feDatagramParse p) s = .next ((u.bump Reg.feCntStale).sendAck (peerOf p d) v.handle v.seq 4)) ∧
            ((s.handleLive v.handle = true ∨ s.handleAborted v.handle = true) → (v.typ = 4 ∨ s.vsfBound p d v = true) →
              exec (.feDatagramParse p) s = .next { u with fe := { u.fe with items := lmod u.fe.items p (· ++ [.vsf d]) } })) ∧
          (∀ i, d.dstPort ≠ port → s.rtpMatch p d = some i → (d.payload.getD 0 0).toNat / 64 = 2 →
            (if (s.strm i).bind.pt = 0 then (d.payload.getD 1 0).toNat % 128 = 0 ∨ (d.payload.getD 1 0).toNat % 128 = 8
              else (d.payload.getD 1 0).toNat % 128 = (s.strm i).bind.pt) →
            exec (.feDatagramParse p) s = .next { u with fe := { u.fe with items := lmod u.fe.items p (· ++ [.rtp i f d]) } }))))

/-- R46, R41, R47: placement, the closes, and the closed chunk. -/
def Obligations.RtpPacketsAndChunkClose : Prop :=
  ∀ (s : State), s.domOn 79 = true →
    (∀ (p i : Nat) (f : NetFrame) (d : Datagram) (q : List Item), p < 2 → s.fe.items.getD p [] = .rtp i f d :: q →
      let u := s.takeItem p
      (u.rtpMatch p d ≠ some i → exec (.rtpPacket p) s = .next (u.parseRtp p f d)) ∧
      (u.rtpMatch p d = some i → rtpOf d.payload = none → exec (.rtpPacket p) s = .next (u.bump Reg.feCntUnbound)) ∧
      (∀ k : Rtp, u.rtpMatch p d = some i → rtpOf d.payload = some k →
        let x := u.strm i
        let xs := samplesOf true (if k.pt = 0 then 1 else if k.pt = 8 then 2 else 0) k.payload
        let pos : Int := x.rtp.start + tsDiff k.ts (x.rtp.base.getD k.ts + w32 x.rtp.start)
        let n := u.chunkLen i x.bind.hz
        (xs ≠ [] → pos + xs.length ≤ x.rtp.start →
          ∃ t, exec (.rtpPacket p) s = .next t ∧ (t.strm i).rtp.samples = x.rtp.samples ∧ (t.strm i).rtp.last = some s.now ∧ t.mem = s.mem ∧
            t.regs = (s.bump Reg.feCntLatepkt).regs) ∧
        (xs ≠ [] → x.rtp.silent = false → mrising x.rtp.samples = true → (x.rtp.start : Int) ≤ pos → pos + xs.length ≤ x.rtp.start + n →
          (∀ j < xs.length, mget x.rtp.samples (pos.toNat + j) = none) →
          (x.rtp.samples.filter (fun e => decide (e.1 < x.rtp.start + n))).length + xs.length < n →
          ∃ t, exec (.rtpPacket p) s = .next t ∧ (∀ j < xs.length, mget (t.strm i).rtp.samples (pos.toNat + j) = some (xs.getD j 0)) ∧
            (∀ e, (e < pos.toNat ∨ pos.toNat + xs.length ≤ e) → mget (t.strm i).rtp.samples e = mget x.rtp.samples e) ∧
            (t.strm i).rtp.start = x.rtp.start ∧ (t.strm i).rtp.last = some s.now ∧ t.mem = s.mem ∧ t.regs = s.regs) ∧
        exec (.rtpPacket p) s = .next (u.rtpPlace i (peerOf p d) k))) ∧
    (∀ (i fuel : Nat), s.rtpFull i = true → State.rtpDrain (fuel + 1) s i = State.rtpDrain fuel (s.rtpCloseOpen i) i) ∧
    (∀ (i : Nat) (e : Nat × Nat),
      (s.strm i).rtp.ends.find? (fun q => decide ((s.strm i).rtp.start + s.chunkLen i (s.strm i).bind.hz < q.1)) = some e →
      (e.2 + fld (s.reg Reg.feJitter) 15 0 ≤ s.now →
        exec (.rtpJitterClose i) s = .next (State.rtpDrain ((s.strm i).rtp.samples.length + 1) (s.rtpCloseOpen i) i) ∧
        ((s.rtpCloseOpen i).rtpFull i = false → exec (.rtpJitterClose i) s = .next (s.rtpCloseOpen i))) ∧
      (s.now < e.2 + fld (s.reg Reg.feJitter) 15 0 → exec (.rtpJitterClose i) s = .next s)) ∧
    (∀ (i at_ : Nat), (s.strm i).rtp.last = some at_ → (s.strm i).rtp.silent = false →
      let due := at_ + msPeriod (s.mslot (cxModel (s.sctx i))) + fld (s.reg Reg.feJitter) 15 0
      let mine := (s.strm i).rtp.samples.any (fun q => decide (q.1 < (s.strm i).rtp.start + s.chunkLen i (s.strm i).bind.hz))
      (due ≤ s.now → mine = true →
        exec (.rtpSilenceClose i) s =
          .next ((s.rtpCloseOpen i).modStrm i (fun x => { x with rtp := { x.rtp with silent := x.rtp.samples.isEmpty } }))) ∧
      (due ≤ s.now → mine = false →
        exec (.rtpSilenceClose i) s = .next (s.modStrm i (fun x => { x with rtp := { x.rtp with silent := x.rtp.samples.isEmpty } }))) ∧
      (s.now < due → exec (.rtpSilenceClose i) s = .next s)) ∧
    (∀ i : Nat,
      let r := (s.strm i).rtp
      let n := s.chunkLen i (s.strm i).bind.hz
      ∃ (x : Stream) (c : Chunk), s.rtpCloseOpen i = ((s.putStrm i x).bump Reg.feCntConcealed c.concealed).chunkComplete i c ∧
        x.bind = (s.strm i).bind ∧ x.rtp.start = r.start + n ∧ x.rtp.samples = r.samples.filter (fun e => decide (r.start + n ≤ e.1)) ∧
        c.concealed = n - (r.samples.filter (fun e => decide (e.1 < r.start + n))).length ∧
        c.samples = ((s.strm i).convertChunk (s.strm i).bind.hz (rateHz (msRate (s.mslot (cxModel (s.sctx i)))))
          ((List.range n).map (fun k => mgetD (r.samples.filter (fun e => decide (e.1 < r.start + n))) (r.start + k) 0))).1) ∧
    (∀ (i : Nat) (c : Chunk), cxState (s.sctx i) ≠ 3 → s.pastClose i c.seq = false → s.acceptShut i = false →
      (s.tokensAt i s.now).1 < msPeriod (s.mslot (cxModel (s.sctx i))) →
      let need := ceilDiv (wd (s.mslot (cxModel (s.sctx i))) 3).toNat 4096
      need ≤ s.freeHold.length →
      (s.chunkComplete i c).fe.hold = s.fe.hold ++ [⟨i, c, s.freeHold.take need, s.now⟩])

/-- R43, R52, R69, R70, R44: the VSF frames. -/
def Obligations.VsfFramesOfAStream : Prop :=
  ∀ (s : State) (p : Nat) (d : Datagram) (q : List Item) (v : Vsf), s.domOn 79 = true →
    (p < 2 → s.fe.items.getD p [] = .vsf d :: q → vsfOf d.payload = some v →
      let u := s.takeItem p
      let i := hIndex v.handle
      let here := u.modStrm i (fun x => { x with eport := p })
      (u.vsfAlive v = true →
        (v.typ = 1 → u.vsfMisfit i v = false → cxState (u.sctx i) = 1 →
          (precedes v.seq (cxAccept (u.sctx i)) = true →
            exec (.vsfData p) s = .next ((here.bump Reg.feCntDup).sendAck (peerOf p d) v.handle v.seq 0)) ∧
          (precedes v.seq (cxAccept (u.sctx i)) = false → (u.heldOf i).any (fun h => h.chunk.seq == v.seq) = false → v.seq ≠ u.nextExpected i →
            exec (.vsfData p) s = .next (here.refuse i v.seq (peerOf p d) 2 Reg.feCntRefusedGap)) ∧
          (precedes v.seq (cxAccept (u.sctx i)) = false → (u.heldOf i).any (fun h => h.chunk.seq == v.seq) = false → v.seq = u.nextExpected i →
            (u.strm i).cur = none → fld v.w3 15 0 < u.chunkLen i (rateHz (fld v.w3 29 28)) →
            (samplesOf false (fld v.w3 31 30) v.payload).length < u.chunkLen i (rateHz (fld v.w3 29 28)) →
            ∃ t c, exec (.vsfData p) s = .next t ∧ (t.strm i).cur = some c ∧ c.seq = v.seq ∧ c.format = fld v.w3 31 30 ∧ c.rate = fld v.w3 29 28 ∧
              c.samples.map Prod.snd = samplesOf false (fld v.w3 31 30) v.payload ∧ t.mem = s.mem ∧ t.regs = s.regs) ∧
          (precedes v.seq (cxAccept (u.sctx i)) = false → (u.heldOf i).any (fun h => h.chunk.seq == v.seq) = false → v.seq = u.nextExpected i →
            (u.strm i).cur = none → u.chunkLen i (rateHz (fld v.w3 29 28)) ≤ (samplesOf false (fld v.w3 31 30) v.payload).length →
            ∃ y c, exec (.vsfData p) s = .next ((u.putStrm i y).chunkComplete i c) ∧ y.cur = none ∧ c.seq = v.seq ∧ c.concealed = 0 ∧
              c.samples = ((u.strm i).convertChunk (rateHz (fld v.w3 29 28)) (rateHz (msRate (u.mslot (cxModel (u.sctx i)))))
                (samplesOf false (fld v.w3 31 30) v.payload)).1)) ∧
        (v.typ = 4 → (u.resultPeer i).loc = false → (u.resultPeer i).ipv6 = d.ipv6 → (u.resultPeer i).addr = d.srcAddr → cxState (u.sctx i) = 1 →
          (u.strm i).unacked.all (fun r => decide (r.rtx < fld (s.reg Reg.feRetx) 7 0)) = true →
          exec (.vsfRack p) s = .next (u.putStrm i { u.strm i with unacked := (u.strm i).unacked.filter (fun r =>
            !(precedes r.seq v.seq || (r.seq == v.seq && decide (r.segment ≤ fld v.w3 31 16)))) })) ∧
        (v.typ = 5 → cxState (u.sctx i) = 1 → cxSrc (u.sctx i) ≠ 0 → exec (.vsfClose p) s = .next ((u.refusePast i v.seq).startClose i v.seq))) ∧
      (u.vsfAlive v = false →
        let t := (u.bump Reg.feCntStale).sendAck (peerOf p d) v.handle v.seq 4
        (v.typ = 1 → exec (.vsfData p) s = .next t) ∧ (v.typ = 4 → exec (.vsfRack p) s = .next t) ∧
        (v.typ = 5 → exec (.vsfClose p) s = .next t))) ∧
    (s.domOpen 79 = true → flag (s.reg Reg.feCtrl) 3 = true → s.ringUsed 0 ≠ 0 → fld (s.hubWord (s.ringEntry 0 (s.ringCons 0))) 15 0 ≤ 2040 →
      fld (s.hubWord (s.ringEntry 0 (s.ringCons 0))) 31 16 = 0 → s.hubWord (s.ringEntry 0 (s.ringCons 0) + 4) = 0 →
      vsfOf ((s.hubPeek (s.ringEntry 0 (s.ringCons 0) + 8) (fld (s.hubWord (s.ringEntry 0 (s.ringCons 0))) 15 0)).getD []) = some v →
      exec .localFrameInject s = .next (((s.hubNote (s.ringEntry 0 (s.ringCons 0)) (8 + fld (s.hubWord (s.ringEntry 0 (s.ringCons 0))) 15 0)).hubPokeW
        (s.ringBase 0 + 4) (s.ringCons 0 + 1)).takeLocal v))

/-- R47, R49, R50, R52: the hold, acceptance and the acknowledgement. -/
def Obligations.HeldChunks : Prop :=
  ∀ (s : State) (i : Nat) (h : Held) (rest : List Held), s.domOn 79 = true →
    (s.heldOf i = h :: rest →
      let p := msPeriod (s.mslot (cxModel (s.sctx i)))
      (p ≤ (s.tokensAt i (min s.now (h.start + 4 * p))).1 →
        let u := s.spend i p
        exec (.heldChunkRelease i) s = .next ((({ u with fe := { u.fe with hold := dropHeld i u.fe.hold } } : State).acceptChunk i h.chunk).afterHold i)) ∧
      ((s.tokensAt i (min s.now (h.start + 4 * p))).1 < p → exec (.heldChunkRelease i) s = .next s) ∧
      (h.start + 4 * p ≤ s.now → (s.tokensAt i (h.start + 4 * p)).1 < p →
        (cxSrc (s.sctx i) = 0 →
          exec (.holdTimeout i) s = .next ((({ s with fe := { s.fe with hold := dropHeld i s.fe.hold } } : State).refuse i h.chunk.seq h.chunk.peer 1
            Reg.feCntRefusedRate).afterHold i)) ∧
        (cxSrc (s.sctx i) ≠ 0 →
          exec (.holdTimeout i) s = .next ((rest.foldl (fun s h => s.refuse i h.chunk.seq h.chunk.peer 2 Reg.feCntRefusedGap)
            (({ s with fe := { s.fe with hold := s.fe.hold.filter (fun h => decide (h.ctx ≠ i)) } } : State).refuse i h.chunk.seq h.chunk.peer 1
              Reg.feCntRefusedRate)).afterHold i))) ∧
      (s.now < h.start + 4 * p → exec (.holdTimeout i) s = .next s)) ∧
    (∀ c : Chunk, cxState (s.sctx i) ≠ 3 → cxSrc (s.sctx i) ≠ 0 → s.pastClose i c.seq = false →
      (c.seq ≠ cxAccept (s.sctx i) → s.acceptChunk i c = s.refuse i c.seq c.peer 2 Reg.feCntRefusedGap) ∧
      (c.seq = cxAccept (s.sctx i) → (s.acceptShut i = true ∨ cxAccept (s.sctx i) - cxCommit (s.sctx i) = 8) →
        s.acceptChunk i c = s.refuse i c.seq c.peer 3 Reg.feCntRefusedFull) ∧
      (c.seq = cxAccept (s.sctx i) → s.acceptShut i = false → cxAccept (s.sctx i) - cxCommit (s.sctx i) ≠ 8 → s.acceptChunk i c = s.acceptWrite i c)) ∧
    (∀ a r, (s.strm i).acks = a :: r →
      exec (.chunkAccepted i) s =
        .next (((s.modStrm i (fun x => { x with acks := r })).sendAck a.2 (cxHandle (s.sctx i) i) a.1 0).closeSettle i))

/-- R54, R55, R57, R77: the tick. -/
def Obligations.TickFormsBatches : Prop :=
  ∀ (s : State), s.rst.mode ≠ .held →
    ((flag (s.reg Reg.logCtrl) 0 = false ∨ s.logTime.toNat % 1000 ≠ 0) → exec .tick s = .next s) ∧
    (flag (s.reg Reg.logCtrl) 0 = true → s.logTime.toNat % 1000 = 0 →
      let r := (s.openCtxs.filter s.due).foldl State.journalNote s
      let a := (r.openCtxs.filter (fun i => r.due i && (r.journal i).isNone)).foldl State.journalFail r
      let b := (List.range 256).foldl (fun s m => if (s.slotStreams m).any s.due then s.tickModel m else s) a.sweepBatches
      exec .tick s = .next ((List.range (b.log.batches.filter (fun b => !b.queued && !b.dead)).length).foldl (fun s _ => s.dispatchHeld) b)) ∧
    (∀ (m i : Nat) (j : List Word), (s.slotStreams m).filter s.due = [i] → s.journal i = some j →
      s.tickModel m = (s.formBatch m s.now [s.stepEntry i j] 0 0).1 ∧
      (s.stepEntry i j).handle = cxHandle (s.sctx i) i ∧ (s.stepEntry i j).seq = cxCommit (s.sctx i) ∧ (s.stepEntry i j).deadline = wd j 3) ∧
    (∀ (m tick : Nat) (es : List BEntry), ∃ b : Batch, (s.formBatch m tick es 0 0).1.log.batches = s.log.batches ++ [b] ∧
      (s.formBatch m tick es 0 0).2 = b.id ∧ b.entries = es ∧ b.tick = tick ∧ b.model = m ∧ b.queued = false ∧ b.dead = false ∧ b.slot = none ∧
      (s.formBatch m tick es 0 0).1.log.nextBatch = b.id + 1) ∧
    (∀ i, s.due i = true ↔ (cxLive (s.sctx i) = true ∧ precedes (cxCommit (s.sctx i)) (cxAccept (s.sctx i)) = true ∧ cxInflight (s.sctx i) = false ∧
      cxEstall (s.sctx i) = false ∧ s.slotFree i (cxCommit (s.sctx i)) = true)) ∧
    (∀ (b : Batch) (k : Nat), s.sweepBatches.nextHeld = some b → s.sweepBatches.freeSlot = some k →
      ∃ t, exec .heldBatchDispatch s = .next t ∧
        t.log.batches = s.sweepBatches.log.batches.map (fun x => if x.id = b.id then { x with slot := some k, queued := true } else x) ∧
        t.mem = (s.sweepBatches.hubPoke (s.sweepBatches.wlAddr k) (bytesOf b.listWords)).mem ∧
        WorkItem.batch b.id ∈ t.sched.ready ∧ (∀ x ∈ s.sched.ready, x ∈ t.sched.ready) ∧ t.regs = (s.sweepBatches.hubPoke (s.sweepBatches.wlAddr k) (bytesOf b.listWords)).regs) ∧
    (s.sweepBatches.nextHeld = none ∨ s.sweepBatches.freeSlot = none → exec .heldBatchDispatch s = .next s.sweepBatches)

/-- R92, R63, R64: completion, join and commit. -/
def Obligations.CompletionsCommit : Prop :=
  ∀ (s : State), s.rst.mode ≠ .held →
    (∀ (n : Nat) (p : Cpl) (r : List Cpl), n < 32 → (s.core n).cpl = p :: r →
      let u := s.modCore n (fun c => { c with cpl := r })
      (s.batch p.batch = none → exec (.sliceCompletion n) s = .next (u.bump Reg.logCntStaleCpl)) ∧
      (∀ b, s.batch p.batch = some b →
        exec (.sliceCompletion n) s =
          .next (((List.range p.n).foldl (fun s k => s.joinEntry p.batch p.slice (p.first + k)) u).sweepBatches))) ∧
    (∀ (b : Batch) (e : BEntry),
      let i := hIndex e.handle
      let w := s.sctx i
      (s.handleLive e.handle = true → cxCommit w = e.seq → cxBatch w = b.id % 65536 → cxInflight w = true → precedes e.deadline s.logTime = false →
        ∃ w', s.commitEntry b e = (s.putSctx i w').putStrm i { s.strm i with
            releases := (s.strm i).releases ++ [(⟨e.seq, fld (wd w 5) 15 0, e.mark, false⟩ : Release)] } ∧
          w'.length = w.length ∧ wd w' 3 = e.seq + 1 ∧ cxCur w' = !(cxCur w) ∧ cxInflight w' = false ∧ wd w' 2 = wd w 2) ∧
      (s.handleLive e.handle = false ∨ cxCommit w ≠ e.seq ∨ cxBatch w ≠ b.id % 65536 ∨ cxInflight w = false →
        s.commitEntry b e = s.bump Reg.logCntStaleCpl))

/-- R66, R69: release and retransmission. -/
def Obligations.ResultsAreReleasedAndResent : Prop :=
  ∀ (s : State) (i : Nat) (x : Stream), mget s.fe.streams i = some x →
    (∀ (r : Release) (rest : List Release), s.rst.mode ≠ .held → x.releases = r :: rest →
      let m := s.mslot (cxModel (s.sctx i))
      let ctx := s.slotCtx (cxModel (s.sctx i))
      let u := (s.ctxNote ctx (resultAddr m i r.seq) (wd m 4).toNat).modStrm i (fun x => { x with releases := rest })
      (∀ bs, s.ctxPeek ctx (resultAddr m i r.seq) (wd m 4).toNat = some bs →
        let g := slotSegments bs (leNat (bs.take 2)) 4
        let v := g.1.zipIdx.foldl (fun s e => s.releaseSeg i r e.2 e.1.1 e.1.2 (e.2 + 1 == g.1.length)) u
        exec (.resultRelease i) s = .next ((if g.2 then v.bump Reg.logCntBadslot else v).closeSettle i)) ∧
      (s.ctxPeek ctx (resultAddr m i r.seq) (wd m 4).toNat = none →
        exec (.resultRelease i) s = .next (u.hubFail i ctx (resultAddr m i r.seq) (wd m 4).toNat false))) ∧
    (∀ k, s.domOn 79 = true → x.unacked.findIdx? (fun r => decide (r.last + 1000 * fld (s.reg Reg.feRetx) 31 16 ≤ s.now)) = some k →
      let r := x.unacked.getD k default
      let u := ((s.putStrm i { x with unacked := x.unacked.set k { r with rtx := r.rtx + 1, last := s.now } }).bump Reg.feCntRtx).sendResult i r.bytes
      (r.rtx + 1 ≠ fld (u.reg Reg.feRetx) 7 0 → exec (.resultRetransmit i) s = .next (u.closeSettle i)) ∧
      (r.rtx + 1 = fld (u.reg Reg.feRetx) 7 0 →
        exec (.resultRetransmit i) s =
          .next (((u.modSctx i (fun w => putFld w 0 0 0 1)).logEvent evStall (cxHandle (u.sctx i) i) r.seq).closeSettle i))) ∧
    (s.domOn 79 = true → x.unacked.findIdx? (fun r => decide (r.last + 1000 * fld (s.reg Reg.feRetx) 31 16 ≤ s.now)) = none →
      exec (.resultRetransmit i) s = .next s)

/-- R396, R44, R77: rings and events. -/
def Obligations.LocalRingsAndEventQueue : Prop :=
  ∀ (s : State),
    (∀ (p : Nat), p < 2 → s.domOn 79 = true →
      let k := 5 + p
      let x := s.ringCons k
      let len := fld (s.hubWord (s.ringEntry k x)) 15 0
      let n := ceilDiv (len + 8) 2048
      (n ≤ s.ringUsed k → s.ringUsed k ≤ 4096 →
        exec (.clusterFrameTransmit p) s = .next ((((List.range n).foldl (fun s j => s.hubNote (s.ringEntry k (x + w32 j)) 2048) s).hubPokeW (s.ringBase k + 4) (x + w32 n)).transmit p
          { raw := true, bytes := (((List.range n).flatMap (fun j => (s.hubPeek (s.ringEntry k (x + w32 j)) 2048).getD [])).drop 8).take len })) ∧
      (s.ringUsed k < n → exec (.clusterFrameTransmit p) s = .next s)) ∧
    (∀ w, s.domOn 79 = true →
      exec (.localResultRingFree w) s =
        .next (State.drainLocal (s.hubPokeW (s.ringBase 2 + 4) w).fe.localWait.length (s.hubPokeW (s.ringBase 2 + 4) w))) ∧
    (∀ (e : List Word) (r : List (List Word)), s.jtagMay = true → s.bus.capture = [] → s.log.evq = e :: r →
      ∃ t, exec (.logEvqPop .jtag) s = .next t ∧ t.bus.err = false ∧ t.bus.data = wd e 3 ∧ t.log.evq = r ∧
        { t with bus := s.bus, log := { t.log with evq := s.log.evq } } = s)

/-- R88, R90, R93, R97, R309, R444: the control commands. -/
def Obligations.ControlCommandsDispatch : Prop :=
  ∀ (s : State) (n : Nat) (ws : List Word), n < 32 → s.domOn n = true →
    let c := s.core n
    (∀ op i, (op, i) ∈ [(opNop, Instr.nop n), (opFence, .fence n), (opEnd, .endList n), (opLoop, .loop n), (opEndloop, .endloop n)] →
      c.headOp op = some ws → c.decodeHead ws = none → exec i s = .next (s.coreFault n codeMalformed c.curSl.pc)) ∧
    (∀ d, c.decodeHead ws = some d →
      (c.headOp opNop = some ws → c.sbRoom d = true → c.hazard d.seq d.rds d.wrs = false → exec (.nop n) s = .next (s.advance n)) ∧
      (c.headOp opNop = some ws → (c.sbRoom d = false ∨ c.hazard d.seq d.rds d.wrs = true) → exec (.nop n) s = .next s) ∧
      (c.headOp opFence = some ws → va48 d.ops 1 = 0 →
        exec (.fence n) s = .next (((s.modCore n (fun c => { (c.passHead c.headLen) with ctl := .fence (flag (d.o 1) 31) })).cBump n
          Reg.coreCntDispatch).modCore n (fun c => c.modCur (fun x => { x with liveMap := 0, saved := false })))) ∧
      (∀ u bs, c.headOp opFence = some ws → va48 d.ops 1 ≠ 0 → s.fetchRead n (va48 d.ops 1) 64 = (u, some (.ok bs)) → livemapOk (wordsOf 16 bs) = true →
        exec (.fence n) s = .next (((u.modCore n (fun c => { (c.passHead c.headLen) with ctl := .fence (flag (d.o 1) 31) })).cBump n
          Reg.coreCntDispatch).modCore n (fun c => c.modCur (fun x => { x with
            liveMap := va48 d.ops 1, saved := false, live := fld (wd (wordsOf 16 bs) 1) 18 0 })))) ∧
      (c.headOp opEnd = some ws → c.curSl.loops = [] →
        exec (.endList n) s = .next ((s.modCore n (fun c => { (c.passHead c.headLen) with ctl := .endDrain })).cBump n Reg.coreCntDispatch)) ∧
      (c.headOp opEnd = some ws → c.curSl.loops ≠ [] → exec (.endList n) s = .next (s.coreFault n codeLoop d.va)) ∧
      (c.headOp opLoop = some ws → flag (d.o 1) 31 = false → 1 ≤ fld (d.o 1) 17 0 →
        (c.curSl.loops.length < 4 →
          exec (.loop n) s = .next ((s.modCore n (fun c => c.modCur (fun x => { x with
            loops := ⟨0, fld (d.o 1) 17 0, d.va, d.va + 4 * (s.core n).headLen, false, 1, fld (d.o 2) 21 0⟩ :: x.loops }))).advance n)) ∧
        (4 ≤ c.curSl.loops.length → exec (.loop n) s = .next (s.coreFault n codeLoop d.va))) ∧
      (c.headOp opEndloop = some ws →
        (c.curSl.loops = [] → exec (.endloop n) s = .next (s.coreFault n codeLoop d.va)) ∧
        (∀ l r, c.curSl.loops = l :: r →
          (l.li + 1 < l.iter →
            exec (.endloop n) s = .next (((s.modCore n (fun c => ((c.passHead c.headLen).modCur (fun x => { x with
              loops := { l with li := l.li + 1 } :: r })).jump l.body)).cBump n Reg.coreCntDispatch).settle n)) ∧
          (l.iter ≤ l.li + 1 → exec (.endloop n) s = .next ((s.modCore n (fun c => c.modCur (fun x => { x with loops := r }))).advance n)))))

/-- R103: translation of each VDN-8E command. -/
def Obligations.CompatibilityCommandsTranslate : Prop :=
  ∀ (s : State) (n : Nat) (ws : List Word), n < 32 → s.domOn n = true →
    let c := s.core n
    let into (ds : List Cmd) : State :=
      ((((s.modCore n (fun c => { (c.passHead 4) with xlated := ds.map (fun d => { d with va := (s.core n).curSl.pc, slice := (s.core n).cur }) })).cBump n
        Reg.coreCntDispatch).pump n).settle n)
    (∀ op i f, (op, i, f) ∈ [(1, Instr.loadw n, xlateLoadw ws), (2, .gemm n, xlateGemm ws), (3, .vop n, xlateVop ws),
        (4, .dmaIn n, xlateDma false c.curSl.list ws), (5, .dmaOut n, xlateDma true c.curSl.list ws)] →
      c.compatHead op = some ws →
      (∀ ds, fld (wd ws 3) 31 2 = 0 → f = some ds → exec i s = .next (into ds)) ∧
      ((fld (wd ws 3) 31 2 ≠ 0 ∨ f = none) → exec i s = .next (s.coreFault n codeMalformed c.curSl.pc))) ∧
    (c.compatHead 6 = some ws → fld (wd ws 3) 31 2 = 0 →
      exec (.sync n) s = .next ((s.modCore n (fun c => { ((c.passHead 4).modCur (fun x => { x with liveMap := 0, saved := false })) with
        ctl := .fence false })).cBump n Reg.coreCntDispatch)) ∧
    (c.compatHead 7 = some ws → fld (wd ws 3) 31 2 = 0 →
      exec (.stepEnd n) s = .next ((s.modCore n (fun c => { ((c.passHead 4).modCur (fun x => { x with
        liveMap := 0, saved := false, stepEnd := true })) with ctl := .fence false })).cBump n Reg.coreCntDispatch))

/-- R97, R98, R444: boundaries. -/
def Obligations.KernelBoundaries : Prop :=
  ∀ (s : State) (n : Nat), n < 32 → s.domOn n = true → s.cores.length = 32 →
    let c := s.core n
    (∀ b, c.ctl = .fence b →
      (c.drained = false → exec (.fenceDrainComplete n) s = .next s) ∧
      (∀ x, c.sliceOf c.cur = some x → x.ended = false → c.drained = true → b = false → c.curSl.stepEnd = false → c.preempt = 1 →
        ∃ t, exec (.fenceDrainComplete n) s = .next t ∧ (t.core n).ctl = .preempted ∧ (t.core n).plane0.valid = false ∧
          (t.core n).plane1.valid = false ∧ (t.core n).wss = 0 ∧ (t.core n).spad = c.spad ∧ t.mem = s.mem ∧
          (∀ m, m ≠ n → t.core m = s.core m)) ∧
      (c.drained = true → c.curSl.stepEnd = true → b = false →
        ∃ t, exec (.fenceDrainComplete n) s = .next t ∧ (t.core n).ctl = .endDrain ∧ (t.core n).plane0.valid = false ∧
          (t.core n).plane1.valid = false ∧ (t.core n).wss = 0 ∧ t.mem = s.mem)) ∧
    (c.ctl = .barrier →
      (s.barrierFull n = false → exec (.barrierOpen n) s = .next s) ∧
      (s.barrierFull n = true → c.preempt = 1 →
        let o : Core := { c with slices := c.slices.map (fun x => { x with arrived := false }) }
        ∃ t, exec (.barrierOpen n) s = .next t ∧ (t.core n).ctl = .preempted ∧ (t.core n).cur = (o.nextSlice c.cur).getD c.cur ∧
          (t.core n).slices = o.slices ∧ t.mem = s.mem) ∧
      (s.barrierFull n = true → c.preempt ≠ 1 →
        let o : Core := { c with wdog := 0, slices := c.slices.map (fun x => { x with arrived := false }) }
        exec (.barrierOpen n) s = .next ((s.setCore n { o with
          ctl := .run, cur := (o.nextSlice o.cur).getD o.cur, fetch := if o.slices.length = 1 then o.fetch else [] }).settle n))) ∧
    (c.ctl = .endDrain → (c.drained && c.sxDrained c.cur) = false → exec (.endComplete n) s = .next s) ∧
    (c.ctl = .endDrain → (c.drained && c.sxDrained c.cur) = true → c.uncovered = true → exec (.endComplete n) s = .next (s.coreFault n codeComplete (c.curSl.pc - 4))) ∧
    (c.ctl = .endDrain → (c.drained && c.sxDrained c.cur) = true → c.uncovered = false → c.run = .direct → (c.wl = none ∨ c.wlBuf ≠ []) →
      let u := ((s.modCore n (fun c => { (c.clearKernel.modCur (fun x => { x with ended := true })) with wdog := 0 })).leaveCore n c.cur).modWork n
        (fun b => { b with ended := b.ended ||| bit32 c.cur }) (fun d => { d with ended := d.ended ||| bit32 c.cur })
      ((u.core n).slices.all SliceSt.ended = true → exec (.endComplete n) s = .next (u.freeCore n)) ∧
      (∀ k, (u.core n).slices.all SliceSt.ended = false → (u.core n).nextSlice (u.core n).cur = some k →
        exec (.endComplete n) s = .next (u.modCore n (fun c => { c with
          ctl := if c.preempt = 1 then .preempted else .run, cur := k, fetch := [] }))))

/-- R79, R80, R107, R305: start, fetch, abort. -/
def Obligations.CoreStartsAndAborts : Prop :=
  ∀ (s : State) (n : Nat), n < 32 → s.cores.length = 32 →
    (s.answers (.core n 0) = true →
      (∀ legacy, (s.core n).idle = false → exec (.coreStart n legacy) s = .next s) ∧
      ((s.core n).idle = true → freshSlices (s.cReg n Reg.coreSlices).toNat ≠ [] →
        exec (.coreStart n false) s =
          .next (((s.contextStart n).modCore n (fun c => c.carry .direct (freshSlices (s.cReg n Reg.coreSlices).toNat))).enterAll n)) ∧
      ((s.core n).idle = true →
        exec (.coreStart n true) s =
          .next (((s.contextStart n).modCore n (fun c => c.carry .compat ((freshSlices (s.cReg n Reg.coreSlices).toNat ++ [({ slice := 0 } : SliceSt)]).take 1))).enterAll n)) ∧
      (let u := (s.contextStart n).modCore n (fun c => c.carry .direct (freshSlices (s.cReg n Reg.coreSlices).toNat))
       (u.core n).run = .direct ∧ (u.core n).ctl = .run ∧ (u.core n).slices = freshSlices (s.cReg n Reg.coreSlices).toNat ∧
        (∀ x ∈ (u.core n).slices, x.started = false ∧ x.ended = false ∧ x.loops = []) ∧ (u.core n).wss = 0 ∧ (u.core n).plane0.valid = false ∧
        (u.core n).plane1.valid = false ∧ (u.core n).descs = [] ∧ (u.core n).fetch = [] ∧ u.mem = s.mem ∧ u.regs = s.regs) ∧
      (∃ t, exec (.coreAbort n) s = .next t ∧ (t.core n).run = .idle ∧ (t.core n).slices = [] ∧ (t.core n).mxQ = [] ∧ (t.core n).vxQ = [] ∧
        (t.core n).sxQ = [] ∧ (t.core n).tileQ = [] ∧ (t.core n).loupe = [] ∧ (t.core n).waiting = [] ∧ t.mem = s.mem ∧ t.regs = s.regs ∧
        (∀ x ∈ (t.core n).outs, ¬ (x.cls = 2 ∧ x.ctx = s.coreCtx n)))) ∧
    (s.domOn n = true →
      (∀ d r, (s.core n).wlq = d :: r → (s.core n).idle = true → (s.core n).run = .idle → s.directFirst n (s.descClass d) = false → d.resume = false →
        let u := ((s.loadDesc n d).modCore n (fun c => { c with wlq := r, wl := some d })).readWorkList n d
        exec (.coreBatchStart n) s = .next (((u.batchContext n).modCore n (fun c => c.carry (.batch d.batch) (freshSlices d.mask.toNat))).enterAll n)) ∧
      ((s.core n).run = .idle → exec (.listFetchData n) s = .next s) ∧
      ((s.core n).run ≠ .idle → (s.core n).ctl = .run →
        ((s.core n).curSl.started = false → exec (.listFetchData n) s = .next ((s.openList n).settle n)) ∧
        ((s.core n).curSl.started = true →
          let p := (s.core n).curSl.pc + 4 * (s.core n).fetch.length
          let len := min (s.core n).curSl.endVa ((p / 64 + 1) * 64) - p
          p < (s.core n).curSl.endVa → (s.core n).fetch.length ≤ 1008 →
          (∀ u bs, s.fetchRead n p len = (u, some (.ok bs)) →
            exec (.listFetchData n) s = .next ((u.modCore n (fun c => { c with fetch := c.fetch ++ wordsOf (len / 4) bs })).settle n)) ∧
          (∀ u, s.fetchRead n p len = (u, none) → exec (.listFetchData n) s = .next (u.settle n)) ∧
          (∀ u e, s.fetchRead n p len = (u, some (.error e)) →
            exec (.listFetchData n) s = .next (u.fetchFault n e.1 e.2 (s.core n).curSl.pc)))))

/-- R91, R92, R95, R318. -/
def Obligations.BankPowerCompleteRetire : Prop :=
  ∀ (s : State) (n : Nat) (ws : List Word) (d : Cmd), n < 32 → s.domOn n = true →
    let c := s.core n
    (c.headOp opBankPower = some ws → c.decodeHead ws = some d → c.hazard d.seq d.rds (d.wrs ++ [upperWords]) = false →
      s.pwr.queue.length < 8 → c.sbUsed + 1 ≤ 128 → c.sbRoom d = true →
      exec (.bankPower n) s = .next ((({ s with pwr := { s.pwr with queue := s.pwr.queue ++ [{ on := flag (d.o 1) 31, domain := 32 + n, src := n + 1 }] } } :
        State).modCore n (fun c => { c with bank := some { d with rds := [], wrs := [upperWords] } })).advance n)) ∧
    (c.headOp opBankPower = some ws → c.decodeHead ws = some d →
      (c.hazard d.seq d.rds (d.wrs ++ [upperWords]) = true ∨ 8 ≤ s.pwr.queue.length ∨ c.sbRoom d = false) → exec (.bankPower n) s = .next s) ∧
    (c.headOp opComplete = some ws → c.decodeHead ws = some d → flag (d.o 1) 31 = false →
      (c.writesHbm c.cur = true → exec (.complete n) s = .next s) ∧
      (∀ id, c.writesHbm c.cur = false → c.cpl.length < 16 → (c.wl = none ∨ c.wlBuf ≠ []) → c.run = .batch id →
        let first := fld (d.o 1) 26 16
        let cnt := min (first + fld (d.o 1) 10 0) c.wlCount - first
        0 < cnt →
        exec (.complete n) s = .next ((s.modCore n (fun x => { (x.modCur (fun y => { y with
          covered := (List.range cnt).foldl (fun l i => sadd l (first + i)) y.covered })) with
          cpl := c.cpl ++ [{ batch := id, slice := c.cur, first := first, n := cnt }] })).advance n))) ∧
    (∀ d r, c.vxA = d :: r →
      (d.done = true → exec (.commandRetire n .vx) s = .next (((s.modCore n (fun c => { c with vxA := r })).pump n).modCore n Core.settleGens)) ∧
      (d.done = false → exec (.commandRetire n .vx) s = .next ((s.pump n).modCore n Core.settleGens))) ∧
    (∀ pass, s.cores.length = 32 → s.pilot.sounding = [] → s.firmwareRuns = false → (∃ b, c.testing 3 = some b) →
      exec (.chainTestDone n pass) s = .next (s.modCore n (fun c => { c with bist := c.bist.filter (fun t => t.1 != 3), bypass := !pass })))

/-- R87, R93, R312: dispatch of the vector and the stream-engine commands. -/
def Obligations.EngineCommandsEnterTheirQueue : Prop :=
  (∀ (s : State) (n : Nat) (inj : Inject) (ws : List Word) (x : Cmd), n < 32 → s.domOn n = true → s.cores.length = 32 →
      let c := s.core n
      x ∈ c.vxA → x.done = false →
      ∀ op i, (op, i) ∈ [(opVxChain, Instr.vxChain n inj), (opVxReduce, .vxReduce n inj), (opVxScan, .vxScan n inj),
          (opVxLoad, .vxLoad n inj), (opVxStore, .vxStore n inj)] →
        (∀ y ∈ c.vxA, y.done = false → y.op ≠ op ∧ isChain y.op = false) → c.headOp op = some ws →
        (c.decodeHead ws = none → exec i s = .next (s.coreFault n codeMalformed c.curSl.pc)) ∧
        (∀ d, c.decodeHead ws = some d → c.room d = true →
          exec i s = .next ((s.modCore n (fun c => c.enqueue d)).advance n)) ∧
        (∀ d, c.decodeHead ws = some d → c.room d = false → exec i s = .next s)) ∧
  (∀ (s : State) (n : Nat) (ws : List Word), n < 32 → s.domOn n = true → s.cores.length = 32 →
      let c := s.core n
      c.sxFree = false → c.srcs = [] → (∀ x ∈ c.sxA, x.op = opSxFacetEnc → x.done = true) →
      ∀ op i, (op, i) ∈ [(opSxArm, Instr.sxArm n), (opSxWait, .sxWait n), (opSxSource, .sxNklSource n), (opSxTake, .sxNklTake n),
          (opSxFacetEnc, .sxFacetEnc n)] → c.headOp op = some ws →
        (c.decodeHead ws = none → exec i s = .next (s.coreFault n codeMalformed c.curSl.pc)) ∧
        (∀ d, c.decodeHead ws = some d → op = opSxArm → remoteAhead c d = true → exec i s = .next (s.coreFault n codeRemotePlace c.curSl.pc)) ∧
        (∀ d, c.decodeHead ws = some d → (op = opSxArm → remoteAhead c d = false) → c.room d = true →
          exec i s = .next ((s.modCore n (fun c => c.enqueue d)).advance n)) ∧
        (∀ d, c.decodeHead ws = some d → (op = opSxArm → remoteAhead c d = false) → c.room d = false → exec i s = .next s))

/-- R141, R152, R154, R156, R157, R162: the effects of issued vector commands. -/
def Obligations.VectorCommandsRun : Prop :=
  ∀ (s : State) (n : Nat) (d : Cmd) (inj : Inject), n < 32 → s.domOn n = true → s.cores.length = 32 → mrising (s.core n).tregs = true →
    let c := s.core n
    let quiet (u t : State) (dst : Nat) : Prop := t.mem = u.mem ∧ (∀ m, m ≠ n → t.core m = u.core m) ∧ (t.core n).spad = (u.core n).spad ∧
      (∀ r < 32, r ≠ dst → ∀ e < 256, (t.core n).treg r e = c.treg r e) ∧ (t.core n).vxA = markDone (u.core n).vxA d.seq
    c.head = none → c.vxQ = [] →
    (c.vxRunning opVxLoad = some d →
      let w := d.o 1
      let rows := fld w 17 14 + 1
      let cols := fld w 7 0 + 1
      let rd := (s.strike n inj).engRuns n 2 d.rds ((loadRuns (flag w 18) (fld (d.o 2) 21 0) rows cols (vxBits (fld w 22 19)) 0).map
        (fun x => (4 * d.rd 0 + x.1, x.2)))
      exec (.vxLoad n inj) s = .next (s.runVload n d inj) ∧
      (∀ u e, rd = (u, .error e) → exec (.vxLoad n inj) s = .next (u.coreFault n e d.va)) ∧
      (∀ u bs, rd = (u, .ok bs) → fld w 26 23 = 0 → (u.core n).tregs = c.tregs → (u.core n).wss = c.wss →
        ∃ t, exec (.vxLoad n inj) s = .next t ∧ quiet u t (fld w 31 27) ∧
          (∀ e < 256, (t.core n).treg (fld w 31 27) e =
            loadElem (fld w 22 19) (flag w 18) rows (min 16 cols)
              (bs.map (fun b => unpackBits (vxBits (fld w 22 19)) (8 * b.length / vxBits (fld w 22 19)) b)) e))) ∧
    (c.vxRunning opVxReduce = some d →
      let w := d.o 1
      let t := fld w 19 16 + 1
      let src := fld w 24 20
      (∀ r, inj = .regParity r 0 → r = src → flag w 25 = false →
        exec (.vxReduce n inj) s = .next ((s.enterPass n [src]).vxParity n r d.va)) ∧
      ((∀ r p, inj ≠ .regParity r p) → fld w 31 28 < 3 → fld w 26 26 = 0 → flag w 25 = false →
        ∃ u, exec (.vxReduce n inj) s = .next u ∧ quiet s u (fld w 15 11) ∧
          (∀ e < 256, (u.core n).treg (fld w 15 11) e = if e % 16 = 0 then
            ((redLine (fld w 31 28) (flag w 27) t (fun k =>
              if k < fld (d.o 3) 8 0 then some (c.treg (src + k / 16) (16 * (e / 16) + k % 16), w32 k + d.o 2) else none)).getD (0, 0)).1 else 0))) ∧
    (c.vxRunning opVxScan = some d →
      let w := d.o 1
      let src := fld (d.o 2) 31 27
      let dst := fld (d.o 3) 31 27
      (∀ r, inj = .regParity r 0 → r = src → fld w 31 28 < 4 → flag w 25 = false →
        exec (.vxScan n inj) s = .next ((s.enterPass n [src]).vxParity n r d.va)) ∧
      ((∀ r p, inj ≠ .regParity r p) → fld w 31 28 < 4 → fld w 26 26 = 0 → flag w 25 = false → fld w 23 20 = 0 →
        ∃ u, exec (.vxScan n inj) s = .next u ∧ quiet s u dst ∧
          (∀ e < 256, (u.core n).treg dst e =
            ((scanLine (fld w 31 28) (flag w 27) 9 1 ((List.range 16).map (fun k =>
              ((⟨c.treg src (16 * (e / 16) + k), 0, 0⟩ : SVal), false)))).getD (e % 16) default).1.a))) ∧
    (c.vxRunning opVxStore = some d →
      let w := d.o 1
      let out := (List.range (fld w 9 6 + 1)).map (fun i => storeRow (fld w 22 19) 0 none (c.storeVals d i))
      exec (.vxStore n inj) s = .next (s.runVstore n d inj) ∧
      (∀ u v a b, (∀ r p, inj ≠ .regParity r p) → storeInt (fld w 22 19) = false → fld w 26 23 = 0 → flag w 15 = false → flag w 16 = false →
        a = ((out.map (fun r => marked r.sat 0 (min (fld (d.o 4) 7 0 + 1) 16))).sum) →
        b = ((out.map (fun r => marked r.nan 0 (min (fld (d.o 4) 7 0 + 1) 16))).sum) →
        u = ((((s.strike n inj).enterPass n [fld w 31 27]).cBump n Reg.vxCntSat a).cBump n Reg.vxCntNan b) →
        u.engPut n 3 d.wrs (out.zipIdx.map (fun r => (4 * (d.wr 0 + r.2 * fld (d.o 2) 21 0),
          r.1.data.take (ceilDiv (vxBits (fld w 22 19) * min (fld (d.o 4) 7 0 + 1) 16) 8)))) = (v, none) →
        exec (.vxStore n inj) s = .next (v.modCore n (fun c => c.vxDone d.seq)))) ∧
    (c.vxA.find? (fun y => isChain y.op && !y.done) = some d →
      let w := d.o 1
      let v := d.o 2
      exec (.vxChain n inj) s = .next (s.runChain n d inj) ∧
      (∀ r, inj = .regParity r 0 → d.op = opVxChain → r ∈ chainReads d 0 → d.prog = 0 → 0 < chainT d.ops → fld w 31 30 ≠ 1 →
        exec (.vxChain n inj) s = .next ((s.enterPass n (chainReads d 0)).vxParity n r d.va)) ∧
      ((∀ r p, inj ≠ .regParity r p) → d.op = opVxChain → d.prog = 0 → chainT d.ops = 1 → fld w 31 30 = 0 → flag v 20 = false → flag v 31 = false →
        (∀ st ∈ chainStages d.ops, st.op ≠ opWfma) →
        ∃ u, exec (.vxChain n inj) s = .next u ∧ quiet (s.strike n inj) u (fld v 30 26) ∧
          (∀ e < min 256 (chainE d.ops), (u.core n).treg (fld v 30 26) e =
            (chainElem ⟨c.treg (fld w 29 25) e, if flag w 24 then c.treg (fld w 23 19) e else 0, c.stageR 0 e⟩ (fld w 18 16) (fld w 15 13)
              (chainStages d.ops)).1.getLastD 0)))

/-- R154: the network of distances 1, 2, 4, ... computes prefix sums. -/
def Obligations.ScanNetworkIsPrefixSum : Prop :=
  ∀ (xs : List Word), xs.length ≤ 512 →
    (scanLine 0 true 9 1 (xs.map (fun x => (⟨x, 0, 0⟩, false)))).map (fun y => y.1.a) =
      (List.range xs.length).map (fun k => (xs.take (k + 1)).sum)

/-- R110, R115, R122, R128-R130, R133: the matrix unit. -/
def Obligations.MatrixCommandsRun : Prop :=
  ∀ (s : State) (n : Nat) (d : Cmd) (inj : Inject), n < 32 → s.domOn n = true → s.cores.length = 32 →
    let c := s.core n
    let w := d.o 1
    (c.head = none → c.mxQ = [] → c.mxRunning opMxLoad = some d → (loadFacet d = none ∨ c.loupeReady d.seq = true) →
      exec (.mxLoad n inj) s = .next (s.runLoad n d inj)) ∧
    (∀ u v data side, c.head = none → c.mxQ = [] → c.mxRunning opMxLoad = some d → flag w 25 = false → flag w 24 = false → fld w 31 28 ≠ 2 →
      flag (d.o 2) 31 = false →
      (s.strike n inj).loadPart n d.rds (4 * d.rd 0) (fld w 19 10 * fld w 9 0 * weightBits (fld w 31 28) / 8) = (u, .ok data) →
      u.readSide n d.rds (4 * d.rd 1) ((loadParts d).take 3) = (v, .ok side) → (v.core n).front = c.front →
      ∃ t, exec (.mxLoad n inj) s = .next t ∧ t.mem = v.mem ∧ (∀ m, m ≠ n → t.core m = v.core m) ∧ (t.core n).loaded = true ∧
        (t.core n).front = c.front ∧ (t.core n).frontPlane.valid = true ∧ (t.core n).frontPlane.fmt = fld w 31 28 ∧
        (t.core n).frontPlane.k = fld w 19 10 ∧ (t.core n).frontPlane.n = fld w 9 0 ∧
        (t.core n).frontPlane.elems = unpackBits (weightBits (fld w 31 28)) (fld w 19 10 * fld w 9 0) data ∧
        (t.core n).frontPlane.scales = (side.getD 0 []).map BitVec.toNat ∧ (t.core n).frontPlane.books = (side.getD 1 []).map BitVec.toNat ∧
        (if c.front = 0 then (t.core n).plane1 = (v.core n).plane1 else (t.core n).plane0 = (v.core n).plane0) ∧
        (∀ x ∈ (t.core n).mxA, x.seq = d.seq → x.done = true)) ∧
    (c.head = none → c.mxQ = [] → c.mxRunning opMxMatmul = some d → (flag w 25 = false ∨ c.loupeReady d.seq = true) →
      exec (.mxMatmul n inj) s = .next ((s.strike n inj).runMatmul n inj 2 d)) ∧
    (∀ u rows mb, c.head = none → c.mxQ = [] → c.mxRunning opMxMatmul = some d → flag w 25 = false → (∀ r, inj ≠ .planeParity r) →
      c.staging = [] → d.prog = 0 → 0 < fld w 15 0 → fld w 15 0 ≤ 16 →
      (s.strike n inj).matmulRows n d c.frontPlane none none 16 (fld w 15 0) d.mark 0 = (u, .ok (rows, mb)) →
      ∃ t, exec (.mxMatmul n inj) s = .next t ∧ t.mem = u.mem ∧ (∀ m, m ≠ n → t.core m = u.core m) ∧ (t.core n).spad = (u.core n).spad ∧
        (t.core n).staging = (u.core n).staging ++
          (tilesOf rows (fld w 15 0) c.frontPlane.n (fld (d.o 4) 15 0) 0 (fld w 27 26 == 1)).map (fun x => (d.seq, x)) ∧
        (∀ x ∈ (t.core n).mxA, x.seq = d.seq → x.done = true)) ∧
    (∀ r, c.head = none → c.mxQ = d :: r → d.op = opMxMatmul → c.hazard d.seq d.rds d.wrs = false → c.live = true → c.mxFree = true → c.loaded = false →
      exec (.mxMatmul n inj) s = .next ((s.mxInfo n 0 none).coreFault n codeMxNoload d.va)) ∧
    (∀ r, c.head = none → c.mxQ = d :: r → d.op = opMxMatmul → c.hazard d.seq d.rds d.wrs = false → c.live = true → c.mxFree = true →
      matmulCheck c d = none → flag w 25 = false →
      exec (.mxMatmul n inj) s =
        .next ((s.modCore n (fun c => Core.matmulStart { c with mxQ := c.mxQ.drop 1, mxA := c.mxA ++ [d] } d)).stepMatmul n inj)) ∧
    (exec (.tilePush n) s = .next ((s.modCore n Core.pushTiles).stepMatmul n .none)) ∧
    (c.tileQ.length ≤ 16 → c.mxRunning opMxMatmul = none →
      ∃ t k, exec (.tilePush n) s = .next t ∧ (t.core n).tileQ = c.tileQ ++ (c.staging.take k).map Prod.snd ∧ (t.core n).staging = c.staging.drop k ∧
        (t.core n).tileQ.length ≤ 16 ∧ (c.staging ≠ [] → c.tileQ.length < 16 → 1 ≤ k) ∧ { t with cores := s.cores } = s ∧
        (∀ m, m ≠ n → t.core m = s.core m))

/-- R286-R289, R291: the two halves of the pair. -/
def Obligations.FusedAttentionPair : Prop :=
  ∀ (s : State) (n : Nat) (ws : List Word) (d : Cmd) (inj : Inject), n < 32 → s.domOn n = true → s.cores.length = 32 →
    let c := s.core n
    (c.headOp opMxAttn = some ws → c.decodeHead ws = some d → c.partnerThere = true → badMxPair c d = true → c.attn = none →
      exec (.mxAttn n inj) s = .next (s.coreFault n codeMalformed c.curSl.pc)) ∧
    (c.headOp opVxAttn = some ws → c.decodeHead ws = some d → badVxPair c d = true → c.attn = none →
      exec (.vxAttn n inj) s = .next (s.coreFault n codeMalformed c.curSl.pc)) ∧
    (c.headOp opMxAttn = some ws → c.decodeHead ws = some d → c.partnerThere = true → badMxPair c d = false → c.attn = none → c.room d = true →
      (∃ x ∈ c.mxA, x.done = false) → exec (.mxAttn n inj) s = .next ((s.modCore n (fun c => c.enqueue d)).advance n)) ∧
    (c.headOp opVxAttn = some ws → c.decodeHead ws = some d → badVxPair c d = false → c.attn = none → c.room d = true →
      (∃ x ∈ c.vxA, x.done = false) → exec (.vxAttn n inj) s = .next ((s.modCore n (fun c => c.enqueue d)).advance n)) ∧
    (c.head = none → c.mxQ = [] → exec (.mxAttn n inj) s = .next (s.attnStep n inj)) ∧
    (c.head = none → c.vxQ = [] → exec (.vxAttn n inj) s = .next ((s.attnStep n inj).attnTail n)) ∧
    (c.head = none → c.mxQ = [] → c.vxQ = [] → c.attn = none → exec (.mxAttn n inj) s = .next s ∧ exec (.vxAttn n inj) s = .next s) ∧
    (∀ (a : Attn) (v : Cmd) (k : Nat), c.head = none → c.attn = some a → cmdBySeq c.mxA a.mx = some d → a.vx = some k → cmdBySeq c.vxA k = some v →
      a.stage = 0 → ((attBlocks d a.image).filter (needsPage a.image)).length ≤ a.fetches →
      (∀ b u blk x rows, c.mxQ = [] → c.blockReady d a = true → attnReg d inj = none → (∀ r, inj ≠ .planeParity r) →
        (attBlocks d a.image)[a.next]? = some b →
        (s.strike n inj).readBlock n d a.image b (slotLine d (fetchesBefore d a.image a.next)) 256 0 = (u, .ok blk) →
        (u.cBump n Reg.mxCntLoadcyc 130).attnRows n d v a.image b blk none a.rows 0 = (x, .ok rows) →
        ∃ t, exec (.mxAttn n inj) s = .next t ∧ (t.core n).attn = (x.core n).attn.map (fun y => { y with rows := rows, next := y.next + 1 }) ∧
          t.mem = x.mem ∧ (t.core n).spad = (x.core n).spad) ∧
      (∀ u, c.vxQ = [] → (attBlocks d a.image).length ≤ a.next → (d.backward = true ∨ flag (v.o 2) 28 = false) →
        s.putAttnRows n v a.rows 0 = (u, none) →
        ∃ t, exec (.vxAttn n inj) s = .next t ∧ (t.core n).attn = (u.core n).attn.map (fun y => { y with stage := 3 }) ∧ t.mem = u.mem ∧
          (∀ y ∈ (t.core n).mxA, y.seq = d.seq → y.done = true) ∧ (∀ y ∈ (t.core n).vxA, y.seq = v.seq → y.done = true)))

/-- R134, R162, R174, R178, R180: tests and revokes. -/
def Obligations.CoreTestsAndRevoke : Prop :=
  ∀ (s : State) (n : Nat), n < 32 → s.cores.length = 32 → mrising s.regs = true →
    let c := s.core n
    (s.answers (.core n 0) = true →
      (c.idle = true →
        (∃ t, exec (.mxBist n) s = .next t ∧ (1, 0) ∈ (t.core n).bist ∧ flag (t.cReg n Reg.mxBist) 30 = false ∧ t.mem = s.mem) ∧
        (∃ t, exec (.vxBist n) s = .next t ∧ (2, 0) ∈ (t.core n).bist ∧ flag (t.cReg n Reg.vxBist) 30 = false ∧ t.mem = s.mem) ∧
        (∀ b < 64, ∃ t, exec (.spdBist n b) s = .next t ∧ (0, b) ∈ (t.core n).bist ∧ fld (t.cReg n Reg.spdBist) 5 0 = b ∧
          flag (t.cReg n Reg.spdBist) 30 = false ∧ t.mem = s.mem)) ∧
      (c.idle = false → exec (.mxBist n) s = .next s ∧ exec (.vxBist n) s = .next s ∧
        ∀ b < 64, ∃ t, exec (.spdBist n b) s = .next t ∧ fld (t.cReg n Reg.spdBist) 5 0 = b ∧
          (∀ k, k ≠ coreKey n Reg.spdBist → t.reg k = s.reg k) ∧ { t with regs := s.regs } = s) ∧
      (∀ x < 4096, c.revoking = none → (c.idle = true ∨ x ≠ s.coreCtx n) →
        exec (.spdRevoke n x) s = .next (s.modCore n (fun c => { c with revoking := some x }))) ∧
      (∀ x < 4096, c.revoking = none → c.idle = false → x = s.coreCtx n →
        exec (.spdRevoke n x) s = .next (s.orReg (coreKey n Reg.spdErr) (w32 (2 ^ 28))))) ∧
    (s.domOn n = true →
      (∀ x, c.revoking = some x → ∃ t, exec (.spdRevokeDone n) s = .next t ∧ (t.core n).revoking = none ∧ (∀ g ∈ (t.core n).tags, g.2 ≠ x) ∧
        (∀ g ∈ c.tags, g.2 ≠ x → g ∈ (t.core n).tags) ∧ (t.core n).spad = c.spad ∧ { t with cores := s.cores } = s) ∧
      (∀ pass, s.firmwareRuns = false →
        (∀ b, c.testing 1 = some b → ∃ t, exec (.mxBistDone n pass) s = .next t ∧ t.cReg n Reg.mxBist = w32 (2 ^ 30 + b2n pass * 2 ^ 29) ∧
          (t.core n).testing 1 = none ∧ (t.core n).plane0.valid = false ∧ (t.core n).plane1.valid = false ∧ t.mem = s.mem) ∧
        (∀ b, c.testing 2 = some b → ∃ t, exec (.vxBistDone n pass) s = .next t ∧ t.cReg n Reg.vxBist = w32 (2 ^ 30 + b2n pass * 2 ^ 29) ∧
          (t.core n).testing 2 = none ∧ (t.core n).wss = 0 ∧ t.mem = s.mem) ∧
        (∀ b, c.testing 0 = some b → mrising c.written = true → ∃ t, exec (.spdBistDone n pass) s = .next t ∧
          flag (t.cReg n Reg.spdBist) 30 = true ∧ flag (t.cReg n Reg.spdBist) 29 = pass ∧ (t.core n).testing 0 = none ∧
          (∀ l, bankOf l = b → (t.core n).lineWritten l = false) ∧ t.mem = s.mem)))

/-- R94, R184, R192, R194, R198, R200, R205, R206, R225: issue of the stream-engine commands. -/
def Obligations.StreamCommandsIssue : Prop :=
  ∀ (s : State) (n : Nat) (d : Cmd) (q : List Cmd), n < 32 → s.domOn n = true → s.cores.length = 32 →
    let c := s.core n
    let issued := s.modCore n (fun c => { c with sxQ := q, sxA := c.sxA ++ [d] })
    c.head = none →
    (c.sxQ = d :: q → c.hazard d.seq d.rds d.wrs = false → c.live = true → c.sxFree = true →
      (d.op = opSxWait → exec (.sxWait n) s = .next (issued.modCore n (fun c => c.sxDone d.seq))) ∧
      (d.op = opSxArm → c.canArm d = true → fld (d.o 1) 25 24 = 0 → flag (d.o 1) 20 = false → fld (d.o 1) 27 26 < 2 →
        (c.desc d.slice (fld (d.o 1) 31 28)).live = [] → c.moving d.seq = false → c.arms = [] → (∀ y ∈ c.sxA, y.seq ≠ d.seq) →
        (∀ e ∈ c.descs, ∀ g ∈ e.2.live, g.2 ≠ d.seq) → 1 ≤ fld (d.o 2) 15 0 → 1 ≤ fld (d.o 3) 15 0 →
        (∀ i < fld (d.o 2) 15 0, va48 d.ops 4 + 64 * (d.o 7).toNat * i + 64 * fld (d.o 3) 15 0 ≤ 2 ^ 48) →
        ∃ t, exec (.sxArm n) s = .next t ∧ t.mem = s.mem ∧ (t.core n).spad = c.spad ∧ (∀ m, m ≠ n → t.core m = s.core m) ∧
          (t.core n).desc d.slice (fld (d.o 1) 31 28) =
            { gen := ((c.desc d.slice (fld (d.o 1) 31 28)).gen + 1) % 256
              live := [(((c.desc d.slice (fld (d.o 1) 31 28)).gen + 1) % 256, d.seq)], pending := false } ∧
          (t.core n).waiting = placeXfers c.waiting ((List.range (fld (d.o 2) 15 0)).flatMap (fun i =>
            armSpan d (s.coreCtx n) (dirKind (fld (d.o 1) 27 26)) (va48 d.ops 4 + 64 * (d.o 7).toNat * i) (fld (d.o 3) 15 0)
              ((armArea d).1 / 16 + i * fld (d.o 4) 17 0))) d.seq) ∧
      (d.op = opSxSource → exec (.sxNklSource n) s = .next ((issued.startSource n d).inject n)) ∧
      (d.op = opSxSource → c.srcs = [] → flag (d.o 2) 31 = false →
        let flits := (List.range (fld (d.o 1) 15 0)).flatMap (fun j => flitsOf j 64)
        ∃ t src, exec (.sxNklSource n) s = .next t ∧ (t.core n).srcs = [src] ∧ src.seq = d.seq ∧ src.ntag = fld (d.o 1) 31 16 ∧
          src.ctx = s.coreCtx n ∧ src.batch = c.batchId ∧ src.base = va48 d.ops 2 ∧ src.flits = flits ∧
          (t.core n).waiting = placeXfers c.waiting (srcXfers d (s.coreCtx n) flits) d.seq ∧ (t.core n).spad = c.spad ∧ t.mem = s.mem ∧
          (∀ m, m ≠ n → t.core m = s.core m)) ∧
      (d.op = opSxTake → exec (.sxNklTake n) s = .next (issued.startTake n d)) ∧
      (d.op = opSxTake → flag (d.o 2) 31 = false →
        (∀ e ∈ c.seen, ¬ (e.ctx = s.coreCtx n ∧ e.batch = c.batchId ∧ e.ntag = fld (d.o 1) 31 16)) →
        ∃ t k, exec (.sxNklTake n) s = .next t ∧ (t.core n).takes = c.takes ++ [k] ∧ k.seq = d.seq ∧ k.ntag = fld (d.o 1) 31 16 ∧
          k.ctx = s.coreCtx n ∧ k.batch = c.batchId ∧ k.first = fld (d.o 2) 15 0 ∧ k.count = fld (d.o 1) 15 0 ∧ k.base = va48 d.ops 2 ∧
          k.line = d.wr 0 / 16 ∧ k.next = k.first ∧ k.landed = [] ∧ k.issued = s.now ∧ (t.core n).spad = c.spad ∧ t.mem = s.mem) ∧
      (d.op = opSxFacetEnc → fld (d.o 1) 31 30 ≠ 2 → (∀ x ∈ c.sxA, x.op = opSxFacetEnc → x.done = true) →
        exec (.sxFacetEnc n) s = .next (issued.startEnc n d)) ∧
      (∀ u v blocks, d.op = opSxFacetEnc → fld (d.o 1) 31 30 = 0 → (∀ x ∈ c.sxA, x.op = opSxFacetEnc → x.done = true) →
        issued.encBlocks n d (fld (d.o 1) 6 0) 0 = (u, .ok blocks) →
        u.engWrite n 4 d.wrs (4 * d.wr 0) (bytesOf (fctBuild (fld (d.o 1) 29 28) blocks).record) = (v, none) →
        (∀ x ∈ (v.core n).sxA, x.op = opSxFacetEnc → x.done = true ∨ x.seq = d.seq) →
        exec (.sxFacetEnc n) s = .next (v.modCore n (fun c => c.sxDone d.seq)))) ∧
    (c.sxQ = [] → c.sxA.find? (fun x => x.op == opSxFacetEnc && !x.done) = some d →
      (c.loupeReady d.seq = true → exec (.sxFacetEnc n) s = .next (s.modCore n (fun c => c.sxDone d.seq))) ∧
      (c.loupeReady d.seq = false → exec (.sxFacetEnc n) s = .next s)) ∧
    (c.sxQ = [] → c.srcs = [] → exec (.sxArm n) s = .next s ∧ exec (.sxWait n) s = .next s ∧ exec (.sxNklSource n) s = .next s ∧
      exec (.sxNklTake n) s = .next s)

/-- R185, R186, R188, R190, R197: entry and completion of transfers. -/
def Obligations.TransfersEnterAndComplete : Prop :=
  ∀ (s : State) (n : Nat) (x : Xfer), n < 32 → s.domOn n = true → s.cores.length = 32 →
    let c := s.core n
    (∀ cls, c.arms = [] → c.wantsFetch = false →
      (c.nextXfer cls = none → exec (.transferEnter n cls) s = .next s) ∧
      (c.nextXfer cls = some x →
        ((512 ≤ c.outs.length ∨ 64 ≤ c.portQ ∨ c.buckets.getD x.cls 0 < 576 * x.lines) → exec (.transferEnter n cls) s = .next s) ∧
        (c.outs.length < 512 → c.portQ < 64 → 576 * x.lines ≤ c.buckets.getD x.cls 0 →
          (cls ≠ 2 → c.pageOf x = none → exec (.transferEnter n cls) s = .next (s.startWalk n x.ctx x.va)) ∧
          ((cls = 2 ∨ c.pageOf x ≠ none) → (∀ o, arbitrate c.portOrder c.classReady ≠ some (cls, o)) → exec (.transferEnter n cls) s = .next s) ∧
          (∀ order, arbitrate c.portOrder c.classReady = some (cls, order) →
            let u := s.modCore n (fun c => { c with portOrder := order })
            let entered (v t : State) (y : Xfer) : Prop :=
              (t.core n).outs = (v.core n).outs ++ [y] ∧ (t.core n).waiting = (v.core n).waiting.erase x ∧ (t.core n).portQ = (v.core n).portQ + 1 ∧
              (t.core n).buckets = lmod (v.core n).buckets x.cls (fun b => b - 576 * x.lines) ∧ (t.core n).portOrder = (v.core n).portOrder ∧
              (t.core n).spad = (v.core n).spad ∧ t.mem = v.mem ∧ ∀ m, m ≠ n → t.core m = v.core m
            (cls = 2 → exec (.transferEnter n cls) s = .next (u.enterRemote n x)) ∧
            (∀ p, cls ≠ 2 → c.pageOf x = some p →
              (cls = 1 → p.w = false → exec (.transferEnter n cls) s = .next ((u.modCore n (fun c => c.dropWaiting x)).xlatFault n
                ⟨codeTranslation, 2, if p.big then 2 else 3⟩ x.va (c.sxVa x.seq))) ∧
              (cls = 0 → x.kind = .read → u.reachable (p.addr x.va) (64 * x.lines) = true →
                ∃ t, exec (.transferEnter n cls) s = .next t ∧ entered u t { x with pa := p.addr x.va, data := [] }) ∧
              (∀ v bs, cls = 1 → p.w = true → x.kind = .write → u.reachable (p.addr x.va) (64 * x.lines) = true →
                u.engRead n 6 (c.sxRanges x.seq) (64 * x.spLine) (64 * x.lines) = (v, .ok bs) →
                ∃ t, exec (.transferEnter n cls) s = .next t ∧ entered v t { x with pa := p.addr x.va, data := bs })))))) ∧
    (∀ idx inj, c.outs.length ≤ idx → exec (.transferComplete n idx inj) s = .next s) ∧
    (∀ idx, c.outs[idx]? = some x →
      let out := s.modCore n (fun c => c.dropOut x)
      (out.core n).outs = c.outs.erase x ∧
      (x.cls = 2 → ∀ inj, exec (.transferComplete n idx inj) s = .next s) ∧
      (∀ u bs inj, x.cls = 0 → x.kind = .read → (out.strikeMem inj).xferPeek n x = (u, some bs) → exec (.transferComplete n idx inj) s =
        .next ((((u.cBump n Reg.sxCntRdlines x.lines).land n 4 x.seq (64 * x.spLine) bs).modCore n Core.settleGens).armsGo n)) ∧
      let cnt := out.cBump n Reg.sxCntWrlines x.lines
      (∀ inj, x.cls = 1 → x.kind = .write → cnt.writable x.pa x.data.length true = true → exec (.transferComplete n idx inj) s =
        .next ((((cnt.poke x.ctx x.pa x.data true).modCore n (fun c => c.releaseMaps x.seq)).modCore n Core.settleGens).armsGo n)))

/-- R199, R214: generations and shares. -/
def Obligations.GenerationsAndShares : Prop :=
  ∀ (s : State) (n : Nat), n < 32 → s.cores.length = 32 → mrising s.regs = true →
    let c := s.core n
    (∀ slice slot, s.domOn n = true →
      (∀ g, (c.desc slice slot).pending = true → (c.desc slice slot).live = [g] →
        (exec (.generationStart n slice slot) s =
          .next (((s.modCore n (fun c => { c with descs := mput c.descs (slotKey slice slot) { c.desc slice slot with pending := false } })).armsGo n).modCore n
            Core.settleGens)) ∧
        (c.arms = [] →
          ∃ t, exec (.generationStart n slice slot) s = .next t ∧ t.mem = s.mem ∧
            ((t.core n).desc slice slot).pending = false ∧ ((t.core n).desc slice slot).gen = (c.desc slice slot).gen ∧
            ((t.core n).desc slice slot).live = (if c.moving g.2 then [g] else []) ∧ (t.core n).waiting = c.waiting ∧
            (t.core n).spad = c.spad ∧ ∀ m, m ≠ n → t.core m = s.core m)) ∧
      ((c.desc slice slot).pending = false ∨ (c.desc slice slot).live.length ≠ 1 → exec (.generationStart n slice slot) s = .next s)) ∧
    (∀ v, s.answers (.core n 0) = true →
      (16 < fld v 20 16 + fld v 12 8 + fld v 4 0 →
        ∃ t, exec (.sxShareWrite n v) s = .next t ∧ t.cReg n Reg.sxShare = s.cReg n Reg.sxShare ∧ flag (t.cReg n Reg.sxErr) 0 = true ∧
          (∀ k, k ≠ coreKey n Reg.sxErr → t.reg k = s.reg k) ∧ t.cores = s.cores) ∧
      (fld v 20 16 + fld v 12 8 + fld v 4 0 ≤ 16 → v &&& 0xFFE0E0E0#32 = 0#32 → s.cReg n Reg.sxShare &&& 0xFFE0E0E0#32 = 0#32 →
        ∃ t, exec (.sxShareWrite n v) s = .next t ∧ t.cReg n Reg.sxShare = v ∧ (∀ k, k ≠ coreKey n Reg.sxShare → t.reg k = s.reg k) ∧
          t.cores = s.cores))

/-- R202, R203, R206-R208: the ring, a taken flit and the take timeouts. -/
def Obligations.NecklaceFlitsAndTimeouts : Prop :=
  ∀ (s : State) (n : Nat), n < 32 → s.cores.length = 32 →
    let c := s.core n
    (∀ ok stall, c.inbox = [] → exec (.flitArrive n ok stall) s = .next s) ∧
    (∀ f r stall, c.inbox = f :: r →
      (∀ ok, s.hopRoom n f.origin = false → exec (.flitArrive n ok stall) s = .next s) ∧
      (s.hopRoom n f.origin = true → c.takeQ = [] → (∀ k ∈ c.takes, k.ntag ≠ f.ntag ∨ k.ctx ≠ f.ctx ∨ k.batch ≠ f.batch) →
        let good := s.modCore n (fun c => { c with inbox := r, seen := seenUpdate c.seen f })
        let bad := (((s.modCore n (fun c => { c with inbox := r })).cBump n Reg.nklCntCrc).orReg (coreKey n Reg.nklErr) 1).modCore n
          (fun c => { c with errLine := true })
        (s.nextHop n f.origin = none → exec (.flitArrive n true stall) s = .next good ∧ exec (.flitArrive n false stall) s = .next bad) ∧
        (∀ m, s.nextHop n f.origin = some m →
          exec (.flitArrive n true stall) s =
            .next ((good.modCore m (fun c => { c with inbox := c.inbox ++ [f] })).cBump n Reg.nklCntFwd) ∧
          exec (.flitArrive n false stall) s =
            .next ((bad.modCore m (fun c => { c with inbox := c.inbox ++ [f] })).cBump n Reg.nklCntFwd))) ∧
      (∀ t, s.hopRoom n f.origin = true → c.takeQ = [] → c.takes = [t] → t.ntag = f.ntag → t.ctx = f.ctx → t.batch = f.batch →
        t.next = f.seg → t.first ≤ f.seg → f.seg < t.stop → f.va = t.base + 4096 * f.seg → t.open_ f.seg = true → t.part = none → f.idx = 0 →
        ∃ u, exec (.flitArrive n true true) s = .next u ∧ (u.core n).takeQ = [(t.seq, f)] ∧ (u.core n).seen = seenUpdate c.seen f ∧
          (∀ y ∈ (u.core n).takes, y.next = f.seg + 1 ∧ y.landed = t.landed ∧ y.refetch = t.refetch) ∧ (u.core n).spad = c.spad ∧ u.mem = s.mem)) ∧
    (∀ k t, s.domOn n = true → c.takes[k]? = some t →
      let passed (u : State) : Prop := (∀ y ∈ (u.core n).takes, y.seq = t.seq → t.stop ≤ y.next) ∧ u.mem = s.mem
      (t.arrival = none → s.passedUnits t.issued (fld (s.cReg n Reg.nklCtrl) 31 16) = true →
        ∃ u, exec (.takeFirstTimeout n k) s = .next u ∧ passed u) ∧
      (t.arrival = none → s.passedUnits t.issued (fld (s.cReg n Reg.nklCtrl) 31 16) = false → exec (.takeFirstTimeout n k) s = .next s) ∧
      (t.arrival ≠ none → exec (.takeFirstTimeout n k) s = .next s) ∧
      (∀ a, t.arrival = some a → s.passedUnits a (fld (s.cReg n Reg.nklCtrl) 15 0) = true →
        ∃ u, exec (.takeGapTimeout n k) s = .next u ∧ passed u) ∧
      (∀ a, t.arrival = some a → s.passedUnits a (fld (s.cReg n Reg.nklCtrl) 15 0) = false → exec (.takeGapTimeout n k) s = .next s))

/-- R230, R233, R235, R311: the Loupe. -/
def Obligations.LoupeDecodesOneBlock : Prop :=
  ∀ (s : State) (n : Nat), n < 32 → s.domOn n = true → s.cores.length = 32 →
    let c := s.core n
    let wants (q : Nat) (r : LoupeReq) : Bool := r.req == q && decide (r.next < r.blocks)
    ((∀ q ∈ c.loupeOrder, ∀ r ∈ c.loupe, wants q r = false) → exec (.loupeBlockDecode n) s = .next s) ∧
    (∀ q r, c.loupeOrder.find? (fun q => c.loupe.any (wants q)) = some q → c.loupe.find? (wants q) = some r →
      let turn := s.modCore n (fun c => { c with loupeOrder := c.loupeOrder.filter (· ≠ q) ++ [q] })
      (∀ u bs, q = 0 → turn.loupeBlock n r = (u, .ok bs) → exec (.loupeBlockDecode n) s = .next (u.modCore n (fun c => { c with
        loupe := c.loupe.map (fun y => if y.seq = r.seq ∧ y.req = q then { y with next := y.next + 1, out := y.out ++ bs } else y) }))) ∧
      (∀ u v bs d, q = 1 → turn.loupeBlock n r = (u, .ok bs) → (u.core n).sxA.find? (fun y => y.seq == r.seq) = some d →
        u.engWrite n 4 d.wrs (4 * d.wr 0 + 4096 * r.next) bs = (v, none) →
        exec (.loupeBlockDecode n) s = .next (v.modCore n (fun c => { c with
          loupe := c.loupe.map (fun y => if y.seq = r.seq ∧ y.req = q then { y with next := y.next + 1, out := [] } else y) }))) ∧
      (∀ u v bs, q = 2 → turn.refillBlock n r = (u, .ok bs) → u.spadWrite n 4 (64 * r.line + 4096 * r.next) bs = (v, none) →
        exec (.loupeBlockDecode n) s = .next (v.modCore n (fun c => { c with
          loupe := c.loupe.flatMap (fun y => if y.seq = r.seq ∧ y.req = 2 then
            (if y.blocks ≤ y.next + 1 then [] else [{ y with next := y.next + 1, out := [] }]) else [y]) }))) ∧
      (∀ u e d, q = 1 → turn.loupeBlock n r = (u, .error e) → c.mxA = [] → (u.core n).mxA = [] → c.sxA.find? (fun y => y.seq == r.seq) = some d →
        exec (.loupeBlockDecode n) s = .next (u.coreFault n e d.va)))

/-- R303: placement of a fresh work item. -/
def Obligations.FreshWorkIsSpreadOverItsCores : Prop :=
  (∀ ctx, State.reset.rotOf ctx = 0) ∧
  (∀ (s t : State) (b : Batch), b.place = [] → s.batch b.id = some b → s.placeBatch b = some t → mrising s.sched.rot = true →
    let cs := s.servingCores b.ctxId
    let c := cs.length
    let r := s.rotOf b.ctxId
    cs.Pairwise (· < ·) ∧ 0 < c ∧ t.rotOf b.ctxId = r + (32 - c) % c ∧ (∀ x, x ≠ b.ctxId → t.rotOf x = s.rotOf x) ∧
      (t.batch b.id).map Batch.place =
        some ((List.range 32).map (fun k => if k < c then cs.getD k 0 else cs.getD ((r + k - c) % c) 0))) ∧
  (∀ (s t : State) (d : Direct), d.place = [] → d ∈ s.sched.directs → s.placeDirect d = some t → mrising s.sched.rot = true →
    let one := s.ctxCompat d.ctxId
    let cs := s.directCores d.ctxId (if one then 1 else ceCores (s.cent d.ctxId) - (s.occupied d.ctxId).length)
    let c := cs.length
    let r := s.rotOf d.ctxId
    cs.Pairwise (· < ·) ∧ 0 < c ∧ t.rotOf d.ctxId = r + (32 - c) % c ∧ (∀ x, x ≠ d.ctxId → t.rotOf x = s.rotOf x) ∧
      (∀ e ∈ t.sched.directs, e.ctxId = d.ctxId →
        e.place = (List.range (if one then 1 else 32)).map (fun k => if k < c then cs.getD k 0 else cs.getD ((r + k - c) % c) 0)))

/-- R306: what the scheduler's pre-emptions require. -/
def Obligations.PreemptionIsRequestedUnderItsConditions : Prop :=
  ∀ (s t : State) (n : Nat), s.cores.length = 32 → n < 32 → exec .schedulerPlace s = .next t → (s.core n).preempt = 0 → (t.core n).preempt ≠ 0 →
    flag (s.reg Reg.logSchedCtrl) 1 = true ∧
    (∃ i ∈ s.sched.ready, ∃ c, s.runClass n = some c ∧ s.itemClass i < c) ∧ s.runClass n ≠ some 0 ∧
    ceSave (s.cent (s.coreCtx n)) ≠ 0 ∧
    (∀ id, (s.core n).run = .batch id → ∀ b ∈ s.log.batches, b.ctxId = s.coreCtx n → b.spilled ≠ 0 → b.id = id) ∧
    (∀ v ∈ s.sched.victims, v.1 ≠ n)

/-- R277, R280: the requests of cores. -/
def Obligations.KvRequestsOfCores : Prop :=
  ∀ (s : State) (r : KvReq) (rest : List KvReq) (n : Nat), s.rst.mode ≠ .held → flag (s.reg Reg.logKvCtrl) 0 = true →
    s.log.kv.queue = r :: rest → r.src = some n →
    let p := s.kvPop
    (∀ op i, (op, i) ∈ [(KvOp.pin, Instr.pin), (.unpin, .unpin), (.mapFresh, .mapFresh), (.cow, .cow), (.attach, .attach), (.unmap, .unmap),
        (.releaseCore, .releaseCore), (.poolLoad, .poolLoad)] → r.op ≠ op → exec i s = .next s) ∧
    (r.op = .pin →
      (p.kvMap r.ctx r.va = none → exec .pin s = .next (p.kvRefuse r 1)) ∧
      (∀ pa, p.kvMap r.ctx r.va = some pa →
        (p.poolOfFrame r.ctx pa = none → exec .pin s = .next (p.kvRefuse r 2)) ∧
        (∀ q f, p.poolOfFrame r.ctx pa = some (q, f) →
          (p.count q f = 0xFFFF → exec .pin s = .next (p.kvRefuse r 3)) ∧
          (p.count q f ≠ 0xFFFF → ∃ t, exec .pin s = .next t ∧ t.log.kv.pins = s.log.kv.pins ++ [(n, r.seq, pa)] ∧
            t.log.kv.queue = p.log.kv.queue ∧ t.mem = (p.setCount q f (p.count q f + 1)).mem)))) ∧
    (r.op = .unpin →
      (s.log.kv.pins.contains (n, r.seq, r.frame) = true → exec .unpin s =
        .next ((p.modKv (fun k => { k with pins := k.pins.erase (n, r.seq, r.frame) })).lowerFrame r.ctx r.frame 1)) ∧
      (s.log.kv.pins.contains (n, r.seq, r.frame) = false → exec .unpin s = .next p)) ∧
    (r.op = .mapFresh →
      (p.poolOf r.pool r.ctx = false → exec .mapFresh s = .next (p.kvRefuse r 4)) ∧
      (p.poolOf r.pool r.ctx = true → p.lowestFree r.pool = none → exec .mapFresh s = .next (p.kvRefuse r 2)) ∧
      (∀ old, p.poolOf r.pool r.ctx = true → p.kvMap r.ctx r.va = some old → p.poolOfFrame r.ctx old = none →
        exec .mapFresh s = .next (p.kvRefuse r 2)) ∧
      (∀ g u, p.poolOf r.pool r.ctx = true → p.lowestFree r.pool = some g → p.kvMap r.ctx r.va = none →
        ((p.setFree r.pool g false).setCount r.pool g 1).kvMapTo r.ctx r.va (poolBase (p.pool r.pool) + 65536 * g) = some u →
        ∃ t, exec .mapFresh s = .next t ∧ t.mem = u.mem ∧ t.log.kv.pins = u.log.kv.pins)) ∧
    (r.op = .cow → p.kvMap r.ctx r.va = none → exec .cow s = .next (p.kvRefuse r 2)) ∧
    (r.op = .cow → ∀ pa, p.kvMap r.ctx r.va = some pa → p.poolOfFrame r.ctx pa = none → exec .cow s = .next (p.kvRefuse r 2)) ∧
    (r.op = .cow → ∀ pa q f, p.kvMap r.ctx r.va = some pa → p.poolOfFrame r.ctx pa = some (q, f) →
      (p.count q f = 0xFFFF → exec .cow s = .next (p.kvRefuse r 3)) ∧
      (p.count q f ≠ 0xFFFF → p.lowestFree q = none → exec .cow s = .next (p.kvRefuse r 2))) ∧
    (r.op = .cow → ∀ pa q f g, p.kvMap r.ctx r.va = some pa → p.poolOfFrame r.ctx pa = some (q, f) → p.count q f ≠ 0xFFFF →
      p.lowestFree q = some g →
      ∃ t, exec .cow s = .next t ∧ t.log.kv.copies = s.log.kv.copies ++ [⟨r, pa, poolBase (p.pool q) + 65536 * g⟩] ∧
        t.mem = (((p.setCount q f (p.count q f + 1)).setFree q g false).setCount q g 1).mem)

/-- R277, R297: the requests of the Pilot. -/
def Obligations.KvRequestsOfThePilot : Prop :=
  ∀ (s : State) (r : KvReq) (rest : List KvReq), s.rst.mode ≠ .held → flag (s.reg Reg.logKvCtrl) 0 = true →
    s.log.kv.queue = r :: rest → r.src = none →
    let p := s.kvPop
    let e := p.pool r.pool
    (r.op = .attach →
      (poolValid e = false → exec .attach s = .next (p.kvRefuse r 4)) ∧
      (poolValid e = true → poolPages e ≤ r.frame → exec .attach s = .next (p.kvRefuse r 2)) ∧
      (poolValid e = true → r.frame < poolPages e → p.count r.pool r.frame = 0xFFFF → exec .attach s = .next (p.kvRefuse r 3)) ∧
      (poolValid e = true → r.frame < poolPages e → p.count r.pool r.frame ≠ 0xFFFF →
        let a := ((p.unscrub r.pool r.frame).setFree r.pool r.frame false).setCount r.pool r.frame (p.count r.pool r.frame + 1)
        (a.kvMapTo (poolCtx e) r.va (poolBase e + 65536 * r.frame) = none → exec .attach s = .next (p.kvRefuse r 2)) ∧
        (∀ u, a.kvMapTo (poolCtx e) r.va (poolBase e + 65536 * r.frame) = some u →
          exec .attach s = .next (u.kvLater { r with ctx := poolCtx e } none)))) ∧
    (r.op = .unmap →
      (poolValid e = false → exec .unmap s = .next (p.kvResult 4)) ∧
      (poolValid e = true →
        (p.kvMap (poolCtx e) r.va = none → exec .unmap s = .next ((p.bump Reg.logKvCntNoop).kvResult 1)) ∧
        (∀ pa, p.kvMap (poolCtx e) r.va = some pa →
          (p.poolOfFrame (poolCtx e) pa = none → exec .unmap s = .next (p.kvResult 2)) ∧
          (∀ q f, p.poolOfFrame (poolCtx e) pa = some (q, f) →
            exec .unmap s = .next (((p.kvUnmap (poolCtx e) r.va).lowerCount q f 1).kvLater { r with ctx := poolCtx e } none))))) ∧
    (∀ u : State, ∀ c,
      (u.lastInval c (fun i => { i with answers := i.answers ++ [({ r with ctx := c }, none)] }) = none →
        u.kvLater { r with ctx := c } none = u.kvResult 0) ∧
      (∀ w, u.lastInval c (fun i => { i with answers := i.answers ++ [({ r with ctx := c }, none)] }) = some w →
        u.kvLater { r with ctx := c } none = w)) ∧
    (r.op = .releaseCore → ∃ t, exec .releaseCore s = .next t ∧ t = (p.releasePins r.frame).kvResult 0 ∧
      (∀ x ∈ t.log.kv.pins, x.1 ≠ r.frame) ∧ (∀ x ∈ s.log.kv.pins, x.1 ≠ r.frame → x ∈ t.log.kv.pins)) ∧
    (r.op = .poolLoad → exec .poolLoad s = .next ((p.loadPool r.pool).kvResult 0)) ∧
    (∀ err, (p.kvResult err).log.kv.line = true ∧ (mrising p.regs = true → (p.kvResult err).reg Reg.logKvResult = w32 (2 ^ 31 + err)))

/-- R277, R279, R343: copies, the scrubber and fills. -/
def Obligations.CopiesAndFills : Prop :=
  ∀ (s : State), s.rst.mode ≠ .held →
    (s.log.kv.copies = [] → exec .cowCompletion s = .next s) ∧
    (∀ c rest q f q' g a b u, s.log.kv.copies = c :: rest →
      let p := s.modKv (fun k => { k with copies := rest })
      let d := p.copyPhys c.req.ctx c.fromPa c.toPa 65536
      p.poolOfFrame c.req.ctx c.fromPa = some (q, f) → p.poolOfFrame c.req.ctx c.toPa = some (q', g) →
      d.scalePa q f = some a → d.scalePa q' g = some b → (d.copyPhys c.req.ctx a b 2048).kvMapTo c.req.ctx c.req.va c.toPa = some u →
      exec .cowCompletion s = .next (((u.lowerCount q f 2).bump Reg.logKvCntCow).kvLater c.req (some c.toPa))) ∧
    (s.hub.fills = [] → exec .fillComplete s = .next s ∧ exec .frameScrubbed s = .next s) ∧
    (∀ f r, s.hub.fills = f :: r →
      let n := if f.big then 2 ^ 21 else 2 ^ 16
      (f.kv = false → s.pageBusy f.pa n = true → exec .fillComplete s = .next s) ∧
      (f.kv = true → s.pageBusy f.pa 65536 = true → exec .frameScrubbed s = .next s) ∧
      (f.kv = false → s.pageBusy f.pa n = false → cellsWf s.mem.bytes = true →
        ∃ t, exec .fillComplete s = .next t ∧ t.hub.fills = r ++ s.hub.fillWait.take 1 ∧ t.hub.fillWait = s.hub.fillWait.drop 1 ∧
          (∀ x, f.pa ≤ x → x < f.pa + n → cellAt t.mem.bytes x = 0) ∧
          (∀ x, x < f.pa ∨ f.pa + n ≤ x → cellAt t.mem.bytes x = cellAt s.mem.bytes x) ∧ t.cores = s.cores ∧ t.log = s.log) ∧
      (f.kv = true → s.pageBusy f.pa 65536 = false →
        let here : Prop := poolValid (s.pool f.pool) = true ∧ f.frame < poolPages (s.pool f.pool) ∧
          poolBase (s.pool f.pool) + 65536 * f.frame = f.pa
        (here → s.count f.pool f.frame ≠ 0 → exec .frameScrubbed s = .next { s with hub := s.hub.popFill }) ∧
        (∀ a, f.scale = some a →
          let z : State := ({ s with hub := s.hub.popFill, mem := (s.mem.fillZ f.pa 65536).fillZ a 2048 } : State).bump (hbmKey 0 Reg.hbmCntFill)
          (here → s.count f.pool f.frame = 0 → exec .frameScrubbed s =
            .next ((z.setFree f.pool f.frame true).bump Reg.logKvCntFreed)) ∧
          (¬ here → exec .frameScrubbed s = .next z))))

/-- R302, R325: the scheduler's queues. -/
def Obligations.SchedulerPlacesReadyWork : Prop :=
  ∀ (s : State),
    (s.rst.mode ≠ .held →
      (∀ ctx, ceState (s.cent ctx) = 1 → ceDirect (s.cent ctx) = true → ctx < 4096 →
        (s.sched.directs.any (fun d => d.ctxId == ctx) = true → exec (.logSchedSubmit ctx) s = .next s) ∧
        (s.sched.directs.any (fun d => d.ctxId == ctx) = false → ∃ t, exec (.logSchedSubmit ctx) s = .next t ∧
          WorkItem.direct ctx ∈ t.sched.ready ∧ t.sched.directs = s.sched.directs ++ [{ ctxId := ctx, order := s.sched.nextOrder }] ∧
          t.sched.nextOrder = s.sched.nextOrder + 1 ∧ t.mem = s.mem ∧ t.regs = s.regs)) ∧
      (∀ ctx, ceState (s.cent ctx) ≠ 1 ∨ ceDirect (s.cent ctx) = false ∨ 4096 ≤ ctx →
        exec (.logSchedSubmit ctx) s = .next (s.orReg Reg.logSchedErr 1)) ∧
      (flag (s.reg Reg.logSchedCtrl) 0 = false → exec .schedulerPlace s = .next s) ∧
      ((∀ i ∈ s.sched.ready, s.placeItem i = none) → exec .schedulerPlace s = .next s) ∧
      (∀ pre i post t, flag (s.reg Reg.logSchedCtrl) 0 = true → s.sched.ready = pre ++ i :: post → (∀ j ∈ pre, s.placeItem j = none) →
        s.placeItem i = some t → exec .schedulerPlace s = .next t ∧ i ∉ t.sched.ready)) ∧
    (s.firmwareRuns = false → exec (.grantPop .pilot) s = .next s) ∧
    (s.rst.mode = .running → ∃ t, exec (.grantPop .pilot) s = .next t ∧ t.sched.grants = s.sched.grants.drop 1 ∧ t.bus.err = false)

/-- R308-R312, R365: pre-emption and remote waits. -/
def Obligations.PreemptionSpillsAndResumes : Prop :=
  ∀ (s : State) (n : Nat), n < 32 → s.cores.length = 32 → mrising s.regs = true →
    let c := s.core n
    (s.answers (.core n 0) = true →
      (c.idle = false → c.preempt = 0 → exec (.preemptRequest n) s = .next (s.modCore n (fun c => { c with preempt := 1 }))) ∧
      (c.idle = true ∨ c.preempt ≠ 0 → exec (.preemptRequest n) s = .next s) ∧
      (c.idle = false ∨ c.run ≠ .idle → exec (.preemptResume n) s = .next s) ∧
      (c.idle = true → c.run = .idle →
        (s.ctxCompat (s.coreCtx n) = false → exec (.preemptResume n) s = .next (s.startResume n .direct (s.cReg n Reg.coreSlices).toNat)) ∧
        (s.ctxCompat (s.coreCtx n) = true → exec (.preemptResume n) s = .next (s.startResume n .compat (s.cReg n Reg.coreSlices).toNat)))) ∧
    (s.domOn n = true →
      (c.preempt ≠ 1 ∨ c.atBoundary = false → exec (.preemptBoundary n) s = .next s) ∧
      (c.preempt = 1 → c.atBoundary = true →
        let b := (s.dropTakes n).modCore n (fun c => { c with ctl := .preempted })
        ((b.core n).aheadOver = false → exec (.preemptBoundary n) s = .next b) ∧
        ((b.core n).aheadOver = true →
          let alive := (b.core n).slices.filter (fun x => !x.ended)
          let q := alive.foldl (fun s x => s.noteRanges n x) b
          let out := alive.foldl (fun s x => s.leaveCore n x.slice) (q.modCore n (fun c => { c with preempt := 2 }))
          (∀ e, q.allRanges n alive = .error e → exec (.preemptBoundary n) s = .next (q.coreFault n e (b.core n).curSl.pc)) ∧
          (∀ rs u e, q.allRanges n alive = .ok rs → out.spillSlices n rs = (u, some e) →
            exec (.preemptBoundary n) s = .next (u.coreFault n e (b.core n).curSl.pc)) ∧
          (∀ rs u, q.allRanges n alive = .ok rs → out.spillSlices n rs = (u, none) →
            exec (.preemptBoundary n) s = .next (u.modCore n (fun c => { c with sxQ := [] }))))) ∧
      (c.preempt ≠ 2 → exec (.spillComplete n) s = .next s) ∧
      (c.preempt = 2 → ∃ t, exec (.spillComplete n) s = .next t ∧ (t.core n).run = .idle ∧ (t.core n).preempt = 0 ∧ (t.core n).slices = [] ∧
        (∀ id, c.run = .batch id → WorkItem.batch id ∈ t.sched.ready) ∧ (c.run = .direct → WorkItem.direct (s.coreCtx n) ∈ t.sched.ready) ∧
        (∀ v ∈ t.sched.victims, v.1 ≠ n)) ∧
      (c.preempt ≠ 3 ∨ c.ctl ≠ .preempted ∨ (∃ r ∈ c.loupe, r.req = 2) → exec (.refillComplete n) s = .next s) ∧
      (c.preempt = 3 → c.ctl = .preempted → (∀ r ∈ c.loupe, r.req ≠ 2) → ∃ t, exec (.refillComplete n) s = .next t ∧ (t.core n).preempt = 0 ∧
        ((t.core n).ctl = .run ∨ (t.core n).ctl = .barrier ∨ (t.core n).ctl = .stopped)) ∧
      (c.head = none → c.remoteWait = none → exec (.sxWaitRemote n) s = .next s) ∧
      (∀ d, c.head = none → c.remoteWait = some d →
        let v := c.signal d.slice (fld (d.o 1) 19 16)
        (v.toNat < (d.o 2).toNat → exec (.sxWaitRemote n) s = .next s) ∧
        (c.live = true → (d.o 2).toNat ≤ v.toNat → exec (.sxWaitRemote n) s =
          .next ((s.modCore n (fun c => { ((c.setSignal d.slice (fld (d.o 1) 19 16) (v - d.o 2)).putSl
            { ((c.sliceOf d.slice).getD { slice := d.slice }) with wait := none }) with sxQ := c.sxQ.drop 1 })).settle n))))

/-- R19, R307, R313, R316: faults of cores and lost domains. -/
def Obligations.WatchdogFaultsAndPowerLoss : Prop :=
  ∀ (s : State) (n : Nat), n < 32 → s.cores.length = 32 → mrising s.regs = true →
    let c := s.core n
    (s.domOn n = true →
      (s.wdogRuns n = true → s.wdogLimit n ≤ c.wdog → s.boundaryNow n = false →
        exec (.watchdog n) s = .next (s.coreFault n codeWatchdog c.curSl.pc)) ∧
      (s.wdogRuns n = false ∨ c.wdog < s.wdogLimit n ∨ s.boundaryNow n = true → exec (.watchdog n) s = .next s)) ∧
    (s.firmwareRuns = false → exec (.faultHandling n) s = .next s) ∧
    (s.firmwareRuns = true → c.faultLine = true →
      exec (.faultHandling n) s = .next (s.handleFault n) ∧
      (c.run = .idle → hardwareCode c.faultCode = false →
        ∃ t, exec (.faultHandling n) s = .next t ∧ (t.core n).faultLine = false ∧ t.mem = s.mem ∧ t.pilot = s.pilot ∧ t.log = s.log ∧
          ∀ k, t.reg k = s.reg k)) ∧
    (s.firmwareRuns = false ∨ s.domOn n = false →
      exec (.coreAccessTimeout n) s = .next { s with bus := { s.bus with err := true } }) ∧
    (s.firmwareRuns = true → s.domOn n = true →
      exec (.coreAccessTimeout n) s =
        .next (({ s with bus := { s.bus with err := true } } : State).coreFailure n (s.workOn n) (c.inSpill || c.preempt == 2))) ∧
    (∀ d, s.domOn d = false ∨ 80 ≤ d → exec (.unrequestedPowerLoss d) s = .next s) ∧
    (s.domOn n = true → s.pwr.cur.all (fun r => r.domain != n) = true →
      let spill : Bool := c.inSpill || c.preempt == 2
      let u := ((s.dropUpperOn n).supplyOff (32 + n)).supplyOff n
      (s.pwr.cur.all (fun r => r.domain != 32 + n) = true → s.dropUpperOn n = s) ∧
      (u.firmwareRuns = false → exec (.unrequestedPowerLoss n) s =
        .next { u with pilot := { u.pilot with coresUnseen := u.pilot.coresUnseen ++ [(n, s.workOn n, spill)] } }) ∧
      (u.firmwareRuns = true → exec (.unrequestedPowerLoss n) s = .next (u.coreFailure n (s.workOn n) spill))) ∧
    (∀ d, d < 80 → 32 ≤ d → (d < 64 ∨ 72 ≤ d) → s.domOn d = true → s.pwr.cur.all (fun r => r.domain != d) = true →
      exec (.unrequestedPowerLoss d) s = .next (s.supplyOff d)) ∧
    (∀ h < 8, s.domOn (64 + h) = true → s.pwr.cur.all (fun r => r.domain != 64 + h) = true →
      exec (.unrequestedPowerLoss (64 + h)) s = .next ((s.supplyOff (64 + h)).doHbmFail h))

/-- R314, R317, R325: re-dispatch and teardown. -/
def Obligations.RedispatchAndTeardown : Prop :=
  ∀ (s : State) (n : Nat), n < 32 → s.cores.length = 32 →
    (s.rst.mode ≠ .held →
      (s.disabledCores.testBit n = true → exec (.logSchedRedispatch n) s = .next (s.orReg Reg.logSchedErr 2)) ∧
      (s.disabledCores.testBit n = false → ∃ t, exec (.logSchedRedispatch n) s = .next t ∧ (t.core n).run = .idle ∧
        t.sched.redisp = s.sched.redisp ++ [(n, s.affected n)] ∧
        (∀ id ∈ s.affected n, WorkItem.batch id ∉ t.sched.ready ∧ ∀ c ∈ t.cores, ∀ d ∈ c.wlq, d.batch ≠ id))) ∧
    (s.pilot.sounding.find? (fun x => x.core == n) = none → exec (.redispatchIdleTimeout n) s = .next s) ∧
    (∀ x, s.pilot.sounding.find? (fun x => x.core == n) = some x → s.firmwareRuns = true → s.sched.redisp.any (fun r => r.1 == n) = true →
      (s.core n).idle = false → x.since + 20 ≤ s.now → s.domOn n = true → s.pilot.wantPower.all (fun p => p.2 != n) = true →
      exec (.redispatchIdleTimeout n) s = .next ((s.askPower false [32 + n, n]).askPower true [n, 32 + n])) ∧
    (s.sched.redisp = [] → exec .redispatchBatch s = .next s) ∧
    (∀ k ids r, s.sched.redisp = (k, ids) :: r →
      (s.redispReady k ids = false → exec .redispatchBatch s = .next s) ∧
      (s.redispReady k ids = true → ∃ t, exec .redispatchBatch s = .next t ∧ t.sched.redisp = r)) ∧
    (∀ ctx, s.firmwareRuns = false → exec (.contextTeardown ctx) s = .next s) ∧
    (∀ ctx, s.firmwareRuns = true → s.finished ctx = none →
      (s.pilot.teardowns.find? (fun t => t.job.ctxId == ctx && !t.cleared) = none → ∃ u, exec (.contextTeardown ctx) s = .next u ∧
        u = s.endTeardowns ∧ ∀ y ∈ u.pilot.teardowns, y ∈ s.pilot.teardowns ∧ (y.cleared = true → s.invOpen y.job.ctxId = true)) ∧
      (∀ t, s.pilot.teardowns.find? (fun t => t.job.ctxId == ctx && !t.cleared) = some t →
        ((∃ k < 32, s.coreCtx k = ctx ∧ (s.core k).idle = false ∧ s.domOn k = true) → exec (.contextTeardown ctx) s = .next s) ∧
        ((∀ k < 32, s.coreCtx k = ctx → (s.core k).idle = true ∨ s.domOn k = false) →
          exec (.contextTeardown ctx) s = .next (s.clearContext t).endTeardowns ∧
          (s.clearContext t).invOpen ctx = true ∧ ∀ y ∈ (s.clearContext t).pilot.teardowns, y.job.ctxId = ctx → y.cleared = true)))

/-- R332, R334, R336, R342: HBM by physical address, and as a context (DESIGN CHOICE, log entry 66: the row of a register access carries these accesses). -/
def Obligations.HbmAccessesOfAgents : Prop :=
  ∀ (s : State) (ag : Agent) (addr width : Nat) (v : Word), s.rst.mode ≠ .held → cellsWf s.mem.bytes = true → mrising s.regs = true →
    let as : Word := s.reg (hbmKey 0 Reg.hbmPilotAs)
    let wr : Instr := .registerWrite ag addr width v
    let rd : Instr := .lowWordReadCapture ag addr width
    let fails (c : Instr) : Prop := ∃ t, exec c s = .next t ∧ t.bus.err = true ∧ { t with bus := s.bus } = s
    (∀ g pa r, s.memAt ag addr = some (.phys g pa r) →
      (memWidth pa width = false ∨ s.memLets g pa r = false → fails wr ∧ fails rd) ∧
      (s.physGrant g pa = false → s.memLets g pa r = false) ∧
      (∀ i, r = some i → s.regionOf pa ≠ some i → s.memLets g pa r = false) ∧
      (g = .host → s.pilot.bringUp = 5 → s.memLets g pa r = false) ∧
      (memWidth pa width = true → s.memLets g pa r = true →
        (s.reachable pa width = false → fails wr) ∧
        (s.reachable pa width = true → s.writable pa width = false → ∃ t, exec wr s = .next t ∧ t.bus.err = true ∧
          t.mem.bytes = s.mem.bytes ∧ t.mem.ident = s.mem.ident ∧ { t with bus := s.bus, mem := s.mem, regs := s.regs } = s) ∧
        (s.writable pa width = true → ∃ t, exec wr s = .next t ∧ t.bus.err = false ∧
          t.readAs hubIdent pa width = natLe width v.toNat ∧
          (∀ a, a / 64 ≠ pa / 64 → cellAt t.mem.bytes a = cellAt s.mem.bytes a ∧ mget t.mem.ident (a / 64) = mget s.mem.ident (a / 64)) ∧
          (∀ a, a / 64 = pa / 64 → a < pa ∨ pa + width ≤ a → (mget s.mem.ident (a / 64) = none → cellAt s.mem.bytes a = 0) →
            t.readAs hubIdent a 1 = s.readAs hubIdent a 1) ∧
          ((∀ x ∈ s.mem.bad ++ s.mem.soft, x / 2 ≠ pa / 64) →
            ∀ k, (∀ h < 8, k ≠ hbmKey h Reg.hbmCntWrlines ∧ k ≠ hbmKey h Reg.hbmCntRdlines) → t.reg k = s.reg k) ∧
          { t with bus := s.bus, mem := s.mem, regs := s.regs } = s) ∧
        (s.readable pa width = true → ∃ t, exec rd s = .next t ∧ t.bus.err = false ∧
          t.bus.data = w32 (leNat (s.readAs hubIdent pa width)) ∧ t.mem.bytes = s.mem.bytes ∧ t.mem.ident = s.mem.ident ∧
          { t with bus := s.bus, mem := s.mem, regs := s.regs } = s) ∧
        (s.readable pa width = false → ∃ t, exec rd s = .next t ∧ t.bus.err = true ∧ t.bus.data = 0 ∧ t.mem.bytes = s.mem.bytes ∧
          t.mem.ident = s.mem.ident))) ∧
    (ag = .pilot → addr < hbmEnd → s.memAt ag addr = some (if flag as 31 = true then .ctx (fld as 11 0) addr else .phys .hub addr none)) ∧
    (ag = .cluster → addr < hbmEnd → s.memAt ag addr = some (.phys .app addr none)) ∧
    (ag = .host → addr < hbmEnd → s.memAt ag addr = some (.phys .host addr none)) ∧
    (∀ c va, s.memAt ag addr = some (.ctx c va) →
      (memWidth va width = false → fails wr ∧ fails rd) ∧
      (memWidth va width = true →
        (∀ x, x = s.hubXlate c va width →
          x.mem.bytes = s.mem.bytes ∧ x.cores = s.cores ∧
          (∀ t, x.vwrite x.hub.tlb c va (natLe width v.toNat) = .ok t → exec wr s = .next (t.busOk 0)) ∧
          (∀ e, x.vwrite x.hub.tlb c va (natLe width v.toNat) = .error e → exec wr s = .next x.busError)) ∧
        (∀ bs, s.vread s.hub.tlb c va width = .ok bs → ∃ t, exec rd s = .next t ∧ t.bus.err = false ∧ t.bus.data = w32 (leNat bs) ∧
          t.mem.bytes = s.mem.bytes ∧ t.cores = s.cores) ∧
        (∀ e, s.vread s.hub.tlb c va width = .error e → ∃ t, exec rd s = .next t ∧ t.bus.err = true ∧ t.mem.bytes = s.mem.bytes)))

/-- R331, R335, R338, R340, R341, R343, R345, R346, R348, R349: translation, fills and the memory controllers. -/
def Obligations.InvalidationsAndMemoryUnit : Prop :=
  ∀ s : State, mrising s.regs = true → s.cores.length = 32 →
    let hubErr (u : State) : Word := u.reg (hbmKey 0 Reg.hbmHubErr)
    let failed (u : State) : Word := u.reg (hbmKey 0 Reg.hbmFailed)
    let gone (i : Inval) (u : State) : Prop :=
      (∀ n, n < 32 → (u.core n).tlb = (s.core n).tlb.filter (fun e => !(invMatches i e))) ∧
        u.hub.tlb = s.hub.tlb.filter (fun e => !(invMatches i e)) ∧ u.mem = s.mem
    let uses (i : Inval) : Bool := s.cores.any (fun c => c.outs.any (invUses i) || c.walks.any (fun w => w.1 == i.ctx && !w.2.2))
    (s.rst.mode ≠ .held →
      (∀ v : Word,
        let va : Nat := (s.reg (hbmKey 0 Reg.hbmXlatInvVaLo)).toNat / 2 ^ 16 * 2 ^ 16 + fld (s.reg (hbmKey 0 Reg.hbmXlatInvVaHi)) 15 0 * 2 ^ 32
        let k : Nat := if fld v 29 12 = 0 then s.hub.invN else fld v 29 12
        let i : Inval := { ctx := fld v 11 0, all := flag v 30, va := va, n := k }
        (16 ≤ s.hub.invQueue.length → ∃ t, exec (.hbmXlatInv v) s = .next t ∧ hubErr t = hubErr s ||| 2 ∧ t.hub = s.hub ∧
          t.cores = s.cores ∧ t.mem = s.mem) ∧
        (s.hub.invQueue.length < 16 → s.hub.invQueue ≠ [] →
          exec (.hbmXlatInv v) s = .next { s with hub := { s.hub with invN := k, invQueue := s.hub.invQueue ++ [i] } }) ∧
        (s.hub.invQueue = [] → ∃ t, exec (.hbmXlatInv v) s = .next t ∧ t.hub.invQueue = [{ i with dropped := s.namedTlbs i }] ∧
          t.hub.invN = k ∧ gone i t)) ∧
      (s.hub.invQueue = [] → (∀ y ∈ s.pilot.teardowns, y.cleared = false) → exec .invalidationComplete s = .next s) ∧
      (∀ i r, s.hub.invQueue = i :: r → (∀ y ∈ s.pilot.teardowns, y.cleared = false) →
        (uses i = true → exec .invalidationComplete s = .next s) ∧
        (uses i = false → ∃ t, exec .invalidationComplete s = .next t ∧ t.hub.invWait = s.hub.invWait.drop 1 ∧
          t.reg (hbmKey 0 Reg.hbmCntInv) = s.reg (hbmKey 0 Reg.hbmCntInv) + 1 ∧ t.mem = s.mem ∧
          (∀ f ∈ i.fills, f ∈ t.hub.fills ++ t.hub.fillWait) ∧
          (∀ j r', r ++ s.hub.invWait.take 1 = j :: r' → t.hub.invQueue = { j with dropped := s.namedTlbs j } :: r' ∧ gone j t) ∧
          (r = [] → s.hub.invWait = [] → t.hub.invQueue = [] ∧ (i.answers = [] → t.cores = s.cores)))) ∧
      (∀ big,
        (64 ≤ s.hub.fills.length → ∃ t, exec (.hbmFillReq big) s = .next t ∧ hubErr t = hubErr s ||| 4 ∧ t.hub = s.hub) ∧
        (s.hub.fills.length < 64 → s.hub.fillWait = [] → exec (.hbmFillReq big) s = .next { s with hub := { s.hub with
          fills := s.hub.fills ++ [(⟨(s.reg (hbmKey 0 Reg.hbmFillPaLo)).toNat / 2 ^ 16 * 2 ^ 16 +
            fld (s.reg (hbmKey 0 Reg.hbmFillPaHi)) 11 0 * 2 ^ 32, big, false, 0, 0, none⟩ : Fill)] } })) ∧
      (∀ v : Word, flag v 0 = false → exec (.hbmRgnLock v) s = .next s) ∧
      (∀ v : Word, flag v 0 = true → ∃ t, exec (.hbmRgnLock v) s = .next t ∧
        t.reg (hbmKey 0 Reg.hbmRgnLock) = s.reg (hbmKey 0 Reg.hbmRgnLock) ||| 1 ∧ t.mem = s.mem)) ∧
    (∀ n, n < 32 → s.domOn n = true →
      ((s.core n).walks = [] → exec (.walkComplete n) s = .next s) ∧
      (∀ ctx va keep r, (s.core n).walks = (ctx, va, keep) :: r →
        ((s.core n).mayRead (s.walkCost n ctx va) = false → exec (.walkComplete n) s = .next s) ∧
        ((s.core n).mayRead (s.walkCost n ctx va) = true →
          let t : State := (s.modCore n (fun c => { c with walks := r })).endWalk n ctx va keep
          let hit (x : Xfer) : Bool := decide (x.cls < 2) && x.ctx == ctx && x.va / 2 ^ 16 == va / 2 ^ 16
          (t.core n).walks = r ∧ t.mem.bytes = s.mem.bytes ∧
          t.cReg n Reg.coreCntWalklines = s.cReg n Reg.coreCntWalklines + w32 (s.walkCost n ctx va) ∧
          (∀ p, s.walk ctx va = .ok p → exec (.walkComplete n) s = .next t ∧
            (t.core n).tlb = (if keep = true then tlbAdd (s.core n).tlb 128 ctx va p else (s.core n).tlb)) ∧
          (∀ e, s.walk ctx va = .error e → (t.core n).tlb = (s.core n).tlb ∧
            ((s.core n).waiting.find? hit = none → exec (.walkComplete n) s = .next t) ∧
            (∀ x, (s.core n).waiting.find? hit = some x →
              exec (.walkComplete n) s = .next (t.xlatFault n e x.va ((s.core n).sxVa x.seq))))))) ∧
    (∀ h, h < 8 →
      (s.stackServed h = true →
        (fld (s.reg (hbmKey h Reg.hbmEccCtrl)) 15 8 ≠ 0 → ∃ t, exec (.patrolRead h .none) s = .next t ∧
          t.mem = { s.mem with soft := s.mem.soft.filter (fun x => !((s.mem.soft.filter (s.copyOn h)).contains x)) } ∧
          t.reg (hbmKey h Reg.hbmCntCe) = s.reg (hbmKey h Reg.hbmCntCe) + w32 (s.mem.soft.filter (s.copyOn h)).length ∧
          t.reg (hbmKey h Reg.hbmCntUe) = s.reg (hbmKey h Reg.hbmCntUe) + w32 (s.mem.bad.filter (s.copyOn h)).length ∧
          (s.mem.bad.filter (s.copyOn h) ≠ [] → t.stackTesting h = true)) ∧
        (∀ inj, fld (s.reg (hbmKey h Reg.hbmEccCtrl)) 15 8 = 0 → exec (.patrolRead h inj) s = .next s) ∧
        (∀ k, exec (.onDieEccPoll h k) s = .next (s.bump (hbmKey h Reg.hbmCntOdecc) k)) ∧
        (∀ pc, s.stackTesting h = false → ∃ t, exec (.hbmTest h pc) s = .next t ∧ t.stackTesting h = true ∧
          flag (t.reg (hbmKey h Reg.hbmTest)) 30 = false ∧ fld (t.reg (hbmKey h Reg.hbmTest)) 5 0 = pc % 64 ∧ t.mem = s.mem) ∧
        (∀ phy, ∃ t, exec (.stackTimeout h phy) s = .next t ∧ (s.firmwareRuns = false → failed t = failed s ||| w32 (2 ^ h)))) ∧
      (s.stackServed h = false → (∀ inj, exec (.patrolRead h inj) s = .next s) ∧ (∀ k, exec (.onDieEccPoll h k) s = .next s) ∧
        (∀ pc, exec (.hbmTest h pc) s =
          .next (s.setReg (hbmKey h Reg.hbmTest) (setFld (s.reg (hbmKey h Reg.hbmTest)) 5 0 pc))) ∧
        ∀ phy, exec (.stackTimeout h phy) s = .next s) ∧
      (∀ k, s.stackTesting h = false → exec (.hbmTestDone h k) s = .next s) ∧
      (∀ k, s.stackTesting h = true → k ≤ fld (s.reg (hbmKey h Reg.hbmEccCtrl)) 7 0 →
        let e := s.endHbmTest h true
        e.stackTesting h = false ∧ fld (e.reg (hbmKey h Reg.hbmTest)) 30 29 = 3 ∧ failed e = failed s ∧
        (s.firmwareRuns = false → exec (.hbmTestDone h k) s = .next e) ∧
        (s.firmwareRuns = true → (e.notePass (4096 + h)).2 = false → exec (.hbmTestDone h k) s = .next (e.notePass (4096 + h)).1) ∧
        (s.firmwareRuns = true → (e.notePass (4096 + h)).2 = true →
          exec (.hbmTestDone h k) s = .next ((e.notePass (4096 + h)).1.doHbmFail h))) ∧
      (∀ k, s.stackTesting h = true → fld (s.reg (hbmKey h Reg.hbmEccCtrl)) 7 0 < k → s.firmwareRuns = false → flag (failed s) h = false →
        ∃ t, exec (.hbmTestDone h k) s = .next t ∧ t.reg (hbmKey h Reg.hbmStatus) = 0x40000000 ∧
        fld (t.reg (hbmKey h Reg.hbmTest)) 30 29 = 2 ∧ failed t = failed s ||| w32 (2 ^ h)) ∧
      (s.rst.mode ≠ .held →
        (flag (failed s) h = true → exec (.hbmFail h) s = .next s) ∧
        (flag (failed s) h = false →
          let t : State := (s.orReg (hbmKey 0 Reg.hbmFailed) (w32 (2 ^ h))).setReg (hbmKey h Reg.hbmStatus) 0x40000000
          exec (.hbmFail h) s = .next (if s.firmwareRuns = true then t.afterStackFail h else t))))

/-- R352, R355, R357, R369, R374: ports. -/
def Obligations.PortsTestTrainAndFail : Prop :=
  ∀ (s : State) (p : Nat), p < 4 → mrising s.regs = true →
    let status (u : State) : Nat := fld (u.pReg p Reg.rhbStatus) 31 28
    let still (u : State) : Prop := u.cores = s.cores ∧ u.mem = s.mem
    (s.domOn (72 + p) = true →
      (s.portTesting p = false →
        (∃ t, exec (.rhbTest p) s = .next t ∧ status t = 1 ∧ still t ∧ fld (t.pReg p Reg.rhbTest) 30 29 = 0) ∧
        (∃ t, exec (.rhbRetrain p) s = .next t ∧ status t = (if flag (s.pReg p Reg.rhbCtrl) 0 then 4 else 0) ∧ still t)) ∧
      (s.portTesting p = true → exec (.rhbTest p) s = .next s ∧ exec (.rhbRetrain p) s = .next s)) ∧
    (∀ mask, s.portTesting p = false → exec (.laneTestDone p mask) s = .next s) ∧
    (∀ mask, s.portTesting p = true → ∃ t, exec (.laneTestDone p mask) s = .next t ∧ t.pReg p Reg.rhbTestFail = mask ∧
      t.pReg p Reg.rhbTest = w32 (2 ^ 30 + b2n (mask == 0) * 2 ^ 29) ∧
      t.pReg p Reg.rhbLanes = (if mask = 0 ∧ (s.notePass (8192 + p)).2 = true then BitVec.allOnes 32 else s.pReg p Reg.rhbLanes ||| mask) ∧
      status t = (if t.lanesOf p = 0 then 2 else if flag (s.pReg p Reg.rhbCtrl) 0 then 4 else 0) ∧ still t) ∧
    (s.portOn p = true → s.portTesting p = false → s.lanesOf p ≠ 0 → s.portUp p = false →
      ∃ t, exec (.linkUpChange p true) s = .next t ∧ t.portUp p = true ∧ fld (t.pReg p Reg.rhbStatus) 5 0 = s.lanesOf p ∧ still t) ∧
    (s.portOn p = false ∨ s.portTesting p = true ∨ s.lanesOf p = 0 ∨ s.portUp p = true → exec (.linkUpChange p true) s = .next s) ∧
    (s.portUp p = true → ∃ t, exec (.linkUpChange p false) s = .next t ∧ t.portUp p = false ∧ flag (t.pReg p Reg.rhbErr) 0 = true ∧ still t) ∧
    (s.portUp p = false → exec (.linkUpChange p false) s = .next s) ∧
    (∀ d, (s.rport p).downAt = some d →
      (s.portUp p = false → s.portTesting p = false → s.portOn p = true → d + 1000 ≤ s.now → flag (s.pReg p Reg.rhbStatus) 29 = false →
        ∃ t, exec (.portFail p) s = .next t ∧ status t = 2 ∧ still t) ∧
      (s.now < d + 1000 ∨ s.portUp p = true → exec (.portFail p) s = .next s) ∧
      (flag (s.pReg p Reg.rhbStatus) 29 = true → s.portOn p = true → d + 1000000 ≤ s.now →
        ∃ t, exec (.portRetryTraining p) s = .next t ∧ status t = 6 ∧ still t) ∧
      (s.now < d + 1000000 ∨ flag (s.pReg p Reg.rhbStatus) 29 = false → exec (.portRetryTraining p) s = .next s)) ∧
    ((s.rport p).downAt = none → exec (.portFail p) s = .next s ∧ exec (.portRetryTraining p) s = .next s)

/-- R353, R354, R358: flits and transit. -/
def Obligations.FlitsAndTransit : Prop :=
  ∀ (s : State) (p : Nat), p < 4 →
    (∀ f ok, s.portUp p = false → exec (.rhumbFlitReceive p f ok) s = .next s) ∧
    (∀ f, s.portUp p = true →
      exec (.rhumbFlitReceive p f false) s = .next (((s.pBump p Reg.rhbCntCrc).modPort p RhbPort.nak).pBump p Reg.rhbCntTxflit
        (if (s.rport p).replay.length < 512 then 1 else 0)) ∧
      (fld f.w0 31 20 ≠ (s.rport p).rxNext → exec (.rhumbFlitReceive p f true) s = .next s) ∧
      (fld f.w0 31 20 = (s.rport p).rxNext →
        let u := (s.pBump p Reg.rhbCntRxflit).modPort p (fun x => { x with
          rxNext := (x.rxNext + 1) % 4096
          replay := x.replay.filter (fun g => !(lseqBefore g.1 (fld f.w0 19 8)))
          credits := lmod x.credits (fld f.w1 31 30) (fun c => min 128 (c + fld f.w1 29 24))
          rx := if flag f.w0 4 = true ∨ 128 * 240 < ((s.rport p).rx.getD (fld f.w0 7 6) []).length + 240 then x.rx
            else lmod x.rx (fld f.w0 7 6) (· ++ f.payload) })
        (flag f.w0 5 = false → exec (.rhumbFlitReceive p f true) s = .next (u.drainPort p)) ∧
        (flag f.w0 5 = true → exec (.rhumbFlitReceive p f true) s = .next ((u.replayAll p).drainPort p)) ∧
        (((s.rport p).wait.map List.length).sum = 0 → (u.drainPort p).rport p = { u.rport p with room := (0, 0) }))) ∧
    (∀ x : RhbPort, x.replay.length < 512 → x.txNext < 4096 → x.rxNext < 4096 → ∃ h : Word × Word, x.nak.flits = x.flits ++ [h] ∧
      fld h.1 31 20 = x.txNext ∧ fld h.1 19 8 = x.rxNext ∧ flag h.1 5 = true ∧ flag h.1 4 = true) ∧
    (∀ t, (s.portUp p = false ∨ (s.devValid = true ∧ txDst t = s.devId) → exec (.transitForward p t) s = .next s) ∧
      (s.portUp p = true → s.devValid = false → exec (.transitForward p t) s = .next (s.takeRx p t)) ∧
      (s.portUp p = true → s.devValid = true → txDst t ≠ s.devId →
        (txHops t = 0 → exec (.transitForward p t) s = .next ((s.takeRx p t).pBump p Reg.rhbCntHopdrop)) ∧
        (txHops t ≠ 0 → s.route (txDst t) = none → exec (.transitForward p t) s = .next ((s.takeRx p t).pBump 0 Reg.rhbCntNoroute)) ∧
        (∀ q, txHops t ≠ 0 → s.route (txDst t) = some q → exec (.transitForward p t) s =
          .next (((s.takeRx p t).pBump p Reg.rhbCntTransit).toPort q (requesterOf q p)
            { t with hdr := t.hdr.set 0 (setFld (wd t.hdr 0) 27 24 (txHops t - 1)) }))))

/-- R358-R361, R363, R366: reception in a flow. -/
def Obligations.TransactionsArriveInOrder : Prop :=
  ∀ (s : State) (p : Nat) (t : RhbTx), p < 4 →
    let r := s.takeRx p t
    let e := (s.rxFlow (txSrc t) (txKey t)).expect
    (∀ i ∈ [Instr.put p t true, .get p t true, .getdata p t true, .ack p t true, .nack p t true, .mig p t true, .migack p t true],
      (s.portUp p = false ∨ s.devValid = false ∨ txDst t ≠ s.devId → exec i s = .next s) ∧
      (s.portUp p = true → s.devValid = true → txDst t = s.devId → txOp t = 0 ∨ 8 < txOp t →
        exec i s = .next (r.pBump 0 Reg.rhbCntTagfail))) ∧
    (s.portUp p = true → s.devValid = true → txDst t = s.devId →
      (∀ op i j, (op, i, j) ∈ [(1, Instr.put p t false, Instr.put p t true), (2, .get p t false, .get p t true), (3, .getdata p t false, .getdata p t true),
          (4, .ack p t false, .ack p t true), (5, .nack p t false, .nack p t true), (6, .mig p t false, .mig p t true),
          (7, .migack p t false, .migack p t true)] → txOp t = op →
        exec i s = .next (r.pBump 0 Reg.rhbCntTagfail) ∧
        (s.keyLoaded (txKey t) = false ∨ txClean t = false → exec j s = .next (r.pBump 0 Reg.rhbCntTagfail))) ∧
      (s.keyLoaded (txKey t) = true → txClean t = true →
        (∀ op i, (op, i) ∈ [(1, Instr.put p t true), (2, .get p t true), (6, .mig p t true)] → txOp t = op → txTid t ≠ e →
          precedes (w32 (txTid t)) (w32 e) = false → exec i s = .next (r.sendNack t 1 e)) ∧
        (txOp t = 1 → txTid t ≠ e → precedes (w32 (txTid t)) (w32 e) = true → exec (.put p t true) s = .next (r.dupTx t)) ∧
        (txOp t = 2 → txTid t ≠ e → precedes (w32 (txTid t)) (w32 e) = true → exec (.get p t true) s = .next (r.getServed t)) ∧
        (txOp t = 6 → txTid t ≠ e → precedes (w32 (txTid t)) (w32 e) = true → txAddr t / 2 ^ 16 ≠ 0xFFFE →
          exec (.mig p t true) s = .next (r.dupTx t)) ∧
        (txOp t = 1 → txTid t = e → r.accepts t = true → txAddr t % 2 ^ 24 + 64 * txLines t ≤ 2 ^ 24 → r.residency (txCtx t) (txSlice t) = none →
          (∀ u, r.landRecord t = some u → ∃ v, exec (.put p t true) s = .next v ∧ v.mem = u.mem ∧
            (v.rxFlow (txSrc t) (txKey t)).expect = (e + 1) % 2 ^ 32) ∧
          (r.landRecord t = none → exec (.put p t true) s = .next (r.sendNack t 3 (txTid t)))) ∧
        (txOp t = 2 → txTid t = e → ∃ v, exec (.get p t true) s = .next v ∧ (v.rxFlow (txSrc t) (txKey t)).expect = (e + 1) % 2 ^ 32) ∧
        (txOp t = 6 → txTid t = e → txAddr t / 2 ^ 16 < 0xFFFE → ∃ v, exec (.mig p t true) s = .next v ∧
          v.rhb.migIn = (r.migPart t (txAddr t / 2 ^ 16)).1.rhb.migIn ∧ (v.rxFlow (txSrc t) (txKey t)).expect = (e + 1) % 2 ^ 32)))

/-- R360, R363, R364, R371: the answers. -/
def Obligations.AnswersEndTheirTransfers : Prop :=
  ∀ (s : State) (p : Nat) (t : RhbTx), p < 4 → s.portUp p = true → s.devValid = true → txDst t = s.devId → s.keyLoaded (txKey t) = true →
    txClean t = true →
    let r := s.takeRx p t
    let dev := txSrc t
    let key := txKey t
    (txOp t = 4 → (∀ x ∈ (s.txFlow dev key).pend, x.sent = true) → s.rhb.migOut = [] →
      ∃ u, exec (.ack p t true) s = .next u ∧ u.mem = s.mem ∧
        (u.txFlow dev key).pend = (s.txFlow dev key).pend.filter (fun x => !(ackTakes (txTid t) x)) ∧
        (u.txFlow dev key).next = (s.txFlow dev key).next) ∧
    (txOp t = 3 → (∀ x ∈ (s.txFlow dev key).pend, txOp x.tx = 2 → txTid x.tx ≠ txAddr t) → exec (.getdata p t true) s = .next r) ∧
    (∀ x n y, txOp t = 3 → (s.txFlow dev key).pend.find? (fun x => txOp x.tx == 2 && txTid x.tx == txAddr t) = some x → x.core = some n →
      (s.core n).remote dev key (txAddr t) = some y →
      let c := (r.cutFlow dev key (fun x => txOp x.tx == 2 && txTid x.tx == txAddr t)).pumpFlow dev key
      exec (.getdata p t true) s = .next ((c.land n 4 y.seq (64 * y.spLine) (t.data.take (64 * y.lines))).endRemote n y)) ∧
    (txOp t = 5 →
      (txAddr t = 1 → exec (.nack p t true) s = .next ((r.pBump 0 Reg.rhbCntNack).resendFlow dev key)) ∧
      (txAddr t ≠ 1 → (∀ x ∈ (s.txFlow dev key).pend, txTid x.tx ≠ txTid t) ∨ txAddr t = 3 →
        exec (.nack p t true) s = .next (r.pBump 0 Reg.rhbCntNack)) ∧
      (∀ x n y, txAddr t = 2 ∨ txAddr t = 4 → (s.txFlow dev key).pend.find? (fun x => txTid x.tx == txTid t) = some x → x.core = some n →
        (s.core n).remote dev key (txTid t) = some y →
        exec (.nack p t true) s = .next (((((r.pBump 0 Reg.rhbCntNack).cutFlow dev key (fun x => txTid x.tx == txTid t)).pumpFlow dev key)).failRemote n 8 y))) ∧
    (txOp t = 7 →
      (s.rhb.migOut.find? (fun m => m.dev == dev && m.key == key && m.commit == some (txTid t)) = none → exec (.migack p t true) s = .next r) ∧
      (∀ o, s.rhb.migOut.find? (fun m => m.dev == dev && m.key == key && m.commit == some (txTid t)) = some o →
        let c := (r.cutFlow o.dev o.key (fun x => txOp x.tx == 6 && txTid x.tx == txTid t)).pumpFlow o.dev o.key
        exec (.migack p t true) s =
          .next (((c.migEvent o.ctx 0x20 o.newHandle (cxAccept (c.sctx o.ctx))).pBump 0 Reg.rhbCntMigrated).migGone o.ctx)))

/-- R360, R361, R371, R375, R383: timers, migration, keys, management. -/
def Obligations.FlowTimersMigrationsAndKeys : Prop :=
  ∀ (s : State), mrising s.regs = true →
    (∀ k f, s.rhb.txFlows[k]? = some f →
      (f.pend = [] ∨ s.now < f.since + fld (s.pReg 0 Reg.rhbE2e) 15 0 → exec (.flowTimeout k) s = .next s) ∧
      (f.pend ≠ [] → f.since + fld (s.pReg 0 Reg.rhbE2e) 15 0 ≤ s.now → f.retries + 1 < fld (s.pReg 0 Reg.rhbE2e) 23 16 →
        exec (.flowTimeout k) s = .next ((s.putTxFlow { f with since := s.now, retries := f.retries + 1 }).resendFlow f.dev f.key))) ∧
    (∀ k f, s.rhb.rxFlows[k]? = some f →
      (f.owed = 0 ∨ s.now < f.since + 1 → exec (.ackTimer k) s = .next s) ∧
      (0 < f.owed → f.since + 1 ≤ s.now → ∃ t, exec (.ackTimer k) s = .next t ∧ (t.rxFlow f.dev f.key).owed = 0 ∧
        (t.rxFlow f.dev f.key).expect = (s.rxFlow f.dev f.key).expect ∧ t.mem = s.mem)) ∧
    (∀ i, (s.rhb.migOut.find? (fun m => m.ctx == i && !m.sent) = none → exec (.migrationTransfer i) s = .next s) ∧
      (cxInflight (s.sctx i) = true ∨ cxAccept (s.sctx i) ≠ cxCommit (s.sctx i) → exec (.migrationTransfer i) s = .next s) ∧
      (∀ o, s.rhb.migOut.find? (fun m => m.ctx == i && !m.sent) = some o → cxInflight (s.sctx i) = false → cxAccept (s.sctx i) = cxCommit (s.sctx i) →
        let w := s.sctx i
        let m := s.mslot (cxModel w)
        let img := s.ctxPeek (s.slotCtx (cxModel w)) (stateAddr m i (b2n (cxCur w))) (wd m 2).toNat
        (img = none → exec (.migrationTransfer i) s = .next (s.migFailed i)) ∧
        (img ≠ none → ∃ t, exec (.migrationTransfer i) s = .next t ∧ (∀ x ∈ t.rhb.migOut, x.ctx = i → x.sent = true)))) ∧
    (s.rst.mode ≠ .held →
      (∀ v, (List.range 4).any s.portUp = true → exec (.rhbDevidWrite v) s = .next s) ∧
      (∀ v, (List.range 4).any s.portUp = false → v &&& 0x7FF00000#32 = 0#32 → s.pReg 0 Reg.rhbDevid &&& 0x7FF00000#32 = 0#32 →
        ∃ t, exec (.rhbDevidWrite v) s = .next t ∧ t.devId = fld v 19 0 ∧ t.devValid = flag v 31) ∧
      (∀ k, mrising s.rhb.keys = true → mrising s.rhb.nctr = true →
        (∃ t, exec (.rhbKeyLoad k) s = .next t ∧ mget t.rhb.keys k = some ((List.range 8).map (fun i => mgetD s.rhb.keyData i 0)) ∧
          mget t.rhb.nctr k = some 0 ∧ t.rhb.keyData = [] ∧ (∀ j, j ≠ k → mget t.rhb.keys j = mget s.rhb.keys j)) ∧
        (∃ t, exec (.rhbKeyClear k) s = .next t ∧ t.keyLoaded k = false ∧ (∀ j, j ≠ k → mget t.rhb.keys j = mget s.rhb.keys j)))) ∧
    (∀ p t ok, p < 4 →
      (s.portUp p = false ∨ s.devValid = false ∨ txDst t ≠ s.devId ∨ txOp t ≠ 8 → exec (.mgmt p t ok) s = .next s) ∧
      (s.portUp p = true → s.devValid = true → txDst t = s.devId → txOp t = 8 →
        ((s.takeRx p t).mgmtTaken t ok = false → exec (.mgmt p t ok) s = .next ((s.takeRx p t).pBump 0 Reg.rhbCntTagfail)) ∧
        ((s.takeRx p t).mgmtTaken t ok = true → (s.chan 18).busy = true → exec (.mgmt p t ok) s = .next ((s.takeRx p t).sendMgmt (txSrc t)
          [w32 (0xE9140004 + fld (wd (wordsOf 64 t.data) 0) 15 8 * 256), w32 (fld (wd (wordsOf 64 t.data) 1) 31 16 * 65536 + 0x1000),
            wd (wordsOf 64 t.data) 2, 0])) ∧
        ((s.takeRx p t).mgmtTaken t ok = true → (s.chan 18).busy = false → exec (.mgmt p t ok) s =
          .next (let q := (wordsOf 64 t.data).zipIdx.foldl (fun s x => s.modChan 18 (fun c => { c with req := mputD 0 c.req x.2 x.1 })) (s.takeRx p t)
            ({ q with pilot := { q.pilot with mgmtReq := txSrc t } } : State).doMbxSend 18))))

/-- R379, R380, R384-R387, R402: mailboxes and the checks of every request. -/
def Obligations.RequestsWaitAreCheckedAndAnswered : Prop :=
  ∀ (s : State) (ch : Nat),
    let c := s.chan ch
    let q := c.words
    let served (i : Instr) (op : Nat) (body : List Word → State → State) : Prop :=
      (s.serves ch = false ∨ reqOp q ≠ op → exec i s = .next s) ∧
      (s.serves ch = true → reqOp q = op →
        (∀ e, s.reqError ch q = some e → exec i s = .next (s.deny ch e)) ∧
        (s.reqError ch q = none → exec i s = .next (body q s)))
    (s.rst.mode ≠ .held → ch < 20 →
      (c.busy = false → exec (.mbxSend ch) s = .next (s.modChan ch (fun x => { x with busy := true, rspReady := false }))) ∧
      (c.busy = true → s.mbx.length = 20 → ∃ t, exec (.mbxSend ch) s = .next t ∧ (t.chan ch).err = c.err ||| 2 ∧ (t.chan ch).busy = true ∧
        (t.chan ch).rspReady = c.rspReady ∧ ∀ d, d ≠ ch → t.chan d = s.chan d) ∧
      (c.events = [] → exec (.mbxEvtPop ch) s = .next s) ∧
      (∀ e r, c.events = e :: r → s.mbx.length = 20 →
        (c.lost = 0 → ∃ t, exec (.mbxEvtPop ch) s = .next t ∧ (t.chan ch).events = r ∧ (∀ d, d ≠ ch → t.chan d = s.chan d)) ∧
        (c.lost ≠ 0 → ch ≠ 18 → r.length < 64 → ∃ t, exec (.mbxEvtPop ch) s = .next t ∧
          (t.chan ch).events = r ++ [eventWords 0x3F 0 (nextSeq c.evSeq).toNat [w32 c.lost]] ∧ (t.chan ch).lost = 0))) ∧
    (∀ ok, (arbitrate s.pilot.mboxOrder s.asking = none → exec (.epianRequestServe ok) s = .next s) ∧
      (∀ mo n, n = 0 ∨ n = 2 ∨ n = 3 → arbitrate s.pilot.mboxOrder s.asking = some (n, mo) → exec (.epianRequestServe ok) s =
        .next (({ s with pilot := { s.pilot with mboxOrder := mo } }).serveAny ok (if n = 0 then 0 else 16 + n))) ∧
      (∀ mo k co, arbitrate s.pilot.mboxOrder s.asking = some (1, mo) →
        arbitrate s.pilot.chanOrder (fun x => s.serves (1 + x)) = some (k, co) →
        exec (.epianRequestServe ok) s =
          .next (({ s with pilot := { s.pilot with mboxOrder := mo, chanOrder := co } }).serveAny ok (1 + k)))) ∧
    served (.hello ch) 0x01 (State.helloBody ch) ∧ served (.unitmapRead ch) 0x02 (State.unitmapBody ch) ∧
    served (.countsRead ch) 0x03 (State.countsBody ch) ∧ served (.jobCreate ch) 0x10 (State.jobCreateBody ch) ∧
    served (.jobMap ch) 0x11 (State.jobMapBody ch) ∧ served (.jobUnmap ch) 0x12 (State.jobUnmapBody ch) ∧
    served (.jobDestroy ch) 0x13 (State.jobDestroyBody ch) ∧ served (.listPost ch) 0x14 (State.listPostBody ch) ∧
    served (.modelLoad ch) 0x20 (State.modelLoadBody ch) ∧ served (.modelUnload ch) 0x21 (State.modelUnloadBody ch) ∧
    served (.adapterPublish ch) 0x22 (State.adapterPublishBody ch) ∧ served (.prefixAttach ch) 0x23 (State.prefixAttachBody ch) ∧
    served (.streamAdmit ch) 0x30 (State.streamAdmitBody ch) ∧ served (.streamClose ch) 0x31 (State.streamCloseBody ch) ∧
    served (.streamAbort ch) 0x32 (State.streamAbortBody ch) ∧ served (.streamQuery ch) 0x33 (State.streamQueryBody ch) ∧
    served (.streamReserve ch) 0x38 (State.streamReserveBody ch) ∧ served (.streamMigrate ch) 0x39 (State.streamMigrateBody ch) ∧
    served (.streamSettle ch) 0x3A (State.streamSettleBody ch) ∧ served (.powerSet ch) 0x40 (State.powerSetBody ch) ∧
    served (.powerStandby ch) 0x41 (State.powerStandbyBody ch) ∧ served (.partitionQuery ch) 0x42 (State.partitionQueryBody ch) ∧
    served (.partitionShares ch) 0x43 (State.partitionSharesBody ch) ∧ served (.fwWrite ch) 0x50 (State.fwWriteBody ch) ∧
    (∀ sigOk, served (.fwActivate ch sigOk) 0x51 (State.fwActivateBody sigOk ch)) ∧
    served (.clusterRestart ch) 0x52 (State.clusterRestartBody ch) ∧
    (∀ macOk, served (.spdm ch macOk) 0x60 (State.spdmBody macOk ch)) ∧
    (s.mbx.length = 20 → ch < 20 → ch ≠ 18 → ∀ (status : Nat) (job : Word) (ws : List Word), ws.length ≤ 60 →
      let t : State := s.answer ch status job ws
      let word (k : Nat) : Word := mgetD (t.chan ch).rsp k 0
      (t.chan ch).busy = false ∧ (t.chan ch).rspReady = true ∧ (∀ d, d ≠ ch → t.chan d = s.chan d) ∧
      word 0 = w32 (0xE9140004 + 256 * reqOp q + ws.length) ∧ word 1 = w32 (65536 * fld (wd q 1) 31 16 + 256 * status) ∧ word 2 = job ∧
      word 3 = 0 ∧ ∀ k, word (4 + k) = wd ws k)

/-- R22, R320, R322, R384, R386, R387, R389, R390, R394, R395, R402, R445: requests about the device and its jobs. -/
def Obligations.RequestsAboutDeviceJobsAndPower : Prop :=
  ∀ (s : State) (ch : Nat), s.mbx.length = 20 → ch < 20 → mrising s.regs = true →
    let q := (s.chan ch).words
    let go (op : Nat) : Prop := s.serves ch = true ∧ reqOp q = op ∧ s.reqError ch q = none
    let does (i : Instr) (t : State) : Prop := exec i s = .next t
    let gives (i : Instr) (p : State → Prop) : Prop := ∃ t, exec i s = .next t ∧ p t
    let w := wd q 4
    let own (i : Instr) (op : Nat) (any : Bool) : Prop := go op →
      (s.job (reqJob q) = none → does i (s.deny ch 5)) ∧
      ∀ j, s.job (reqJob q) = some j → (j.ch ≠ ch → (any = false ∨ ch ≠ 19) → does i (s.deny ch 4)) ∧
        (j.ch = ch → any = false → s.jobLive j = false → does i (s.deny ch 6))
    (go 0x01 → ch ≠ 18 → does (.hello ch) (s.ok ch
      [s.pilot.version, w32 (fld (s.declWord 0x00C) 7 0 * 256 + 1), s.reg (rhbKey 0 Reg.rhbDevid), s.pilot.change])) ∧
    (go 0x01 → ch = 18 → gives (.hello ch) (fun t => t.pilot.mgmtSrc = some s.pilot.mgmtReq ∧ (t.chan 18).busy = false)) ∧
    (go 0x02 → does (.unitmapRead ch) (s.ok ch ([w32 s.pilot.unitMap.length, s.pilot.change] ++ (s.pilot.unitMap.drop w.toNat).take 56))) ∧
    (go 0x03 → does (.countsRead ch) (s.ok ch (s.countsOf (fld w 7 0)))) ∧
    own (.jobMap ch) 0x11 false ∧ own (.jobUnmap ch) 0x12 false ∧ own (.listPost ch) 0x14 false ∧ own (.jobDestroy ch) 0x13 true ∧
    (go 0x10 →
      let key := fld (wd q 7) 7 0
      let n := fld w 21 16
      let l := (wd q 9).toNat
      let j (c : Nat) : Job :=
        { id := s.pilot.nextJob, ch := ch, ctxId := c, direct := flag w 31, cls := fld w 30 29, mirror := flag w 28, part := fld w 27 24
          ncores := n, client := fld w 7 0, seed := BitVec.ofNat 64 (wd2 q 5), key := key, save := flag (wd q 8) 0, landing := l }
      let bad := n = 0 ∨ 32 < n ∨ (l ≠ 0 ∧ l < 24576)
      let granted := flag (s.grants ch) (fld w 27 24) = true ∧ flag (s.grants ch) (16 + fld w 30 29) = true
      let keyed := key = 0 ∨ (s.keyLoaded key = true ∧ mget s.pilot.keyBind key = some (ch, 0))
      (bad → does (.jobCreate ch) (s.deny ch 1)) ∧
      (¬bad → ¬granted → does (.jobCreate ch) (s.deny ch 3)) ∧
      (¬bad → granted → ¬keyed → does (.jobCreate ch) (s.deny ch 0x0F)) ∧
      (¬bad → granted → keyed → s.freeCtx = none → does (.jobCreate ch) (s.deny ch 7)) ∧
      (∀ c, ¬bad → granted → keyed → s.freeCtx = some c →
        (s.buildSpace (j c) = none → does (.jobCreate ch) (s.deny ch 9)) ∧
        (s.buildSpace (j c) ≠ none → gives (.jobCreate ch) (fun t => t.pilot.jobs = s.pilot.jobs ++ [j c] ∧
          t.pilot.nextJob = s.pilot.nextJob + 1 ∧ t.chan ch = (s.answer ch 0 (w32 s.pilot.nextJob) [w32 c]).chan ch)))) ∧
    (∀ j, s.job (reqJob q) = some j → j.ch = ch → s.jobLive j = true →
      let va := va48 q 5
      let n := (wd q 7).toNat
      (go 0x11 →
        let size := if flag w 31 then 2 ^ 21 else 2 ^ 16
        let bad := n = 0 ∨ va % size ≠ 0 ∨ n % size ≠ 0 ∨ 2 ^ 48 < va + n ∨ (flag w 29 = false ∧ wd2 q 8 ≠ 0)
        let taken := (pagesOf va n (2 ^ 16)).any (s.mapped j.ctxId)
        let mapped := (s.mapFresh j (flag w 31) (flag w 30) (pagesOf va n size)).bind (fun u => u.mapFacet j va n)
        (bad → does (.jobMap ch) (s.deny ch 1)) ∧
        (¬bad → flag w 29 = true → s.partnerMay ch (wd2 q 8) n = false → does (.jobMap ch) (s.deny ch 3)) ∧
        (¬bad → flag w 29 = false → taken = true → does (.jobMap ch) (s.deny ch 6)) ∧
        (¬bad → flag w 29 = false → taken = false → mapped = none → does (.jobMap ch) (s.deny ch 9)) ∧
        (∀ t, ¬bad → flag w 29 = false → taken = false → mapped = some t → does (.jobMap ch) (t.ok ch [])) ∧
        (¬bad → flag w 29 = true → s.partnerMay ch (wd2 q 8) n = true →
          (taken = true ∨ s.readable (wd2 q 8) n = false → does (.jobMap ch) (s.deny ch 6)) ∧
          (taken = false → s.readable (wd2 q 8) n = true → (mapped = none → does (.jobMap ch) (s.deny ch 9)) ∧
            ∀ t, mapped = some t → does (.jobMap ch)
              (((t.noteRead (wd2 q 8) n).fillPages j.ctxId size (pagesOf va n size) (s.readAs hubIdent (wd2 q 8) n)).ok ch [])))) ∧
      (go 0x12 →
        let ps := s.pagesIn j.ctxId va n
        let cut := ps.any (fun p => p.2.big && (decide (p.1 < va) || decide (va + n < p.1 + 2 ^ 21)))
        let bad := n = 0 ∨ va % 2 ^ 16 ≠ 0 ∨ n % 2 ^ 16 ≠ 0
        (bad ∨ cut = true → does (.jobUnmap ch) (s.deny ch 1)) ∧
        (¬bad → cut = false → does (.jobUnmap ch) ((s.releasePages j.ctxId va n ps).ok ch []))) ∧
      (go 0x14 →
        let bad := j.direct = false ∨ j.posted = true
        let locked := flag w 31 = true ∧ flag s.features 0 = false
        (bad → does (.listPost ch) (s.deny ch 6)) ∧ (¬bad → locked → does (.listPost ch) (s.deny ch 3)) ∧
        (¬bad → ¬locked → va % 32 ≠ 0 → does (.listPost ch) (s.deny ch 1)) ∧
        (¬bad → ¬locked → va % 32 = 0 → does (.listPost ch)
          (((s.modJob j.id (fun x => { x with posted := true, listVa := va, compat := flag w 31 })).doLogSchedSubmit j.ctxId).ok ch [])))) ∧
    (∀ j, s.job (reqJob q) = some j → j.ch = ch ∨ ch = 19 → go 0x13 →
      let live := (s.jobStreams j.id).any (fun i => cxLive (s.sctx i))
      (flag w 0 = false → live = true → does (.jobDestroy ch) (s.deny ch 6)) ∧
      (flag w 0 = true ∨ live = false → gives (.jobDestroy ch) (fun t => t.job j.id = none ∧ (t.chan ch).busy = false ∧
        ∀ m r, (m, r) ∈ t.pilot.slots → r.job ≠ j.id))) ∧
    (go 0x40 →
      let ds := setBits 80 ((wd q 5).toNat + 2 ^ 32 * (wd q 6).toNat + 2 ^ 64 * fld (wd q 7) 15 0)
      (flag w 31 = true → does (.powerSet ch) (s.powerFor ch true ds)) ∧
      (flag w 31 = false → ds.any s.domUsed = true → does (.powerSet ch) (s.deny ch 0x0A)) ∧
      (flag w 31 = false → ds.any s.domUsed = false → does (.powerSet ch) (s.powerFor ch false ds.reverse))) ∧
    (go 0x41 →
      (flag w 31 = true → s.pilot.jobs ≠ [] → does (.powerStandby ch) (s.deny ch 6)) ∧
      (flag w 31 = true → s.pilot.jobs = [] → gives (.powerStandby ch) (fun t => t.pilot.standby = true)) ∧
      (flag w 31 = false → s.pilot.standby = false → does (.powerStandby ch) (s.ok ch []))) ∧
    (go 0x42 →
      (16 ≤ w.toNat → does (.partitionQuery ch) (s.deny ch 1)) ∧
      (w.toNat < 16 → gives (.partitionQuery ch) (fun t => (t.chan ch).busy = false ∧
        mgetD (t.chan ch).rsp 4 0 = s.partCores w.toNat ∧
        ∀ n, n < 32 → flag (mgetD (t.chan ch).rsp 5 0) n = s.usable w.toNat n))) ∧
    (go 0x43 →
      let v := wd q 5
      let bad := 16 < fld v 4 0 + fld v 12 8 + fld v 20 16 ∨ v &&& 0xFFE0E0E0#32 ≠ 0#32
      (16 ≤ w.toNat → does (.partitionShares ch) (s.deny ch 1)) ∧
      (w.toNat < 16 → flag s.features 2 = true → does (.partitionShares ch) (s.deny ch 3)) ∧
      (w.toNat < 16 → flag s.features 2 = false → bad → does (.partitionShares ch) (s.deny ch 1)) ∧
      (w.toNat < 16 → flag s.features 2 = false → ¬bad → gives (.partitionShares ch) (fun t => (t.chan ch).busy = false ∧
        ∀ n, n < 32 → fld (t.cReg n Reg.sxShare) 4 0 =
          if flag (s.partCores w.toNat) n = true ∧ s.domOn n = true then fld v 4 0 else fld (s.cReg n Reg.sxShare) 4 0))) ∧
    (go 0x50 →
      (0x100000 < w.toNat + (wd q 5).toNat → does (.fwWrite ch) (s.deny ch 1)) ∧
      (w.toNat + (wd q 5).toNat ≤ 0x100000 → does (.fwWrite ch)
        ((s.flashWrite (slotBase (1 - s.pilot.activeSlot) + w.toNat) ((bytesOf (q.drop 6)).take (wd q 5).toNat)).ok ch []))) ∧
    (go 0x51 → does (.fwActivate ch false) (s.deny ch 0x0C) ∧
      (s.rst.mode ≠ .rom ∨ s.secure.keys ≠ none → gives (.fwActivate ch true) (fun t =>
        t.pilot.activeSlot = 1 - s.pilot.activeSlot ∧ t.rst.mode = .restarting (if s.rst.mode = .rom then 2 else 1) ∧
        t.pilot.serving = some ch ∧ (t.chan ch).busy = true ∧ ∀ c, c < 20 → (t.spdmOf c).session = none)) ∧
      (s.rst.mode = .rom → s.secure.keys = none → gives (.fwActivate ch true) (fun t =>
        t.pilot.activeSlot = 1 - s.pilot.activeSlot ∧ t.rst = s.rst ∧ (t.chan ch).busy = false))) ∧
    (go 0x52 → gives (.clusterRestart ch) (fun t => t.pilot.clusterUp = false ∧ t.pilot.clusterRestart = some 0 ∧ (t.chan ch).busy = false)) ∧
    (s.pilot.clusterUp = true → s.rst.mode = .running → gives .clusterWatchdog (fun t =>
      t.pilot.clusterUp = false ∧ t.pilot.clusterRestart = some 1)) ∧
    (s.pilot.clusterUp = false ∨ s.rst.mode ≠ .running → does .clusterWatchdog s) ∧
    (∀ cause, s.pilot.clusterRestart = some cause →
      (s.rst.mode = .running → s.domOpen 78 = true → s.powerSettled = true → gives .clusterRestarted (fun t => t.pilot.clusterRestart = none)) ∧
      (s.rst.mode ≠ .running ∨ s.domOpen 78 = false ∨ s.powerSettled = false → does .clusterRestarted s)) ∧
    (s.pilot.clusterRestart = none → does .clusterRestarted s) ∧
    (s.pilotUp = true → gives .pilotWatchdog (fun t => t.rst.mode = .restarting 0 ∧ t.pilot.serving = s.pilot.serving ∧
      t.pilot.jobs = s.pilot.jobs ∧ t.cores = s.cores)) ∧
    (s.pilotUp = false → does .pilotWatchdog s) ∧
    ((∀ cause, s.rst.mode ≠ .restarting cause) → does .pilotRestarted s) ∧
    (s.rst.mode = .restarting 0 → s.pilot.serving = some ch → (s.chan ch).busy = true → ch ≠ 18 →
      gives .pilotRestarted (fun t => t.pilot.serving = none ∧ (t.chan ch).busy = false ∧ (t.chan ch).rspReady = true ∧
        fld (mgetD (t.chan ch).rsp 1 0) 15 8 = 0x0D))

/-- R60, R70, R74, R258, R259, R370, R373, R386-R388, R392: requests about models and streams. -/
def Obligations.RequestsAboutModelsAndStreams : Prop :=
  (∀ (s : State) (ch : Nat) (j : Job), s.mbx.length = 20 → ch < 20 → s.job (reqJob (s.chan ch).words) = some j → j.ch = ch →
    let q := (s.chan ch).words
    let go (op : Nat) : Prop := s.serves ch = true ∧ reqOp q = op ∧ s.reqError ch q = none
    let does (i : Instr) (t : State) : Prop := exec i s = .next t
    let gives (i : Instr) (p : State → Prop) : Prop := ∃ t, exec i s = .next t ∧ p t
    let w := wd q 4
    let m := fld w 7 0
    (s.jobLive j = true →
      (go 0x20 →
        (j.direct = true → does (.modelLoad ch) (s.deny ch 6)) ∧
        (j.direct = false → m ≠ 255 → msValid (s.mslot m) = true → does (.modelLoad ch) (s.deny ch 6)) ∧
        (j.direct = false → m = 255 → (∀ x, x < 256 → msValid (s.mslot x) = true) → does (.modelLoad ch) (s.deny ch 7)) ∧
        (∀ x, j.direct = false → s.settleSlot m = .ok x →
          (s.image j.ctxId (va48 q 5) (wd q 7).toNat = none → does (.modelLoad ch)
            ((if s.rangeMapped j.ctxId (va48 q 5) (wd q 7).toNat false = true then s.ctxNote j.ctxId (va48 q 5) (wd q 7).toNat else s).deny ch 0x0C)) ∧
          (∀ bs, s.image j.ctxId (va48 q 5) (wd q 7).toNat = some bs → gives (.modelLoad ch) (fun t =>
            (t.chan ch).busy = false ∧ mgetD (t.chan ch).rsp 4 0 = w32 x ∧
            mgetD (t.chan ch).rsp 5 0 = w32 ((wd (imgHdr bs) 7).toNat * (s.usableCores j.part).length / 32))))) ∧
      (go 0x21 →
        (s.jobSlot j m = none → does (.modelUnload ch) (s.deny ch 5)) ∧
        (s.jobSlot j m ≠ none → (mkeys s.fe.streams).any (fun i => cxState (s.sctx i) != 0 && cxModel (s.sctx i) == m) = true →
          does (.modelUnload ch) (s.deny ch 6)) ∧
        (s.jobSlot j m ≠ none → (mkeys s.fe.streams).any (fun i => cxState (s.sctx i) != 0 && cxModel (s.sctx i) == m) = false →
          mrising s.pilot.slots = true → gives (.modelUnload ch) (fun t => (t.chan ch).busy = false ∧ mget t.pilot.slots m = none))) ∧
      (go 0x22 →
        (s.jobSlot j m = none → does (.adapterPublish ch) (s.deny ch 5)) ∧
        (∀ r, s.jobSlot j m = some r →
          (r.adpDir = 0 → does (.adapterPublish ch) (s.deny ch 6)) ∧
          (r.adpDir ≠ 0 → (∀ e, e < 4 → s.adpValid j.ctxId r.adpDir e = true) → does (.adapterPublish ch) (s.deny ch 0x0B)) ∧
          (r.adpDir ≠ 0 → (∃ e, e < 4 ∧ s.adpValid j.ctxId r.adpDir e = false) → mrising s.pilot.slots = true →
            let last := (r.adapters.getLast?.map AdapterRec.gen).getD 0
            gives (.adapterPublish ch) (fun t => (t.chan ch).busy = false ∧
              (mget t.pilot.slots m).map (fun x => x.adapters.map AdapterRec.gen) =
                some (r.adapters.map AdapterRec.gen ++ [if last = 65535 then 1 else last + 1]))))) ∧
      (go 0x23 →
        (s.jobHandle j w = none → does (.prefixAttach ch) (s.deny ch 5)) ∧
        (∀ i r, s.jobHandle j w = some i → mget s.pilot.slots (cxModel (s.sctx i)) = some r →
          let pages := fld (wd q 5) 15 8
          let pool := fld (wd q 5) 5 0
          let bad := pages = 0 ∨ 64 < pages ∨ va48 q 6 % 2 ^ 22 ≠ 0 ∨ (wd q 8).toNat < 256 * (pages - 1) + 1 ∨ 256 * pages < (wd q 8).toNat
          let late := r.kvRecCount = 0 ∨ cxAccept (s.sctx i) ≠ 0 ∨ cxLive (s.sctx i) = false ∨ s.poolOf pool j.ctxId = false
          let xs := (List.range r.kvRecCount).flatMap (fun k => (List.range pages).map (fun p => 64 * k + p))
          (bad → does (.prefixAttach ch) (s.deny ch 1)) ∧
          (¬bad → late → does (.prefixAttach ch) (s.deny ch 6)) ∧
          (¬bad → ¬late → s.attachAll j.ctxId i pool (va48 q 6) xs = none → does (.prefixAttach ch) (s.deny ch 6)) ∧
          (¬bad → ¬late → s.attachAll j.ctxId i pool (va48 q 6) xs ≠ none → gives (.prefixAttach ch) (fun t =>
            (t.chan ch).busy = false ∧ fld (mgetD (t.chan ch).rsp 1 0) 15 8 = 0)))) ∧
      (go 0x30 →
        (admitMalformed q = true → does (.streamAdmit ch) (s.deny ch 1)) ∧
        (admitMalformed q = false → s.jobSlot j m = none → does (.streamAdmit ch) (s.deny ch 5)) ∧
        (∀ r, admitMalformed q = false → s.jobSlot j m = some r →
          (ceState (s.cent j.ctxId) ≠ 2 → does (.streamAdmit ch) (s.deny ch 6)) ∧
          (ceState (s.cent j.ctxId) = 2 → s.freeStreamCtx = none → does (.streamAdmit ch) (s.deny ch 7)) ∧
          (∀ i, ceState (s.cent j.ctxId) = 2 → s.freeStreamCtx = some i →
            let full := 256 * msCapacity (s.mslot m) < s.loadOf (s.slotStreams m) + (wd q 6).toNat
            (full → does (.streamAdmit ch) (s.deny ch 8)) ∧
            (¬full → s.initImage j r (wd (s.mslot m) 2).toNat = none → does (.streamAdmit ch) (s.deny ch 6)) ∧
            (∀ img, ¬full → s.initImage j r (wd (s.mslot m) 2).toNat = some img →
              (s.stateReadOnly j m i = true → does (.streamAdmit ch) (s.deny ch 6)) ∧
              (s.stateReadOnly j m i = false → s.kvFits r img = false ∨ s.mapPools j m i = none → does (.streamAdmit ch) (s.deny ch 9)) ∧
              (s.stateReadOnly j m i = false → s.kvFits r img = true → s.mapPools j m i ≠ none → gives (.streamAdmit ch) (fun t =>
                (t.chan ch).busy = false ∧ t.log.admission = (s.log.admission + 1) % 2 ^ 64 ∧
                (mrising s.fe.streams = true → (t.strm i).bind = bindingOf j q ∧ (t.strm i).tokAt = s.now))))))) ∧
      (go 0x38 →
        (s.jobSlot j m = none → does (.streamReserve ch) (s.deny ch 5)) ∧
        (s.jobSlot j m ≠ none → s.freeStreamCtx = none → does (.streamReserve ch) (s.deny ch 7)) ∧
        (∀ i, s.jobSlot j m ≠ none → s.freeStreamCtx = some i →
          (s.mapPools j m i = none → does (.streamReserve ch) (s.deny ch 9)) ∧
          (s.mapPools j m i ≠ none → mrising s.pilot.reserved = true → gives (.streamReserve ch) (fun t => (t.chan ch).busy = false ∧
            ∃ h, mget t.pilot.reserved i = some { handle := h, slot := m, since := s.now, job := j.id, ch := ch } ∧
              mgetD (t.chan ch).rsp 4 0 = h ∧ fld h 15 0 = i)))) ∧
      (go 0x39 →
        (s.jobHandle j w = none → does (.streamMigrate ch) (s.deny ch 5)) ∧
        (∀ i, s.jobHandle j w = some i →
          let bad := cxState (s.sctx i) ≠ 1 ∨ (s.strm i).migrating = true
          let kv := ((mget s.pilot.slots (cxModel (s.sctx i))).map SlotRec.kvRecCount).getD 0
          (bad → does (.streamMigrate ch) (s.deny ch 6)) ∧
          (¬bad → j.key = 0 ∨ kv ≠ 0 → does (.streamMigrate ch) (s.deny ch 0x0E)) ∧
          (¬bad → j.key ≠ 0 → kv = 0 → gives (.streamMigrate ch) (fun t => (t.chan ch).busy = false ∧
            t.rhb.migOut = s.rhb.migOut ++ [{ ctx := i, dev := fld (wd q 5) 19 0, key := j.key, newHandle := wd q 6 }] ∧
            (mrising s.fe.streams = true → t.strm i = { s.strm i with migrating := true })))))) ∧
    (go 0x31 →
      (s.jobHandle j w = none → does (.streamClose ch) (s.deny ch 5)) ∧
      (∀ i, s.jobHandle j w = some i → does (.streamClose ch) (State.ok
        (if cxState (s.sctx i) = 3 then s.freeStream i else if cxState (s.sctx i) = 1 then s.beginClose i (wd q 5) else s) ch []))) ∧
    (go 0x32 →
      (s.jobHandle j w = none → does (.streamAbort ch) (s.deny ch 5)) ∧
      (∀ i, s.jobHandle j w = some i → does (.streamAbort ch)
        ((if cxState (s.sctx i) = 3 then s.freeStream i else s.abortStream i).ok ch []))) ∧
    (go 0x33 →
      (s.jobHandle j w = none → does (.streamQuery ch) (s.deny ch 5)) ∧
      (∀ i, s.jobHandle j w = some i →
        does (.streamQuery ch) (s.ok ch (((s.sctx i).set 10 (w32 (s.tokensAt i s.now).1)).take 13))))) ∧
  (∀ (s : State) (ch : Nat), s.serves ch = true → reqOp (s.chan ch).words = 0x3A → s.reqError ch (s.chan ch).words = none →
    let h := wd (s.chan ch).words 4
    let i := hIndex h
    let owner := flag (wd (s.chan ch).words 5) 0
    let does (t : State) : Prop := exec (.streamSettle ch) s = .next t
    (∀ x r, s.rhb.migIn.find? (fun x => x.handle == h) = some x → s.reservation h = some r →
      (s.maySettle ch r.job = false → does (s.deny ch 4)) ∧
      (s.maySettle ch r.job = true → x.committed = true → does (s.deny ch 6)) ∧
      (s.maySettle ch r.job = true → x.committed = false → owner = true → x.complete = true → does ((s.migAccept r x).ok ch [])) ∧
      (s.maySettle ch r.job = true → x.committed = false → owner = true → x.complete = false → does (s.deny ch 6)) ∧
      (s.maySettle ch r.job = true → x.committed = false → owner = false → does (((s.dropMigIn h).migInEvent r x 0x21 0).ok ch []))) ∧
    (∀ x, s.rhb.migIn.find? (fun x => x.handle == h) = some x → s.reservation h = none →
      (x.committed = false ∨ s.handleLive h = false → does (s.deny ch 5)) ∧
      (x.committed = true → s.handleLive h = true →
        (s.maySettle ch (s.strm i).bind.job = false → does (s.deny ch 4)) ∧
        (s.maySettle ch (s.strm i).bind.job = true → does ((if owner = true then s else s.migGone i).ok ch [])))) ∧
    (s.rhb.migIn.find? (fun x => x.handle == h) = none →
      (s.handleLive h = true → s.maySettle ch (s.strm i).bind.job = true → (s.strm i).inDoubt = true → owner = true →
        does (((s.modStrm i (fun x => { x with migrating := false, inDoubt := false })).modRhb (fun r =>
          { r with migOut := r.migOut.filter (fun m => m.ctx != i) })).ok ch [])) ∧
      (s.handleLive h = false → does (s.deny ch 5)) ∧
      (s.handleLive h = true → s.maySettle ch (s.strm i).bind.job = false → does (s.deny ch 4)) ∧
      (s.handleLive h = true → s.maySettle ch (s.strm i).bind.job = true → (s.strm i).inDoubt = false → does (s.deny ch 6)) ∧
      (s.handleLive h = true → s.maySettle ch (s.strm i).bind.job = true → (s.strm i).inDoubt = true → owner = false →
        does ((s.migGone i).ok ch [])))) ∧
  (∀ (s : State) (m gen : Nat),
    (mget s.pilot.slots m = none ∨ s.firmwareRuns = false → exec (.adapterReclaim m gen) s = .next s) ∧
    (∀ r, mget s.pilot.slots m = some r → (∀ a ∈ r.adapters, a.gen = gen → a.after = none) → exec (.adapterReclaim m gen) s = .next s) ∧
    (∀ r a b, mget s.pilot.slots m = some r → r.adapters.find? (fun a => a.gen == gen) = some a → a.after = some b →
      (b.all s.pastAdapter = false → exec (.adapterReclaim m gen) s = .next s) ∧
      (b.all s.pastAdapter = true → s.firmwareRuns = true → mrising s.pilot.slots = true →
        ∃ t, exec (.adapterReclaim m gen) s = .next t ∧
          mget t.pilot.slots m = some { r with adapters := r.adapters.filter (fun x => x.gen != gen) }))) ∧
  (∀ (s : State) (i : Nat),
    (mget s.pilot.reserved i = none → exec (.reservationLapse i) s = .next s) ∧
    (∀ r, mget s.pilot.reserved i = some r →
      (s.now < r.since + 10000000 → exec (.reservationLapse i) s = .next s) ∧
      (r.since + 10000000 ≤ s.now → s.rhb.migIn.find? (fun x => x.handle == r.handle && !x.committed) = none →
        exec (.reservationLapse i) s = .next { s with pilot := { s.pilot with reserved := mdel s.pilot.reserved i } }) ∧
      (∀ x, r.since + 10000000 ≤ s.now → s.rhb.migIn.find? (fun x => x.handle == r.handle && !x.committed) = some x →
        (x.complete = true → x.inDoubt = true → exec (.reservationLapse i) s = .next s) ∧
        (x.complete = true → x.inDoubt = false →
          exec (.reservationLapse i) s = .next ((s.modMigIn x.handle (fun x => { x with inDoubt := true })).migInEvent r x 0x22 0)) ∧
        (x.complete = false → exec (.reservationLapse i) s = .next ((s.dropMigIn r.handle).migInEvent r x 0x21 0)))))

/-- R408, R410-R414: SPDM, sessions and keys. -/
def Obligations.AttestationSessionsAndKeys : Prop :=
  ∀ (s : State) (ch : Nat), s.mbx.length = 20 → s.pilot.spdm.length = 20 → ch < 20 →
    let q := (s.chan ch).words
    let c := s.spdmOf ch
    let kinds : List (Instr × Nat) :=
      [(.getVersion ch, 0x84), (.getCapabilities ch, 0xE1), (.negotiateAlgorithms ch, 0xE3), (.getDigests ch, 0x81), (.getCertificate ch, 0x82),
       (.challenge ch, 0x83), (.getMeasurements ch, 0xE0), (.keyExchange ch, 0xE4), (.finish ch true, 0xE5), (.finish ch false, 0xE5),
       (.heartbeat ch, 0xE8), (.keyUpdate ch, 0xE9), (.endSession ch, 0xEC), (.chunkSend ch, 0x85), (.chunkGet ch, 0x86), (.keyLoad ch, 0x4B01),
       (.keyClear ch, 0x4B02), (.keyStatus ch, 0x4B03)]
    let go : Prop := s.serves ch = true ∧ reqOp q = 0x60 ∧ s.reqError ch q = none
    let sends (u : State) (sec : Bool) (r : List Byte) : State := u.ok ch (w32 (b2n sec * 2 ^ 31 + r.length) :: padWords r)
    let does (i : Instr) (t : State) : Prop := exec i s = .next t
    let gives (i : Instr) (p : State → Prop) : Prop := ∃ t, exec i s = .next t ∧ (t.chan ch).busy = false ∧ p t
    (∀ i k, (i, k) ∈ kinds → s.spdmKind ch ≠ k ∨ s.serves ch = false ∨ reqOp q ≠ 0x60 → does i s) ∧
    (∀ m : List Byte, go → spdmIn q = (false, m) → 4 ≤ m.length →
      let is (code : Nat) : Prop := byteAt m 0 = 0x13 ∧ byteAt m 1 = code
      let note (r : List Byte) : State := s.modSpdm ch (fun x => { x with transcript := x.transcript ++ m ++ r })
      (byteAt m 1 = 0x84 → byteAt m 0 = 0x10 →
        let r : List Byte := [0x10, 0x04, 0, 0, 0, 1, 0, 0x13]
        does (.getVersion ch) (sends (s.modSpdm ch (fun x =>
          { x with stage := 1, transcript := m ++ r, chunkReq := none, chunkRsp := none })) false r)) ∧
      (byteAt m 1 = 0x84 → byteAt m 0 ≠ 0x10 → does (.getVersion ch) (sends s false (spdmErr 0x41))) ∧
      (is 0xE1 → (c.stage = 0 → does (.getCapabilities ch) (sends s false (spdmErr 4))) ∧
        (c.stage ≠ 0 → gives (.getCapabilities ch) (fun t => (t.spdmOf ch).stage = 2))) ∧
      (is 0xE3 → (c.stage < 2 → does (.negotiateAlgorithms ch) (sends s false (spdmErr 4))) ∧
        (2 ≤ c.stage → algsOffered m = false → does (.negotiateAlgorithms ch) (sends s false (spdmErr 1))) ∧
        (2 ≤ c.stage → algsOffered m = true → gives (.negotiateAlgorithms ch) (fun t => (t.spdmOf ch).stage = 3))) ∧
      (c.stage < 3 → (is 0x81 → does (.getDigests ch) (sends s false (spdmErr 4))) ∧
        (is 0x82 → does (.getCertificate ch) (sends s false (spdmErr 4))) ∧ (is 0x83 → does (.challenge ch) (sends s false (spdmErr 4))) ∧
        (is 0xE0 → does (.getMeasurements ch) (sends s false (spdmErr 4))) ∧ (is 0xE4 → does (.keyExchange ch) (sends s false (spdmErr 4)))) ∧
      (3 ≤ c.stage →
        (is 0x81 → let r := spdmMsg 1 0 1 (digest Config.certChain); does (.getDigests ch) (sends (note r) false r)) ∧
        (is 0x82 → (byteAt m 2 ≠ 0 ∨ Config.certChain.length < fieldAt m 4 2 → does (.getCertificate ch) (sends s false (spdmErr 1))) ∧
          (byteAt m 2 = 0 → fieldAt m 4 2 ≤ Config.certChain.length → gives (.getCertificate ch) (fun t =>
            c.transcript ++ m <+: (t.spdmOf ch).transcript ∧ (t.spdmOf ch).session = c.session))) ∧
        (is 0x83 → byteAt m 2 = 0 → byteAt m 3 = 0xFF ∨ byteAt m 3 = 0 → gives (.challenge ch) (fun t =>
          c.transcript ++ m <+: (t.spdmOf ch).transcript ∧ (t.spdmOf ch).session = c.session)) ∧
        (is 0xE0 → byteAt m 3 ≤ 9 ∨ byteAt m 3 = 0xFF → gives (.getMeasurements ch) (fun t =>
          c.transcript ++ m <+: (t.spdmOf ch).transcript ∧ (t.spdmOf ch).session = c.session)) ∧
        (is 0xE4 → byteAt m 3 = 0 → byteAt m 2 = 0 ∨ byteAt m 2 = 1 ∨ byteAt m 2 = 0xFF → gives (.keyExchange ch) (fun t =>
          (t.spdmOf ch).session = some { id := fieldAt m 4 2 + 65536 * ((c.opened + 1) % 65536), last := s.now }))) ∧
      (is 0xE5 → ∀ ok, does (.finish ch ok) (sends s false (spdmErr 4))) ∧ (is 0xE8 → does (.heartbeat ch) (sends s false (spdmErr 4))) ∧
      (is 0xE9 → does (.keyUpdate ch) (sends s false (spdmErr 4))) ∧ (is 0xEC → does (.endSession ch) (sends s false (spdmErr 4))) ∧
      (byteAt m 1 = 0x85 → fieldAt m 4 2 = 0 → byteAt m 2 % 2 = 0 → fieldAt m 12 4 ≤ 8192 →
        ((m.drop 16).take (fieldAt m 8 4)).length ≤ fieldAt m 12 4 → gives (.chunkSend ch) (fun t =>
          (t.spdmOf ch).chunkReq = some (byteAt m 3, 1, fieldAt m 12 4, (m.drop 16).take (fieldAt m 8 4)))) ∧
      (byteAt m 1 = 0x86 → c.chunkRsp = none → does (.chunkGet ch) (sends s false (spdmErr 4))) ∧
      (∀ h n bs, byteAt m 1 = 0x86 → c.chunkRsp = some (h, n, bs) →
        (byteAt m 3 ≠ h ∨ fieldAt m 4 2 ≠ n → does (.chunkGet ch) (sends s false (spdmErr 1))) ∧
        (byteAt m 3 = h → fieldAt m 4 2 = n → gives (.chunkGet ch) (fun t =>
          let k := if n = 0 then 220 else 224
          (t.spdmOf ch).chunkRsp = if bs.length ≤ k then none else some (h, n + 1, bs.drop k))))) ∧
    (∀ (bs : List Byte) (x : SpdmSession), go → spdmIn q = (true, bs) → c.session = some x → fieldAt bs 0 4 = x.id → 4 ≤ (bs.drop 4).length →
      let m := bs.drop 4
      let is (code : Nat) : Prop := byteAt m 0 = 0x13 ∧ byteAt m 1 = code
      let u : State := s.modSpdm ch (fun y => { y with session := some { x with last := s.now } })
      let w := wd (wordsOf 11 m) 0
      let k := fld w 7 0
      let key := (wordsOf 11 m).drop 3
      (isKeyMsg m = false →
        (x.established = false → is 0xE5 → gives (.finish ch true) (fun t =>
            (t.spdmOf ch).session = some { x with last := s.now, established := true }) ∧
          does (.finish ch false) (sends u true (bs.take 4 ++ spdmErr 6))) ∧
        (x.established = true →
          (is 0xE8 → does (.heartbeat ch) (sends u true (bs.take 4 ++ spdmMsg 0x68 0 0 []))) ∧
          (is 0xE9 → does (.keyUpdate ch) (sends u true (bs.take 4 ++ spdmKeyUpdate m))) ∧
          (is 0xEC → gives (.endSession ch) (fun t => (t.spdmOf ch).session = none)))) ∧
      (isKeyMsg m = true → fld w 15 8 = 0 → wd (wordsOf 11 m) 1 = 0 → wd (wordsOf 11 m) 2 = 0 → fld w 23 16 = byteAt m 2 →
        (x.established = false → m.length = 12 → byteAt m 2 = 3 → does (.keyStatus ch) (sends u true (bs.take 4 ++ spdmErr 4))) ∧
        (x.established = true → ch ≠ 18 → mrising s.rhb.keys = true → mrising s.pilot.keyBind = true →
          (m.length = 44 → byteAt m 2 = 1 →
            (k = 0 ∧ ch < 18 ∨ k ≠ 0 ∧ 18 ≤ ch → gives (.keyLoad ch) (fun t => t.rhb = s.rhb)) ∧
            (k ≠ 0 → ch < 18 → s.keyLoaded k = false → (∃ y, y ∈ key ∧ y ≠ 0) → gives (.keyLoad ch) (fun t =>
              mget t.rhb.keys k = some key ∧ mget t.pilot.keyBind k = some (ch, 0))) ∧
            (k ≠ 0 → ch < 18 → (∀ y, y ∈ key → y = 0) ∨ s.keyLoaded k = true → gives (.keyLoad ch) (fun t => t.rhb = s.rhb))) ∧
          (m.length = 12 → byteAt m 2 = 2 →
            (k ≠ 0 → mget s.pilot.keyBind k = some (ch, 0) → gives (.keyClear ch) (fun t =>
              mget t.rhb.keys k = none ∧ mget t.pilot.keyBind k = none)) ∧
            (∀ b, k ≠ 0 → mget s.pilot.keyBind k = some b → b ≠ (ch, 0) → gives (.keyClear ch) (fun t =>
              t.rhb = s.rhb ∧ t.pilot.keyBind = s.pilot.keyBind))) ∧
          (m.length = 12 → byteAt m 2 = 3 → gives (.keyStatus ch) (fun t => t.rhb = s.rhb ∧ t.pilot.keyBind = s.pilot.keyBind))))) ∧
    (c.session = none → does (.sessionHeartbeatTimeout ch) s) ∧
    (∀ x, c.session = some x →
      (s.now < x.last + 120000000 ∨ s.firmwareRuns = false → does (.sessionHeartbeatTimeout ch) s) ∧
      (x.last + 120000000 ≤ s.now → s.firmwareRuns = true → ∃ t, exec (.sessionHeartbeatTimeout ch) s = .next t ∧
        (t.spdmOf ch).session = none ∧ t.mbx = s.mbx))

/-- R436, R437: JTAG. -/
def Obligations.JtagSelectsAndReachesRegisters : Prop :=
  (∀ s : State,
      exec .tapReset s = .next { s with jtag := { s.jtag with ir := 0x01, outputs := .functional } } ∧
      exec .idcode s = .next { s with jtag := { s.jtag with ir := 0x01, outputs := .functional, data := idCode } } ∧
      (idCode = if Config.steppingB0 then 0x132A89A7 else 0x032A89A7) ∧
      exec .samplePreload s = .next { s with jtag := { s.jtag with ir := 0x02, outputs := .functional } } ∧
      exec .extest s = .next { s with jtag := { s.jtag with ir := 0x03, outputs := .driven } } ∧
      exec .clamp s = .next { s with jtag := { s.jtag with ir := 0x04, outputs := .held } } ∧
      exec .highz s = .next { s with jtag := { s.jtag with ir := 0x05, outputs := .highz } } ∧
      exec .bypass s = .next { s with jtag := { s.jtag with ir := 0xFF, outputs := .functional } }) ∧
  (∀ (s : State) (dr : Nat),
      (s.jtagMay = false → ∃ t, exec (.regAccess dr) s = .next t ∧ t.jtag.status = 3 ∧ { t with jtag := s.jtag } = s) ∧
      (s.jtagMay = true →
        ∃ t u, exec (.regAccess dr) s = .next t ∧
          u = { s with jtag := { s.jtag with ir := 0x20, outputs := .functional, write := decide (dr % 2 = 1), offset := bits dr 1 24 } } ∧
          (dr % 2 = 1 → { t with jtag := (u.busWrite .jtag (0xF0000000000 + 4 * bits dr 1 24) 4 (w32 (bits dr 25 32))).jtag } =
            u.busWrite .jtag (0xF0000000000 + 4 * bits dr 1 24) 4 (w32 (bits dr 25 32))) ∧
          (dr % 2 = 0 → { t with jtag := (u.busRead .jtag (0xF0000000000 + 4 * bits dr 1 24) 4).jtag } =
            u.busRead .jtag (0xF0000000000 + 4 * bits dr 1 24) 4) ∧
          t.jtag.data = t.bus.data ∧ (t.jtag.status = 1 ↔ t.bus.err = true) ∧ t.jtag.ir = 0x20))

/-- R439: debounce of a pin, with its frame. -/
def Obligations.GpioDebounce : Prop :=
  ∀ (s : State) (n : Nat), n < 16 → s.gpio.length = 16 → mrising s.regs = true →
    (∀ level, (s.pin n).level ≠ level →
      ∃ t, exec (.gpioInputChange n level) s = .next t ∧
        t.pin n = { level := level, accepted := (s.pin n).accepted, since := s.now } ∧ (∀ m, m ≠ n → t.pin m = s.pin m) ∧
        t.reg Reg.pwrCntGpioBounce = s.reg Reg.pwrCntGpioBounce +
          (if (s.pin n).level ≠ (s.pin n).accepted ∧ s.rst.mode ≠ .held then 1 else 0) ∧
        { t with gpio := s.gpio, regs := s.regs } = s) ∧
    (let g := s.pin n
     g.level ≠ g.accepted →
      if g.since + fld (s.reg (Reg.pwrGpioDeb + 4 * n)) 9 0 ≤ s.now ∧ s.rst.mode ≠ .held then
        ∃ t, exec (.gpioDebounceAccept n) s = .next t ∧ t.pin n = { g with accepted := g.level } ∧ (∀ m, m ≠ n → t.pin m = s.pin m) ∧
          { t with gpio := s.gpio, regs := s.regs, gpioLine := s.gpioLine } = s ∧
          (if flag (s.reg (if g.level then Reg.pwrGpioRiseEn else Reg.pwrGpioFallEn)) n then
            t.gpioLine = true ∧ t.reg Reg.pwrGpioEvt = s.reg Reg.pwrGpioEvt ||| w32 (2 ^ n)
          else t.gpioLine = s.gpioLine ∧ t.regs = s.regs)
      else exec (.gpioDebounceAccept n) s = .next s)

/-- R427-R430: temperatures, the average power and DUTY. -/
def Obligations.ThermalAndPowerControl : Prop :=
  (∀ (s : State) (r : List Int), s.rst.mode ≠ .held → r.length = 44 →
      ((∀ k < 44, s.sensorOn k → r.getD k 0 < tripAt k) →
        ∃ t, exec (.temperatureSample r) s = .next t ∧ t.therm.temps = r ∧
          (t.therm.alert = true ↔ (∃ k < 44, s.sensorOn k ∧ s.alertAt k ≤ r.getD k 0) ∨
            (s.therm.alert = true ∧ ∃ k < 44, s.sensorOn k ∧ s.alertAt k - 3 ≤ r.getD k 0)) ∧
          { t with therm := { t.therm with temps := s.therm.temps, tripCount := s.therm.tripCount, alert := s.therm.alert } } = s) ∧
      ((∃ k < 44, s.sensorOn k ∧ tripAt k ≤ r.getD k 0 ∧ 1 ≤ s.therm.tripCount.getD k 0) →
        ∃ t, exec (.temperatureSample r) s = .next t ∧ t.rst.thermTrip = true ∧ t.rst.tripHeld = true ∧ s.afterReset t 0)) ∧
  (∀ (s : State), s.rst.mode ≠ .held → mrising s.regs = true →
      (∀ w, exec (.powerAverage w) s = .next { s with therm := { s.therm with power := w } }) ∧
      ∃ t, exec .gateDutyUpdate s = .next t ∧
        ((fld (s.reg Reg.pwrLimit) 10 0 < s.therm.power ∨ (s.therm.alert = true ∧ flag (s.reg Reg.pwrThermCtrl) 31 = true)) →
          t.therm.duty = max 4 (s.therm.duty - 1)) ∧
        (¬ (fld (s.reg Reg.pwrLimit) 10 0 < s.therm.power ∨ (s.therm.alert = true ∧ flag (s.reg Reg.pwrThermCtrl) 31 = true)) →
          t.therm.duty = min 16 (s.therm.duty + 1)) ∧
        t.reg Reg.pwrCntGated = s.reg Reg.pwrCntGated + (if s.therm.duty < 16 then 1 else 0) ∧
        (4 ≤ s.therm.duty ∧ s.therm.duty ≤ 16 → 4 ≤ t.therm.duty ∧ t.therm.duty ≤ 16) ∧
        { t with therm := { t.therm with duty := s.therm.duty }, regs := s.regs } = s)

/-- R399, R402, R406, R407, R425, R431, R433: full resets and their release. -/
def Obligations.FullResetAndRelease : Prop :=
  (∀ s : State,
      (s.rst.tripHeld = false → ∃ t, exec .resetNLow s = .next t ∧ t.rst.pinHeld = true ∧ s.afterReset t 2) ∧
      (s.rst.tripHeld = true → exec .resetNLow s = .next { s with rst := { s.rst with pinHeld := true } }) ∧
      (∀ rails r, (setBits 12 rails).head? = some r → rails.testBit 1 = false →
        ∃ t, exec (.railUndervoltage rails) s = .next t ∧ t.rst.railHeld = true ∧
          (s.setReg Reg.pwrResetCause (setFld (s.reg Reg.pwrResetCause) 11 8 r)).afterReset t 4) ∧
      (∃ t, exec (.refclkLoss 0) s = .next t ∧ t.rst.clkHeld = true ∧ s.afterReset t 8)) ∧
  (∀ (s : State) (b : BootIn), s.rst.mode = .held → s.rst.tripHeld = false →
      (∀ c s', (c = .resetNRelease b ∧ s.rst.railHeld = false ∧ s.rst.clkHeld = false ∧ s' = { s with rst := { s.rst with pinHeld := false } }) ∨
          (c = .railRestored b ∧ s.rst.pinHeld = false ∧ s.rst.clkHeld = false ∧ s' = { s with rst := { s.rst with railHeld := false } }) ∨
          (c = .refclkRestored 0 b ∧ s.rst.pinHeld = false ∧ s.rst.railHeld = false ∧
            s' = { s with rst := { s.rst with refLost := s.rst.refLost &&& ~~~ 1#7, clkHeld := false } }) →
        exec c s = .next (s'.boot b) ∧
        (s.bootSlot b = none ∨ 9 ≤ b.dsFails ∨ b.idOk = false → ∃ t, exec c s = .next t ∧ t.rst.mode = .rom ∧ t.rst.strap = b.straps % 8 ∧
          t.pilot.bootCount = s.pilot.bootCount + 1 ∧ t.pwr = s.pwr ∧ t.mem = s.mem)) ∧
      (s.rst.clkHeld = true → exec (.resetNRelease b) s = .next { s with rst := { s.rst with pinHeld := false } }) ∧
      (s.boot b).secure.tries = min 9 (b.dsFails + 1) ∧ (s.boot b).secure.ds = List.replicate 32 0 ∧
      (b.dsFails < 9 → b.idOk = true → (s.boot b).secure.keys = some (deriveKeys Config.deviceSecret)) ∧
      (9 ≤ b.dsFails ∨ b.idOk = false → (s.boot b).secure.keys = none))

/-- R404, R431, R434: port clocks and the host. -/
def Obligations.PortClocksAndHostResets : Prop :=
  (∀ (s : State) (b : BootIn),
      exec (.refclkLoss 1) s = .next { s with rst := { s.rst with refLost := s.rst.refLost ||| 2#7 }, pilot := { s.pilot with hostLink := false } } ∧
      exec (.refclkLoss 2) s = .next { s with rst := { s.rst with refLost := s.rst.refLost ||| 4#7 }, fe := { s.fe with linkDown := [true, true] } } ∧
      (∀ p < 4, s.portUp p = true → exec (.refclkLoss (3 + p)) s =
        .next (({ s with rst := { s.rst with refLost := s.rst.refLost ||| BitVec.ofNat 7 (2 ^ (3 + p)) } }).linkDown p false)) ∧
      exec (.refclkRestored 2 b) s = .next { s with rst := { s.rst with refLost := s.rst.refLost &&& ~~~ 4#7 }, fe := { s.fe with linkDown := [false, false] } } ∧
      (∀ p < 4, exec (.refclkRestored (3 + p) b) s =
        .next { s with rst := { s.rst with refLost := s.rst.refLost &&& ~~~ BitVec.ofNat 7 (2 ^ (3 + p)) } }) ∧
      exec (.perstN true) s = .next { s with rst := { s.rst with perstLow := true }, pilot := { s.pilot with hostLink := false } } ∧
      exec (.perstN false) s = .next { s with rst := { s.rst with perstLow := false } } ∧
      exec (.hostLinkChange false) s = .next { s with pilot := { s.pilot with hostLink := false } } ∧
      (∃ t, exec (.hostLinkChange true) s = .next t ∧
        t.pilot.hostLink = (s.domOn 77 && !s.rst.perstLow && !(s.rst.refLost.getLsbD 1)) ∧
        { t with pilot := s.pilot, mbx := s.mbx } = s ∧ (∀ ch, ch = 0 ∨ 18 ≤ ch → t.chan ch = s.chan ch))) ∧
  (∀ (s : State), s.mbx.length = 20 → s.pilot.jobs = [] →
      (∀ v, 1 ≤ v → v ≤ 16 →
        ∃ t, exec (.functionLevelReset v) s = .next t ∧
          (t.chan (1 + v)).busy = false ∧ (t.chan (1 + v)).rspReady = false ∧ (t.chan (1 + v)).req = [] ∧ (t.chan (1 + v)).rsp = [] ∧
          (t.chan (1 + v)).events = [] ∧ (t.chan (1 + v)).evSeq = 0 ∧ (t.spdmOf (1 + v)).session = none ∧
          (∀ ch, ch ≠ 1 + v → t.chan ch = s.chan ch) ∧ t.pilot.jobs = []) ∧
      (∃ t, exec (.functionLevelReset 0) s = .next t ∧
        (∀ ch, 1 ≤ ch → ch ≤ 17 → (t.chan ch).busy = false ∧ (t.chan ch).req = [] ∧ (t.chan ch).events = [] ∧ (t.spdmOf ch).session = none) ∧
        (∀ ch, ch = 0 ∨ 18 ≤ ch → t.chan ch = s.chan ch) ∧ t.pilot.jobs = []))

/-- R382, R438: SMBus. -/
def Obligations.ManagementBus : Prop :=
  ∀ (s : State), s.rst.mode ≠ .held →
    (∀ off v, ∃ t, exec (.smbusBlockWrite off v 6 true) s = .next t ∧ t.smbus.acked = true ∧
      { t with smbus := s.smbus } = { s.busWrite .smbus (regBase + 0x3000 + off % 4096) 4 v with smbus := s.smbus }) ∧
    (∀ off v count pecOk, count ≠ 6 ∨ pecOk = false →
      exec (.smbusBlockWrite off v count pecOk) s = .next { s with smbus := { s.smbus with acked := false } }) ∧
    (∀ off, exec (.smbusSetPointer off true) s = .next { s with smbus := { s.smbus with pointer := off % 4096, acked := true } }) ∧
    (∃ t, exec (.smbusBlockRead 32) s = .next t ∧ t.smbus.pointer = (s.smbus.pointer + 32) % 4096 ∧ t.smbus.acked = true ∧
      t.smbus.lastBlock.length = 32 ∧ { t with smbus := s.smbus } = s ∧
      (∀ k < 32, t.smbus.lastBlock.getD k 0 =
        (natLe 4 (s.mbxView 19 ((s.smbus.pointer + k) % 4096 / 4 * 4)).toNat).getD ((s.smbus.pointer + k) % 4) 0)) ∧
    (s.mbxLevel 19 = true → exec .alertResponse s = .next { s with smbus := { s.smbus with alertAddr := some (0x58 + s.rst.strap), acked := true } }) ∧
    (s.mbxLevel 19 = false → exec .alertResponse s = .next { s with smbus := { s.smbus with alertAddr := none, acked := false } }) ∧
    exec .smbusTimeout s = .next { s with smbus := {} }

/-- R1, R378, R412, R439: the form holds after reset; the canonical form of memory and tables is the model's own (DESIGN CHOICE, log entry 4). -/
def Obligations.ResetHasTheForm : Prop := State.reset.Inv

/-- R1, R378, R412, R439: no command adds or removes a unit, or leaves memory, flash or a table out of canonical form (DESIGN CHOICE, log entry 4). -/
def Obligations.EveryStepKeepsTheForm : Prop := ∀ s t : State, s.Inv → step s = .next t → t.Inv
end

