-- ==== Sys2Proof/Laws/Maps.lean ====
section
/-! SUPPORT. Laws of the maps and of the memory cells: what is read after a write, and that every operation keeps the canonical form. -/

namespace Sys2Proof.Machine

/-! ### Rising keys -/

/-- Every key of `m` is at least `k`. -/
def above {α : Type} (k : Nat) (m : NatMap α) : Prop := ∀ e ∈ m, k ≤ e.1

theorem mrising_cons {α : Type} (a : Nat × α) (m : NatMap α) : mrising (a :: m) = true ↔ above (a.1 + 1) m ∧ mrising m = true := by
  induction m generalizing a with
  | nil => simp [mrising, above]
  | cons b r ih =>
    simp only [mrising, Bool.and_eq_true, decide_eq_true_eq]
    constructor
    · rintro ⟨h, hr⟩
      refine ⟨?_, hr⟩
      intro e he
      rcases List.mem_cons.mp he with rfl | he
      · omega
      · have := ((ih b).mp hr).1 e he; omega
    · rintro ⟨h, hr⟩
      exact ⟨by have := h b (by simp); omega, hr⟩

theorem above_mono {α : Type} {k j : Nat} {m : NatMap α} (h : above k m) (hj : j ≤ k) : above j m := fun e he => le_trans hj (h e he)

theorem mget_above {α : Type} {k x : Nat} {m : NatMap α} (h : above k m) (hx : x < k) : mget m x = none := by
  cases m with
  | nil => rfl
  | cons a r => have := h a (by simp); simp only [mget]; rw [if_neg (by omega), if_pos (by omega)]

theorem mget_mput_same {α : Type} (m : NatMap α) (k : Nat) (v : α) : mget (mput m k v) k = some v := by
  induction m with
  | nil => simp [mput, mget]
  | cons a r ih =>
    simp only [mput]
    split_ifs with h1 h2
    · simp [mget]
    · simp [mget]
    · simp [mget, h1, h2, ih]

theorem mget_mput_ne {α : Type} (m : NatMap α) {k x : Nat} (v : α) (hm : mrising m = true) (h : x ≠ k) : mget (mput m k v) x = mget m x := by
  induction m with
  | nil => simp [mput, mget, h]
  | cons a r ih =>
    obtain ⟨ha, hr⟩ := (mrising_cons a r).mp hm
    simp only [mput]
    split_ifs with h1 h2
    · subst h1; simp only [mget, if_neg h]
    · simp only [mget, if_neg h]
      split_ifs with h3 h4 h5 <;> first | rfl | omega
    · simp only [mget, ih hr]

theorem mget_mdel_same {α : Type} (m : NatMap α) (k : Nat) (hm : mrising m = true) : mget (mdel m k) k = none := by
  induction m with
  | nil => rfl
  | cons a r ih =>
    obtain ⟨ha, hr⟩ := (mrising_cons a r).mp hm
    simp only [mdel]
    split_ifs with h1 h2
    · exact mget_above ha (by omega)
    · simp [mget, h1, h2]
    · simp [mget, h1, h2, ih hr]

theorem mget_mdel_ne {α : Type} (m : NatMap α) {k x : Nat} (hm : mrising m = true) (h : x ≠ k) : mget (mdel m k) x = mget m x := by
  induction m with
  | nil => rfl
  | cons a r ih =>
    obtain ⟨ha, hr⟩ := (mrising_cons a r).mp hm
    simp only [mdel]
    split_ifs with h1 h2
    · subst h1; simp only [mget, if_neg h]
      split_ifs with h3
      · exact mget_above ha (by omega)
      · rfl
    · rfl
    · simp only [mget, ih hr]

theorem mgetD_mputD_same {α : Type} [DecidableEq α] (d : α) (m : NatMap α) (k : Nat) (v : α) (hm : mrising m = true) :
    mgetD (mputD d m k v) k d = v := by
  unfold mgetD mputD
  split_ifs with h
  · rw [mget_mdel_same m k hm, h]; rfl
  · rw [mget_mput_same]; rfl

theorem mgetD_mputD_ne {α : Type} [DecidableEq α] (d e : α) (m : NatMap α) {k x : Nat} (v : α) (hm : mrising m = true) (h : x ≠ k) :
    mgetD (mputD d m k v) x e = mgetD m x e := by
  unfold mgetD mputD
  split_ifs
  · rw [mget_mdel_ne m hm h]
  · rw [mget_mput_ne m v hm h]

theorem above_mput {α : Type} {j k : Nat} {m : NatMap α} (v : α) (h : above j m) (hk : j ≤ k) : above j (mput m k v) := by
  induction m with
  | nil => intro e he; simp [mput] at he; subst he; exact hk
  | cons a r ih =>
    have hr : above j r := fun e he => h e (by simp [he])
    simp only [mput]
    split_ifs with h1 h2
    · intro e he
      rcases List.mem_cons.mp he with rfl | he
      · exact hk
      · exact hr e he
    · intro e he
      rcases List.mem_cons.mp he with rfl | he
      · exact hk
      · exact h e he
    · intro e he
      rcases List.mem_cons.mp he with he | he
      · rw [he]; exact h a (by simp)
      · exact ih hr e he

theorem mrising_mput {α : Type} (m : NatMap α) (k : Nat) (v : α) (hm : mrising m = true) : mrising (mput m k v) = true := by
  induction m with
  | nil => rfl
  | cons a r ih =>
    obtain ⟨ha, hr⟩ := (mrising_cons a r).mp hm
    simp only [mput]
    split_ifs with h1 h2
    · exact (mrising_cons _ _).mpr ⟨by simpa [h1] using ha, hr⟩
    · exact (mrising_cons _ _).mpr ⟨by
        intro e he
        rcases List.mem_cons.mp he with rfl | he
        · exact h2
        · have := ha e he; simp only; omega, hm⟩
    · exact (mrising_cons _ _).mpr ⟨above_mput v ha (by omega), ih hr⟩

theorem above_mdel {α : Type} {j k : Nat} {m : NatMap α} (h : above j m) : above j (mdel m k) := by
  induction m with
  | nil => exact h
  | cons a r ih =>
    have hr : above j r := fun e he => h e (by simp [he])
    simp only [mdel]
    split_ifs with h1 h2
    · exact hr
    · exact h
    · intro e he
      rcases List.mem_cons.mp he with he | he
      · rw [he]; exact h a (by simp)
      · exact ih hr e he

theorem mrising_mdel {α : Type} (m : NatMap α) (k : Nat) (hm : mrising m = true) : mrising (mdel m k) = true := by
  induction m with
  | nil => rfl
  | cons a r ih =>
    obtain ⟨ha, hr⟩ := (mrising_cons a r).mp hm
    simp only [mdel]
    split_ifs with h1 h2
    · exact hr
    · exact hm
    · exact (mrising_cons _ _).mpr ⟨above_mdel ha, ih hr⟩

theorem mrising_mputD {α : Type} [DecidableEq α] (d : α) (m : NatMap α) (k : Nat) (v : α) (hm : mrising m = true) :
    mrising (mputD d m k v) = true := by
  unfold mputD
  split_ifs
  · exact mrising_mdel m k hm
  · exact mrising_mput m k v hm

theorem mrising_filter {α : Type} (m : NatMap α) (p : Nat × α → Bool) (hm : mrising m = true) : mrising (m.filter p) = true := by
  induction m with
  | nil => rfl
  | cons a r ih =>
    obtain ⟨ha, hr⟩ := (mrising_cons a r).mp hm
    simp only [List.filter_cons]
    split_ifs
    · exact (mrising_cons _ _).mpr ⟨fun e he => ha e (List.mem_filter.mp he).1, ih hr⟩
    · exact ih hr

theorem mrising_mclear {α : Type} (m : NatMap α) (lo hi : Nat) (hm : mrising m = true) : mrising (mclear m lo hi) = true :=
  mrising_filter m _ hm

theorem mem_mput {α : Type} {m : NatMap α} {k : Nat} {v : α} {e : Nat × α} (h : e ∈ mput m k v) : e = (k, v) ∨ e ∈ m := by
  induction m with
  | nil => simp [mput] at h; exact .inl h
  | cons a r ih =>
    simp only [mput] at h
    split_ifs at h with h1 h2
    · rcases List.mem_cons.mp h with h | h
      · exact .inl h
      · exact .inr (by simp [h])
    · rcases List.mem_cons.mp h with h | h
      · exact .inl h
      · exact .inr h
    · rcases List.mem_cons.mp h with h | h
      · exact .inr (by simp [h])
      · rcases ih h with h | h
        · exact .inl h
        · exact .inr (by simp [h])

theorem mem_mdel {α : Type} {m : NatMap α} {k : Nat} {e : Nat × α} (h : e ∈ mdel m k) : e ∈ m := by
  induction m with
  | nil => exact h
  | cons a r ih =>
    simp only [mdel] at h
    split_ifs at h with h1 h2
    · simp [h]
    · exact h
    · rcases List.mem_cons.mp h with h | h
      · simp [h]
      · simp [ih h]

/-! ### Cells -/

theorem cellsWf_iff (m : List Host.Cell) : cellsWf m = true ↔ mrising m = true ∧ ∀ c ∈ m, c.2 ≠ 0 := by
  simp [cellsWf]

theorem cellsWf_filter (m : List Host.Cell) (p : Host.Cell → Bool) (h : cellsWf m = true) : cellsWf (m.filter p) = true := by
  rw [cellsWf_iff] at *
  exact ⟨mrising_filter m p h.1, fun c hc => h.2 c (List.mem_filter.mp hc).1⟩

theorem mem_cellsOf (a : Nat) (bs : List Byte) (c : Host.Cell) (h : c ∈ cellsOf a bs) : a ≤ c.1 ∧ c.1 < a + bs.length ∧ c.2 ≠ 0 := by
  induction bs generalizing a with
  | nil => simp [cellsOf] at h
  | cons b r ih =>
    simp only [cellsOf] at h
    split_ifs at h with hb
    · have := ih (a + 1) h; simp only [List.length_cons]; exact ⟨by omega, by omega, this.2.2⟩
    · rcases List.mem_cons.mp h with h | h
      · subst h; exact ⟨le_refl _, by simp, hb⟩
      · have := ih (a + 1) h; simp only [List.length_cons]; exact ⟨by omega, by omega, this.2.2⟩

theorem mrising_cellsOf (a : Nat) (bs : List Byte) : mrising (cellsOf a bs) = true := by
  induction bs generalizing a with
  | nil => rfl
  | cons b r ih =>
    simp only [cellsOf]
    split_ifs
    · exact ih _
    · exact (mrising_cons _ _).mpr ⟨fun e he => (mem_cellsOf _ _ e he).1, ih _⟩

theorem mrising_append {α : Type} (m n : NatMap α) (hm : mrising m = true) (hn : mrising n = true)
    (h : ∀ e ∈ m, ∀ f ∈ n, e.1 < f.1) : mrising (m ++ n) = true := by
  induction m with
  | nil => exact hn
  | cons a r ih =>
    obtain ⟨ha, hr⟩ := (mrising_cons a r).mp hm
    refine (mrising_cons _ _).mpr ⟨?_, ih hr (fun e he f hf => h e (by simp [he]) f hf)⟩
    intro e he
    rcases List.mem_append.mp he with he | he
    · exact ha e he
    · exact h a (by simp) e he

/-- A write keeps the canonical form. -/
theorem cellsWf_cellsWrite (m : List Host.Cell) (a : Nat) (bs : List Byte) (h : cellsWf m = true) : cellsWf (cellsWrite m a bs) = true := by
  rw [cellsWf_iff] at *
  obtain ⟨hr, hz⟩ := h
  refine ⟨?_, ?_⟩
  · unfold cellsWrite
    refine mrising_append _ _ (mrising_append _ _ (mrising_filter _ _ hr) (mrising_cellsOf a bs) ?_) (mrising_filter _ _ hr) ?_
    · intro e he f hf
      have h1 := (List.mem_filter.mp he).2
      have h2 := mem_cellsOf a bs f hf
      simp at h1; omega
    · intro e he f hf
      have h3 := (List.mem_filter.mp hf).2
      simp at h3
      rcases List.mem_append.mp he with he | he
      · have h1 := (List.mem_filter.mp he).2
        simp at h1; omega
      · have h2 := mem_cellsOf a bs e he; omega
  · intro c hc
    unfold cellsWrite at hc
    rcases List.mem_append.mp hc with hc | hc
    · rcases List.mem_append.mp hc with hc | hc
      · exact hz c (List.mem_filter.mp hc).1
      · exact (mem_cellsOf a bs c hc).2.2
    · exact hz c (List.mem_filter.mp hc).1

theorem mget_mem {α : Type} {m : NatMap α} {k : Nat} {v : α} (h : mget m k = some v) : (k, v) ∈ m := by
  induction m with
  | nil => simp [mget] at h
  | cons a r ih =>
    simp only [mget] at h
    split_ifs at h with h1 h2
    · simp at h; subst h1; subst h; simp
    · simp [ih h]

theorem mget_eq_some_iff {α : Type} {m : NatMap α} (hm : mrising m = true) (k : Nat) (v : α) : mget m k = some v ↔ (k, v) ∈ m := by
  refine ⟨mget_mem, fun h => ?_⟩
  induction m with
  | nil => simp at h
  | cons a r ih =>
    obtain ⟨ha, hr⟩ := (mrising_cons a r).mp hm
    rcases List.mem_cons.mp h with h | h
    · subst h; simp [mget]
    · have := ha _ h
      simp only at this
      simp only [mget]; rw [if_neg (by omega), if_neg (by omega)]; exact ih hr h

theorem mem_cellsOf_iff (a : Nat) (bs : List Byte) (i : Nat) (hi : i < bs.length) (v : Byte) :
    (a + i, v) ∈ cellsOf a bs ↔ bs[i]? = some v ∧ v ≠ 0 := by
  induction bs generalizing a i with
  | nil => simp at hi
  | cons b r ih =>
    cases i with
    | zero =>
      simp only [cellsOf, Nat.add_zero, List.getElem?_cons_zero, Option.some.injEq]
      split_ifs with hb
      · constructor
        · intro h; have := (mem_cellsOf _ _ _ h).1; simp at this
        · rintro ⟨h1, h2⟩; exact absurd (h1 ▸ hb) h2
      · constructor
        · intro h
          rcases List.mem_cons.mp h with h | h
          · simp at h; exact ⟨h.symm, h ▸ hb⟩
          · have := (mem_cellsOf _ _ _ h).1; simp at this
        · rintro ⟨h1, _⟩; simp [h1]
    | succ i =>
      have hi' : i < r.length := by simpa using hi
      have e : a + (i + 1) = (a + 1) + i := by omega
      simp only [cellsOf, List.getElem?_cons_succ]
      split_ifs with hb
      · rw [e]; exact ih (a + 1) i hi'
      · rw [e]
        constructor
        · intro h
          rcases List.mem_cons.mp h with h | h
          · simp at h; omega
          · exact (ih (a + 1) i hi').mp h
        · intro h; exact List.mem_cons_of_mem _ ((ih (a + 1) i hi').mpr h)

theorem cellAt_congr {m n : List Host.Cell} (hm : mrising m = true) (hn : mrising n = true) (a : Nat)
    (h : ∀ v, (a, v) ∈ m ↔ (a, v) ∈ n) : cellAt m a = cellAt n a := by
  have : mget m a = mget n a := by
    apply Option.ext; intro v
    rw [mget_eq_some_iff hm, mget_eq_some_iff hn]; exact h v
  simp [cellAt, mgetD, this]

/-- A byte outside a write reads as before. -/
theorem cellAt_cellsWrite_out (m : List Host.Cell) (a : Nat) (bs : List Byte) (x : Nat) (h : cellsWf m = true)
    (hx : x < a ∨ a + bs.length ≤ x) : cellAt (cellsWrite m a bs) x = cellAt m x := by
  refine cellAt_congr ((cellsWf_iff _).mp (cellsWf_cellsWrite m a bs h)).1 ((cellsWf_iff _).mp h).1 x (fun v => ?_)
  constructor
  · intro hc
    unfold cellsWrite at hc
    rcases List.mem_append.mp hc with hc | hc
    · rcases List.mem_append.mp hc with hc | hc
      · exact (List.mem_filter.mp hc).1
      · have := mem_cellsOf a bs _ hc; simp only at this; omega
    · exact (List.mem_filter.mp hc).1
  · intro hc
    unfold cellsWrite
    rcases hx with hx | hx
    · exact List.mem_append_left _ (List.mem_append_left _ (List.mem_filter.mpr ⟨hc, by simpa using hx⟩))
    · exact List.mem_append_right _ (List.mem_filter.mpr ⟨hc, by simpa using hx⟩)

/-- A byte inside a write reads as written. -/
theorem cellAt_cellsWrite_in (m : List Host.Cell) (a : Nat) (bs : List Byte) (i : Nat) (h : cellsWf m = true) (hi : i < bs.length) :
    cellAt (cellsWrite m a bs) (a + i) = bs.getD i 0 := by
  have hw := ((cellsWf_iff _).mp (cellsWf_cellsWrite m a bs h)).1
  have key : ∀ v, (a + i, v) ∈ cellsWrite m a bs ↔ bs[i]? = some v ∧ v ≠ 0 := by
    intro v
    rw [← mem_cellsOf_iff a bs i hi v]
    unfold cellsWrite
    constructor
    · intro hc
      rcases List.mem_append.mp hc with hc | hc
      · rcases List.mem_append.mp hc with hc | hc
        · have := (List.mem_filter.mp hc).2; simp at this
        · exact hc
      · have := (List.mem_filter.mp hc).2; simp at this; omega
    · intro hc; exact List.mem_append_left _ (List.mem_append_right _ hc)
  have hb : bs[i]? = some bs[i] := List.getElem?_eq_getElem hi
  rw [List.getD_eq_getElem?_getD, hb]
  unfold cellAt mgetD
  by_cases hz : bs[i] = 0
  · cases hg : mget (cellsWrite m a bs) (a + i) with
    | none => simp [hz]
    | some v =>
      have := (key v).mp ((mget_eq_some_iff hw _ _).mp hg)
      rw [hb] at this; simp at this
      simp [this.1]
  · rw [(mget_eq_some_iff hw _ _).mpr ((key bs[i]).mpr ⟨hb, hz⟩)]

end Sys2Proof.Machine
end

