-- ==== Sys2Proof/Laws/State.lean ====
section
/-! SUPPORT. One lemma for each field and each named update of the state: what the update leaves. -/

namespace Sys2Proof.Machine

@[simp] theorem State.setReg_pending (s : State) (k : Nat) (v : Word) : (s.setReg k v).pending = s.pending := rfl
@[simp] theorem State.setReg_freeCtr (s : State) (k : Nat) (v : Word) : (s.setReg k v).freeCtr = s.freeCtr := rfl
@[simp] theorem State.setReg_now (s : State) (k : Nat) (v : Word) : (s.setReg k v).now = s.now := rfl
@[simp] theorem State.setReg_bus (s : State) (k : Nat) (v : Word) : (s.setReg k v).bus = s.bus := rfl
@[simp] theorem State.setReg_pwr (s : State) (k : Nat) (v : Word) : (s.setReg k v).pwr = s.pwr := rfl
@[simp] theorem State.setReg_rst (s : State) (k : Nat) (v : Word) : (s.setReg k v).rst = s.rst := rfl
@[simp] theorem State.setReg_secure (s : State) (k : Nat) (v : Word) : (s.setReg k v).secure = s.secure := rfl
@[simp] theorem State.setReg_therm (s : State) (k : Nat) (v : Word) : (s.setReg k v).therm = s.therm := rfl
@[simp] theorem State.setReg_gpio (s : State) (k : Nat) (v : Word) : (s.setReg k v).gpio = s.gpio := rfl
@[simp] theorem State.setReg_gpioLine (s : State) (k : Nat) (v : Word) : (s.setReg k v).gpioLine = s.gpioLine := rfl
@[simp] theorem State.setReg_jtag (s : State) (k : Nat) (v : Word) : (s.setReg k v).jtag = s.jtag := rfl
@[simp] theorem State.setReg_smbus (s : State) (k : Nat) (v : Word) : (s.setReg k v).smbus = s.smbus := rfl
@[simp] theorem State.setReg_mem (s : State) (k : Nat) (v : Word) : (s.setReg k v).mem = s.mem := rfl
@[simp] theorem State.setReg_hub (s : State) (k : Nat) (v : Word) : (s.setReg k v).hub = s.hub := rfl
@[simp] theorem State.setReg_cores (s : State) (k : Nat) (v : Word) : (s.setReg k v).cores = s.cores := rfl
@[simp] theorem State.setReg_fe (s : State) (k : Nat) (v : Word) : (s.setReg k v).fe = s.fe := rfl
@[simp] theorem State.setReg_log (s : State) (k : Nat) (v : Word) : (s.setReg k v).log = s.log := rfl
@[simp] theorem State.setReg_sched (s : State) (k : Nat) (v : Word) : (s.setReg k v).sched = s.sched := rfl
@[simp] theorem State.setReg_mbx (s : State) (k : Nat) (v : Word) : (s.setReg k v).mbx = s.mbx := rfl
@[simp] theorem State.setReg_pilot (s : State) (k : Nat) (v : Word) : (s.setReg k v).pilot = s.pilot := rfl
@[simp] theorem State.setReg_rhb (s : State) (k : Nat) (v : Word) : (s.setReg k v).rhb = s.rhb := rfl
@[simp] theorem State.setReg_flash (s : State) (k : Nat) (v : Word) : (s.setReg k v).flash = s.flash := rfl

@[simp] theorem State.bump_pending (s : State) (k n : Nat) : (s.bump k n).pending = s.pending := rfl
@[simp] theorem State.bump_freeCtr (s : State) (k n : Nat) : (s.bump k n).freeCtr = s.freeCtr := rfl
@[simp] theorem State.bump_now (s : State) (k n : Nat) : (s.bump k n).now = s.now := rfl
@[simp] theorem State.bump_bus (s : State) (k n : Nat) : (s.bump k n).bus = s.bus := rfl
@[simp] theorem State.bump_pwr (s : State) (k n : Nat) : (s.bump k n).pwr = s.pwr := rfl
@[simp] theorem State.bump_rst (s : State) (k n : Nat) : (s.bump k n).rst = s.rst := rfl
@[simp] theorem State.bump_secure (s : State) (k n : Nat) : (s.bump k n).secure = s.secure := rfl
@[simp] theorem State.bump_therm (s : State) (k n : Nat) : (s.bump k n).therm = s.therm := rfl
@[simp] theorem State.bump_gpio (s : State) (k n : Nat) : (s.bump k n).gpio = s.gpio := rfl
@[simp] theorem State.bump_gpioLine (s : State) (k n : Nat) : (s.bump k n).gpioLine = s.gpioLine := rfl
@[simp] theorem State.bump_jtag (s : State) (k n : Nat) : (s.bump k n).jtag = s.jtag := rfl
@[simp] theorem State.bump_smbus (s : State) (k n : Nat) : (s.bump k n).smbus = s.smbus := rfl
@[simp] theorem State.bump_mem (s : State) (k n : Nat) : (s.bump k n).mem = s.mem := rfl
@[simp] theorem State.bump_hub (s : State) (k n : Nat) : (s.bump k n).hub = s.hub := rfl
@[simp] theorem State.bump_cores (s : State) (k n : Nat) : (s.bump k n).cores = s.cores := rfl
@[simp] theorem State.bump_fe (s : State) (k n : Nat) : (s.bump k n).fe = s.fe := rfl
@[simp] theorem State.bump_log (s : State) (k n : Nat) : (s.bump k n).log = s.log := rfl
@[simp] theorem State.bump_sched (s : State) (k n : Nat) : (s.bump k n).sched = s.sched := rfl
@[simp] theorem State.bump_mbx (s : State) (k n : Nat) : (s.bump k n).mbx = s.mbx := rfl
@[simp] theorem State.bump_pilot (s : State) (k n : Nat) : (s.bump k n).pilot = s.pilot := rfl
@[simp] theorem State.bump_rhb (s : State) (k n : Nat) : (s.bump k n).rhb = s.rhb := rfl
@[simp] theorem State.bump_flash (s : State) (k n : Nat) : (s.bump k n).flash = s.flash := rfl

@[simp] theorem State.orReg_pending (s : State) (k : Nat) (m : Word) : (s.orReg k m).pending = s.pending := rfl
@[simp] theorem State.orReg_freeCtr (s : State) (k : Nat) (m : Word) : (s.orReg k m).freeCtr = s.freeCtr := rfl
@[simp] theorem State.orReg_now (s : State) (k : Nat) (m : Word) : (s.orReg k m).now = s.now := rfl
@[simp] theorem State.orReg_bus (s : State) (k : Nat) (m : Word) : (s.orReg k m).bus = s.bus := rfl
@[simp] theorem State.orReg_pwr (s : State) (k : Nat) (m : Word) : (s.orReg k m).pwr = s.pwr := rfl
@[simp] theorem State.orReg_rst (s : State) (k : Nat) (m : Word) : (s.orReg k m).rst = s.rst := rfl
@[simp] theorem State.orReg_secure (s : State) (k : Nat) (m : Word) : (s.orReg k m).secure = s.secure := rfl
@[simp] theorem State.orReg_therm (s : State) (k : Nat) (m : Word) : (s.orReg k m).therm = s.therm := rfl
@[simp] theorem State.orReg_gpio (s : State) (k : Nat) (m : Word) : (s.orReg k m).gpio = s.gpio := rfl
@[simp] theorem State.orReg_gpioLine (s : State) (k : Nat) (m : Word) : (s.orReg k m).gpioLine = s.gpioLine := rfl
@[simp] theorem State.orReg_jtag (s : State) (k : Nat) (m : Word) : (s.orReg k m).jtag = s.jtag := rfl
@[simp] theorem State.orReg_smbus (s : State) (k : Nat) (m : Word) : (s.orReg k m).smbus = s.smbus := rfl
@[simp] theorem State.orReg_mem (s : State) (k : Nat) (m : Word) : (s.orReg k m).mem = s.mem := rfl
@[simp] theorem State.orReg_hub (s : State) (k : Nat) (m : Word) : (s.orReg k m).hub = s.hub := rfl
@[simp] theorem State.orReg_cores (s : State) (k : Nat) (m : Word) : (s.orReg k m).cores = s.cores := rfl
@[simp] theorem State.orReg_fe (s : State) (k : Nat) (m : Word) : (s.orReg k m).fe = s.fe := rfl
@[simp] theorem State.orReg_log (s : State) (k : Nat) (m : Word) : (s.orReg k m).log = s.log := rfl
@[simp] theorem State.orReg_sched (s : State) (k : Nat) (m : Word) : (s.orReg k m).sched = s.sched := rfl
@[simp] theorem State.orReg_mbx (s : State) (k : Nat) (m : Word) : (s.orReg k m).mbx = s.mbx := rfl
@[simp] theorem State.orReg_pilot (s : State) (k : Nat) (m : Word) : (s.orReg k m).pilot = s.pilot := rfl
@[simp] theorem State.orReg_rhb (s : State) (k : Nat) (m : Word) : (s.orReg k m).rhb = s.rhb := rfl
@[simp] theorem State.orReg_flash (s : State) (k : Nat) (m : Word) : (s.orReg k m).flash = s.flash := rfl

@[simp] theorem State.clrReg_pending (s : State) (k : Nat) (m : Word) : (s.clrReg k m).pending = s.pending := rfl
@[simp] theorem State.clrReg_freeCtr (s : State) (k : Nat) (m : Word) : (s.clrReg k m).freeCtr = s.freeCtr := rfl
@[simp] theorem State.clrReg_now (s : State) (k : Nat) (m : Word) : (s.clrReg k m).now = s.now := rfl
@[simp] theorem State.clrReg_bus (s : State) (k : Nat) (m : Word) : (s.clrReg k m).bus = s.bus := rfl
@[simp] theorem State.clrReg_pwr (s : State) (k : Nat) (m : Word) : (s.clrReg k m).pwr = s.pwr := rfl
@[simp] theorem State.clrReg_rst (s : State) (k : Nat) (m : Word) : (s.clrReg k m).rst = s.rst := rfl
@[simp] theorem State.clrReg_secure (s : State) (k : Nat) (m : Word) : (s.clrReg k m).secure = s.secure := rfl
@[simp] theorem State.clrReg_therm (s : State) (k : Nat) (m : Word) : (s.clrReg k m).therm = s.therm := rfl
@[simp] theorem State.clrReg_gpio (s : State) (k : Nat) (m : Word) : (s.clrReg k m).gpio = s.gpio := rfl
@[simp] theorem State.clrReg_gpioLine (s : State) (k : Nat) (m : Word) : (s.clrReg k m).gpioLine = s.gpioLine := rfl
@[simp] theorem State.clrReg_jtag (s : State) (k : Nat) (m : Word) : (s.clrReg k m).jtag = s.jtag := rfl
@[simp] theorem State.clrReg_smbus (s : State) (k : Nat) (m : Word) : (s.clrReg k m).smbus = s.smbus := rfl
@[simp] theorem State.clrReg_mem (s : State) (k : Nat) (m : Word) : (s.clrReg k m).mem = s.mem := rfl
@[simp] theorem State.clrReg_hub (s : State) (k : Nat) (m : Word) : (s.clrReg k m).hub = s.hub := rfl
@[simp] theorem State.clrReg_cores (s : State) (k : Nat) (m : Word) : (s.clrReg k m).cores = s.cores := rfl
@[simp] theorem State.clrReg_fe (s : State) (k : Nat) (m : Word) : (s.clrReg k m).fe = s.fe := rfl
@[simp] theorem State.clrReg_log (s : State) (k : Nat) (m : Word) : (s.clrReg k m).log = s.log := rfl
@[simp] theorem State.clrReg_sched (s : State) (k : Nat) (m : Word) : (s.clrReg k m).sched = s.sched := rfl
@[simp] theorem State.clrReg_mbx (s : State) (k : Nat) (m : Word) : (s.clrReg k m).mbx = s.mbx := rfl
@[simp] theorem State.clrReg_pilot (s : State) (k : Nat) (m : Word) : (s.clrReg k m).pilot = s.pilot := rfl
@[simp] theorem State.clrReg_rhb (s : State) (k : Nat) (m : Word) : (s.clrReg k m).rhb = s.rhb := rfl
@[simp] theorem State.clrReg_flash (s : State) (k : Nat) (m : Word) : (s.clrReg k m).flash = s.flash := rfl

@[simp] theorem State.resetRegs_pending (s : State) (lo hi : Nat) : (s.resetRegs lo hi).pending = s.pending := rfl
@[simp] theorem State.resetRegs_freeCtr (s : State) (lo hi : Nat) : (s.resetRegs lo hi).freeCtr = s.freeCtr := rfl
@[simp] theorem State.resetRegs_now (s : State) (lo hi : Nat) : (s.resetRegs lo hi).now = s.now := rfl
@[simp] theorem State.resetRegs_bus (s : State) (lo hi : Nat) : (s.resetRegs lo hi).bus = s.bus := rfl
@[simp] theorem State.resetRegs_pwr (s : State) (lo hi : Nat) : (s.resetRegs lo hi).pwr = s.pwr := rfl
@[simp] theorem State.resetRegs_rst (s : State) (lo hi : Nat) : (s.resetRegs lo hi).rst = s.rst := rfl
@[simp] theorem State.resetRegs_secure (s : State) (lo hi : Nat) : (s.resetRegs lo hi).secure = s.secure := rfl
@[simp] theorem State.resetRegs_therm (s : State) (lo hi : Nat) : (s.resetRegs lo hi).therm = s.therm := rfl
@[simp] theorem State.resetRegs_gpio (s : State) (lo hi : Nat) : (s.resetRegs lo hi).gpio = s.gpio := rfl
@[simp] theorem State.resetRegs_gpioLine (s : State) (lo hi : Nat) : (s.resetRegs lo hi).gpioLine = s.gpioLine := rfl
@[simp] theorem State.resetRegs_jtag (s : State) (lo hi : Nat) : (s.resetRegs lo hi).jtag = s.jtag := rfl
@[simp] theorem State.resetRegs_smbus (s : State) (lo hi : Nat) : (s.resetRegs lo hi).smbus = s.smbus := rfl
@[simp] theorem State.resetRegs_mem (s : State) (lo hi : Nat) : (s.resetRegs lo hi).mem = s.mem := rfl
@[simp] theorem State.resetRegs_hub (s : State) (lo hi : Nat) : (s.resetRegs lo hi).hub = s.hub := rfl
@[simp] theorem State.resetRegs_cores (s : State) (lo hi : Nat) : (s.resetRegs lo hi).cores = s.cores := rfl
@[simp] theorem State.resetRegs_fe (s : State) (lo hi : Nat) : (s.resetRegs lo hi).fe = s.fe := rfl
@[simp] theorem State.resetRegs_log (s : State) (lo hi : Nat) : (s.resetRegs lo hi).log = s.log := rfl
@[simp] theorem State.resetRegs_sched (s : State) (lo hi : Nat) : (s.resetRegs lo hi).sched = s.sched := rfl
@[simp] theorem State.resetRegs_mbx (s : State) (lo hi : Nat) : (s.resetRegs lo hi).mbx = s.mbx := rfl
@[simp] theorem State.resetRegs_pilot (s : State) (lo hi : Nat) : (s.resetRegs lo hi).pilot = s.pilot := rfl
@[simp] theorem State.resetRegs_rhb (s : State) (lo hi : Nat) : (s.resetRegs lo hi).rhb = s.rhb := rfl
@[simp] theorem State.resetRegs_flash (s : State) (lo hi : Nat) : (s.resetRegs lo hi).flash = s.flash := rfl

@[simp] theorem State.setReg2_pending (s : State) (lo v : Nat) : (s.setReg2 lo v).pending = s.pending := rfl
@[simp] theorem State.setReg2_freeCtr (s : State) (lo v : Nat) : (s.setReg2 lo v).freeCtr = s.freeCtr := rfl
@[simp] theorem State.setReg2_now (s : State) (lo v : Nat) : (s.setReg2 lo v).now = s.now := rfl
@[simp] theorem State.setReg2_bus (s : State) (lo v : Nat) : (s.setReg2 lo v).bus = s.bus := rfl
@[simp] theorem State.setReg2_pwr (s : State) (lo v : Nat) : (s.setReg2 lo v).pwr = s.pwr := rfl
@[simp] theorem State.setReg2_rst (s : State) (lo v : Nat) : (s.setReg2 lo v).rst = s.rst := rfl
@[simp] theorem State.setReg2_secure (s : State) (lo v : Nat) : (s.setReg2 lo v).secure = s.secure := rfl
@[simp] theorem State.setReg2_therm (s : State) (lo v : Nat) : (s.setReg2 lo v).therm = s.therm := rfl
@[simp] theorem State.setReg2_gpio (s : State) (lo v : Nat) : (s.setReg2 lo v).gpio = s.gpio := rfl
@[simp] theorem State.setReg2_gpioLine (s : State) (lo v : Nat) : (s.setReg2 lo v).gpioLine = s.gpioLine := rfl
@[simp] theorem State.setReg2_jtag (s : State) (lo v : Nat) : (s.setReg2 lo v).jtag = s.jtag := rfl
@[simp] theorem State.setReg2_smbus (s : State) (lo v : Nat) : (s.setReg2 lo v).smbus = s.smbus := rfl
@[simp] theorem State.setReg2_mem (s : State) (lo v : Nat) : (s.setReg2 lo v).mem = s.mem := rfl
@[simp] theorem State.setReg2_hub (s : State) (lo v : Nat) : (s.setReg2 lo v).hub = s.hub := rfl
@[simp] theorem State.setReg2_cores (s : State) (lo v : Nat) : (s.setReg2 lo v).cores = s.cores := rfl
@[simp] theorem State.setReg2_fe (s : State) (lo v : Nat) : (s.setReg2 lo v).fe = s.fe := rfl
@[simp] theorem State.setReg2_log (s : State) (lo v : Nat) : (s.setReg2 lo v).log = s.log := rfl
@[simp] theorem State.setReg2_sched (s : State) (lo v : Nat) : (s.setReg2 lo v).sched = s.sched := rfl
@[simp] theorem State.setReg2_mbx (s : State) (lo v : Nat) : (s.setReg2 lo v).mbx = s.mbx := rfl
@[simp] theorem State.setReg2_pilot (s : State) (lo v : Nat) : (s.setReg2 lo v).pilot = s.pilot := rfl
@[simp] theorem State.setReg2_rhb (s : State) (lo v : Nat) : (s.setReg2 lo v).rhb = s.rhb := rfl
@[simp] theorem State.setReg2_flash (s : State) (lo v : Nat) : (s.setReg2 lo v).flash = s.flash := rfl

@[simp] theorem State.plainWrite_pending (s : State) (k : Nat) (v : Word) : (s.plainWrite k v).pending = s.pending := by
  unfold State.plainWrite; split <;> rfl
@[simp] theorem State.plainWrite_freeCtr (s : State) (k : Nat) (v : Word) : (s.plainWrite k v).freeCtr = s.freeCtr := by
  unfold State.plainWrite; split <;> rfl
@[simp] theorem State.plainWrite_now (s : State) (k : Nat) (v : Word) : (s.plainWrite k v).now = s.now := by
  unfold State.plainWrite; split <;> rfl
@[simp] theorem State.plainWrite_bus (s : State) (k : Nat) (v : Word) : (s.plainWrite k v).bus = s.bus := by
  unfold State.plainWrite; split <;> rfl
@[simp] theorem State.plainWrite_pwr (s : State) (k : Nat) (v : Word) : (s.plainWrite k v).pwr = s.pwr := by
  unfold State.plainWrite; split <;> rfl
@[simp] theorem State.plainWrite_rst (s : State) (k : Nat) (v : Word) : (s.plainWrite k v).rst = s.rst := by
  unfold State.plainWrite; split <;> rfl
@[simp] theorem State.plainWrite_secure (s : State) (k : Nat) (v : Word) : (s.plainWrite k v).secure = s.secure := by
  unfold State.plainWrite; split <;> rfl
@[simp] theorem State.plainWrite_therm (s : State) (k : Nat) (v : Word) : (s.plainWrite k v).therm = s.therm := by
  unfold State.plainWrite; split <;> rfl
@[simp] theorem State.plainWrite_gpio (s : State) (k : Nat) (v : Word) : (s.plainWrite k v).gpio = s.gpio := by
  unfold State.plainWrite; split <;> rfl
@[simp] theorem State.plainWrite_gpioLine (s : State) (k : Nat) (v : Word) : (s.plainWrite k v).gpioLine = s.gpioLine := by
  unfold State.plainWrite; split <;> rfl
@[simp] theorem State.plainWrite_jtag (s : State) (k : Nat) (v : Word) : (s.plainWrite k v).jtag = s.jtag := by
  unfold State.plainWrite; split <;> rfl
@[simp] theorem State.plainWrite_smbus (s : State) (k : Nat) (v : Word) : (s.plainWrite k v).smbus = s.smbus := by
  unfold State.plainWrite; split <;> rfl
@[simp] theorem State.plainWrite_mem (s : State) (k : Nat) (v : Word) : (s.plainWrite k v).mem = s.mem := by
  unfold State.plainWrite; split <;> rfl
@[simp] theorem State.plainWrite_hub (s : State) (k : Nat) (v : Word) : (s.plainWrite k v).hub = s.hub := by
  unfold State.plainWrite; split <;> rfl
@[simp] theorem State.plainWrite_cores (s : State) (k : Nat) (v : Word) : (s.plainWrite k v).cores = s.cores := by
  unfold State.plainWrite; split <;> rfl
@[simp] theorem State.plainWrite_fe (s : State) (k : Nat) (v : Word) : (s.plainWrite k v).fe = s.fe := by
  unfold State.plainWrite; split <;> rfl
@[simp] theorem State.plainWrite_log (s : State) (k : Nat) (v : Word) : (s.plainWrite k v).log = s.log := by
  unfold State.plainWrite; split <;> rfl
@[simp] theorem State.plainWrite_sched (s : State) (k : Nat) (v : Word) : (s.plainWrite k v).sched = s.sched := by
  unfold State.plainWrite; split <;> rfl
@[simp] theorem State.plainWrite_mbx (s : State) (k : Nat) (v : Word) : (s.plainWrite k v).mbx = s.mbx := by
  unfold State.plainWrite; split <;> rfl
@[simp] theorem State.plainWrite_pilot (s : State) (k : Nat) (v : Word) : (s.plainWrite k v).pilot = s.pilot := by
  unfold State.plainWrite; split <;> rfl
@[simp] theorem State.plainWrite_rhb (s : State) (k : Nat) (v : Word) : (s.plainWrite k v).rhb = s.rhb := by
  unfold State.plainWrite; split <;> rfl
@[simp] theorem State.plainWrite_flash (s : State) (k : Nat) (v : Word) : (s.plainWrite k v).flash = s.flash := by
  unfold State.plainWrite; split <;> rfl

@[simp] theorem State.setCore_pending (s : State) (n : Nat) (c : Core) : (s.setCore n c).pending = s.pending := rfl
@[simp] theorem State.setCore_freeCtr (s : State) (n : Nat) (c : Core) : (s.setCore n c).freeCtr = s.freeCtr := rfl
@[simp] theorem State.setCore_now (s : State) (n : Nat) (c : Core) : (s.setCore n c).now = s.now := rfl
@[simp] theorem State.setCore_regs (s : State) (n : Nat) (c : Core) : (s.setCore n c).regs = s.regs := rfl
@[simp] theorem State.setCore_bus (s : State) (n : Nat) (c : Core) : (s.setCore n c).bus = s.bus := rfl
@[simp] theorem State.setCore_pwr (s : State) (n : Nat) (c : Core) : (s.setCore n c).pwr = s.pwr := rfl
@[simp] theorem State.setCore_rst (s : State) (n : Nat) (c : Core) : (s.setCore n c).rst = s.rst := rfl
@[simp] theorem State.setCore_secure (s : State) (n : Nat) (c : Core) : (s.setCore n c).secure = s.secure := rfl
@[simp] theorem State.setCore_therm (s : State) (n : Nat) (c : Core) : (s.setCore n c).therm = s.therm := rfl
@[simp] theorem State.setCore_gpio (s : State) (n : Nat) (c : Core) : (s.setCore n c).gpio = s.gpio := rfl
@[simp] theorem State.setCore_gpioLine (s : State) (n : Nat) (c : Core) : (s.setCore n c).gpioLine = s.gpioLine := rfl
@[simp] theorem State.setCore_jtag (s : State) (n : Nat) (c : Core) : (s.setCore n c).jtag = s.jtag := rfl
@[simp] theorem State.setCore_smbus (s : State) (n : Nat) (c : Core) : (s.setCore n c).smbus = s.smbus := rfl
@[simp] theorem State.setCore_mem (s : State) (n : Nat) (c : Core) : (s.setCore n c).mem = s.mem := rfl
@[simp] theorem State.setCore_hub (s : State) (n : Nat) (c : Core) : (s.setCore n c).hub = s.hub := rfl
@[simp] theorem State.setCore_fe (s : State) (n : Nat) (c : Core) : (s.setCore n c).fe = s.fe := rfl
@[simp] theorem State.setCore_log (s : State) (n : Nat) (c : Core) : (s.setCore n c).log = s.log := rfl
@[simp] theorem State.setCore_sched (s : State) (n : Nat) (c : Core) : (s.setCore n c).sched = s.sched := rfl
@[simp] theorem State.setCore_mbx (s : State) (n : Nat) (c : Core) : (s.setCore n c).mbx = s.mbx := rfl
@[simp] theorem State.setCore_pilot (s : State) (n : Nat) (c : Core) : (s.setCore n c).pilot = s.pilot := rfl
@[simp] theorem State.setCore_rhb (s : State) (n : Nat) (c : Core) : (s.setCore n c).rhb = s.rhb := rfl
@[simp] theorem State.setCore_flash (s : State) (n : Nat) (c : Core) : (s.setCore n c).flash = s.flash := rfl

@[simp] theorem State.modCore_pending (s : State) (n : Nat) (f : Core → Core) : (s.modCore n f).pending = s.pending := rfl
@[simp] theorem State.modCore_freeCtr (s : State) (n : Nat) (f : Core → Core) : (s.modCore n f).freeCtr = s.freeCtr := rfl
@[simp] theorem State.modCore_now (s : State) (n : Nat) (f : Core → Core) : (s.modCore n f).now = s.now := rfl
@[simp] theorem State.modCore_regs (s : State) (n : Nat) (f : Core → Core) : (s.modCore n f).regs = s.regs := rfl
@[simp] theorem State.modCore_bus (s : State) (n : Nat) (f : Core → Core) : (s.modCore n f).bus = s.bus := rfl
@[simp] theorem State.modCore_pwr (s : State) (n : Nat) (f : Core → Core) : (s.modCore n f).pwr = s.pwr := rfl
@[simp] theorem State.modCore_rst (s : State) (n : Nat) (f : Core → Core) : (s.modCore n f).rst = s.rst := rfl
@[simp] theorem State.modCore_secure (s : State) (n : Nat) (f : Core → Core) : (s.modCore n f).secure = s.secure := rfl
@[simp] theorem State.modCore_therm (s : State) (n : Nat) (f : Core → Core) : (s.modCore n f).therm = s.therm := rfl
@[simp] theorem State.modCore_gpio (s : State) (n : Nat) (f : Core → Core) : (s.modCore n f).gpio = s.gpio := rfl
@[simp] theorem State.modCore_gpioLine (s : State) (n : Nat) (f : Core → Core) : (s.modCore n f).gpioLine = s.gpioLine := rfl
@[simp] theorem State.modCore_jtag (s : State) (n : Nat) (f : Core → Core) : (s.modCore n f).jtag = s.jtag := rfl
@[simp] theorem State.modCore_smbus (s : State) (n : Nat) (f : Core → Core) : (s.modCore n f).smbus = s.smbus := rfl
@[simp] theorem State.modCore_mem (s : State) (n : Nat) (f : Core → Core) : (s.modCore n f).mem = s.mem := rfl
@[simp] theorem State.modCore_hub (s : State) (n : Nat) (f : Core → Core) : (s.modCore n f).hub = s.hub := rfl
@[simp] theorem State.modCore_fe (s : State) (n : Nat) (f : Core → Core) : (s.modCore n f).fe = s.fe := rfl
@[simp] theorem State.modCore_log (s : State) (n : Nat) (f : Core → Core) : (s.modCore n f).log = s.log := rfl
@[simp] theorem State.modCore_sched (s : State) (n : Nat) (f : Core → Core) : (s.modCore n f).sched = s.sched := rfl
@[simp] theorem State.modCore_mbx (s : State) (n : Nat) (f : Core → Core) : (s.modCore n f).mbx = s.mbx := rfl
@[simp] theorem State.modCore_pilot (s : State) (n : Nat) (f : Core → Core) : (s.modCore n f).pilot = s.pilot := rfl
@[simp] theorem State.modCore_rhb (s : State) (n : Nat) (f : Core → Core) : (s.modCore n f).rhb = s.rhb := rfl
@[simp] theorem State.modCore_flash (s : State) (n : Nat) (f : Core → Core) : (s.modCore n f).flash = s.flash := rfl

@[simp] theorem State.cBump_pending (s : State) (n off k : Nat) : (s.cBump n off k).pending = s.pending := rfl
@[simp] theorem State.cBump_freeCtr (s : State) (n off k : Nat) : (s.cBump n off k).freeCtr = s.freeCtr := rfl
@[simp] theorem State.cBump_now (s : State) (n off k : Nat) : (s.cBump n off k).now = s.now := rfl
@[simp] theorem State.cBump_bus (s : State) (n off k : Nat) : (s.cBump n off k).bus = s.bus := rfl
@[simp] theorem State.cBump_pwr (s : State) (n off k : Nat) : (s.cBump n off k).pwr = s.pwr := rfl
@[simp] theorem State.cBump_rst (s : State) (n off k : Nat) : (s.cBump n off k).rst = s.rst := rfl
@[simp] theorem State.cBump_secure (s : State) (n off k : Nat) : (s.cBump n off k).secure = s.secure := rfl
@[simp] theorem State.cBump_therm (s : State) (n off k : Nat) : (s.cBump n off k).therm = s.therm := rfl
@[simp] theorem State.cBump_gpio (s : State) (n off k : Nat) : (s.cBump n off k).gpio = s.gpio := rfl
@[simp] theorem State.cBump_gpioLine (s : State) (n off k : Nat) : (s.cBump n off k).gpioLine = s.gpioLine := rfl
@[simp] theorem State.cBump_jtag (s : State) (n off k : Nat) : (s.cBump n off k).jtag = s.jtag := rfl
@[simp] theorem State.cBump_smbus (s : State) (n off k : Nat) : (s.cBump n off k).smbus = s.smbus := rfl
@[simp] theorem State.cBump_mem (s : State) (n off k : Nat) : (s.cBump n off k).mem = s.mem := rfl
@[simp] theorem State.cBump_hub (s : State) (n off k : Nat) : (s.cBump n off k).hub = s.hub := rfl
@[simp] theorem State.cBump_cores (s : State) (n off k : Nat) : (s.cBump n off k).cores = s.cores := rfl
@[simp] theorem State.cBump_fe (s : State) (n off k : Nat) : (s.cBump n off k).fe = s.fe := rfl
@[simp] theorem State.cBump_log (s : State) (n off k : Nat) : (s.cBump n off k).log = s.log := rfl
@[simp] theorem State.cBump_sched (s : State) (n off k : Nat) : (s.cBump n off k).sched = s.sched := rfl
@[simp] theorem State.cBump_mbx (s : State) (n off k : Nat) : (s.cBump n off k).mbx = s.mbx := rfl
@[simp] theorem State.cBump_pilot (s : State) (n off k : Nat) : (s.cBump n off k).pilot = s.pilot := rfl
@[simp] theorem State.cBump_rhb (s : State) (n off k : Nat) : (s.cBump n off k).rhb = s.rhb := rfl
@[simp] theorem State.cBump_flash (s : State) (n off k : Nat) : (s.cBump n off k).flash = s.flash := rfl

@[simp] theorem State.nextFree_pending (s : State) : s.nextFree.pending = s.pending := rfl
@[simp] theorem State.nextFree_now (s : State) : s.nextFree.now = s.now := rfl
@[simp] theorem State.nextFree_regs (s : State) : s.nextFree.regs = s.regs := rfl
@[simp] theorem State.nextFree_bus (s : State) : s.nextFree.bus = s.bus := rfl
@[simp] theorem State.nextFree_pwr (s : State) : s.nextFree.pwr = s.pwr := rfl
@[simp] theorem State.nextFree_rst (s : State) : s.nextFree.rst = s.rst := rfl
@[simp] theorem State.nextFree_secure (s : State) : s.nextFree.secure = s.secure := rfl
@[simp] theorem State.nextFree_therm (s : State) : s.nextFree.therm = s.therm := rfl
@[simp] theorem State.nextFree_gpio (s : State) : s.nextFree.gpio = s.gpio := rfl
@[simp] theorem State.nextFree_gpioLine (s : State) : s.nextFree.gpioLine = s.gpioLine := rfl
@[simp] theorem State.nextFree_jtag (s : State) : s.nextFree.jtag = s.jtag := rfl
@[simp] theorem State.nextFree_smbus (s : State) : s.nextFree.smbus = s.smbus := rfl
@[simp] theorem State.nextFree_mem (s : State) : s.nextFree.mem = s.mem := rfl
@[simp] theorem State.nextFree_hub (s : State) : s.nextFree.hub = s.hub := rfl
@[simp] theorem State.nextFree_cores (s : State) : s.nextFree.cores = s.cores := rfl
@[simp] theorem State.nextFree_fe (s : State) : s.nextFree.fe = s.fe := rfl
@[simp] theorem State.nextFree_log (s : State) : s.nextFree.log = s.log := rfl
@[simp] theorem State.nextFree_sched (s : State) : s.nextFree.sched = s.sched := rfl
@[simp] theorem State.nextFree_mbx (s : State) : s.nextFree.mbx = s.mbx := rfl
@[simp] theorem State.nextFree_pilot (s : State) : s.nextFree.pilot = s.pilot := rfl
@[simp] theorem State.nextFree_rhb (s : State) : s.nextFree.rhb = s.rhb := rfl
@[simp] theorem State.nextFree_flash (s : State) : s.nextFree.flash = s.flash := rfl

@[simp] theorem State.modChan_pending (s : State) (ch : Nat) (f : Channel → Channel) : (s.modChan ch f).pending = s.pending := rfl
@[simp] theorem State.modChan_freeCtr (s : State) (ch : Nat) (f : Channel → Channel) : (s.modChan ch f).freeCtr = s.freeCtr := rfl
@[simp] theorem State.modChan_now (s : State) (ch : Nat) (f : Channel → Channel) : (s.modChan ch f).now = s.now := rfl
@[simp] theorem State.modChan_regs (s : State) (ch : Nat) (f : Channel → Channel) : (s.modChan ch f).regs = s.regs := rfl
@[simp] theorem State.modChan_bus (s : State) (ch : Nat) (f : Channel → Channel) : (s.modChan ch f).bus = s.bus := rfl
@[simp] theorem State.modChan_pwr (s : State) (ch : Nat) (f : Channel → Channel) : (s.modChan ch f).pwr = s.pwr := rfl
@[simp] theorem State.modChan_rst (s : State) (ch : Nat) (f : Channel → Channel) : (s.modChan ch f).rst = s.rst := rfl
@[simp] theorem State.modChan_secure (s : State) (ch : Nat) (f : Channel → Channel) : (s.modChan ch f).secure = s.secure := rfl
@[simp] theorem State.modChan_therm (s : State) (ch : Nat) (f : Channel → Channel) : (s.modChan ch f).therm = s.therm := rfl
@[simp] theorem State.modChan_gpio (s : State) (ch : Nat) (f : Channel → Channel) : (s.modChan ch f).gpio = s.gpio := rfl
@[simp] theorem State.modChan_gpioLine (s : State) (ch : Nat) (f : Channel → Channel) : (s.modChan ch f).gpioLine = s.gpioLine := rfl
@[simp] theorem State.modChan_jtag (s : State) (ch : Nat) (f : Channel → Channel) : (s.modChan ch f).jtag = s.jtag := rfl
@[simp] theorem State.modChan_smbus (s : State) (ch : Nat) (f : Channel → Channel) : (s.modChan ch f).smbus = s.smbus := rfl
@[simp] theorem State.modChan_mem (s : State) (ch : Nat) (f : Channel → Channel) : (s.modChan ch f).mem = s.mem := rfl
@[simp] theorem State.modChan_hub (s : State) (ch : Nat) (f : Channel → Channel) : (s.modChan ch f).hub = s.hub := rfl
@[simp] theorem State.modChan_cores (s : State) (ch : Nat) (f : Channel → Channel) : (s.modChan ch f).cores = s.cores := rfl
@[simp] theorem State.modChan_fe (s : State) (ch : Nat) (f : Channel → Channel) : (s.modChan ch f).fe = s.fe := rfl
@[simp] theorem State.modChan_log (s : State) (ch : Nat) (f : Channel → Channel) : (s.modChan ch f).log = s.log := rfl
@[simp] theorem State.modChan_sched (s : State) (ch : Nat) (f : Channel → Channel) : (s.modChan ch f).sched = s.sched := rfl
@[simp] theorem State.modChan_pilot (s : State) (ch : Nat) (f : Channel → Channel) : (s.modChan ch f).pilot = s.pilot := rfl
@[simp] theorem State.modChan_rhb (s : State) (ch : Nat) (f : Channel → Channel) : (s.modChan ch f).rhb = s.rhb := rfl
@[simp] theorem State.modChan_flash (s : State) (ch : Nat) (f : Channel → Channel) : (s.modChan ch f).flash = s.flash := rfl

@[simp] theorem State.modBus_pending (s : State) (f : Bus → Bus) : (s.modBus f).pending = s.pending := rfl
@[simp] theorem State.modBus_freeCtr (s : State) (f : Bus → Bus) : (s.modBus f).freeCtr = s.freeCtr := rfl
@[simp] theorem State.modBus_now (s : State) (f : Bus → Bus) : (s.modBus f).now = s.now := rfl
@[simp] theorem State.modBus_regs (s : State) (f : Bus → Bus) : (s.modBus f).regs = s.regs := rfl
@[simp] theorem State.modBus_pwr (s : State) (f : Bus → Bus) : (s.modBus f).pwr = s.pwr := rfl
@[simp] theorem State.modBus_rst (s : State) (f : Bus → Bus) : (s.modBus f).rst = s.rst := rfl
@[simp] theorem State.modBus_secure (s : State) (f : Bus → Bus) : (s.modBus f).secure = s.secure := rfl
@[simp] theorem State.modBus_therm (s : State) (f : Bus → Bus) : (s.modBus f).therm = s.therm := rfl
@[simp] theorem State.modBus_gpio (s : State) (f : Bus → Bus) : (s.modBus f).gpio = s.gpio := rfl
@[simp] theorem State.modBus_gpioLine (s : State) (f : Bus → Bus) : (s.modBus f).gpioLine = s.gpioLine := rfl
@[simp] theorem State.modBus_jtag (s : State) (f : Bus → Bus) : (s.modBus f).jtag = s.jtag := rfl
@[simp] theorem State.modBus_smbus (s : State) (f : Bus → Bus) : (s.modBus f).smbus = s.smbus := rfl
@[simp] theorem State.modBus_mem (s : State) (f : Bus → Bus) : (s.modBus f).mem = s.mem := rfl
@[simp] theorem State.modBus_hub (s : State) (f : Bus → Bus) : (s.modBus f).hub = s.hub := rfl
@[simp] theorem State.modBus_cores (s : State) (f : Bus → Bus) : (s.modBus f).cores = s.cores := rfl
@[simp] theorem State.modBus_fe (s : State) (f : Bus → Bus) : (s.modBus f).fe = s.fe := rfl
@[simp] theorem State.modBus_log (s : State) (f : Bus → Bus) : (s.modBus f).log = s.log := rfl
@[simp] theorem State.modBus_sched (s : State) (f : Bus → Bus) : (s.modBus f).sched = s.sched := rfl
@[simp] theorem State.modBus_mbx (s : State) (f : Bus → Bus) : (s.modBus f).mbx = s.mbx := rfl
@[simp] theorem State.modBus_pilot (s : State) (f : Bus → Bus) : (s.modBus f).pilot = s.pilot := rfl
@[simp] theorem State.modBus_rhb (s : State) (f : Bus → Bus) : (s.modBus f).rhb = s.rhb := rfl
@[simp] theorem State.modBus_flash (s : State) (f : Bus → Bus) : (s.modBus f).flash = s.flash := rfl

@[simp] theorem State.modPort_pending (s : State) (p : Nat) (f : RhbPort → RhbPort) : (s.modPort p f).pending = s.pending := rfl
@[simp] theorem State.modPort_freeCtr (s : State) (p : Nat) (f : RhbPort → RhbPort) : (s.modPort p f).freeCtr = s.freeCtr := rfl
@[simp] theorem State.modPort_now (s : State) (p : Nat) (f : RhbPort → RhbPort) : (s.modPort p f).now = s.now := rfl
@[simp] theorem State.modPort_regs (s : State) (p : Nat) (f : RhbPort → RhbPort) : (s.modPort p f).regs = s.regs := rfl
@[simp] theorem State.modPort_bus (s : State) (p : Nat) (f : RhbPort → RhbPort) : (s.modPort p f).bus = s.bus := rfl
@[simp] theorem State.modPort_pwr (s : State) (p : Nat) (f : RhbPort → RhbPort) : (s.modPort p f).pwr = s.pwr := rfl
@[simp] theorem State.modPort_rst (s : State) (p : Nat) (f : RhbPort → RhbPort) : (s.modPort p f).rst = s.rst := rfl
@[simp] theorem State.modPort_secure (s : State) (p : Nat) (f : RhbPort → RhbPort) : (s.modPort p f).secure = s.secure := rfl
@[simp] theorem State.modPort_therm (s : State) (p : Nat) (f : RhbPort → RhbPort) : (s.modPort p f).therm = s.therm := rfl
@[simp] theorem State.modPort_gpio (s : State) (p : Nat) (f : RhbPort → RhbPort) : (s.modPort p f).gpio = s.gpio := rfl
@[simp] theorem State.modPort_gpioLine (s : State) (p : Nat) (f : RhbPort → RhbPort) : (s.modPort p f).gpioLine = s.gpioLine := rfl
@[simp] theorem State.modPort_jtag (s : State) (p : Nat) (f : RhbPort → RhbPort) : (s.modPort p f).jtag = s.jtag := rfl
@[simp] theorem State.modPort_smbus (s : State) (p : Nat) (f : RhbPort → RhbPort) : (s.modPort p f).smbus = s.smbus := rfl
@[simp] theorem State.modPort_mem (s : State) (p : Nat) (f : RhbPort → RhbPort) : (s.modPort p f).mem = s.mem := rfl
@[simp] theorem State.modPort_hub (s : State) (p : Nat) (f : RhbPort → RhbPort) : (s.modPort p f).hub = s.hub := rfl
@[simp] theorem State.modPort_cores (s : State) (p : Nat) (f : RhbPort → RhbPort) : (s.modPort p f).cores = s.cores := rfl
@[simp] theorem State.modPort_fe (s : State) (p : Nat) (f : RhbPort → RhbPort) : (s.modPort p f).fe = s.fe := rfl
@[simp] theorem State.modPort_log (s : State) (p : Nat) (f : RhbPort → RhbPort) : (s.modPort p f).log = s.log := rfl
@[simp] theorem State.modPort_sched (s : State) (p : Nat) (f : RhbPort → RhbPort) : (s.modPort p f).sched = s.sched := rfl
@[simp] theorem State.modPort_mbx (s : State) (p : Nat) (f : RhbPort → RhbPort) : (s.modPort p f).mbx = s.mbx := rfl
@[simp] theorem State.modPort_pilot (s : State) (p : Nat) (f : RhbPort → RhbPort) : (s.modPort p f).pilot = s.pilot := rfl
@[simp] theorem State.modPort_flash (s : State) (p : Nat) (f : RhbPort → RhbPort) : (s.modPort p f).flash = s.flash := rfl

@[simp] theorem State.modRhb_pending (s : State) (f : Rhumb → Rhumb) : (s.modRhb f).pending = s.pending := rfl
@[simp] theorem State.modRhb_freeCtr (s : State) (f : Rhumb → Rhumb) : (s.modRhb f).freeCtr = s.freeCtr := rfl
@[simp] theorem State.modRhb_now (s : State) (f : Rhumb → Rhumb) : (s.modRhb f).now = s.now := rfl
@[simp] theorem State.modRhb_regs (s : State) (f : Rhumb → Rhumb) : (s.modRhb f).regs = s.regs := rfl
@[simp] theorem State.modRhb_bus (s : State) (f : Rhumb → Rhumb) : (s.modRhb f).bus = s.bus := rfl
@[simp] theorem State.modRhb_pwr (s : State) (f : Rhumb → Rhumb) : (s.modRhb f).pwr = s.pwr := rfl
@[simp] theorem State.modRhb_rst (s : State) (f : Rhumb → Rhumb) : (s.modRhb f).rst = s.rst := rfl
@[simp] theorem State.modRhb_secure (s : State) (f : Rhumb → Rhumb) : (s.modRhb f).secure = s.secure := rfl
@[simp] theorem State.modRhb_therm (s : State) (f : Rhumb → Rhumb) : (s.modRhb f).therm = s.therm := rfl
@[simp] theorem State.modRhb_gpio (s : State) (f : Rhumb → Rhumb) : (s.modRhb f).gpio = s.gpio := rfl
@[simp] theorem State.modRhb_gpioLine (s : State) (f : Rhumb → Rhumb) : (s.modRhb f).gpioLine = s.gpioLine := rfl
@[simp] theorem State.modRhb_jtag (s : State) (f : Rhumb → Rhumb) : (s.modRhb f).jtag = s.jtag := rfl
@[simp] theorem State.modRhb_smbus (s : State) (f : Rhumb → Rhumb) : (s.modRhb f).smbus = s.smbus := rfl
@[simp] theorem State.modRhb_mem (s : State) (f : Rhumb → Rhumb) : (s.modRhb f).mem = s.mem := rfl
@[simp] theorem State.modRhb_hub (s : State) (f : Rhumb → Rhumb) : (s.modRhb f).hub = s.hub := rfl
@[simp] theorem State.modRhb_cores (s : State) (f : Rhumb → Rhumb) : (s.modRhb f).cores = s.cores := rfl
@[simp] theorem State.modRhb_fe (s : State) (f : Rhumb → Rhumb) : (s.modRhb f).fe = s.fe := rfl
@[simp] theorem State.modRhb_log (s : State) (f : Rhumb → Rhumb) : (s.modRhb f).log = s.log := rfl
@[simp] theorem State.modRhb_sched (s : State) (f : Rhumb → Rhumb) : (s.modRhb f).sched = s.sched := rfl
@[simp] theorem State.modRhb_mbx (s : State) (f : Rhumb → Rhumb) : (s.modRhb f).mbx = s.mbx := rfl
@[simp] theorem State.modRhb_pilot (s : State) (f : Rhumb → Rhumb) : (s.modRhb f).pilot = s.pilot := rfl
@[simp] theorem State.modRhb_flash (s : State) (f : Rhumb → Rhumb) : (s.modRhb f).flash = s.flash := rfl

@[simp] theorem State.pBump_pending (s : State) (p off k : Nat) : (s.pBump p off k).pending = s.pending := rfl
@[simp] theorem State.pBump_freeCtr (s : State) (p off k : Nat) : (s.pBump p off k).freeCtr = s.freeCtr := rfl
@[simp] theorem State.pBump_now (s : State) (p off k : Nat) : (s.pBump p off k).now = s.now := rfl
@[simp] theorem State.pBump_bus (s : State) (p off k : Nat) : (s.pBump p off k).bus = s.bus := rfl
@[simp] theorem State.pBump_pwr (s : State) (p off k : Nat) : (s.pBump p off k).pwr = s.pwr := rfl
@[simp] theorem State.pBump_rst (s : State) (p off k : Nat) : (s.pBump p off k).rst = s.rst := rfl
@[simp] theorem State.pBump_secure (s : State) (p off k : Nat) : (s.pBump p off k).secure = s.secure := rfl
@[simp] theorem State.pBump_therm (s : State) (p off k : Nat) : (s.pBump p off k).therm = s.therm := rfl
@[simp] theorem State.pBump_gpio (s : State) (p off k : Nat) : (s.pBump p off k).gpio = s.gpio := rfl
@[simp] theorem State.pBump_gpioLine (s : State) (p off k : Nat) : (s.pBump p off k).gpioLine = s.gpioLine := rfl
@[simp] theorem State.pBump_jtag (s : State) (p off k : Nat) : (s.pBump p off k).jtag = s.jtag := rfl
@[simp] theorem State.pBump_smbus (s : State) (p off k : Nat) : (s.pBump p off k).smbus = s.smbus := rfl
@[simp] theorem State.pBump_mem (s : State) (p off k : Nat) : (s.pBump p off k).mem = s.mem := rfl
@[simp] theorem State.pBump_hub (s : State) (p off k : Nat) : (s.pBump p off k).hub = s.hub := rfl
@[simp] theorem State.pBump_cores (s : State) (p off k : Nat) : (s.pBump p off k).cores = s.cores := rfl
@[simp] theorem State.pBump_fe (s : State) (p off k : Nat) : (s.pBump p off k).fe = s.fe := rfl
@[simp] theorem State.pBump_log (s : State) (p off k : Nat) : (s.pBump p off k).log = s.log := rfl
@[simp] theorem State.pBump_sched (s : State) (p off k : Nat) : (s.pBump p off k).sched = s.sched := rfl
@[simp] theorem State.pBump_mbx (s : State) (p off k : Nat) : (s.pBump p off k).mbx = s.mbx := rfl
@[simp] theorem State.pBump_pilot (s : State) (p off k : Nat) : (s.pBump p off k).pilot = s.pilot := rfl
@[simp] theorem State.pBump_rhb (s : State) (p off k : Nat) : (s.pBump p off k).rhb = s.rhb := rfl
@[simp] theorem State.pBump_flash (s : State) (p off k : Nat) : (s.pBump p off k).flash = s.flash := rfl

@[simp] theorem State.smbusAck_pending (s : State) (ok : Bool) : (s.smbusAck ok).pending = s.pending := rfl
@[simp] theorem State.smbusAck_freeCtr (s : State) (ok : Bool) : (s.smbusAck ok).freeCtr = s.freeCtr := rfl
@[simp] theorem State.smbusAck_now (s : State) (ok : Bool) : (s.smbusAck ok).now = s.now := rfl
@[simp] theorem State.smbusAck_regs (s : State) (ok : Bool) : (s.smbusAck ok).regs = s.regs := rfl
@[simp] theorem State.smbusAck_bus (s : State) (ok : Bool) : (s.smbusAck ok).bus = s.bus := rfl
@[simp] theorem State.smbusAck_pwr (s : State) (ok : Bool) : (s.smbusAck ok).pwr = s.pwr := rfl
@[simp] theorem State.smbusAck_rst (s : State) (ok : Bool) : (s.smbusAck ok).rst = s.rst := rfl
@[simp] theorem State.smbusAck_secure (s : State) (ok : Bool) : (s.smbusAck ok).secure = s.secure := rfl
@[simp] theorem State.smbusAck_therm (s : State) (ok : Bool) : (s.smbusAck ok).therm = s.therm := rfl
@[simp] theorem State.smbusAck_gpio (s : State) (ok : Bool) : (s.smbusAck ok).gpio = s.gpio := rfl
@[simp] theorem State.smbusAck_gpioLine (s : State) (ok : Bool) : (s.smbusAck ok).gpioLine = s.gpioLine := rfl
@[simp] theorem State.smbusAck_jtag (s : State) (ok : Bool) : (s.smbusAck ok).jtag = s.jtag := rfl
@[simp] theorem State.smbusAck_mem (s : State) (ok : Bool) : (s.smbusAck ok).mem = s.mem := rfl
@[simp] theorem State.smbusAck_hub (s : State) (ok : Bool) : (s.smbusAck ok).hub = s.hub := rfl
@[simp] theorem State.smbusAck_cores (s : State) (ok : Bool) : (s.smbusAck ok).cores = s.cores := rfl
@[simp] theorem State.smbusAck_fe (s : State) (ok : Bool) : (s.smbusAck ok).fe = s.fe := rfl
@[simp] theorem State.smbusAck_log (s : State) (ok : Bool) : (s.smbusAck ok).log = s.log := rfl
@[simp] theorem State.smbusAck_sched (s : State) (ok : Bool) : (s.smbusAck ok).sched = s.sched := rfl
@[simp] theorem State.smbusAck_mbx (s : State) (ok : Bool) : (s.smbusAck ok).mbx = s.mbx := rfl
@[simp] theorem State.smbusAck_pilot (s : State) (ok : Bool) : (s.smbusAck ok).pilot = s.pilot := rfl
@[simp] theorem State.smbusAck_rhb (s : State) (ok : Bool) : (s.smbusAck ok).rhb = s.rhb := rfl
@[simp] theorem State.smbusAck_flash (s : State) (ok : Bool) : (s.smbusAck ok).flash = s.flash := rfl

@[simp] theorem State.tapTo_pending (s : State) (ir : Nat) (out : JtagOut) : (s.tapTo ir out).pending = s.pending := rfl
@[simp] theorem State.tapTo_freeCtr (s : State) (ir : Nat) (out : JtagOut) : (s.tapTo ir out).freeCtr = s.freeCtr := rfl
@[simp] theorem State.tapTo_now (s : State) (ir : Nat) (out : JtagOut) : (s.tapTo ir out).now = s.now := rfl
@[simp] theorem State.tapTo_regs (s : State) (ir : Nat) (out : JtagOut) : (s.tapTo ir out).regs = s.regs := rfl
@[simp] theorem State.tapTo_bus (s : State) (ir : Nat) (out : JtagOut) : (s.tapTo ir out).bus = s.bus := rfl
@[simp] theorem State.tapTo_pwr (s : State) (ir : Nat) (out : JtagOut) : (s.tapTo ir out).pwr = s.pwr := rfl
@[simp] theorem State.tapTo_rst (s : State) (ir : Nat) (out : JtagOut) : (s.tapTo ir out).rst = s.rst := rfl
@[simp] theorem State.tapTo_secure (s : State) (ir : Nat) (out : JtagOut) : (s.tapTo ir out).secure = s.secure := rfl
@[simp] theorem State.tapTo_therm (s : State) (ir : Nat) (out : JtagOut) : (s.tapTo ir out).therm = s.therm := rfl
@[simp] theorem State.tapTo_gpio (s : State) (ir : Nat) (out : JtagOut) : (s.tapTo ir out).gpio = s.gpio := rfl
@[simp] theorem State.tapTo_gpioLine (s : State) (ir : Nat) (out : JtagOut) : (s.tapTo ir out).gpioLine = s.gpioLine := rfl
@[simp] theorem State.tapTo_smbus (s : State) (ir : Nat) (out : JtagOut) : (s.tapTo ir out).smbus = s.smbus := rfl
@[simp] theorem State.tapTo_mem (s : State) (ir : Nat) (out : JtagOut) : (s.tapTo ir out).mem = s.mem := rfl
@[simp] theorem State.tapTo_hub (s : State) (ir : Nat) (out : JtagOut) : (s.tapTo ir out).hub = s.hub := rfl
@[simp] theorem State.tapTo_cores (s : State) (ir : Nat) (out : JtagOut) : (s.tapTo ir out).cores = s.cores := rfl
@[simp] theorem State.tapTo_fe (s : State) (ir : Nat) (out : JtagOut) : (s.tapTo ir out).fe = s.fe := rfl
@[simp] theorem State.tapTo_log (s : State) (ir : Nat) (out : JtagOut) : (s.tapTo ir out).log = s.log := rfl
@[simp] theorem State.tapTo_sched (s : State) (ir : Nat) (out : JtagOut) : (s.tapTo ir out).sched = s.sched := rfl
@[simp] theorem State.tapTo_mbx (s : State) (ir : Nat) (out : JtagOut) : (s.tapTo ir out).mbx = s.mbx := rfl
@[simp] theorem State.tapTo_pilot (s : State) (ir : Nat) (out : JtagOut) : (s.tapTo ir out).pilot = s.pilot := rfl
@[simp] theorem State.tapTo_rhb (s : State) (ir : Nat) (out : JtagOut) : (s.tapTo ir out).rhb = s.rhb := rfl
@[simp] theorem State.tapTo_flash (s : State) (ir : Nat) (out : JtagOut) : (s.tapTo ir out).flash = s.flash := rfl

@[simp] theorem State.setRef_pending (s : State) (k : Nat) (lost : Bool) : (s.setRef k lost).pending = s.pending := rfl
@[simp] theorem State.setRef_freeCtr (s : State) (k : Nat) (lost : Bool) : (s.setRef k lost).freeCtr = s.freeCtr := rfl
@[simp] theorem State.setRef_now (s : State) (k : Nat) (lost : Bool) : (s.setRef k lost).now = s.now := rfl
@[simp] theorem State.setRef_regs (s : State) (k : Nat) (lost : Bool) : (s.setRef k lost).regs = s.regs := rfl
@[simp] theorem State.setRef_bus (s : State) (k : Nat) (lost : Bool) : (s.setRef k lost).bus = s.bus := rfl
@[simp] theorem State.setRef_pwr (s : State) (k : Nat) (lost : Bool) : (s.setRef k lost).pwr = s.pwr := rfl
@[simp] theorem State.setRef_secure (s : State) (k : Nat) (lost : Bool) : (s.setRef k lost).secure = s.secure := rfl
@[simp] theorem State.setRef_therm (s : State) (k : Nat) (lost : Bool) : (s.setRef k lost).therm = s.therm := rfl
@[simp] theorem State.setRef_gpio (s : State) (k : Nat) (lost : Bool) : (s.setRef k lost).gpio = s.gpio := rfl
@[simp] theorem State.setRef_gpioLine (s : State) (k : Nat) (lost : Bool) : (s.setRef k lost).gpioLine = s.gpioLine := rfl
@[simp] theorem State.setRef_jtag (s : State) (k : Nat) (lost : Bool) : (s.setRef k lost).jtag = s.jtag := rfl
@[simp] theorem State.setRef_smbus (s : State) (k : Nat) (lost : Bool) : (s.setRef k lost).smbus = s.smbus := rfl
@[simp] theorem State.setRef_mem (s : State) (k : Nat) (lost : Bool) : (s.setRef k lost).mem = s.mem := rfl
@[simp] theorem State.setRef_hub (s : State) (k : Nat) (lost : Bool) : (s.setRef k lost).hub = s.hub := rfl
@[simp] theorem State.setRef_cores (s : State) (k : Nat) (lost : Bool) : (s.setRef k lost).cores = s.cores := rfl
@[simp] theorem State.setRef_fe (s : State) (k : Nat) (lost : Bool) : (s.setRef k lost).fe = s.fe := rfl
@[simp] theorem State.setRef_log (s : State) (k : Nat) (lost : Bool) : (s.setRef k lost).log = s.log := rfl
@[simp] theorem State.setRef_sched (s : State) (k : Nat) (lost : Bool) : (s.setRef k lost).sched = s.sched := rfl
@[simp] theorem State.setRef_mbx (s : State) (k : Nat) (lost : Bool) : (s.setRef k lost).mbx = s.mbx := rfl
@[simp] theorem State.setRef_pilot (s : State) (k : Nat) (lost : Bool) : (s.setRef k lost).pilot = s.pilot := rfl
@[simp] theorem State.setRef_rhb (s : State) (k : Nat) (lost : Bool) : (s.setRef k lost).rhb = s.rhb := rfl
@[simp] theorem State.setRef_flash (s : State) (k : Nat) (lost : Bool) : (s.setRef k lost).flash = s.flash := rfl

@[simp] theorem State.setEth_pending (s : State) (down : Bool) : (s.setEth down).pending = s.pending := rfl
@[simp] theorem State.setEth_freeCtr (s : State) (down : Bool) : (s.setEth down).freeCtr = s.freeCtr := rfl
@[simp] theorem State.setEth_now (s : State) (down : Bool) : (s.setEth down).now = s.now := rfl
@[simp] theorem State.setEth_regs (s : State) (down : Bool) : (s.setEth down).regs = s.regs := rfl
@[simp] theorem State.setEth_bus (s : State) (down : Bool) : (s.setEth down).bus = s.bus := rfl
@[simp] theorem State.setEth_pwr (s : State) (down : Bool) : (s.setEth down).pwr = s.pwr := rfl
@[simp] theorem State.setEth_rst (s : State) (down : Bool) : (s.setEth down).rst = s.rst := rfl
@[simp] theorem State.setEth_secure (s : State) (down : Bool) : (s.setEth down).secure = s.secure := rfl
@[simp] theorem State.setEth_therm (s : State) (down : Bool) : (s.setEth down).therm = s.therm := rfl
@[simp] theorem State.setEth_gpio (s : State) (down : Bool) : (s.setEth down).gpio = s.gpio := rfl
@[simp] theorem State.setEth_gpioLine (s : State) (down : Bool) : (s.setEth down).gpioLine = s.gpioLine := rfl
@[simp] theorem State.setEth_jtag (s : State) (down : Bool) : (s.setEth down).jtag = s.jtag := rfl
@[simp] theorem State.setEth_smbus (s : State) (down : Bool) : (s.setEth down).smbus = s.smbus := rfl
@[simp] theorem State.setEth_mem (s : State) (down : Bool) : (s.setEth down).mem = s.mem := rfl
@[simp] theorem State.setEth_hub (s : State) (down : Bool) : (s.setEth down).hub = s.hub := rfl
@[simp] theorem State.setEth_cores (s : State) (down : Bool) : (s.setEth down).cores = s.cores := rfl
@[simp] theorem State.setEth_log (s : State) (down : Bool) : (s.setEth down).log = s.log := rfl
@[simp] theorem State.setEth_sched (s : State) (down : Bool) : (s.setEth down).sched = s.sched := rfl
@[simp] theorem State.setEth_mbx (s : State) (down : Bool) : (s.setEth down).mbx = s.mbx := rfl
@[simp] theorem State.setEth_pilot (s : State) (down : Bool) : (s.setEth down).pilot = s.pilot := rfl
@[simp] theorem State.setEth_rhb (s : State) (down : Bool) : (s.setEth down).rhb = s.rhb := rfl
@[simp] theorem State.setEth_flash (s : State) (down : Bool) : (s.setEth down).flash = s.flash := rfl

@[simp] theorem State.nextFree_freeCtr (s : State) : s.nextFree.freeCtr = s.freeCtr + 1 := rfl

@[simp] theorem State.modBus_bus (s : State) (f : Bus → Bus) : (s.modBus f).bus = f s.bus := rfl

@[simp] theorem State.modRhb_rhb (s : State) (f : Rhumb → Rhumb) : (s.modRhb f).rhb = f s.rhb := rfl

end Sys2Proof.Machine
end

