-- ==== Sys2Proof/Laws/Ops.lean ====
section
/-! SUPPORT. What the shared operations over registers, cores and channels do: one read after each write, the rest as before. -/

namespace Sys2Proof.Machine

/-! ### The register file -/

theorem State.reg_setReg_same (s : State) (k : Nat) (v : Word) (h : mrising s.regs = true) : (s.setReg k v).reg k = v :=
  mgetD_mputD_same _ _ _ _ h

theorem State.reg_setReg_ne (s : State) {k j : Nat} (v : Word) (h : mrising s.regs = true) (hj : j ≠ k) : (s.setReg k v).reg j = s.reg j :=
  mgetD_mputD_ne _ _ _ _ h hj

theorem State.setReg_rising (s : State) (k : Nat) (v : Word) (h : mrising s.regs = true) : mrising (s.setReg k v).regs = true :=
  mrising_mputD _ _ _ _ h

theorem State.reg_bump_same (s : State) (k n : Nat) (h : mrising s.regs = true) : (s.bump k n).reg k = s.reg k + w32 n := s.reg_setReg_same k _ h

theorem State.reg_bump_ne (s : State) {k j : Nat} (n : Nat) (h : mrising s.regs = true) (hj : j ≠ k) : (s.bump k n).reg j = s.reg j :=
  s.reg_setReg_ne _ h hj

theorem State.bump_rising (s : State) (k n : Nat) (h : mrising s.regs = true) : mrising (s.bump k n).regs = true := s.setReg_rising k _ h

theorem State.reg_orReg_same (s : State) (k : Nat) (m : Word) (h : mrising s.regs = true) : (s.orReg k m).reg k = s.reg k ||| m :=
  s.reg_setReg_same k _ h

theorem State.reg_orReg_ne (s : State) {k j : Nat} (m : Word) (h : mrising s.regs = true) (hj : j ≠ k) : (s.orReg k m).reg j = s.reg j :=
  s.reg_setReg_ne _ h hj

theorem State.reg_clrReg_same (s : State) (k : Nat) (m : Word) (h : mrising s.regs = true) : (s.clrReg k m).reg k = s.reg k &&& ~~~ m :=
  s.reg_setReg_same k _ h

theorem State.reg_clrReg_ne (s : State) {k j : Nat} (m : Word) (h : mrising s.regs = true) (hj : j ≠ k) : (s.clrReg k m).reg j = s.reg j :=
  s.reg_setReg_ne _ h hj

theorem State.plainWrite_rising (s : State) (k : Nat) (v : Word) (h : mrising s.regs = true) : mrising (s.plainWrite k v).regs = true := by
  unfold State.plainWrite
  split
  · exact s.setReg_rising k _ h
  · exact h

theorem State.reg_plainWrite_ne (s : State) {k j : Nat} (v : Word) (h : mrising s.regs = true) (hj : j ≠ k) :
    (s.plainWrite k v).reg j = s.reg j := by
  unfold State.plainWrite
  split
  · exact s.reg_setReg_ne _ h hj
  · rfl

/-! ### Cores and channels -/

theorem State.core_modCore_same (s : State) {n : Nat} (f : Core → Core) (h : n < s.cores.length) : (s.modCore n f).core n = f (s.core n) := by
  simp [State.modCore, State.setCore, State.core, h]

theorem State.core_modCore_ne (s : State) {n m : Nat} (f : Core → Core) (h : m ≠ n) : (s.modCore n f).core m = s.core m := by
  simp [State.modCore, State.setCore, State.core, List.getD_eq_getElem?_getD, List.getElem?_set_ne (Ne.symm h)]

@[simp] theorem State.modCore_length (s : State) (n : Nat) (f : Core → Core) : (s.modCore n f).cores.length = s.cores.length := by
  simp [State.modCore, State.setCore]

theorem State.chan_modChan_same (s : State) {ch : Nat} (f : Channel → Channel) (h : ch < s.mbx.length) :
    (s.modChan ch f).chan ch = f (s.chan ch) := by
  simp [State.modChan, State.chan, lmod, List.getD_eq_getElem?_getD, List.getElem?_eq_getElem h]

theorem State.chan_modChan_ne (s : State) {ch k : Nat} (f : Channel → Channel) (h : k ≠ ch) : (s.modChan ch f).chan k = s.chan k := by
  simp [State.modChan, State.chan, lmod, List.getD_eq_getElem?_getD, Ne.symm h]

@[simp] theorem State.modChan_length (s : State) (ch : Nat) (f : Channel → Channel) : (s.modChan ch f).mbx.length = s.mbx.length := by
  simp [State.modChan, lmod]

@[simp] theorem State.reg_modCore (s : State) (n k : Nat) (f : Core → Core) : (s.modCore n f).reg k = s.reg k := rfl
@[simp] theorem State.reg_modChan (s : State) (n k : Nat) (f : Channel → Channel) : (s.modChan n f).reg k = s.reg k := rfl
@[simp] theorem State.core_setReg (s : State) (n k : Nat) (v : Word) : (s.setReg k v).core n = s.core n := rfl
@[simp] theorem State.core_bump (s : State) (n k m : Nat) : (s.bump k m).core n = s.core n := rfl
@[simp] theorem State.core_orReg (s : State) (n k : Nat) (v : Word) : (s.orReg k v).core n = s.core n := rfl
@[simp] theorem State.core_clrReg (s : State) (n k : Nat) (v : Word) : (s.clrReg k v).core n = s.core n := rfl
@[simp] theorem State.chan_setReg (s : State) (n k : Nat) (v : Word) : (s.setReg k v).chan n = s.chan n := rfl

end Sys2Proof.Machine
end

