-- ==== Sys2Proof/Tests/Slice0.lean ====
section
/-! SUPPORT. Tests: ill-formed commands, the examples of the manual, and for each statement of Certificates/Slice0 states that meet its
hypotheses. -/

open Sys2Proof Sys2Proof.Machine

namespace Slice0

set_option Elab.async false

/-! ### Small states -/

/-- A running device with every domain on. -/
def live : State := { State.reset with
  rst := { State.reset.rst with mode := .running }, pwr := { State.reset.pwr with on := BitVec.allOnes 80 } }

/-- Sets registers. -/
def setRegs : List (Nat × Word) → State → State
  | [], s => s
  | e :: r, s => setRegs r (s.setReg e.1 e.2)

/-- A running device with one region of 8 GiB, open to every agent, and the bases of its tables. -/
def dev : State := setRegs
  [(hbmKey 0 0x800, 0x80001000), (hbmKey 0 0x804, 0xFFFFE000), (Reg.logCtxBaseLo, 0x10000000), (Reg.logCtxMirrorLo, 0x18000000),
   (Reg.logModelBaseLo, 0x20000000), (Reg.logSchedCtxtabLo, 0x21000000), (hbmKey 0 Reg.hbmXlatRootLo, 0x22000000),
   (Reg.feLocalBaseLo, 0x30000000), (Reg.logWlBaseLo, 0x38000000)] live

/-- The device with its firmware not yet serving. -/
def quiet (s : State) : State := { s with rst := { s.rst with mode := .rom } }

/-- The device with core 3 as given. -/
def withCore (c : Core) (s : State := dev) : State := { s with cores := s.cores.set 3 c }

/-- A core that runs slice 0 of a direct job, with words at its head. -/
def running (ws : List Word) : Core := { run := .direct, slices := [{ slice := 0, started := true, pc := 0x1000, endVa := 0x2000 }], fetch := ws }

/-- What a command leads to. -/
def after (i : Instr) (s : State) : State :=
  match exec i s with
  | .next t => t
  | _ => s

/-! ### Ill-formed commands: one for each check -/

theorem test_wf_core : (Instr.nop 32).wf = false ∧ (Instr.nop 31).wf = true := by decide
theorem test_wf_port : (Instr.feDatagramParse 2).wf = false ∧ (Instr.rhbTest 4).wf = false ∧ (Instr.rhbTest 3).wf = true := by decide
theorem test_wf_stack : (Instr.hbmFail 8).wf = false ∧ (Instr.hbmFail 7).wf = true := by decide
theorem test_wf_channel : (Instr.hello 20).wf = false ∧ (Instr.hello 19).wf = true := by decide
theorem test_wf_contexts : (Instr.holdTimeout 65536).wf = false ∧ (Instr.logSchedSubmit 4096).wf = false := by decide
theorem test_wf_domain : (Instr.pwrReqTurnOn 128).wf = false ∧ (Instr.unrequestedPowerLoss 80).wf = false := by decide
theorem test_wf_address : (Instr.registerWrite .pilot (2 ^ 64) 4 0).wf = false := by decide
theorem test_wf_bank : (Instr.spdBist 3 64).wf = false := by decide
theorem test_wf_channel_of_stack : (Instr.hbmTest 3 64).wf = false := by decide
theorem test_wf_class : (Instr.transferEnter 3 3).wf = false := by decide
theorem test_wf_slice_slot : (Instr.generationStart 3 32 0).wf = false ∧ (Instr.generationStart 3 31 16).wf = false := by decide
theorem test_wf_function : (Instr.functionLevelReset 17).wf = false ∧ (Instr.functionLevelReset 16).wf = true := by decide
theorem test_wf_clock : (Instr.refclkLoss 7).wf = false := by decide
theorem test_wf_rails : (Instr.railUndervoltage 4096).wf = false := by decide
theorem test_wf_readings : (Instr.temperatureSample [40, 41]).wf = false := by decide
theorem test_wf_pointer : (Instr.smbusSetPointer 65536 true).wf = false := by decide
theorem test_wf_mac : (Instr.macFrameReceive 0 { (default : NetFrame) with dstMac := 2 ^ 48 }).wf = false := by decide
theorem test_wf_flit : (Instr.rhumbFlitReceive 0 { (default : RhbFlit) with payload := [] } true).wf = false := by decide
theorem test_wf_transaction : (Instr.put 0 { (default : RhbTx) with hdr := [] } true).wf = false := by decide
theorem test_wf_straps : (Instr.resetNRelease { (default : BootIn) with straps := 8 }).wf = false := by decide

/-- No row of the table gives bits, so no word spells a command. -/
theorem test_decode_none : decodeTableWord 32 0x12345678 = none := rfl
theorem test_fetch_word : live.withFetchWord 32 0x12345678 = live := rfl

/-! ### States that meet the hypotheses: registers and power -/

theorem witness_AccessOutsideGrantIsRefused :
    dev.rst.mode ≠ .held ∧ regBase ≤ regBase + Reg.logCtrl ∧ regBase + Reg.logCtrl < 2 ^ 45 ∧ dev.granted .host (regBase + Reg.logCtrl) = false ∧ dev.granted .cluster (regBase + Reg.logCtrl) = false ∧ dev.jtagMay = false ∧
      (∀ ch off, regAt (regBase + Reg.logCtrl) ≠ some (.mbx ch off)) := by
  refine ⟨by decide, by decide, by decide, by decide +kernel, by decide +kernel, by decide +kernel, ?_⟩
  intro ch off; rw [show regAt (regBase + Reg.logCtrl) = some (.hub Reg.logCtrl) from by decide +kernel]; simp

theorem witness_WrongWidthOrAlignmentHasNoEffect :
    regBase ≤ regBase + 2 ∧ regBase + 2 < 2 ^ 45 ∧ (2 : Nat) ≠ 4 ∧ (regBase + 2) % 4 ≠ 0 := by decide

/-- A register with an RW field (LOG_CTRL), one with W1C bits (PWR_ERR). -/
theorem witness_PlainRegisterWrite :
    dev.rst.mode ≠ .held ∧ mrising dev.regs = true ∧
    (∀ off ∈ [Reg.logCtrl, Reg.pwrErr], off % 4 = 0 ∧ regAt (regBase + off) = some (.hub off) ∧ dev.answers (.hub off) = true ∧
      (specOf off).isSome = true ∧ isLow (.hub off) = false ∧ isHigh (.hub off) = false ∧
      off ∉ [Reg.pwrReq, Reg.logKvCtrl, Reg.logKvReq, Reg.logSchedSubmit, Reg.logSchedRedispatch]) := by decide +kernel

theorem witness_RegisterPairs :
    dev.rst.mode ≠ .held ∧ Reg.logCtxBaseLo ∈ lowHub ∧ Reg.logSchedCtxtabLo ∈ lowHub ∧ dev.answers (.hub Reg.logCtxBaseLo) = true ∧
      dev.answers (.hub (Reg.logCtxBaseLo + 4)) = true ∧ dev.bus.capture = [] := by decide +kernel

/-- A queue with room for one request, and a full one. -/
def power (k : Nat) (r : PwrReq) : State := { dev with pwr := { dev.pwr with queue := List.replicate k r } }

/-- Domain 77 off. -/
def dark77 : State := { quiet dev with pwr := { dev.pwr with on := BitVec.allOnes 80 ^^^ BitVec.ofNat 80 (2 ^ 77) } }

theorem witness_PowerRequests :
    dev.rst.mode ≠ .held ∧ (power 7 default).pwr.queue.length < 8 ∧ 8 ≤ (power 8 default).pwr.queue.length ∧ 79 < 80 ∧ 80 ≤ 80 ∧ 127 < 128 ∧
    dark77.rst.mode ≠ .held ∧ dark77.pwr.cur = none ∧ dark77.domOn 77 = false ∧ dark77.pwrAllowed ⟨true, 77, 0⟩ = true ∧
    (quiet dev).domOn 77 = true ∧ (quiet dev).pwrAllowed ⟨false, 77, 0⟩ = true ∧ (quiet dev).domOn 3 = true ∧
      (quiet dev).pwrAllowed ⟨false, 3, 0⟩ = false ∧ (quiet dev).firmwareRuns = false ∧ dark77.pilot.wantPower = [] ∧
      dark77.pilot.powerAsk = none ∧ dark77.domDrained 77 = true ∧ dark77.pwr.drained = false ∧ 76 ≤ 77 ∧ 77 < 79 := by decide +kernel

/-- The device with HBM_PILOT_AS.EN = 1 for context 5. -/
def asCtx5 : State := dev.setReg (hbmKey 0 Reg.hbmPilotAs) 0x80000005

/-- Physical accesses: let through with a good line (the last word of the range of the one region), outside the regions, of a width of 8 bytes, held off
while the regions are filled, from the BAR2 of a virtual function that is not there, on a line that delivers no data; and virtual ones, which do
not translate. -/
theorem witness_HbmAccessesOfAgents :
    dev.rst.mode ≠ .held ∧ cellsWf dev.mem.bytes = true ∧ mrising dev.regs = true ∧
    dev.memAt .pilot 0x3FFFFFFC = some (.phys .hub 0x3FFFFFFC none) ∧ dev.memLets .hub 0x3FFFFFFC none = true ∧ memWidth 0x3FFFFFFC 4 = true ∧
    memWidth 0x3FFFFFFC 8 = false ∧ dev.reachable 0x3FFFFFFC 4 = true ∧ dev.readable 0x3FFFFFFC 4 = true ∧
    dev.memLets .hub 0x5FFFFFFFFFC none = false ∧ dev.memAt .host 0x100 = some (.phys .host 0x100 none) ∧
    ({ dev with pilot := { dev.pilot with bringUp := 5 } } : State).memLets .host 0x100 none = false ∧
    dev.regionOf 0x100 ≠ some 3 ∧ dev.memLets .host 0x100 (some 3) = false ∧ dev.memAt .cluster 0x100 = some (.phys .app 0x100 none) ∧
    ({ dev with mem := { dev.mem with bad := [8] } } : State).readable 0x100 4 = false ∧
    ({ dev with mem := { dev.mem with bad := [8] } } : State).memLets .hub 0x100 none = true ∧
    asCtx5.memAt .pilot 0x100 = some (.ctx 5 0x100) ∧ memWidth 0x101 2 = false ∧ (asCtx5.vwrite [] 5 0x100 [0]).isOk = false ∧
    (asCtx5.vread [] 5 0x100 4).isOk = false := by decide +kernel

/-- A word that the Pilot writes reads back, the bytes beside it read 0 (R336: Z = 1 merges zeros). -/
theorem test_hbm_write :
    (after (.lowWordReadCapture .pilot 0x104 4) (after (.registerWrite .pilot 0x104 4 0xA1B2C3D4) dev)).bus.data = 0xA1B2C3D4 ∧
    (after (.lowWordReadCapture .host 0x106 2) (after (.registerWrite .pilot 0x104 4 0xA1B2C3D4) dev)).bus.data = 0xA1B2 ∧
    (after (.lowWordReadCapture .pilot 0x108 1) (after (.registerWrite .pilot 0x104 4 0xA1B2C3D4) dev)).bus.data = 0 := by decide +kernel

theorem witness_ArbitersRotate :
    [0, 1, 2, 3].Nodup ∧ [0, 1, 2, 3] = [0] ++ 1 :: [2, 3] ∧ (∀ r ∈ [0], decide (1 ≤ r) = false) ∧ decide (1 ≤ 1) = true ∧
      State.reset.cores.length = 32 ∧ [decide (1 ≤ 1)].length = 1 := by decide

/-- The arbiter's grant goes to the first requester in order, which then comes last (R29). -/
theorem test_arbitrate : arbitrate [2, 0, 1, 3] (fun r => decide (r < 2)) = some (0, [2, 1, 3, 0]) := by decide

/-! ### Streams and the network -/

/-- The model slot of R38's example: FRAME_US 10,000, CHUNK_FRAMES 4, MODEL_RATE 1, SLOT_BYTES 1,280. -/
def slot3 : List Word := [0x00042710, 1, 1310720, 1280, 4096, 0, 1, 0, 2, 0, 3, 0, 4, 16384, 1, 0]

/-- A datagram from the address bound to the streams below. -/
def dgram (port : Nat) (bs : List Byte) : Datagram :=
  { ipv6 := false, srcAddr := [0x1102000C, 0, 0, 0], srcPort := 5004, dstPort := port, csumZero := false, csumOk := true, payload := bs }

/-- A frame with it. -/
def frame (d : Option Datagram) : NetFrame := { bytes := List.replicate 100 0, fcsOk := true, dstMac := 1, pause := false, udp := d }

/-- What every stream below is bound to. -/
def bound (src : Nat) : Binding :=
  { job := 1, ch := 1, slot := 3, src := src, ports := 1, ssrc := 0x5A1C03E7, dport := 40000, srcAddr := [0x1102000C, 0, 0, 0] }

/-- A context: OPEN, generation 7, ACCEPT_SEQ 5, COMMIT_SEQ 4, at real time. -/
def ctxWords (w0 : Word) (tokens : Word) : List Word := [w0, 3, 5, 4, 0, 0, 0, 0, 0, 0, tokens, 0, 256] ++ List.replicate 19 0

/-- A stream of VSF from the network (context 5) and one of RTP (context 6). -/
def streams (tokens : Word) : State :=
  ((((dev.putMslot 3 slot3).putSctx 5 (ctxWords 0x00071004 tokens)).putStrm 5 { bind := bound 1 }).putSctx 6
    (ctxWords 0x00071000 tokens)).putStrm 6 { bind := bound 0 }

/-- The words of a VSF frame to context 5 (R43). -/
def vsfBytes (typ : Nat) (seq w3 : Word) (rest : List Byte) : List Byte :=
  bytesOf ([w32 (0xA61 * 2 ^ 20 + typ * 2 ^ 16 + (if typ = 1 then 5 else 4)), 0x00070005, seq, w3] ++ (if typ = 1 then [0] else [])) ++ rest

/-- An RTP packet of the SSRC bound to context 6, PCMU, of 8 samples. -/
def rtpBytes : List Byte := [0x80, 0x00, 0x00, 0x01, 0, 0, 0, 0, 0x5A, 0x1C, 0x03, 0xE7] ++ List.replicate 8 0xFF

/-- Frames in the receive buffer of port 0, the VSF port being 7000. -/
def received (s : State) (f : NetFrame) : State := { s with fe := { s.fe with rx := [[(f, 7000)], []] } }

theorem witness_FramesAreReceivedAndParsed_1 :
    let s := dev.setReg Reg.feCtrl 0x1B580006
    let f := frame (some (dgram 7000 []))
    s.domOpen 76 = true ∧ s.domOpen 79 = true ∧ s.fe.linkDown.getD 0 false = false ∧ s.fe.linkDown.getD 1 false = false ∧ flag (s.reg Reg.feCtrl) 1 = true ∧
      flag (s.reg Reg.feCtrl) 2 = true ∧ s.macTakes 0 f = true ∧ s.rxBytes 0 + f.bytes.length ≤ 262144 ∧
      s.macTakes 0 { f with fcsOk := false } = false := by decide +kernel

theorem witness_FramesAreReceivedAndParsed_2 :
    let d := dgram 7000 (vsfBytes 1 5 1 [0, 0])
    let v : Vsf := ⟨1, 0x00070005, 5, 1, 0, [0, 0]⟩
    vsfOf d.payload = some v ∧ dev.handleLive v.handle = false ∧ dev.handleAborted v.handle = false ∧
      (streams 80000).handleLive v.handle = true ∧ (streams 80000).vsfBound 0 d v = true ∧
      (if d.csumZero then d.ipv6 else !d.csumOk) = false ∧ ({ d with csumOk := false }).csumOk = false := by decide +kernel

theorem witness_FramesAreReceivedAndParsed_3 :
    let d := dgram 40000 rtpBytes
    (streams 80000).rtpMatch 0 d = some 6 ∧ (d.payload.getD 0 0).toNat / 64 = 2 ∧ ((streams 80000).strm 6).bind.pt = 0 ∧
      (d.payload.getD 1 0).toNat % 128 = 0 ∧ d.dstPort ≠ 7000 := by decide +kernel

theorem witness_RtpPacketsAndChunkClose_1 :
    let s : State := { streams 80000 with fe := { (streams 80000).fe with items := [[.rtp 6 (frame (some (dgram 40000 rtpBytes))) (dgram 40000 rtpBytes)], []] } }
    s.domOn 79 = true ∧ (s.takeItem 0).rtpMatch 0 (dgram 40000 rtpBytes) = some 6 ∧ (rtpOf rtpBytes).isSome = true ∧
      dev.rtpMatch 0 (dgram 40000 rtpBytes) ≠ some 6 ∧ rtpOf (rtpBytes.take 11) = none := by decide +kernel

/-- A packet of 8 samples beyond a line's start that lies in its open chunk, where no sample is; and one before it. -/
theorem witness_RtpPacketsAndChunkClose_place :
    let at_ (ts : Word) : State := (streams 80000).putStrm 6 { bind := bound 0, rtp := { base := some ts, start := 320, last := some 0, lastSeq := some 0 } }
    let pos (ts : Word) : Int := 320 + tsDiff 0 (ts + w32 320)
    samplesOf true 1 (List.replicate 8 0xFF) ≠ [] ∧ mrising ([] : List (Nat × Int)) = true ∧
      (320 : Int) ≤ pos (w32 (2 ^ 32 - 320)) ∧ pos (w32 (2 ^ 32 - 320)) + 8 ≤ 320 + (at_ 0).chunkLen 6 8000 ∧
      0 + 8 < (at_ 0).chunkLen 6 8000 ∧ pos 0 + 8 ≤ 320 := by decide +kernel

/-- A line whose first packet was late: everything before its start is past. -/
theorem witness_RtpPacketsAndChunkClose_2 :
    let x : Stream := { bind := bound 0, rtp := { base := some 0, start := 320, samples := [(640, 1)], last := some 0, ends := [(960, 10)], lastSeq := some 0 } }
    let s : State := { (streams 80000).putStrm 6 x with now := 100000 }
    (s.strm 6).rtp.ends.find? (fun q => decide ((s.strm 6).rtp.start + s.chunkLen 6 (s.strm 6).bind.hz < q.1)) = some (960, 10) ∧
      10 + fld (s.reg Reg.feJitter) 15 0 ≤ s.now ∧ (s.strm 6).rtp.last = some 0 ∧ (s.strm 6).rtp.silent = false ∧
      0 + msPeriod (s.mslot (cxModel (s.sctx 6))) + fld (s.reg Reg.feJitter) 15 0 ≤ s.now ∧
      ({ s with now := 0 }).now < 10 + fld (s.reg Reg.feJitter) 15 0 ∧
      (s.strm 6).rtp.samples.any (fun q => decide (q.1 < (s.strm 6).rtp.start + s.chunkLen 6 (s.strm 6).bind.hz)) = false ∧
      ({ x.rtp with samples := [(330, 1)] }).samples.any (fun q => decide (q.1 < 320 + 320)) = true := by decide +kernel

/-- VSF frames at the head of port 0 for context 5: a duplicate, a gap, the next chunk, RACK and CLOSE. -/
theorem witness_VsfFramesOfAStream_1 :
    let s := streams 80000
    let u : State := { s with fe := { s.fe with items := [[], []] } }
    let v (seq : Word) : Vsf := ⟨1, 0x00070005, seq, 1, 0, [0, 0]⟩
    s.domOn 79 = true ∧ vsfOf (vsfBytes 1 5 1 [0, 0]) = some (v 5) ∧ u.vsfAlive (v 5) = true ∧ u.vsfMisfit 5 (v 5) = false ∧
      cxState (u.sctx 5) = 1 ∧ precedes 4 (cxAccept (u.sctx 5)) = true ∧ precedes 5 (cxAccept (u.sctx 5)) = false ∧
      u.nextExpected 5 = 5 ∧ (6 : Word) ≠ u.nextExpected 5 ∧ (u.strm 5).cur = none ∧ fld (v 5).w3 15 0 < u.chunkLen 5 (rateHz 0) ∧
      (samplesOf false 0 [0, 0]).length < u.chunkLen 5 (rateHz 0) ∧ (u.heldOf 5).any (fun h => h.chunk.seq == 5) = false := by decide +kernel

theorem witness_VsfFramesOfAStream_2 :
    let d := dgram 7000 []
    let u := (streams 80000).putStrm 5 { bind := bound 1, peer := peerOf 0 d }
    vsfOf (vsfBytes 4 5 0 []) = some ⟨4, 0x00070005, 5, 0, 0, []⟩ ∧ vsfOf (vsfBytes 5 6 0 []) = some ⟨5, 0x00070005, 6, 0, 0, []⟩ ∧
      (u.resultPeer 5).loc = false ∧ (u.resultPeer 5).ipv6 = d.ipv6 ∧ (u.resultPeer 5).addr = d.srcAddr ∧
      (u.strm 5).unacked.all (fun r => decide (r.rtx < fld (u.reg Reg.feRetx) 7 0)) = true ∧ cxSrc (u.sctx 5) ≠ 0 ∧
      dev.vsfAlive ⟨5, 0x00070005, 6, 0, 0, []⟩ = false := by decide +kernel

/-- One frame of 24 bytes in the cluster's send ring. -/
def ring0 : State :=
  let s := dev.setReg Reg.feCtrl 8
  let e := s.ringEntry 0 0
  (((s.hubPokeW (s.ringBase 0) 1).hubPokeW e 24).hubPokeW (e + 4) 0).hubPoke (e + 8) (vsfBytes 1 5 2 [0, 0, 0, 0])

theorem witness_VsfFramesOfAStream_3 :
    ring0.domOpen 79 = true ∧ flag (ring0.reg Reg.feCtrl) 3 = true ∧ ring0.ringUsed 0 ≠ 0 ∧ fld (ring0.hubWord (ring0.ringEntry 0 (ring0.ringCons 0))) 15 0 ≤ 2040 ∧
      fld (ring0.hubWord (ring0.ringEntry 0 (ring0.ringCons 0))) 31 16 = 0 ∧ ring0.hubWord (ring0.ringEntry 0 (ring0.ringCons 0) + 4) = 0 ∧
      (vsfOf ((ring0.hubPeek (ring0.ringEntry 0 (ring0.ringCons 0) + 8) 24).getD [])).isSome = true := by decide +kernel

/-- A chunk in the hold pool. -/
def held (i : Nat) : Held := ⟨i, ⟨5, [1], [], none, 0, default⟩, [0], 1000⟩

theorem witness_HeldChunks :
    let s (tokens : Word) (now : Nat) (i : Nat) : State := { streams tokens with now := now, fe := { (streams tokens).fe with hold := [held i] } }
    (s 80000 2000 5).domOn 79 = true ∧ (s 80000 2000 5).heldOf 5 = [held 5] ∧
      40000 ≤ ((s 80000 2000 5).tokensAt 5 (min 2000 (1000 + 4 * 40000))).1 ∧ msPeriod ((s 0 0 5).mslot (cxModel ((s 0 0 5).sctx 5))) = 40000 ∧
      ((s 0 2000 5).tokensAt 5 (min 2000 (1000 + 4 * 40000))).1 < 40000 ∧ cxSrc ((s 0 0 5).sctx 5) ≠ 0 ∧ cxSrc ((s 0 0 6).sctx 6) = 0 := by
  decide +kernel

/-- A stream at a quarter of real time has too few tokens at the end of its hold. -/
theorem witness_HeldChunks_timeout :
    let slow := (streams 0).putSctx 5 ([0x00071004, 3, 5, 4, 0, 0, 0, 0, 0, 0, 0, 0, 16] ++ List.replicate 19 0)
    1000 + 4 * 40000 ≤ 161000 ∧ (slow.tokensAt 5 (1000 + 4 * 40000)).1 < 40000 ∧
      ((slow.modStrm 5 (fun x => { x with acks := [(5, default)] })).strm 5).acks ≠ [] := by decide +kernel

/-! ### The Logbook -/

/-- A job of partition 0 in context 9, and the device with its space built and two pages mapped. -/
def jobA : Job :=
  { id := 1, ch := 1, ctxId := 9, direct := false, cls := 1, mirror := false, part := 0, ncores := 1, client := 0, seed := 0, key := 0, save := false
    landing := 0 }

/-- The device with the job's space built, and pages mapped at the given addresses. -/
def withSpace (s : State) (vas : List Nat) : State :=
  let t := ((s.buildSpace jobA).bind (fun s => s.mapFresh jobA false true vas)).getD s
  { t with pilot := { t.pilot with jobs := [jobA] } }

/-- The Pilot writes and reads in the space of context 9 (R342), which the host cannot read in the clear: its identity differs. -/
def asCtx9 : State := (withSpace dev [0x0]).setReg (hbmKey 0 Reg.hbmPilotAs) 0x80000009

theorem witness_HbmAccessesOfAgents_ctx :
    asCtx9.memAt .pilot (2 ^ 45 + 0x40) = some (.ctx 9 0x40) ∧ memWidth 0x40 4 = true ∧ cellsWf asCtx9.mem.bytes = true ∧
    mrising asCtx9.regs = true ∧ (asCtx9.vwrite asCtx9.hub.tlb 9 0x40 [1, 2, 3, 4]).isOk = true ∧
    (asCtx9.vread asCtx9.hub.tlb 9 0x40 4).isOk = true ∧
    (after (.lowWordReadCapture .pilot 0x40 4) (after (.registerWrite .pilot (2 ^ 45 + 0x40) 4 0x04030201) asCtx9)).bus.data = 0x04030201 := by
  decide +kernel

/-- An entry of a batch for context 5. -/
def entry5 (seq deadline : Word) : BEntry := { handle := 0x00070005, seq := seq, rdVer := false, mark := false, markFrame := 0, utt := 0, deadline := deadline }

/-- A batch of that entry. -/
def batch5 (seq deadline : Word) : Batch := { id := 7, model := 3, ctxId := 9, cls := 1, entries := [entry5 seq deadline], tick := 0 }

/-- Context 5 in flight in batch 7, ACCEPT_SEQ 5, COMMIT_SEQ 4. -/
def inflight (b : Batch) : State :=
  let s := (streams 80000).putSctx 5 ([0x00071044, 3, 5, 4, 0, 0, 0x00070000, 0, 0, 0, 0, 0, 256] ++ List.replicate 19 0)
  { s with log := { s.log with batches := [b] } }

theorem witness_TickFormsBatches_1 :
    dev.rst.mode ≠ .held ∧ flag (dev.reg Reg.logCtrl) 0 = false ∧ flag ((dev.setReg Reg.logCtrl 1).reg Reg.logCtrl) 0 = true ∧
      dev.logTime.toNat % 1000 = 0 ∧ ({ dev with now := 1001 } : State).logTime.toNat % 1000 ≠ 0 := by decide +kernel

/-- R54: LOG_TIME wraps at 2^32, and the ticks follow it. -/
theorem test_tick_wraps :
    ({ dev with now := 2 ^ 32 } : State).logTime.toNat % 1000 = 0 ∧ (2 ^ 32) % 1000 ≠ 0 := by decide +kernel

theorem witness_TickFormsBatches_2 : (streams 80000).due 5 = true ∧ (inflight (batch5 4 0)).due 5 = false ∧ dev.due 5 = false := by decide +kernel

theorem witness_TickFormsBatches_held :
    let s := (inflight (batch5 4 99)).setReg Reg.logWlSlots 16
    s.sweepBatches.nextHeld = some (batch5 4 99) ∧ s.sweepBatches.freeSlot = some 0 := by decide +kernel

theorem witness_CompletionsCommit_1 :
    let s := withCore { cpl := [⟨7, 0, 0, 1⟩] } (inflight (batch5 4 0))
    (s.core 3).cpl = [⟨7, 0, 0, 1⟩] ∧ (s.batch 7).isSome = true ∧ s.batch 8 = none := by decide +kernel

theorem witness_CompletionsCommit_2 :
    let s := inflight (batch5 4 99)
    s.handleLive 0x00070005 = true ∧ cxCommit (s.sctx 5) = 4 ∧ cxBatch (s.sctx 5) = 7 % 65536 ∧ cxInflight (s.sctx 5) = true ∧
      precedes 99 s.logTime = false ∧ s.handleLive 0x00080005 = false ∧ cxCommit (s.sctx 5) ≠ 5 ∧ cxBatch (s.sctx 5) ≠ 8 ∧
      cxInflight ((streams 80000).sctx 5) = false := by decide +kernel

/-- R63: the commit raises COMMIT_SEQ by one, flips CUR and clears INFLIGHT. -/
theorem test_commit :
    let t := (inflight (batch5 4 99)).commitEntry (batch5 4 99) (entry5 4 99)
    cxCommit (t.sctx 5) = 5 ∧ cxCur (t.sctx 5) = true ∧ cxInflight (t.sctx 5) = false ∧ cxAccept (t.sctx 5) = 5 := by decide +kernel

/-- A slot of job A whose pools lie in mapped pages, and a stream with a result to release and one to send again. -/
def results (now : Nat) (mapped : Bool) : State :=
  let x : Stream := { bind := bound 1, releases := [⟨4, 0, false, false⟩], unacked := [⟨3, 0, [], 0, 0⟩] }
  let s := withSpace dev (if mapped then [0x0, 0x10000, 0x20000, 0x30000, 0x40000, 0x50000] else [])
  let t := ((s.putMslot 3 [0x00042710, 1, 64, 64, 64, 0, 0, 0x10000, 0, 0x20000, 0, 0x30000, 0, 16384, 1, 0]).putSctx 5 (ctxWords 0x00071004 0)).putStrm 5 x
  let r : SlotRec := { job := 1, imageVa := 0, bytes := 0, digest := [], streamsFull := 1, initOff := 0, adpGenOff := 0xFFFFFFFF
                       adpDir := 0, kvRecOff := 0, kvRecCount := 0 }
  { t with now := now, pilot := { t.pilot with slots := [(3, r)] } }

theorem witness_TickFormsBatches_due :
    let s := (results 0 true).putStrm 5 { bind := bound 1 }
    (s.slotStreams 3).filter s.due = [5] ∧ (s.journal 5).isSome = true := by decide +kernel

theorem witness_ResultsAreReleasedAndResent_1 :
    let s := results 0 true
    (mget s.fe.streams 5).isSome = true ∧ s.rst.mode ≠ .held ∧ s.slotCtx (cxModel (s.sctx 5)) = 9 ∧
      (s.ctxPeek 9 (resultAddr (s.mslot 3) 5 4) 64).isSome = true ∧
      ((results 0 false).ctxPeek 9 (resultAddr ((results 0 false).mslot 3) 5 4) 64) = none := by decide +kernel

theorem witness_ResultsAreReleasedAndResent_2 :
    let s (n : Nat) : State := results n true
    let late (u : State) (r : ResultFrame) : Bool := decide (r.last + 1000 * fld (u.reg Reg.feRetx) 31 16 ≤ u.now)
    (s 100000000).domOn 79 = true ∧ [(⟨3, 0, [], 0, 0⟩ : ResultFrame)].findIdx? (late (s 100000000)) = some 0 ∧
      [(⟨3, 0, [], 0, 0⟩ : ResultFrame)].findIdx? (late (s 0)) = none ∧ 0 + 1 ≠ fld ((s 0).reg Reg.feRetx) 7 0 ∧
      (fld ((s 0).reg Reg.feRetx) 7 0 - 1) + 1 = fld ((s 0).reg Reg.feRetx) 7 0 := by decide +kernel

/-- A frame of 64 bytes in the cluster's transmit ring of port 0. -/
def ring5 : State := (dev.hubPokeW (dev.ringBase 5) 1).hubPokeW (dev.ringEntry 5 0) 64

theorem witness_LocalRingsAndEventQueue :
    let on : List Byte := List.replicate 0xC 0 ++ bytesOf [2]
    let j : State := { dev with pilot := { dev.pilot with config := on }, log := { dev.log with evq := [[1, 2, 3, 4]] } }
    ring5.domOn 79 = true ∧ ceilDiv (64 + 8) 2048 ≤ ring5.ringUsed 5 ∧ ring5.ringUsed 5 ≤ 4096 ∧ dev.ringUsed 6 < ceilDiv (0 + 8) 2048 ∧
      j.jtagMay = true ∧ j.bus.capture = [] ∧ j.log.evq = [[1, 2, 3, 4]] := by decide +kernel

/-! ### Cores -/

/-- The words of NOP, FENCE, END, LOOP, ENDLOOP, BANK_POWER and COMPLETE (R84, R88, R89, R92). -/
def nopW : List Word := [0x01040000]
/-- FENCE without a barrier. -/
def fenceW : List Word := [0x02100000, 0, 0, 0]
/-- END. -/
def endW : List Word := [0x03040000]
/-- LOOP of two iterations. -/
def loopW : List Word := [0x040C0000, 2, 0]
/-- ENDLOOP. -/
def endloopW : List Word := [0x05040000]
/-- BANK_POWER on. -/
def bankW : List Word := [0x06080000, 0x80000000]
/-- COMPLETE of one stream from the first. -/
def completeW : List Word := [0x07080000, 1]

/-- The core that meets words, inside the loops given. -/
def inLoops (ws : List Word) (ls : List Loop) : Core :=
  { running ws with slices := [{ slice := 0, started := true, pc := 0x1000, endVa := 0x2000, loops := ls }] }

/-- A loop in its first of two iterations. -/
def loop2 : Loop := ⟨0, 2, 0x1000, 0x100C, false, 1, 0⟩

theorem witness_ControlCommandsDispatch_1 :
    (withCore (running nopW)).domOn 3 = true ∧ (running nopW).headOp opNop = some nopW ∧ (running fenceW).headOp opFence = some fenceW ∧
      (running endW).headOp opEnd = some endW ∧ (running loopW).headOp opLoop = some loopW ∧
      (running endloopW).headOp opEndloop = some endloopW := by decide +kernel

theorem witness_ControlCommandsDispatch_2 :
    ((running nopW).decodeHead nopW).isSome = true ∧ ((running fenceW).decodeHead fenceW).isSome = true ∧
      ((running endW).decodeHead endW).isSome = true ∧ ((running loopW).decodeHead loopW).isSome = true ∧
      ((running endloopW).decodeHead endloopW).isSome = true ∧ (running [0x01040001]).headOp opNop = some [0x01040001] ∧
      (running [0x01040001]).decodeHead [0x01040001] = none := by decide +kernel

theorem witness_ControlCommandsDispatch_3 :
    (running nopW).hazard 0 [] [] = false ∧ ((running nopW).decodeHead nopW).map (fun d => (running nopW).sbRoom d) = some true ∧
      ((running [0x010D0000, 5, 6]).decodeHead [0x010D0000, 5, 6]).map (fun d =>
        ({ running [0x010D0000, 5, 6] with mxQ := [{ op := opMxLoad, rds := List.replicate 128 (0, 0) }] } : Core).sbRoom d) = some false ∧ (running endW).curSl.loops = [] ∧ (inLoops endW [loop2]).curSl.loops ≠ [] ∧
      (inLoops loopW [loop2, loop2, loop2]).curSl.loops.length < 4 ∧ 4 ≤ (inLoops loopW [loop2, loop2, loop2, loop2]).curSl.loops.length ∧
      loop2.li + 1 < loop2.iter ∧ ({ loop2 with li := 1 }).iter ≤ ({ loop2 with li := 1 }).li + 1 := by decide +kernel

/-- A NOP with one read range (R91). -/
theorem witness_ControlCommandsDispatch_4 :
    let c : Core := { running [0x010D0000, 5, 6] with seqNo := 1, vxA := [{ op := opVxStore, wrs := [(0, 10)] }] }
    c.headOp opNop = some [0x010D0000, 5, 6] ∧ (c.decodeHead [0x010D0000, 5, 6]).map (fun d => c.hazard d.seq d.rds d.wrs) = some true := by
  decide +kernel

/-- A FENCE with a live-range map, and its map's header line in the core's context (R309). -/
theorem witness_ControlCommandsDispatch_livemap :
    let ws : List Word := [0x02100000, 0x40, 0, 0]
    let c : Core := { running ws with buckets := [5760, 0, 0] }
    (match (withSpace dev [0x0]).vwrite [] 9 0x40 (bytesOf [0x4D000001, 16]) with
     | .error _ => false
     | .ok s =>
       let t := (withCore c s).setReg (coreKey 3 Reg.coreCtx) 9
       (c.headOp opFence == some ws) && (c.decodeHead ws).all (fun d => va48 d.ops 1 == 0x40) &&
         (match (t.fetchRead 3 0x40 64).2 with
          | some (.ok bs) => livemapOk (wordsOf 16 bs)
          | _ => false)) = true := by decide +kernel

/-- A core of the compatibility list. -/
def compat (ws : List Word) : Core := { running ws with run := .compat }

theorem witness_CompatibilityCommandsTranslate :
    let w (op : Nat) : List Word := [w32 (op * 2 ^ 24), 0, 0, 0]
    (withCore (compat (w 1))).domOn 3 = true ∧ (∀ op ∈ [1, 2, 3, 4, 5, 6, 7], (compat (w op)).compatHead op = some (w op)) ∧
      fld (wd (w 1) 3) 31 2 = 0 ∧ fld (wd [0x01000000, 0, 0, 4] 3) 31 2 ≠ 0 := by decide +kernel

theorem witness_KernelBoundaries_1 :
    let c (ctl : Ctl) (p : Nat) (e : Bool) : Core :=
      { running nopW with ctl := ctl, preempt := p, slices := [{ slice := 0, started := true, stepEnd := e }] }
    dev.cores.length = 32 ∧ (c (.fence false) 1 false).drained = true ∧ (c (.fence false) 1 false).curSl.stepEnd = false ∧
      ((c (.fence false) 1 false).sliceOf 0).map SliceSt.ended = some false ∧ (c (.fence false) 0 true).curSl.stepEnd = true ∧
      (c (.fence false) 0 true).drained = true ∧ dev.domOn 3 = true ∧
      ({ c (.fence false) 0 false with vxA := [{ op := opVxStore }] } : Core).drained = false ∧
      (c .endDrain 0 false).sxDrained 0 = true ∧ (c .endDrain 0 false).uncovered = false := by decide +kernel

theorem witness_KernelBoundaries_2 :
    let arrived (p : Nat) : Core := { running nopW with ctl := .barrier, preempt := p, slices := [{ slice := 0, started := true, arrived := true }] }
    let s (p : Nat) : State := withCore (arrived p) { dev with sched := { dev.sched with directs := [{ ctxId := 0, order := 0, place := List.replicate 32 3 }] } }
    ((s 1).core 3).preempt = 1 ∧ ((s 0).core 3).preempt ≠ 1 ∧ ((s 0).core 3).ctl = .barrier ∧ (s 0).barrierFull 3 = false ∧
      ((withCore { arrived 0 with run := .compat } dev).core 3).ctl = .barrier := by decide +kernel

/-- A barrier at which all 32 slices of a direct job have arrived, each core carrying one. -/
theorem witness_KernelBoundaries_full :
    let c (p k : Nat) : Core := { running nopW with ctl := .barrier, preempt := p, cur := k, slices := [{ slice := k, started := true, arrived := true, barriers := 1 }] }
    let s (p : Nat) : State := { dev with
      cores := (List.range 32).map (c p)
      sched := { dev.sched with directs := [{ ctxId := 0, order := 0, place := List.range 32, barr := [BitVec.allOnes 32] }] } }
    (s 1).cores.length = 32 ∧ (s 1).barrierFull 3 = true ∧ ((s 1).core 3).preempt = 1 ∧ (s 0).barrierFull 3 = true ∧ ((s 0).core 3).preempt ≠ 1 := by
  decide +kernel

/-- An END whose drain is over: the core's last slice, and the first of two. -/
theorem witness_KernelBoundaries_end :
    let c (l : List SliceSt) : Core := { running nopW with ctl := .endDrain, slices := l }
    let u (l : List SliceSt) : State := let s := withCore (c l)
      ((s.modCore 3 (fun c => { (c.clearKernel.modCur (fun x => { x with ended := true })) with wdog := 0 })).leaveCore 3 0).modWork 3
        (fun b => { b with ended := b.ended ||| bit32 0 }) (fun d => { d with ended := d.ended ||| bit32 0 })
    let one : List SliceSt := [{ slice := 0, started := true }]
    let two : List SliceSt := one ++ [{ slice := 1 }]
    (c one).drained = true ∧ (c one).sxDrained 0 = true ∧ (c one).uncovered = false ∧ (c one).run = .direct ∧ (c one).wl = none ∧
      ((u one).core 3).slices.all SliceSt.ended = true ∧ ((u two).core 3).slices.all SliceSt.ended = false ∧
      ((u two).core 3).nextSlice ((u two).core 3).cur = some 1 := by decide +kernel

theorem witness_KernelBoundaries_uncovered :
    let c : Core := { running nopW with run := .batch 7, ctl := .endDrain, wl := some default, wlBuf := [0xB1000002], slices := [{ slice := 0, started := true, wl := true }] }
    c.drained = true ∧ c.sxDrained c.cur = true ∧ c.uncovered = true := by decide +kernel

theorem witness_CoreStartsAndAborts :
    let s := withCore {} (dev.setReg (coreKey 3 Reg.coreSlices) 1)
    s.answers (.core 3 0) = true ∧ (s.core 3).idle = true ∧ (s.core 3).bist = [] ∧ freshSlices (s.cReg 3 Reg.coreSlices).toNat ≠ [] ∧
      (running nopW).idle = false ∧ ({ ({} : Core) with wlq := [default] } : Core).wlq ≠ [] ∧ (default : WlDesc).resume = false ∧
      s.directFirst 3 (s.descClass default) = false ∧ (s.core 3).run = .idle ∧ (running nopW).run ≠ .idle ∧ (running nopW).ctl = .run ∧ (running nopW).curSl.started = true := by decide +kernel

/-- A fetch of the line after the words in the buffer, with tokens for it. -/
theorem witness_CoreStartsAndAborts_fetch :
    let s := withSpace dev [0x0]
    let c : Core := { running nopW with buckets := [5760, 0, 0], lastCtx := some 9 }
    let t := (withCore c s).setReg (coreKey 3 Reg.coreCtx) 9
    let p := c.curSl.pc + 4 * c.fetch.length
    p < c.curSl.endVa ∧ c.fetch.length ≤ 1008 ∧ 576 ≤ c.buckets.getD 0 0 ∧
      (match (t.fetchRead 3 p (min c.curSl.endVa ((p / 64 + 1) * 64) - p)).2 with | some (.ok _) => true | _ => false) = true ∧
      (match ((t.modCore 3 (fun c => { c with buckets := [0, 0, 0] })).fetchRead 3 p (min c.curSl.endVa ((p / 64 + 1) * 64) - p)).2 with
       | none => true | _ => false) = true ∧
      (match (((withCore c dev).modCore 3 (fun c => { c with lastCtx := some 9 })).fetchRead 3 p (min c.curSl.endVa ((p / 64 + 1) * 64) - p)).2 with
       | some (.error _) => true | _ => false) = true := by decide +kernel

/-- Word 0 of a command (R84) with its ranges and operands behind it. -/
def cmdW (op nrd nwr : Nat) (rs : List Word) (ops : List Word) : List Word :=
  w32 (op * 2 ^ 24 + (1 + rs.length + ops.length) * 2 ^ 18 + nrd * 2 ^ 16 + nwr * 2 ^ 14) :: rs ++ ops

/-- A core that runs batch 7 with its head words and a work list of two entries. -/
def batchCore (ws : List Word) : Core :=
  { running ws with run := .batch 7, wlBuf := [0xB1000002], slices := [{ slice := 0, started := true, pc := 0x1000, endVa := 0x2000, wl := true }] }

theorem witness_BankPowerCompleteRetire_1 :
    let s := withCore (running bankW)
    let full : State := { s with pwr := { s.pwr with queue := List.replicate 8 default } }
    s.domOn 3 = true ∧ (s.core 3).headOp opBankPower = some bankW ∧ ((s.core 3).decodeHead bankW).isSome = true ∧
      (s.core 3).hazard 0 [] [upperWords] = false ∧ s.pwr.queue.length < 8 ∧ (s.core 3).sbUsed + 1 ≤ 128 ∧ ((s.core 3).decodeHead bankW).map (fun d => (s.core 3).sbRoom d) = some true ∧ 8 ≤ full.pwr.queue.length := by
  decide +kernel

/-- COMPLETE of one entry; a slice whose HBM write has not retired; a VX command done, and one not. -/
theorem witness_BankPowerCompleteRetire_2 :
    let c := batchCore completeW
    let busy : Core := { c with sxA := [{ op := opSxArm, ops := [0x04000000] }] }
    c.headOp opComplete = some completeW ∧ (c.decodeHead completeW).map (fun d => flag (d.o 1) 31) = some false ∧ c.writesHbm 0 = false ∧
      c.run = .batch 7 ∧ c.wl = none ∧ c.cpl.length < 16 ∧ ({ c with bist := [(3, 0)] } : Core).testing 3 = some 0 ∧ dev.cores.length = 32 ∧ min (0 + 1) c.wlCount - 0 = 1 ∧ busy.writesHbm 0 = true ∧ busy.headOp opComplete = some completeW ∧
      ({ op := opVxChain, done := true } : Cmd).done = true ∧ ({ op := opVxChain } : Cmd).done = false ∧ (withCore c).pilot.sounding = [] ∧
      (quiet (withCore c)).firmwareRuns = false := by decide +kernel

/-- R88: the words of a VX_LOAD, VX_STORE, VX_REDUCE, VX_SCAN and VX_CHAIN of one tile. -/
def vxWords (op : Nat) : List Word :=
  if op = opVxLoad then cmdW op 1 0 [0, 255] [0x0003C00F, 0, 0]
  else if op = opVxStore then cmdW op 0 1 [0, 255] [0x00060000, 0, 0, 15, 0]
  else if op = opVxReduce then cmdW op 0 0 [] [0, 0, 1, 0]
  else if op = opVxScan then cmdW op 0 0 [] [0, 0, 0, 0, 0]
  else cmdW op 0 0 [] [0, 0, 0x04000000, 0]

/-- The words of the stream-engine commands. -/
def sxWords (op : Nat) : List Word :=
  if op = opSxArm then cmdW op 0 1 [0, 15] [0, 1, 1, 0, 0, 0, 0, 0]
  else if op = opSxWait then cmdW op 0 0 [] [0]
  else if op = opSxSource then cmdW op 0 0 [] [1, 0, 0, 0]
  else if op = opSxTake then cmdW op 0 1 [0, 15] [1, 0, 0, 0]
  else cmdW op 1 1 [0, 15, 16, 1039] [1, 0, 0, 0]

/-- A core with an active store, at the head of a vector command. -/
def vxHead (op : Nat) : Core := { running (vxWords op) with vxA := [{ op := if op = opVxStore then opVxLoad else opVxStore, seq := 9 }] }

/-- A core whose stream engine is full, at the head of one of its commands. -/
def sxHead (op : Nat) : Core := { running (sxWords op) with sxA := List.replicate 16 { op := opSxArm, seq := 9 } }

theorem witness_EngineCommandsEnterTheirQueue_1 :
    ∀ op ∈ [opVxChain, opVxReduce, opVxScan, opVxLoad, opVxStore],
      (withCore (vxHead op)).domOn 3 = true ∧ (vxHead op).vxA.all (fun y => y.op != op && !(isChain y.op) && !y.done) = true ∧
        (vxHead op).headOp op = some (vxWords op) ∧ ((vxHead op).decodeHead (vxWords op)).map (fun d => (vxHead op).room d) = some true ∧
        (running ((vxWords op).set 0 (wd (vxWords op) 0 ||| 1))).decodeHead ((vxWords op).set 0 (wd (vxWords op) 0 ||| 1)) = none ∧
        ((vxHead op).decodeHead (vxWords op)).map (fun d => ({ vxHead op with vxQ := List.replicate 32 default } : Core).room d) = some false := by
  decide +kernel

theorem witness_EngineCommandsEnterTheirQueue_2 :
    ∀ op ∈ [opSxArm, opSxWait, opSxSource, opSxTake, opSxFacetEnc],
      (withCore (sxHead op)).domOn 3 = true ∧ (sxHead op).sxFree = false ∧ (sxHead op).srcs = [] ∧
        (sxHead op).sxA.all (fun x => x.op != opSxFacetEnc) = true ∧ (sxHead op).headOp op = some (sxWords op) ∧
        ((sxHead op).decodeHead (sxWords op)).map (fun d => (sxHead op).room d) = some true ∧
        ((sxHead op).decodeHead (sxWords op)).map (fun d => remoteAhead (sxHead op) d) = some false ∧
        (sxHead op).decodeHead ((sxWords op).set 0 (wd (sxWords op) 0 ||| 1)) = none ∧
        ((sxHead op).decodeHead (sxWords op)).map (fun d => ({ sxHead op with sxQ := List.replicate 64 default } : Core).room d) = some false := by
  decide +kernel

/-- A put with AHEAD. -/
theorem witness_EngineCommandsEnterTheirQueue_3 :
    let ws := (cmdW opSxArm 1 0 [0, 15] [0x08000000, 1, 1, 0, 0, 0, 0, 0]).set 0 (wd (cmdW opSxArm 1 0 [0, 15] [0, 0, 0, 0, 0, 0, 0, 0]) 0 ||| 4096)
    let c := { sxHead opSxArm with fetch := ws }
    c.headOp opSxArm = some ws ∧ (c.decodeHead ws).map (fun d => remoteAhead c d) = some true := by decide +kernel

/-- A command as decoded from its words. -/
def asCmd (ws : List Word) : Cmd := cmdOf ws 0x1000 0 0 0 none false

/-- A core on which a VX command is active, lines 0 to 15 of the scratchpad written and its own. -/
def vxActive (op : Nat) : Core :=
  { run := .direct, slices := [{ slice := 0, started := true }], vxA := [asCmd (vxWords op)] }

/-- The scratchpad's first lines filled by the core's context. -/
def filled (c : Core) : State := ((withCore c dev).spadWrite 3 0 0 (List.replicate 1024 0)).1

theorem witness_VectorCommandsRun :
    (∀ op ∈ [opVxLoad, opVxReduce, opVxScan, opVxStore], (vxActive op).vxRunning op = some (asCmd (vxWords op))) ∧
      (vxActive opVxChain).vxA.find? (fun y => isChain y.op && !y.done) = some (asCmd (vxWords opVxChain)) ∧
      (vxActive opVxLoad).head = none ∧ (vxActive opVxLoad).vxQ = [] ∧
      (let d := asCmd (vxWords opVxLoad)
       let runs := (loadRuns (flag (d.o 1) 18) (fld (d.o 2) 21 0) (fld (d.o 1) 17 14 + 1) (fld (d.o 1) 7 0 + 1) (vxBits (fld (d.o 1) 22 19)) 0).map
         (fun x => (4 * d.rd 0 + x.1, x.2))
       fld (d.o 1) 26 23 = 0 ∧ mrising (vxActive opVxLoad).tregs = true ∧
       (match (filled (vxActive opVxLoad)).engRuns 3 2 d.rds runs with
        | (u, .ok l) => decide (l.length = 16 ∧ (u.core 3).tregs = (vxActive opVxLoad).tregs ∧ (u.core 3).wss = (vxActive opVxLoad).wss)
        | (_, .error _) => false) = true ∧
       (match ((filled (vxActive opVxLoad)).engRuns 3 2 [(0, 0)] runs).2 with | .ok _ => false | .error _ => true) = true) ∧
      (let d := asCmd (vxWords opVxReduce)
       flag (d.o 1) 25 = false ∧ fld (d.o 1) 31 28 < 3 ∧ fld (d.o 1) 26 26 = 0) ∧
      (let d := asCmd (vxWords opVxScan)
       flag (d.o 1) 25 = false ∧ fld (d.o 1) 31 28 < 4 ∧ fld (d.o 1) 26 26 = 0 ∧ fld (d.o 1) 23 20 = 0) ∧
      (let d := asCmd (vxWords opVxChain)
       d.op = opVxChain ∧ d.prog = 0 ∧ chainT d.ops = 1 ∧ fld (d.o 1) 31 30 = 0 ∧ flag (d.o 2) 20 = false ∧ flag (d.o 2) 31 = false ∧
         (∀ st ∈ chainStages d.ops, st.op ≠ opWfma) ∧ (chainReads d 0).length = 1) ∧
      (let d := asCmd (vxWords opVxStore)
       let out := (List.range (fld (d.o 1) 9 6 + 1)).map (fun i => storeRow (fld (d.o 1) 22 19) 0 none ((vxActive opVxStore).storeVals d i))
       storeInt (fld (d.o 1) 22 19) = false ∧ fld (d.o 1) 26 23 = 0 ∧ flag (d.o 1) 15 = false ∧ flag (d.o 1) 16 = false ∧
       ((filled (vxActive opVxStore)).engPut 3 3 d.wrs (out.zipIdx.map (fun r => (4 * (d.wr 0 + r.2 * fld (d.o 2) 21 0),
          r.1.data.take (ceilDiv (vxBits (fld (d.o 1) 22 19) * min (fld (d.o 4) 7 0 + 1) 16) 8))))).2 = none) := by
  decide +kernel

/-- R154: a prefix sum of four words, one below 0 (two's complement). -/
theorem test_scan_network :
    (scanLine 0 true 9 1 (([1, 2, 3, 0xFFFFFFFF] : List Word).map (fun x => (⟨x, 0, 0⟩, false)))).map (fun y => y.1.a) = [1, 3, 6, 5] := by
  decide +kernel

/-- A core on which a matrix command is active. -/
def mxActive (ws : List Word) : Core := { run := .direct, slices := [{ slice := 0, started := true }], mxA := [asCmd ws] }
/-- MX_LOAD of BF16 weights, K 32, N 1. -/
def loadW : List Word := cmdW opMxLoad 1 0 [0, 15] [0x4C008001, 0, 0, 0]
/-- MX_MATMUL of one row. -/
def matmulW : List Word := cmdW opMxMatmul 1 0 [0, 15] [0x10000001, 0, 16, 0, 0, 0]
/-- A plane of BF16 weights in use. -/
def planed (c : Core) : Core := { c with loaded := true, plane0 := { valid := true, fmt := 4, gsize := 3, k := 32, n := 1, elems := List.replicate 32 0x3F80 } }

theorem witness_MatrixCommandsRun :
    let q : Core := { mxActive [] with mxA := [], mxQ := [asCmd matmulW] }
    cmdOk loadW none false = true ∧ cmdOk matmulW none false = true ∧ (mxActive loadW).head = none ∧ (mxActive loadW).mxQ = [] ∧
      (mxActive loadW).mxRunning opMxLoad = some (asCmd loadW) ∧ loadFacet (asCmd loadW) = none ∧
      (mxActive matmulW).mxRunning opMxMatmul = some (asCmd matmulW) ∧
      ({ mxActive matmulW with loupe := [{ seq := 0, req := 1, fmt := 0, line := 0, lo := 0, hi := 4096, blocks := 1, next := 1 }] } : Core).loupeReady 0 = true ∧
      (asCmd matmulW).op = opMxMatmul ∧ q.hazard (asCmd matmulW).seq (asCmd matmulW).rds (asCmd matmulW).wrs = false ∧ q.live = true ∧
      q.mxFree = true ∧ q.loaded = false ∧ matmulCheck (planed q) (asCmd matmulW) = none ∧ flag ((asCmd matmulW).o 1) 25 = false ∧
      ({ q with staging := [(0, default)] } : Core).tileQ.length < 16 := by decide +kernel

/-- A load of a plane and a matrix product of one row whose reads go well. -/
theorem witness_MatrixCommandsRun_data :
    let d := asCmd loadW
    let m := asCmd matmulW
    let w := d.o 1
    let q := filled (planed (mxActive matmulW))
    flag w 25 = false ∧ flag w 24 = false ∧ fld w 31 28 ≠ 2 ∧ flag (d.o 2) 31 = false ∧
      (match (filled (mxActive loadW)).loadPart 3 d.rds (4 * d.rd 0) (fld w 19 10 * fld w 9 0 * weightBits (fld w 31 28) / 8) with
       | (u, .ok data) =>
         (match u.readSide 3 d.rds (4 * d.rd 1) ((loadParts d).take 3) with
          | (v, .ok _) => decide (data.length = 32 ∧ (v.core 3).front = (mxActive loadW).front)
          | _ => false)
       | _ => false) = true ∧
      flag (m.o 1) 25 = false ∧ (q.core 3).staging = [] ∧ m.prog = 0 ∧ 0 < fld (m.o 1) 15 0 ∧ fld (m.o 1) 15 0 ≤ 16 ∧
      (match (q.matmulRows 3 m (q.core 3).frontPlane none none 16 (fld (m.o 1) 15 0) m.mark 0).2 with
       | .ok r => decide (r.1.length = 1)
       | .error _ => false) = true ∧
      ({ mxActive loadW with tileQ := [] } : Core).mxRunning opMxMatmul = none := by decide +kernel

/-- MX_ATTN and VX_ATTN of one query row and one page. -/
def mxAttnW : List Word := cmdW opMxAttn 2 2 [0, 15, 16, 1039, 1040, 2063, 2064, 3087] [0x10020000, 0x00010000, 33, 0, 0, 0, 0, 0]
/-- The VX half. -/
def vxAttnW : List Word := cmdW opVxAttn 1 1 [0, 15, 3088, 4111] [0, 0x00020000, 0, 258, 0, 0, 0, 0]

theorem witness_FusedAttentionPair :
    let c := running (mxAttnW ++ vxAttnW)
    let lone := running (mxAttnW ++ nopW)
    let v : Core := { running vxAttnW with seqNo := 1, mxA := [asCmd mxAttnW] }
    c.headOp opMxAttn = some mxAttnW ∧ c.partnerThere = true ∧ lone.partnerThere = true ∧ c.attn = none ∧
      (c.decodeHead mxAttnW).map (fun d => (badMxPair c d, c.room d)) = some (false, true) ∧
      (lone.decodeHead mxAttnW).map (fun d => badMxPair lone d) = some true ∧
      v.headOp opVxAttn = some vxAttnW ∧ (v.decodeHead vxAttnW).map (fun d => (badVxPair v d, v.room d)) = some (false, true) ∧
      ((running vxAttnW).decodeHead vxAttnW).map (fun d => badVxPair (running vxAttnW) d) = some true ∧
      (mxActive []).head = none ∧ (mxActive []).mxQ = [] ∧ (mxActive []).vxQ = [] ∧ (mxActive []).attn = none := by decide +kernel

/-- Both halves issued, the one block of a record without tokens at hand, and computed. -/
theorem witness_FusedAttentionPair_block :
    let d : Cmd := { asCmd mxAttnW with seq := 0, rds := [(0, 63), (64, 143)] }
    let v : Cmd := { asCmd vxAttnW with seq := 1, wrs := [(0, 257)] }
    let a : Attn := { mx := 0, vx := some 1, image := List.replicate 80 0, vimage := List.replicate 80 0, rows := [List.replicate 258 0] }
    let s := ((withCore { run := .direct, slices := [{ slice := 0, started := true }], mxA := [d], vxA := [v], attn := some a } dev).spadWrite 3 0 0
      (List.replicate 192 0)).1
    (s.core 3).head = none ∧ cmdBySeq (s.core 3).mxA a.mx = some d ∧ cmdBySeq (s.core 3).vxA 1 = some v ∧ a.stage = 0 ∧
      ((attBlocks d a.image).filter (needsPage a.image)).length ≤ a.fetches ∧ (s.core 3).mxQ = [] ∧ (s.core 3).vxQ = [] ∧
      (s.core 3).blockReady d a = true ∧ attnReg d .none = none ∧ (attBlocks d a.image)[a.next]? = some (0, false) ∧
      (match s.readBlock 3 d a.image (0, false) (slotLine d (fetchesBefore d a.image a.next)) 256 0 with
       | (u, .ok blk) => ((u.cBump 3 Reg.mxCntLoadcyc 130).attnRows 3 d v a.image (0, false) blk none a.rows 0).2.isOk
       | (_, .error _) => false) = true ∧
      (attBlocks d a.image).length ≤ 1 ∧ flag (v.o 2) 28 = false ∧ (s.putAttnRows 3 v a.rows 0).2 = none := by decide +kernel

theorem witness_CoreTestsAndRevoke :
    let c : Core := { tags := [(0, 9), (1, 8)], revoking := some 9 }
    dev.cores.length = 32 ∧ mrising dev.regs = true ∧ dev.answers (.core 3 0) = true ∧ (dev.core 3).idle = true ∧ (dev.core 3).bist = [] ∧
      ((withCore (running nopW)).core 3).idle = false ∧ (dev.core 3).revoking = none ∧ (9 : Nat) ≠ (withCore (running nopW)).coreCtx 3 ∧
      (0 : Nat) = (withCore (running nopW)).coreCtx 3 ∧ dev.domOn 3 = true ∧ ((withCore c).core 3).revoking = some 9 ∧
      dev.pilot.sounding = [] ∧ (quiet dev).firmwareRuns = false ∧ (∀ k ∈ [0, 1, 2], ((withCore { bist := [(k, 0)] }).core 3).testing k = some 0) := by
  decide +kernel

/-- R178: a revoke removes the tags of one context only. -/
theorem test_revoke :
    ((after (.spdRevokeDone 3) (withCore { tags := [(0, 9), (1, 8)], revoking := some 9 })).core 3).tags = [(1, 8)] := by decide +kernel

/-- A core whose stream engine has a command at the head of its queue. -/
def sxQueued (op : Nat) : Core := { run := .direct, slices := [{ slice := 0, started := true }], sxQ := [asCmd (sxWords op)] }

theorem witness_StreamCommandsIssue :
    (∀ op ∈ [opSxArm, opSxWait, opSxSource, opSxTake, opSxFacetEnc],
      let c := sxQueued op
      let d := asCmd (sxWords op)
      d.op = op ∧ c.head = none ∧ c.hazard d.seq d.rds d.wrs = false ∧ c.live = true ∧ c.sxFree = true ∧ c.srcs = [] ∧ c.sxA = []) ∧
    (let c := sxQueued opSxArm
     let d := asCmd (sxWords opSxArm)
     c.canArm d = true ∧ c.arms = [] ∧ c.descs = [] ∧ fld (d.o 1) 25 24 = 0 ∧ flag (d.o 1) 20 = false ∧ fld (d.o 1) 27 26 < 2 ∧ (c.desc 0 0).live = [] ∧ c.moving d.seq = false ∧
       fld (d.o 2) 15 0 = 1 ∧ fld (d.o 3) 15 0 = 1 ∧ va48 d.ops 4 + 64 * (d.o 7).toNat * 0 + 64 * 1 ≤ 2 ^ 48) ∧
    flag ((asCmd (sxWords opSxSource)).o 2) 31 = false ∧ flag ((asCmd (sxWords opSxTake)).o 2) 31 = false ∧ (sxQueued opSxTake).seen = [] ∧
    fld ((asCmd (sxWords opSxFacetEnc)).o 1) 31 30 = 0 ∧
    (let d := asCmd (sxWords opSxFacetEnc)
     let c : Core := { sxQueued opSxWait with sxQ := [], sxA := [d], loupe := [{ seq := 0, req := 2, fmt := 0, line := 0, lo := 0, hi := 4096, blocks := 0 }] }
     c.sxA.find? (fun x => x.op == opSxFacetEnc && !x.done) = some d ∧ c.loupeReady d.seq = true) := by decide +kernel

/-- HIST over one block of FP8 bytes, whose table is written. -/
theorem witness_StreamCommandsIssue_hist :
    let d := asCmd (cmdW opSxFacetEnc 1 1 [0, 1023, 0, 1023] [1, 0, 0, 0])
    let c : Core := { run := .direct, slices := [{ slice := 0, started := true }], sxA := [d] }
    let s := ((withCore c dev).spadWrite 3 0 0 (List.replicate 4096 0)).1
    (match s.encBlocks 3 d (fld (d.o 1) 6 0) 0 with
     | (u, .ok blocks) =>
       let w := u.engWrite 3 4 d.wrs (4 * d.wr 0) (bytesOf (fctBuild (fld (d.o 1) 29 28) blocks).record)
       w.2 == none && (w.1.core 3).sxA.all (fun x => x.seq == d.seq)
     | _ => false) = true := by decide +kernel

/-- A read and a write transfer of one line. -/
def xfer (cls : Nat) (k : XKind) : Xfer := { seq := 0, slice := 0, cls := cls, kind := k, ctx := 9, va := 0x40, lines := 1, spLine := 0 }

theorem witness_TransfersEnterAndComplete_1 :
    let c (cls : Nat) (k : XKind) (w : Bool) : Core :=
      { waiting := [xfer cls k], buckets := [576, 576, 576], tlb := [⟨9, 0, false, 0x1000000, w⟩], sxA := [asCmd (cmdW opSxArm 1 0 [0, 15] [0x04000000, 1, 1, 0, 0, 0, 0, 0])] }
    (c 0 .read true).nextXfer 0 = some (xfer 0 .read) ∧ (c 0 .read true).nextXfer 1 = none ∧ (c 1 .write true).nextXfer 1 = some (xfer 1 .write) ∧
      (c 2 .put true).nextXfer 2 = some (xfer 2 .put) ∧ (c 0 .read true).outs.length < 512 ∧ 576 * 1 ≤ (c 0 .read true).buckets.getD 0 0 ∧
      (c 0 .read true).arms = [] ∧ (c 0 .read true).wantsFetch = false ∧ (c 0 .read true).portQ < 64 ∧
      (c 0 .read true).pageOf (xfer 0 .read) = some ⟨0x1000000, false, true⟩ ∧ ({ c 0 .read true with tlb := [] } : Core).pageOf (xfer 0 .read) = none ∧
      (c 1 .write false).pageOf (xfer 1 .write) = some ⟨0x1000000, false, false⟩ ∧
      (∀ cls ∈ [0, 1, 2], ((arbitrate (c cls (if cls = 0 then .read else if cls = 1 then .write else .put) true).portOrder
        (c cls (if cls = 0 then .read else if cls = 1 then .write else .put) true).classReady).map Prod.fst) = some cls) ∧
      (arbitrate ({ c 0 .read true with tlb := [] } : Core).portOrder ({ c 0 .read true with tlb := [] } : Core).classReady).map Prod.fst ≠ some 0 ∧
      dev.reachable 0x1000000 64 = true ∧
      (match ((filled (c 1 .write true)).engRead 3 6 ((c 1 .write true).sxRanges 0) 0 64).2 with | .ok bs => decide (bs.length = 64) | .error _ => false) = true := by
  decide +kernel

theorem witness_TransfersEnterAndComplete_2 :
    let x (cls : Nat) (k : XKind) : Xfer := { xfer cls k with pa := 0x1000000, data := List.replicate 64 0 }
    let s (cls : Nat) (k : XKind) : State := withCore { outs := [x cls k] }
    let out (cls : Nat) (k : XKind) : State := (s cls k).modCore 3 (fun c => { c with outs := c.outs.erase (x cls k) })
    ((s 0 .read).core 3).outs[0]? = some (x 0 .read) ∧ ((out 0 .read).xferPeek 3 (x 0 .read)).2.isSome = true ∧
      (s 1 .write).writable (x 1 .write).pa (x 1 .write).data.length true = true ∧ (x 2 .put).cls = 2 ∧ ((s 0 .read).core 3).outs.length ≤ 1 := by decide +kernel

theorem witness_GenerationsAndShares :
    let c : Core := { descs := [(0, { gen := 1, live := [(1, 4)], pending := true })], waiting := [{ xfer 0 .read with seq := 4, held := true }] }
    (withCore c).domOn 3 = true ∧ (c.desc 0 0).pending = true ∧ (c.desc 0 0).live = [(1, 4)] ∧ c.arms = [] ∧ c.moving 4 = true ∧ (c.desc 0 1).pending = false ∧
      dev.answers (.core 3 0) = true ∧ (16 < fld (0x00060606 : Word) 20 16 + fld (0x00060606 : Word) 12 8 + fld (0x00060606 : Word) 4 0) ∧
      fld (0x00060505 : Word) 20 16 + fld (0x00060505 : Word) 12 8 + fld (0x00060505 : Word) 4 0 = 16 ∧
      (0x00060505 : Word) &&& 0xFFE0E0E0#32 = 0#32 ∧ dev.cReg 3 Reg.sxShare &&& 0xFFE0E0E0#32 = 0#32 := by decide +kernel

/-- A flit of core 2, and one of core 4 (which stands behind core 3). -/
def flit (origin : Nat) : Flit := ⟨origin, 9, 7, 1, 0, 0, 4, false, 0, List.replicate 256 0⟩

theorem witness_NecklaceFlitsAndTimeouts :
    let t : Take := { seq := 0, slice := 0, ntag := 1, ctx := 9, batch := 7, first := 0, count := 1, base := 0, facet := false, line := 0, next := 0 }
    let full : State := { dev with cores := (dev.cores.set 3 { inbox := [flit 2] }).set 4 { inbox := List.replicate 64 (flit 2), bypass := false } }
    let s (n : Nat) (t : Take) : State := { withCore { inbox := [flit 2], takes := [t] } { dev with cores := dev.cores.set 4 { bypass := false } } with now := n }
    (s 0 t).hopRoom 3 2 = true ∧ full.hopRoom 3 2 = false ∧ (s 0 t).nextHop 3 2 = some 4 ∧ (s 0 t).nextHop 3 4 = none ∧
      { t with ntag := 2 }.ntag ≠ (flit 2).ntag ∧ ((s 0 t).core 3).takeQ = [] ∧ t.next = (flit 2).seg ∧ (flit 2).seg < t.stop ∧
      (flit 2).va = t.base + 4096 * (flit 2).seg ∧ t.open_ (flit 2).seg = true ∧ t.part = none ∧ (flit 2).idx = 0 ∧ t.arrival = none ∧
      { t with arrival := some 0 }.arrival ≠ none ∧ (s 0 t).domOn 3 = true ∧ (s 0 t).passedUnits 0 (fld ((s 0 t).cReg 3 Reg.nklCtrl) 31 16) = false ∧
      (s 100000 t).passedUnits 0 (fld ((s 0 t).cReg 3 Reg.nklCtrl) 31 16) = true ∧
      (s 100000 t).passedUnits 0 (fld ((s 0 t).cReg 3 Reg.nklCtrl) 15 0) = true ∧
      (s 0 t).passedUnits 0 (fld ((s 0 t).cReg 3 Reg.nklCtrl) 15 0) = false := by decide +kernel

/-- A Facet block stored raw: index entry VALID and RAW. -/
theorem witness_LoupeDecodesOneBlock :
    let r : LoupeReq := { seq := 0, req := 1, fmt := 0, line := 0, lo := 0, hi := 8192, blocks := 1 }
    let c : Core := { run := .direct, slices := [{ slice := 0, started := true }], loupe := [r], sxA := [asCmd (sxWords opSxArm)] }
    let s := ((withCore c).spadWrite 3 0 0 (bytesOf [0xC0000001])).1
    let bad := ((withCore c).spadWrite 3 0 0 (List.replicate 64 0)).1
    (s.core 3).loupeOrder.find? (fun q => c.loupe.any (fun r => r.req == q && decide (r.next < r.blocks))) = some 1 ∧
      (match (s.loupeBlock 3 r).2 with | .ok bs => decide (bs.length = 4096) | .error _ => false) = true ∧
      (match (bad.loupeBlock 3 r).2 with | .ok _ => false | .error e => decide (e = codeFacetIndex)) = true ∧
      c.mxA = [] ∧ c.sxA.find? (fun y => y.seq == r.seq) = some (asCmd (sxWords opSxArm)) ∧ (dev.core 3).loupe = [] := by decide +kernel

/-- A raw block asked for by the matrix engine, by an EXPAND with 4 KiB to write, and by a refill. -/
theorem witness_LoupeDecodesOneBlock_good :
    let r (q : Nat) : LoupeReq :=
      { seq := 0, req := q, fmt := 0, line := if q = 2 then 64 else 0, lo := 0, hi := 8192, blocks := 1, pack := if q = 2 then bytesOf [0xC0000001] ++ List.replicate 4156 0 else [] }
    let c (q : Nat) : Core :=
      { run := .direct, slices := [{ slice := 0, started := true }], loupe := [r q], sxA := [asCmd (cmdW opSxFacetEnc 1 1 [0, 2047, 2048, 3071] [0x80000001, 0, 0, 0])] }
    let s (q : Nat) := ((withCore (c q)).spadWrite 3 0 0 (bytesOf [0xC0000001])).1
    (∀ q ∈ [0, 1, 2], (c q).loupeOrder.find? (fun k => (c q).loupe.any (fun r => r.req == k && decide (r.next < r.blocks))) = some q) ∧
      (match ((s 0).loupeBlock 3 (r 0)).2 with | .ok bs => decide (bs.length = 4096) | .error _ => false) = true ∧
      (match (s 1).loupeBlock 3 (r 1) with
       | (u, .ok bs) => (u.engWrite 3 4 [(2048, 3071)] (4 * 2048) bs).2 == none
       | _ => false) = true ∧
      (match (s 2).refillBlock 3 (r 2) with
       | (u, .ok bs) => (u.spadWrite 3 4 (64 * 64) bs).2 == none && decide (bs.length = 4096)
       | _ => false) = true := by decide +kernel

/-! ### The scheduler and the page-table unit -/

/-- The scheduler on, with pre-emption; partition 0 holds cores 0 to 3; contexts 9 (batches of class 1) and 10 (direct, class 0, READY) of
two cores each. -/
def schedDev : State :=
  let on := setRegs [(Reg.logSchedCtrl, 3), (Reg.logSchedUsable, 0xFFFFFFFF)] { dev with pilot := { dev.pilot with config := List.replicate 0x20 0 ++ bytesOf [15] } }
  (on.putCent 9 ([0x24008000, 0, 0, 0, 0xF0000000, 0x7FFF] ++ List.replicate 10 0)).putCent 10 ([0x12008000] ++ List.replicate 15 0)

/-- Batch 7 of context 9, and the direct item of context 10, ready. -/
def readyDev (b : Batch) : State :=
  { schedDev with
    log := { schedDev.log with batches := [b] }
    sched := { schedDev.sched with ready := [.batch 7, .direct 10], directs := [{ ctxId := 10, order := 0 }] } }

theorem witness_FreshWorkIsSpreadOverItsCores :
    let s := readyDev (batch5 4 99)
    (batch5 4 99).place = [] ∧ s.batch 7 = some (batch5 4 99) ∧ (s.placeBatch (batch5 4 99)).isSome = true ∧ mrising s.sched.rot = true ∧
      ({ ctxId := 10, order := 0 } : Direct).place = [] ∧ (s.placeDirect { ctxId := 10, order := 0 }).isSome = true ∧
      s.servingCores 9 = [0, 1] := by decide +kernel

/-- R303: 32 slices on two cores, slice k on core k mod 2. -/
theorem test_placement :
    (((readyDev (batch5 4 99)).placeBatch (batch5 4 99)).bind (fun t => t.batch 7)).map (fun b => b.place.take 5) = some [0, 1, 0, 1, 0] := by
  decide +kernel

/-- Core 0 and core 1 run batches of context 9 (class 1); the direct item of class 0 takes them over. -/
def busyDev : State :=
  let s := readyDev { batch5 4 99 with place := List.replicate 32 0 }
  let c : Core := { running nopW with run := .batch 7 }
  let t : State := { s with cores := ((((s.cores.set 0 c).set 1 c).set 2 c).set 3 c), sched := { s.sched with ready := [.direct 10] } }
  setRegs [(coreKey 0 Reg.coreCtx, 9), (coreKey 1 Reg.coreCtx, 9), (coreKey 2 Reg.coreCtx, 9), (coreKey 3 Reg.coreCtx, 9)] t

theorem witness_PreemptionIsRequestedUnderItsConditions :
    busyDev.cores.length = 32 ∧ (busyDev.core 0).preempt = 0 ∧ ((after .schedulerPlace busyDev).core 0).preempt ≠ 0 := by decide +kernel

theorem witness_SchedulerPlacesReadyWork :
    let s := readyDev (batch5 4 99)
    s.rst.mode ≠ .held ∧ ceState (s.cent 10) = 1 ∧ ceDirect (s.cent 10) = true ∧ s.sched.directs.any (fun d => d.ctxId == 10) = true ∧
      schedDev.sched.directs.any (fun d => d.ctxId == 10) = false ∧ ceState (s.cent 9) ≠ 1 ∧ flag (dev.reg Reg.logSchedCtrl) 0 = false ∧
      schedDev.sched.ready = [] ∧ flag (s.reg Reg.logSchedCtrl) 0 = true ∧ s.sched.ready = [] ++ WorkItem.batch 7 :: [.direct 10] ∧
      (s.placeItem (.batch 7)).isSome = true ∧ (quiet s).firmwareRuns = false ∧ s.rst.mode = .running := by decide +kernel

/-- Job A's space with two pages mapped, and pool 0 of context 9: 16 frames from the frame of page 1 on, its scale values in page 0. -/
def kvDev (q : List KvReq) : State :=
  let s := setRegs [(Reg.logKvCtrl, 1)] (withSpace dev [0x0, 0x10000])
  let b := (s.kvMap 9 0x10000).getD 0
  let e : List Word := [0x80000009, 16, w32 (b % 2 ^ 32), w32 (b / 2 ^ 32), 0, 0, 0x28000000, 0]
  s.modKv (fun k => { k with pools := [(0, e)], queue := q })

/-- The counts of a device's pool. -/
def counted (s : State) (f k : Nat) : State := s.setCount 0 f k

/-- A request of core 3. -/
def ask (op : KvOp) : KvReq := { op := op, src := some 3, seq := 4, ctx := 9, va := 0x10000, pool := 0 }

theorem witness_KvRequestsOfCores_1 :
    let p := (kvDev [ask .pin]).kvPop
    let pa := (p.kvMap 9 0x10000).getD 0
    (kvDev [ask .pin]).rst.mode ≠ .held ∧ flag ((kvDev [ask .pin]).reg Reg.logKvCtrl) 0 = true ∧
      (kvDev [ask .pin]).log.kv.queue = [ask .pin] ∧ (ask .pin).src = some 3 ∧ p.kvMap 9 0x10000 = some pa ∧ p.kvMap 9 0x7FFF0000 = none ∧
      p.poolOfFrame 9 pa = some (0, 0) ∧ p.poolOfFrame 9 0 = none ∧ p.count 0 0 ≠ 0xFFFF ∧ (counted p 0 0xFFFF).count 0 0 = 0xFFFF := by
  decide +kernel

theorem witness_KvRequestsOfCores_2 :
    let s := kvDev [ask .unpin]
    let p := (kvDev [ask .mapFresh]).kvPop
    let g := p.setFree 0 15 true
    (s.modKv (fun k => { k with pins := [(3, 4, 0)] })).log.kv.pins.contains (3, 4, 0) = true ∧ s.log.kv.pins.contains (3, 4, 0) = false ∧
      p.poolOf 1 9 = false ∧ p.poolOf 0 9 = true ∧ p.lowestFree 0 = none ∧ g.lowestFree 0 = some 15 ∧ g.kvMap 9 0x20000 = none ∧
      (((g.setFree 0 15 false).setCount 0 15 1).kvMapTo 9 0x20000 (poolBase (g.pool 0) + 65536 * 15)).isSome = true ∧
      g.kvMap 9 0x10000 = some (poolBase (g.pool 0)) ∧ g.poolOfFrame 9 (poolBase (g.pool 0)) = some (0, 0) ∧ g.count 0 0 ≠ 0xFFFF := by decide +kernel

theorem witness_KvRequestsOfThePilot :
    let r (op : KvOp) : KvReq := { op := op, ctx := 9, va := 0x10000, frame := 3, pool := 0 }
    let p := (kvDev [r .attach]).kvPop
    let e := p.pool 0
    (kvDev [r .attach]).log.kv.queue = [r .attach] ∧ (r .attach).src = none ∧ poolValid e = true ∧ poolValid (p.pool 1) = false ∧
      poolPages e ≤ 16 ∧ 3 < poolPages e ∧ p.count 0 3 ≠ 0xFFFF ∧ (counted p 3 0xFFFF).count 0 3 = 0xFFFF ∧
      ((p.setCount 0 3 (p.count 0 3 + 1)).kvMapTo (poolCtx e) 0x20000 (poolBase e + 65536 * 3)).isSome = true ∧
      p.kvMap 9 0x7FFF0000 = none ∧ p.lastInval 9 (fun i => i) = none ∧ (p.invalidate ⟨9, false, 0x10000, 1, [], [], []⟩).lastInval 9 (fun i => i) ≠ none ∧ (p.kvMap 9 0x10000).bind (p.poolOfFrame 9) = some (0, 0) ∧ mrising p.regs = true := by decide +kernel

theorem witness_CopiesAndFills :
    let f (kv : Bool) : Fill := ⟨0x1000000, false, kv, 0, 0, if kv then some 0x28000000 else none⟩
    let s (kv : Bool) : State := { dev with hub := { dev.hub with fills := [f kv] } }
    let busy (kv : Bool) : State := withCore { outs := [{ xfer 0 .read with pa := 0x1000040 }] } (s kv)
    dev.log.kv.copies = [] ∧ dev.hub.fills = [] ∧ (s false).pageBusy 0x1000000 (2 ^ 16) = false ∧ (s true).pageBusy 0x1000000 65536 = false ∧
      (busy true).pageBusy 0x1000000 65536 = true ∧ cellsWf (s false).mem.bytes = true ∧ (kvDev []).scalePa 0 0 ≠ none ∧
      poolValid ((s true).pool 0) = false ∧ (f true).scale = some 0x28000000 := by decide +kernel

/-- The frame at the head of the scrubber belongs to a loaded pool, with count 0 and with count 1. -/
theorem witness_CopiesAndFills_frame :
    let b := poolBase ((kvDev []).pool 0)
    let s (k : Nat) : State := counted { kvDev [] with hub := { (kvDev []).hub with fills := [⟨b + 65536 * 3, false, true, 0, 3, (kvDev []).scalePa 0 3⟩] } } 3 k
    poolValid ((s 0).pool 0) = true ∧ 3 < poolPages ((s 0).pool 0) ∧ (s 0).count 0 3 = 0 ∧ (s 1).count 0 3 ≠ 0 ∧ ((kvDev []).scalePa 0 3).isSome = true ∧
      (s 0).pageBusy (b + 65536 * 3) 65536 = false := by decide +kernel

/-- A copy of frame 0 to frame 1 of the pool; its first line stands for the whole copy, which touches no table. -/
theorem witness_CopiesAndFills_copy :
    let c : KvCopy := ⟨ask .cow, ((kvDev []).kvMap 9 0x10000).getD 0, ((kvDev []).kvMap 9 0x10000).getD 0 + 65536⟩
    let p := kvDev []
    let d := p.copyPhys 9 c.fromPa c.toPa 64
    p.poolOfFrame 9 c.fromPa = some (0, 0) ∧ p.poolOfFrame 9 c.toPa = some (0, 1) ∧ (d.scalePa 0 0).isSome = true ∧
      ((d.copyPhys 9 ((d.scalePa 0 0).getD 0) ((d.scalePa 0 1).getD 0) 64).kvMapTo 9 0x10000 c.toPa).isSome = true := by decide +kernel

/-! ### Pre-emption, faults and teardown -/

/-- A core that waits for a signal of slice 0: SX_WAIT_REMOTE with COUNT 2 on signal 1. -/
def remoteCore : Core :=
  { run := .direct, slices := [{ slice := 0, started := true, endVa := 0x2000, wait := some [0x00010000, 2] }],
    sxQ := [asCmd (cmdW opSxWaitRemote 0 0 [] [0x00010000, 2])] }

theorem witness_PreemptionSpillsAndResumes_1 :
    let s := withCore (running nopW)
    dev.cores.length = 32 ∧ mrising dev.regs = true ∧ s.answers (.core 3 0) = true ∧ (s.core 3).idle = false ∧ (s.core 3).preempt = 0 ∧
      (dev.core 3).idle = true ∧ (dev.core 3).run = .idle ∧ dev.ctxCompat (dev.coreCtx 3) = false ∧ dev.domOn 3 = true := by
  decide +kernel

theorem witness_PreemptionSpillsAndResumes_2 :
    let c : Core := { running nopW with preempt := 1, ctl := .preempted }
    let s := (withCore c (withSpace schedDev [recordVa (schedDev.cent 9) 0])).setReg (coreKey 3 Reg.coreCtx) 9
    let b := s.modCore 3 (fun c => { c with ctl := .preempted })
    let alive := c.slices.filter (fun x => !x.ended)
    (running nopW).preempt ≠ 1 ∧ ({ running nopW with preempt := 1 } : Core).atBoundary = false ∧ c.atBoundary = true ∧ (((withCore c).dropTakes 3).modCore 3 (fun c => { c with ctl := .preempted }) |>.core 3).aheadOver = true ∧
      ((withCore { c with sxA := [{ asCmd (sxWords opSxArm) with ahead := true }] }).core 3).aheadOver = false ∧
      (match b.allRanges 3 alive with
       | .ok rs => ((alive.foldl (fun s x => s.leaveCore 3 x.slice) (b.modCore 3 (fun c => { c with preempt := 2 }))).spillSlices 3 rs).2.isNone
       | .error _ => false) = true ∧
      ({ c with preempt := 2 } : Core).preempt = 2 ∧ ({ c with preempt := 3 } : Core).ctl = .preempted ∧
      c.loupe = [] := by decide +kernel

theorem witness_PreemptionSpillsAndResumes_ranges :
    let c : Core := { running nopW with preempt := 1, ctl := .preempted, slices := [{ slice := 0, started := true, liveMap := 0x123400 }] }
    let b := (withCore c).modCore 3 (fun c => { c with ctl := .preempted })
    (match b.allRanges 3 (c.slices.filter (fun x => !x.ended)) with | .ok _ => false | .error _ => true) = true := by decide +kernel

theorem witness_PreemptionSpillsAndResumes_remote :
    (running nopW).remoteWait = none ∧ remoteCore.head = none ∧
      (match remoteCore.remoteWait with | some d => decide (d.slice = 0 ∧ fld (d.o 1) 19 16 = 1 ∧ (d.o 2).toNat = 2) | none => false) = true ∧
      (remoteCore.signal 0 1).toNat < 2 ∧ remoteCore.live = true ∧ 2 ≤ ((remoteCore.setSignal 0 1 5).signal 0 1).toNat := by decide +kernel

/-- R365: the counter of 5 less COUNT 2 leaves 3. -/
theorem test_wait_remote : ((after (.sxWaitRemote 3) (withCore (remoteCore.setSignal 0 1 5))).core 3).signal 0 1 = 3 := by decide +kernel

theorem witness_WatchdogFaultsAndPowerLoss :
    let s (c : Core) : State := withCore c
    let stuck : Core := { running nopW with wdog := 1000000000 }
    let faulted := withCore { faultLine := true, faultCode := 6 }
    (s stuck).domOn 3 = true ∧ (s stuck).wdogRuns 3 = true ∧ (s stuck).wdogLimit 3 ≤ stuck.wdog ∧ (s stuck).boundaryNow 3 = false ∧
      (s { stuck with ctl := .fence false }).boundaryNow 3 = true ∧ (s (running nopW)).wdogRuns 3 = true ∧
      (running nopW).wdog < (s (running nopW)).wdogLimit 3 ∧ dev.wdogRuns 3 = false ∧ dev.firmwareRuns = true ∧ (quiet dev).firmwareRuns = false ∧
      (faulted.core 3).faultLine = true ∧ (faulted.core 3).run = .idle ∧
      hardwareCode (faulted.core 3).faultCode = false ∧ State.reset.domOn 3 = false ∧
      dev.pwr.cur.all (fun r => r.domain != 3) = true ∧ dev.domOn 40 = true ∧ dev.domOn 72 = true ∧ dev.domOn 64 = true ∧
      (((dev.dropUpperOn 3).supplyOff 35).supplyOff 3).firmwareRuns = true ∧
      ((((quiet dev).dropUpperOn 3).supplyOff 35).supplyOff 3).firmwareRuns = false := by decide +kernel

theorem witness_RedispatchAndTeardown_1 :
    let bad : State := { dev with pilot := { dev.pilot with decl := List.replicate 0x10 0 ++ bytesOf [8] } }
    let waits : State := { withCore (running nopW) with
      now := 100, sched := { dev.sched with redisp := [(3, [7])] }, pilot := { dev.pilot with sounding := [{ core := 3, tests := [], since := 0 }] } }
    dev.rst.mode ≠ .held ∧ bad.disabledCores.testBit 3 = true ∧ dev.disabledCores.testBit 3 = false ∧
      dev.pilot.sounding.find? (fun x => x.core == 3) = none ∧ waits.pilot.sounding.find? (fun x => x.core == 3) = some ⟨3, [], 0⟩ ∧
      waits.firmwareRuns = true ∧ waits.sched.redisp.any (fun r => r.1 == 3) = true ∧ (waits.core 3).idle = false ∧ 0 + 20 ≤ waits.now ∧
      waits.domOn 3 = true ∧ waits.pilot.wantPower.all (fun p => p.2 != 3) = true ∧ dev.sched.redisp = [] ∧
      ({ waits with cores := dev.cores } : State).redispReady 3 [7] = true ∧
      ({ waits with cores := dev.cores.set 3 { outs := [default] } } : State).redispReady 3 [7] = false := by decide +kernel

theorem witness_RedispatchAndTeardown_2 :
    let t : Teardown := { job := jobA, ok := false }
    let s : State := { dev with pilot := { dev.pilot with teardowns := [t] } }
    s.firmwareRuns = true ∧ s.finished 9 = none ∧ s.pilot.teardowns.find? (fun t => t.job.ctxId == 9 && !t.cleared) = some t ∧
      (∀ k < 32, s.coreCtx k ≠ 9) ∧ s.pilot.teardowns.find? (fun t => t.job.ctxId == 8 && !t.cleared) = none ∧
      ((withCore (running nopW) s).setReg (coreKey 3 Reg.coreCtx) 9).coreCtx 3 = 9 ∧ ((withCore (running nopW) s).core 3).idle = false ∧ (quiet s).firmwareRuns = false := by decide +kernel

/-! ### HBM and Rhumb -/

theorem witness_InvalidationsAndMemoryUnit_1 :
    let i : Inval := { ctx := 9, all := true, va := 0, n := 0 }
    let q (k : Nat) : State := { dev with hub := { dev.hub with invQueue := List.replicate k i, fills := List.replicate (4 * k) (⟨0, false, false, 0, 0, none⟩ : Fill) } }
    let busy : State := withCore { outs := [xfer 0 .read] } (q 1)
    mrising dev.regs = true ∧ dev.cores.length = 32 ∧ dev.rst.mode ≠ .held ∧ (flag (9 : Word) 30 = false ∧ fld (9 : Word) 29 12 = 0) ∧
      flag (0x40000009 : Word) 30 = true ∧ fld (0x00001009 : Word) 29 12 = 1 ∧ 16 ≤ (q 16).hub.invQueue.length ∧ (q 15).hub.invQueue.length < 16 ∧
      dev.hub.invQueue = [] ∧ dev.pilot.teardowns = [] ∧ (q 15).hub.fillWait = [] ∧ busy.cores.any (fun c => c.outs.any (invUses i)) = true ∧ (q 1).cores.any (fun c => c.outs.any (invUses i)) = false ∧
      64 ≤ (q 16).hub.fills.length ∧ (q 15).hub.fills.length < 64 ∧ flag (1 : Word) 0 = true ∧ flag (0 : Word) 0 = false := by decide +kernel

theorem witness_InvalidationsAndMemoryUnit_2 :
    let s := withSpace dev [0x0]
    (match s.walk 9 0 with | .ok _ => true | .error _ => false) = true ∧ (match s.walk 9 0x7FFF0000 with | .ok _ => false | .error _ => true) = true ∧
      ((withCore { walks := [(9, 0, true)] } s).core 3).walks = [(9, 0, true)] ∧ (dev.core 3).walks = [] ∧
      ({ buckets := [5760, 0, 0] } : Core).mayRead (s.walkCost 3 9 0) = true ∧ ({ buckets := [0, 0, 0] } : Core).mayRead (s.walkCost 3 9 0) = false ∧
      [xfer 0 .read].find? (fun x => decide (x.cls < 2) && x.ctx == 9 && x.va / 2 ^ 16 == 0) = some (xfer 0 .read) := by decide +kernel

theorem witness_InvalidationsAndMemoryUnit_3 :
    let testing := setRegs [(hbmKey 3 Reg.hbmStatus, 0x20000000)] dev
    let failed := setRegs [(hbmKey 0 Reg.hbmFailed, 8)] dev
    dev.stackServed 3 = true ∧ failed.stackServed 3 = false ∧ fld (dev.reg (hbmKey 3 Reg.hbmEccCtrl)) 15 8 ≠ 0 ∧
      fld ((setRegs [(hbmKey 3 Reg.hbmEccCtrl, 4)] dev).reg (hbmKey 3 Reg.hbmEccCtrl)) 15 8 = 0 ∧ dev.stackTesting 3 = false ∧ testing.stackTesting 3 = true ∧
      4 ≤ fld (testing.reg (hbmKey 3 Reg.hbmEccCtrl)) 7 0 ∧ fld (testing.reg (hbmKey 3 Reg.hbmEccCtrl)) 7 0 < 5 ∧ (quiet testing).firmwareRuns = false ∧ testing.firmwareRuns = true ∧
      ((testing.endHbmTest 3 true).notePass 4099).2 = false ∧
      ((({ testing with pilot := { testing.pilot with passes := [(4099, [0, 0])] } } : State).endHbmTest 3 true).notePass 4099).2 = true ∧
      flag (testing.reg (hbmKey 0 Reg.hbmFailed)) 3 = false ∧ flag (failed.reg (hbmKey 0 Reg.hbmFailed)) 3 = true := by decide +kernel

/-- R330: BASE 64 GiB, SIZE 48 GiB, local base 8 GiB, mirrored: 0x01234567040 lies at local 0x2468AC040 of H7 and 0x3C68AC040 of H3. -/
theorem test_region_copies :
    (setRegs [(hbmKey 0 0x800, 0xC0006040), (hbmKey 0 0x804, 0xFFFFE040)] live).copiesOf 0x1234567040 = [⟨7, 0x2468AC040⟩, ⟨3, 0x3C68AC040⟩] := by
  decide +kernel

/-- Port 1 in a state of training, up on 32 lanes, under test, or failed. -/
def port (status ctrl : Word) : State := setRegs [(rhbKey 1 Reg.rhbStatus, status), (rhbKey 1 Reg.rhbCtrl, ctrl)] dev

theorem witness_PortsTestTrainAndFail :
    let down (st : Word) (n : Nat) : State := { (port st 1).modPort 1 (fun x => { x with downAt := some 0 }) with now := n }
    mrising dev.regs = true ∧ dev.domOn 73 = true ∧ (port 0 1).portTesting 1 = false ∧ (port 0x10000000 1).portTesting 1 = true ∧
      (port 0 1).portOn 1 = true ∧ (port 0 0).portOn 1 = false ∧ (port 0 1).lanesOf 1 ≠ 0 ∧ (port 0 1).portUp 1 = false ∧
      (port 0x80000020 1).portUp 1 = true ∧ ((setRegs [(rhbKey 1 Reg.rhbLanes, 0x80808080)] (port 0 1)).lanesOf 1 = 0) ∧
      ((down 0x40000000 1000).rport 1).downAt = some 0 ∧ flag ((down 0x40000000 1000).pReg 1 Reg.rhbStatus) 29 = false ∧
      0 + 1000 ≤ (down 0x40000000 1000).now ∧ flag ((down 0x20000000 1000000).pReg 1 Reg.rhbStatus) 29 = true ∧ 0 + 1000000 ≤ (down 0 1000000).now ∧
      (dev.rport 1).downAt = none := by decide +kernel

/-- R352: a group of eight lanes that holds a retired lane is not used. -/
theorem test_lanes : (setRegs [(rhbKey 1 Reg.rhbLanes, 0x00000100)] dev).lanesOf 1 = 24 := by decide +kernel

/-- A device of ID 0x12345 with port 1 up, key 5 loaded and a route to the network of device 7 by port 2, up as well. -/
def linked : State :=
  let s := setRegs [(rhbKey 1 Reg.rhbStatus, 0x80000020), (rhbKey 1 Reg.rhbCtrl, 1), (rhbKey 2 Reg.rhbStatus, 0x80000020), (rhbKey 2 Reg.rhbCtrl, 1),
    (rhbKey 0 Reg.rhbDevid, 0x80012345), (rhbKey 0 Reg.rhbPeertabLo, 0x24000000)] dev
  s.modRhb (fun r => { r with keys := [(5, List.replicate 8 0)], nctr := [(5, 0)], routes := [(0, 0x80000008)] })

/-- A transaction (R359) under key 5 from device 7. -/
def tx (op hops lines dst tid addr : Nat) (data : List Byte) : RhbTx :=
  ⟨[w32 (op * 2 ^ 28 + hops * 2 ^ 24 + (if op ∈ [1, 3, 6, 8] then lines else 0) * 2 ^ 20 + 5), w32 dst, 7, w32 tid, 0, 0, 9, w32 addr], data⟩

theorem witness_FlitsAndTransit :
    let f : RhbFlit := ⟨0, 0, List.replicate 240 0⟩
    linked.portUp 1 = true ∧ dev.portUp 1 = false ∧ fld f.w0 31 20 = (linked.rport 1).rxNext ∧ fld (0x00100000 : Word) 31 20 ≠ (linked.rport 1).rxNext ∧
      flag f.w0 5 = false ∧ ((linked.rport 1).wait.map List.length).sum = 0 ∧ linked.devValid = true ∧ txDst (tx 1 3 1 0x12345 0 0 []) = linked.devId ∧
      txDst (tx 1 3 1 7 0 0 []) ≠ linked.devId ∧ txHops (tx 1 0 1 7 0 0 []) = 0 ∧ txHops (tx 1 3 1 7 0 0 []) ≠ 0 ∧
      ({} : RhbPort).replay.length < 512 ∧ ({} : RhbPort).txNext < 4096 ∧ ({} : RhbPort).rxNext < 4096 ∧
      linked.route 7 = some 2 ∧ linked.route 1024 = none := by decide +kernel

/-- Context 9 RUNNING with a landing zone of 128 KiB at 0x10000 and device 7 under key 5 as peer 1. -/
def landed : State :=
  let s := (withSpace (linked.putCent 9 ([0x24008000, 0, 0, 0, 0, 0, 0x10000, 0, 0x20000] ++ List.replicate 7 0)) [0x10000])
  s.hubPoke (0x24000000 + 256 * 9 + 16) (bytesOf [0x80500007, 0, 0, 0])

theorem witness_TransactionsArriveInOrder :
    let t (op tid : Nat) : RhbTx := tx op 3 1 0x12345 tid 0x40 (List.replicate 64 1)
    let r := landed.takeRx 1 (t 1 0)
    linked.portUp 1 = true ∧ linked.devValid = true ∧ txDst (t 1 0) = linked.devId ∧ txOp (t 0 0) = 0 ∧ 8 < txOp (t 9 0) ∧
      (∀ op ∈ [1, 2, 3, 4, 5, 6, 7], txOp (t op 0) = op) ∧ (∀ op ∈ [1, 2, 6], txClean (t op 0) = true) ∧
      txClean { t 1 0 with hdr := (t 1 0).hdr.set 6 0x80000009 } = false ∧ linked.keyLoaded 5 = true ∧ dev.keyLoaded 5 = false ∧ txKey (t 1 0) = 5 ∧
      txTid (t 1 0) = (landed.rxFlow 7 5).expect ∧ txTid (t 1 1) ≠ (landed.rxFlow 7 5).expect ∧
      precedes (w32 (txTid (t 1 1))) (w32 (landed.rxFlow 7 5).expect) = false ∧
      precedes (w32 (txTid (t 1 0xFFFFFFFF))) (w32 (landed.rxFlow 7 5).expect) = true ∧ r.accepts (t 1 0) = true ∧
      txAddr (t 1 0) % 2 ^ 24 + 64 * txLines (t 1 0) ≤ 2 ^ 24 ∧ r.residency 9 0 = none ∧ (r.landRecord (t 1 0)).isSome = true ∧
      ((r.ctxPoke 9 (ringCtl (r.cent 9) 0) (natLe 4 6)).landRecord (t 1 0)) = none ∧ txAddr (t 6 0) / 2 ^ 16 < 0xFFFE := by decide +kernel

/-- A get of core 3 from device 7, sent and not answered. -/
def waiting : State :=
  let y : Xfer := { xfer 2 .get with tid := 0, pa := flowId 7 5 }
  ((withCore { outs := [y] } linked).putTxFlow { dev := 7, key := 5, next := 1, pend := [{ tx := tx 2 3 1 7 0 0 [], core := some 3, sent := true }] }).modRhb
    (fun r => { r with migOut := [{ ctx := 5, dev := 7, key := 5, newHandle := 0x00010002, sent := true, commit := some 9 }] })

theorem witness_AnswersEndTheirTransfers :
    let t (op tid addr : Nat) : RhbTx := tx op 3 1 0x12345 tid addr (List.replicate 64 1)
    waiting.portUp 1 = true ∧ waiting.devValid = true ∧ txDst (t 4 0 0) = waiting.devId ∧ waiting.keyLoaded 5 = true ∧
      (∀ x ∈ (waiting.txFlow 7 5).pend, x.sent = true) ∧ linked.rhb.migOut = [] ∧ (∀ op ∈ [3, 4, 5, 7], txOp (t op 0 0) = op ∧ txClean (t op 0 1) = true) ∧ txClean (t 5 0 3) = true ∧
      ((waiting.txFlow 7 5).pend.find? (fun x => txOp x.tx == 2 && txTid x.tx == 0)).isSome = true ∧ ((waiting.core 3).remote 7 5 0).isSome = true ∧
      (∀ x ∈ (waiting.txFlow 7 5).pend, txOp x.tx = 2 → txTid x.tx ≠ txAddr (t 3 0 1)) ∧ txAddr (t 5 0 1) = 1 ∧ txAddr (t 5 0 3) = 3 ∧
      waiting.rhb.migOut.find? (fun m => m.dev == 7 && m.key == 5 && m.commit == some (txTid (t 7 9 0))) ≠ none ∧
      waiting.rhb.migOut.find? (fun m => m.dev == 7 && m.key == 5 && m.commit == some (txTid (t 7 8 0))) = none := by decide +kernel

/-- R366: a put for a context without a core becomes a record of its landing zone and counts. -/
theorem test_put_lands :
    (after (.put 1 (tx 1 3 1 0x12345 0 0x40 (List.replicate 64 1)) true) landed).pReg 0 Reg.rhbCntLanded = 1 := by decide +kernel

theorem witness_FlowTimersMigrationsAndKeys_1 :
    let late (n : Nat) : State := { waiting with now := n }
    let owed (n : Nat) : State := { linked.putRxFlow { dev := 7, key := 5, expect := 3, owed := 2, since := 5 } with now := n }
    mrising waiting.regs = true ∧ (waiting.rhb.txFlows[0]?).isSome = true ∧ (waiting.txFlow 7 5).pend ≠ [] ∧
      waiting.now < (waiting.txFlow 7 5).since + fld (waiting.pReg 0 Reg.rhbE2e) 15 0 ∧
      (waiting.txFlow 7 5).since + fld (waiting.pReg 0 Reg.rhbE2e) 15 0 ≤ (late 100000).now ∧
      (waiting.txFlow 7 5).retries + 1 < fld (waiting.pReg 0 Reg.rhbE2e) 23 16 ∧ ((owed 6).rhb.rxFlows[0]?).isSome = true ∧
      0 < ((owed 6).rxFlow 7 5).owed ∧ ((owed 6).rxFlow 7 5).since + 1 ≤ (owed 6).now ∧ (owed 5).now < ((owed 5).rxFlow 7 5).since + 1 := by decide +kernel

/-- A stream that is to leave, with its state mapped, or not. -/
def leaving (mapped : Bool) : State :=
  ((results 0 mapped).putSctx 5 ([0x00071004, 3, 5, 5] ++ List.replicate 28 0)).modRhb
    (fun r => { r with migOut := [{ ctx := 5, dev := 7, key := 5, newHandle := 0x00010002 }] })

theorem witness_FlowTimersMigrationsAndKeys_2 :
    let img (s : State) : Option (List Byte) :=
      s.ctxPeek (s.slotCtx (cxModel (s.sctx 5))) (stateAddr (s.mslot 3) 5 (b2n (cxCur (s.sctx 5)))) (wd (s.mslot 3) 2).toNat
    ((leaving true).rhb.migOut.find? (fun m => m.ctx == 5 && !m.sent)).isSome = true ∧ cxInflight ((leaving true).sctx 5) = false ∧
      cxAccept ((leaving true).sctx 5) = cxCommit ((leaving true).sctx 5) ∧ (img (leaving true)).isSome = true ∧ img (leaving false) = none ∧
      dev.rhb.migOut.find? (fun m => m.ctx == 5 && !m.sent) = none := by decide +kernel

theorem witness_FlowTimersMigrationsAndKeys_3 :
    let m (op : Nat) : RhbTx := tx 8 3 1 0x12345 0 0 (bytesOf [w32 (0xE9100004 + op * 256), 0, 0, 0] ++ List.replicate 48 0)
    let key0 (t : RhbTx) : RhbTx := { t with hdr := t.hdr.set 0 (wd t.hdr 0 - 5) }
    (List.range 4).any linked.portUp = true ∧ (List.range 4).any dev.portUp = false ∧ (0x80012345 : Word) &&& 0x7FF00000#32 = 0#32 ∧
      dev.pReg 0 Reg.rhbDevid &&& 0x7FF00000#32 = 0#32 ∧ mrising dev.rhb.keys = true ∧ mrising dev.rhb.nctr = true ∧ txOp (m 1) = 8 ∧
      linked.mgmtTaken (key0 (m 1)) true = true ∧ linked.mgmtTaken (m 1) true = false ∧
      (linked.modChan 18 (fun c => { c with busy := true })).mgmtTaken (key0 (m 1)) true = true ∧
      ((linked.modChan 18 (fun c => { c with busy := true })).chan 18).busy = true := by decide +kernel

/-! ### Requests of Epian -/

/-- A request in a channel (R384): OP, JOB and the words from W4. -/
def request (ch op job : Nat) (ops : List Word) (s : State) : State :=
  let ws := [w32 (0xE9100000 + op * 256 + 4 + ops.length), 0x00010000, w32 job, 0] ++ ops
  s.modChan ch (fun c => { c with busy := true, req := (ws.zipIdx.filter (fun e => e.1 != 0)).map (fun e => (e.2, e.1)) })

/-- The configuration record: FEATURES, the cores of partition 0, the grants of channels 0 and 1. -/
def config (features cores g0 g1 : Word) : List Byte :=
  List.replicate 0xC 0 ++ bytesOf ([features, 0, 0, 0, 0, cores] ++ List.replicate 103 0 ++ [g0, g1])

/-- A served device: job A (batches) of channel 1, its space built with the pages given, partition 0 of every core, all grants. -/
def served (vas : List Nat) : State :=
  let s := withSpace (setRegs [(Reg.logSchedUsable, 0xFFFFFFFF), (Reg.logKvCtrl, 1)] dev) vas
  let t := s.putCent 9 (newEntry jobA)
  { t with pilot := { t.pilot with config := config 0 0xFFFFFFFF 0xFFFFF 0xFFFFF, nextJob := 2 } }

/-- The request is one that is looked at. -/
def goes (s : State) (ch op : Nat) : Bool :=
  s.serves ch && decide (reqOp (s.chan ch).words = op) && decide (s.reqError ch (s.chan ch).words = none)

theorem witness_RequestsWaitAreCheckedAndAnswered_1 :
    let s := served []
    let ev (n : Nat) (lost : Nat) : State := s.modChan 1 (fun c => { c with events := List.replicate n [1], lost := lost })
    s.rst.mode ≠ .held ∧ (s.chan 1).busy = false ∧ ((request 1 1 0 [] s).chan 1).busy = true ∧ s.mbx.length = 20 ∧ (s.chan 1).events = [] ∧
      ((ev 1 0).chan 1).events = [1] :: [] ∧ ((ev 1 0).chan 1).lost = 0 ∧ ((ev 64 3).chan 1).lost ≠ 0 ∧ ((ev 64 3).chan 1).events.tail.length < 64 ∧
      arbitrate s.pilot.mboxOrder s.asking = none ∧ (arbitrate s.pilot.mboxOrder (request 0 1 0 [] s).asking).map Prod.fst = some 0 ∧
      (arbitrate s.pilot.mboxOrder (request 18 1 0 [] s).asking).map Prod.fst = some 2 ∧
      (arbitrate s.pilot.mboxOrder (request 19 1 0 [] s).asking).map Prod.fst = some 3 ∧
      (arbitrate s.pilot.mboxOrder (request 1 1 0 [] s).asking).map Prod.fst = some 1 ∧
      (arbitrate s.pilot.chanOrder (fun x => (request 1 1 0 [] s).serves (1 + x))).map Prod.fst = some 0 ∧ [(0 : Word)].length ≤ 60 := by decide +kernel

/-- Operation, number of operand words and a channel for each request whose length is fixed. -/
def requestKinds : List (Nat × Nat × Nat) :=
  [(0x01, 0, 1), (0x02, 1, 1), (0x03, 1, 1), (0x10, 6, 1), (0x11, 6, 1), (0x12, 4, 1), (0x13, 1, 1), (0x14, 3, 1), (0x20, 4, 1), (0x21, 1, 1),
   (0x22, 4, 1), (0x23, 5, 1), (0x30, 15, 1), (0x31, 2, 1), (0x32, 1, 1)] ++
  [(0x33, 1, 1), (0x38, 1, 1), (0x39, 3, 1), (0x3A, 2, 1), (0x40, 4, 1), (0x41, 1, 1), (0x42, 1, 1), (0x43, 2, 1), (0x51, 0, 1), (0x52, 0, 1)]

theorem witness_RequestsWaitAreCheckedAndAnswered_2 :
    (∀ k ∈ requestKinds, goes (request k.2.2 k.1 1 (List.replicate k.2.1 0) (served [])) k.2.2 k.1 = true) ∧
      goes (request 1 0x50 1 [0, 4, 7] (served [])) 1 0x50 = true ∧ goes (request 1 0x60 1 [4, 7] (served [])) 1 0x60 = true ∧
      ((request 1 0x10 1 [] (served [])).reqError 1 ((request 1 0x10 1 [] (served [])).chan 1).words) = some 1 ∧
      (served []).serves 1 = false := by decide +kernel

/-- R388: a request of a channel without the grant is answered with status 3. -/
theorem test_job_create_grant :
    let s := served []
    let t := request 1 0x10 0 [0x00010000, 0, 0, 0, 0, 0] { s with pilot := { s.pilot with config := config 0 0xFFFFFFFF 0 0 } }
    fld (mgetD ((after (.jobCreate 1) t).chan 1).rsp 1 0) 15 8 = 3 := by decide +kernel

theorem witness_RequestsAboutDeviceJobsAndPower_1 :
    let s := request 1 0x10 0 [0x00010000, 0, 0, 0, 0, 0] (served [])
    let q := (s.chan 1).words
    let t := request 1 0x10 0 [0x00010000, 0, 0, 5, 0, 0] (served [])
    let j (k : Nat) : Job :=
      { id := s.pilot.nextJob, ch := 1, ctxId := k, direct := flag (wd q 4) 31, cls := fld (wd q 4) 30 29, mirror := flag (wd q 4) 28,
        part := fld (wd q 4) 27 24, ncores := 1, client := 0, seed := 0, key := 0, save := false, landing := 0 }
    goes s 1 0x10 = true ∧ mrising s.regs = true ∧ fld (wd q 4) 21 16 = 1 ∧ fld (wd ((request 1 0x10 0 [0, 0, 0, 0, 0, 0] (served [])).chan 1).words 4) 21 16 = 0 ∧
      flag (s.grants 1) 0 = true ∧ flag (s.grants 1) 16 = true ∧ flag (dev.grants 1) 0 = false ∧ fld (wd q 7) 7 0 = 0 ∧
      fld (wd (t.chan 1).words 7) 7 0 = 5 ∧ t.keyLoaded 5 = false ∧ s.freeCtx = some 0 ∧ (s.buildSpace (j 0)).isSome = true := by decide +kernel

/-- A device with one region of 2 MiB less than a job's space takes: no region at all. -/
theorem witness_RequestsAboutDeviceJobsAndPower_frames :
    let s := setRegs [(hbmKey 0 0x800, 0)] dev
    s.buildSpace jobA = none ∧ dev.job 1 = none ∧ (served []).job 1 = some jobA ∧ jobA.ch = 1 ∧ (served []).jobLive jobA = true ∧ jobA.ch ≠ 2 ∧
      ({ jobA with ended := true } : Job).ended = true := by decide +kernel

theorem witness_RequestsAboutDeviceJobsAndPower_map :
    let s := request 1 0x11 1 [0x40000000, 0x70000, 0, 0x10000, 0, 0] (served [0x0])
    let src := request 1 0x11 1 [0x60000000, 0x70000, 0, 0x10000, 0x2000000, 0] (served [0x0])
    let q := (s.chan 1).words
    goes s 1 0x11 = true ∧ goes src 1 0x11 = true ∧ va48 q 5 = 0x70000 ∧ (wd q 7).toNat = 0x10000 ∧ flag (wd q 4) 31 = false ∧ flag (wd q 4) 29 = false ∧
      flag (wd (src.chan 1).words 4) 29 = true ∧ src.partnerMay 1 0x2000000 0x10000 = true ∧ src.partnerMay 1 (2 ^ 43) 0x10000 = false ∧
      (pagesOf 0x70000 0x10000 (2 ^ 16)).any (s.mapped 9) = false ∧ (pagesOf 0 0x10000 (2 ^ 16)).any (s.mapped 9) = true ∧
      ((s.mapFresh jobA false true (pagesOf 0x70000 0x10000 (2 ^ 16))).bind (fun u => u.mapFacet jobA 0x70000 0x10000)).isSome = true ∧
      src.readable 0x2000000 64 = true := by decide +kernel

theorem witness_RequestsAboutDeviceJobsAndPower_unmap :
    let s := request 1 0x12 1 [0, 0, 0, 0x10000] (served [0x0])
    let ps := s.pagesIn 9 0 0x10000
    goes s 1 0x12 = true ∧ ps.length = 1 ∧ ps.any (fun p => p.2.big) = false ∧ 0x8000 % 2 ^ 16 ≠ 0 ∧
      (let big := ((served []).mapFresh jobA true true [0x200000]).getD (served [])
       (big.pagesIn 9 0x210000 0x10000).any (fun p => p.2.big && decide (p.1 < 0x210000)) = true) := by decide +kernel

theorem witness_RequestsAboutDeviceJobsAndPower_lists :
    let dj : Job := { jobA with direct := true }
    let s : State := request 1 0x14 1 [0, 0x1000, 0] { served [] with pilot := { (served []).pilot with jobs := [dj] } }
    let d := request 1 0x13 1 [0] (served [])
    let open_ := ((d.putSctx 5 (ctxWords 0x00071000 0)).putStrm 5 { bind := bound 1 })
    goes s 1 0x14 = true ∧ s.job 1 = some dj ∧ dj.posted = false ∧ jobA.direct = false ∧ flag (0x80000000 : Word) 31 = true ∧ flag s.features 0 = false ∧
      va48 (s.chan 1).words 5 % 32 = 0 ∧ (16 : Nat) % 32 ≠ 0 ∧ goes d 1 0x13 = true ∧ (d.jobStreams 1).any (fun i => cxLive (d.sctx i)) = false ∧
      (open_.jobStreams 1).any (fun i => cxLive (open_.sctx i)) = true := by decide +kernel

theorem witness_RequestsAboutDeviceJobsAndPower_power :
    let p (w4 w5 : Word) : State := request 1 0x40 0 [w4, w5, 0, 0] (served [])
    let sb : State := request 1 0x41 0 [0x80000000] { served [] with pilot := { (served []).pilot with jobs := [] } }
    goes (p 0x80000000 8) 1 0x40 = true ∧ [3].any (withCore (running nopW) (p 0 8)).domUsed = true ∧ [3].any (p 0 8).domUsed = false ∧
      goes sb 1 0x41 = true ∧ sb.pilot.jobs = [] ∧ (served []).pilot.jobs ≠ [] ∧ sb.pilot.standby = false ∧
      goes (request 1 0x42 0 [16] (served [])) 1 0x42 = true ∧ goes (request 1 0x43 0 [0, 0x00060505] (served [])) 1 0x43 = true ∧
      flag (served []).features 2 = false ∧ flag (4 : Word) 2 = true ∧ 16 < fld (0x00060606 : Word) 4 0 + fld (0x00060606 : Word) 12 8 + fld (0x00060606 : Word) 20 16 := by
  decide +kernel

theorem witness_RequestsAboutDeviceJobsAndPower_firmware :
    let s := served []
    let up : State := { s with pilot := { s.pilot with clusterUp := true } }
    let re : State := { s with pilot := { s.pilot with clusterRestart := some 0 } }
    let fw (key : Option DeviceKeys) : State := let r := quiet (request 19 0x51 0 [] s)
      { r with secure := { r.secure with keys := key } }
    (∀ key ∈ [none, some default], goes (fw key) 19 0x51 = true ∧ (fw key).rst.mode = .rom ∧ (fw key).secure.keys = key) ∧
    let back : State := request 1 1 0 [] { s with rst := { s.rst with mode := .restarting 0 }, pilot := { s.pilot with serving := some 1 } }
    0x100000 < 0xFFFFF + 4 ∧ 0xFFFFC + 4 ≤ 0x100000 ∧ up.pilot.clusterUp = true ∧ up.rst.mode = .running ∧ s.pilot.clusterUp = false ∧
      re.pilot.clusterRestart = some 0 ∧ re.domOpen 78 = true ∧ re.powerSettled = true ∧
      ({ re with pilot := { re.pilot with wantPower := [(true, 3)] } } : State).powerSettled = false ∧ s.pilot.clusterRestart = none ∧ s.pilotUp = true ∧
      (quiet s).pilotUp = false ∧ s.rst.mode ≠ .restarting 0 ∧ back.rst.mode = .restarting 0 ∧ back.pilot.serving = some 1 ∧ (back.chan 1).busy = true := by
  decide +kernel

/-- A model image of 512 bytes, linked at 0x60000 (R391). -/
def image : List Byte :=
  bytesOf ([0x6D010100, 512, 0x00042710, 1, 64, 64, 64, 64, 0, 0, 0x10000, 0, 0x20000, 0, 0x30000, 0, 0x60000, 0, 256, 0, 0, 0, 0xFFFFFFFF, 0, 0,
    0xFFFFFFFF, 0, 0, 0, 1] ++ List.replicate 98 0)

/-- The served device with the image in the job's space. -/
def imaged : State := (served [0x0, 0x10000, 0x20000, 0x30000, 0x60000]).ctxPoke 9 0x60000 image

/-- Model slot 3 of job A, loaded from that image, with an adapter directory or not. -/
def loaded (dir : Nat) : State :=
  let r : SlotRec := { job := 1, imageVa := 0x60000, bytes := 512, digest := [], streamsFull := 64, initOff := 0, adpGenOff := 0xFFFFFFFF
                       adpDir := dir, kvRecOff := 0, kvRecCount := 0 }
  let s := imaged.putMslot 3 (slotWords (imgHdr image) 64)
  { s with pilot := { s.pilot with slots := [(3, r)] } }

theorem witness_RequestsAboutModelsAndStreams_load :
    let s := request 1 0x20 1 [0xFF, 0x60000, 0, 512] imaged
    let u := request 1 0x21 1 [3] (loaded 0)
    goes s 1 0x20 = true ∧ jobA.direct = false ∧ msValid ((loaded 0).mslot 3) = true ∧
      (match s.settleSlot 0xFF with | .ok m => decide (m = 0) | .error _ => false) = true ∧ (s.image 9 0x60000 512).isSome = true ∧
      s.image 9 0x60000 256 = none ∧ goes u 1 0x21 = true ∧ (u.jobSlot jobA 3).isSome = true ∧ u.jobSlot jobA 4 = none ∧ mrising u.pilot.slots = true ∧
      (mkeys u.fe.streams).any (fun i => cxState (u.sctx i) != 0 && cxModel (u.sctx i) == 3) = false ∧
      (let v := (u.putSctx 5 (ctxWords 0x00071000 0)).putStrm 5 { bind := bound 1 }
       (mkeys v.fe.streams).any (fun i => cxState (v.sctx i) != 0 && cxModel (v.sctx i) == 3) = true) := by decide +kernel

/-- R392 step 4: slot 0 is taken and the capacity is STREAMS_FULL on 32 usable cores. -/
theorem test_model_load :
    let t := after (.modelLoad 1) (request 1 0x20 1 [0xFF, 0x60000, 0, 512] imaged)
    mgetD (t.chan 1).rsp 4 0 = 0 ∧ mgetD (t.chan 1).rsp 5 0 = 64 ∧ (t.mslot 0).take 5 = [0x00042710, 1, 64, 64, 64] := by decide +kernel

theorem witness_RequestsAboutModelsAndStreams_adapters :
    let s := request 1 0x22 1 [3, 0, 0, 0] (loaded 0x60200)
    let fullDir := s.ctxPoke 9 (0x60200 + 64) (bytesOf ([0x80000000, 0, 0, 0, 0x80000000, 0, 0, 0, 0x80000000, 0, 0, 0, 0x80000000]))
    goes s 1 0x22 = true ∧ (s.jobSlot jobA 3).map SlotRec.adpDir = some 0x60200 ∧ s.adpValid 9 0x60200 0 = false ∧
      (∀ e, e < 4 → fullDir.adpValid 9 0x60200 e = true) ∧ (loaded 0).jobSlot jobA 3 ≠ none := by decide +kernel

/-- The words of R388's example from W4 on: a local stream of slot 3. -/
def admitW : List Word := [0x00000203, 0, 256, 0, 0, 0, 0, 0, 0, 0, 1, 0, 0, 0, 0]

theorem witness_RequestsAboutModelsAndStreams_admit :
    let s := request 1 0x30 1 admitW (loaded 0)
    let r := s.jobSlot jobA 3
    let q := (s.chan 1).words
    let crowded := (((request 1 0x30 1 (admitW.set 2 0x4001) (loaded 0))))
    goes s 1 0x30 = true ∧ admitMalformed q = false ∧ r.isSome = true ∧ ceState (s.cent 9) = 2 ∧ ceState (s.cent 10) ≠ 2 ∧ s.freeStreamCtx = some 0 ∧
      256 * msCapacity (s.mslot 3) < crowded.loadOf (crowded.slotStreams 3) + (wd (crowded.chan 1).words 6).toNat ∧
      ¬(256 * msCapacity (s.mslot 3) < s.loadOf (s.slotStreams 3) + (wd q 6).toNat) ∧ (r.bind (fun r => s.initImage jobA r 64)).isSome = true ∧
      s.stateReadOnly jobA 3 0 = false ∧ (r.map (fun r => s.kvFits r (List.replicate 64 0))) = some true ∧ (s.mapPools jobA 3 0).isSome = true := by
  decide +kernel

/-- R388: a payload type below 96 that is not 0 is malformed. -/
theorem test_admit_pt : admitMalformed ([0, 0, 0, 0] ++ admitW.set 0 0x05000203) = true := by decide +kernel

/-- The served device with stream 5 of slot 3, OPEN or ABORTED. -/
def streaming (st : Word) : State := ((loaded 0).putSctx 5 (ctxWords st 0)).putStrm 5 { bind := bound 1 }

theorem witness_RequestsAboutModelsAndStreams_streams :
    let s (op : Nat) (ops : List Word) : State := request 1 op 1 ops (streaming 0x00071000)
    let h : Word := 0x00070005
    goes (s 0x23 [h, 0x100, 0, 0, 1]) 1 0x23 = true ∧ (s 0x23 []).jobHandle jobA h = some 5 ∧ (s 0x23 []).jobHandle jobA 0x00080005 = none ∧
      mget (s 0x23 []).pilot.slots (cxModel ((s 0x23 []).sctx 5)) ≠ none ∧ goes (s 0x31 [h, 5]) 1 0x31 = true ∧ goes (s 0x32 [h]) 1 0x32 = true ∧
      goes (s 0x33 [h]) 1 0x33 = true ∧ goes (s 0x38 [3]) 1 0x38 = true ∧ ((s 0x38 [3]).mapPools jobA 3 0).isSome = true ∧
      mrising (s 0x38 [3]).pilot.reserved = true ∧ goes (s 0x39 [h, 7, 9]) 1 0x39 = true ∧ cxState ((s 0x39 []).sctx 5) = 1 ∧
      ((s 0x39 []).strm 5).migrating = false ∧ jobA.key = 0 ∧ ({ jobA with key := 5 } : Job).key ≠ 0 ∧
      cxState ((streaming 0x00073000).sctx 5) = 3 ∧ ({ streaming 0x00071000 with rst := State.reset.rst } : State).mbx.length = 20 := by decide +kernel

/-- An incoming stream of context 6 under a reservation, with its record and one raw block of four. -/
def incoming (done committed doubt : Bool) : MigIn :=
  { dev := 7, key := 5, record := [0x00010002, 0x00030006] ++ List.replicate 7 0 ++ [if done then 0 else 1] ++ List.replicate 54 0
    committed := committed, inDoubt := doubt }

/-- The device that expects it. -/
def expecting (x : MigIn) (reserved : Bool) (now : Nat) : State :=
  let s := (served []).modRhb (fun r => { r with migIn := [x] })
  { s with now := now, pilot := { s.pilot with reserved := if reserved then [(6, ⟨0x00030006, 3, 0, 1, 1⟩)] else [] } }

theorem witness_RequestsAboutModelsAndStreams_settle :
    let h : Word := 0x00030006
    let s (x : MigIn) (r : Bool) (own : Word) : State := request 1 0x3A 1 [h, own] (expecting x r 0)
    let sid := (request 1 0x3A 1 [0x00070005, 1] (streaming 0x00071000)).modStrm 5 (fun x => { x with migrating := true, inDoubt := true })
    goes (s (incoming true false false) true 1) 1 0x3A = true ∧
      ((s (incoming true false false) true 1).rhb.migIn.find? (fun x => x.handle == h)).isSome = true ∧
      ((s (incoming true false false) true 1).reservation h).isSome = true ∧ (s (incoming true true false) false 1).reservation h = none ∧
      (s (incoming true false false) true 1).maySettle 1 1 = true ∧ (s (incoming true false false) true 1).maySettle 2 1 = false ∧
      (incoming true false false).complete = true ∧ (incoming false false false).complete = false ∧ (incoming true true false).committed = true ∧
      (s (incoming true true false) false 1).handleLive h = false ∧ goes sid 1 0x3A = true ∧ sid.handleLive 0x00070005 = true ∧
      sid.maySettle 1 (sid.strm 5).bind.job = true ∧ (sid.strm 5).inDoubt = true ∧ ((streaming 0x00071000).strm 5).inDoubt = false := by decide +kernel

theorem witness_RequestsAboutModelsAndStreams_reclaim :
    let a (g : Nat) : AdapterRec := { (default : AdapterRec) with gen := g }
    let r (s : SlotRec) : SlotRec := { s with adapters := [{ a 1 with after := some [] }, a 2] }
    let s : State := { loaded 0x60200 with pilot := { (loaded 0x60200).pilot with slots := (loaded 0x60200).pilot.slots.map (fun e => (e.1, r e.2)) } }
    let lapse (n : Nat) : State := expecting (incoming false false false) true n
    mget dev.pilot.slots 3 = none ∧ ((mget s.pilot.slots 3).bind (fun r => r.adapters.find? (fun a => a.gen == 1))).isSome = true ∧
      (a 2).after = none ∧ ([] : NatMap Word).all s.pastAdapter = true ∧ s.firmwareRuns = true ∧
      mrising s.pilot.slots = true ∧ mget dev.pilot.reserved 6 = none ∧ (mget (lapse 0).pilot.reserved 6).isSome = true ∧ (lapse 0).now < 0 + 10000000 ∧
      0 + 10000000 ≤ (lapse 10000000).now ∧ (expecting (incoming true true false) true 10000000).rhb.migIn.find? (fun x => x.handle == 0x00030006 && !x.committed) = none ∧
      ((lapse 10000000).rhb.migIn.find? (fun x => x.handle == 0x00030006 && !x.committed)).isSome = true ∧ (incoming true false true).inDoubt = true := by
  decide +kernel

/-! ### SPDM -/

/-- A request that carries an SPDM message (R408), in the clear or in a session. -/
def spdmReq (sec : Bool) (m : List Byte) (s : State) : State := request 1 0x60 0 (w32 (b2n sec * 2 ^ 31 + m.length) :: padWords m) s

/-- The served device whose connection on channel 1 stands as given. -/
def connected (c : SpdmConn) : State := (served []).modSpdm 1 (fun _ => c)

/-- A message of R410: version 1.3 (1.0 for GET_VERSION), code and parameters. -/
def msg (code p1 p2 : Nat) (body : List Byte) : List Byte := [if code = 0x84 then 0x10 else 0x13, BitVec.ofNat 8 code, BitVec.ofNat 8 p1, BitVec.ofNat 8 p2] ++ body

/-- The codes of R410's requests. -/
def spdmCodes : List Nat := [0x84, 0xE1, 0xE3, 0x81, 0x82, 0x83, 0xE0, 0xE4, 0xE5, 0xE8, 0xE9, 0xEC, 0x85, 0x86]

theorem witness_AttestationSessionsAndKeys_1 :
    (∀ k ∈ spdmCodes, let s := spdmReq false (msg k 0 0 (List.replicate 16 0)) (served [])
      goes s 1 0x60 = true ∧ s.spdmKind 1 = k ∧ (spdmIn (s.chan 1).words).1 = false ∧ (spdmIn (s.chan 1).words).2 = msg k 0 0 (List.replicate 16 0)) ∧
    (served []).mbx.length = 20 ∧ (served []).pilot.spdm.length = 20 ∧ ((served []).spdmOf 1).stage = 0 ∧ ((connected { stage := 3 }).spdmOf 1).stage = 3 ∧
    ((connected {}).spdmOf 1).chunkRsp = none ∧ ((connected { chunkRsp := some (1, 0, [0]) }).spdmOf 1).chunkRsp = some (1, 0, [0]) ∧
    byteAt (msg 0x82 0 0 []) 2 = 0 ∧ byteAt (msg 0x83 0 0xFF []) 3 = 0xFF ∧ byteAt (msg 0xE0 0 9 []) 3 ≤ 9 ∧ byteAt (msg 0xE4 1 0 []) 2 = 1 ∧
    fieldAt (msg 0x85 0 1 [0, 0, 0, 0, 4, 0, 0, 0, 0, 32, 0, 0, 1, 2, 3, 4]) 12 4 = 8192 ∧
    ((msg 0x85 0 1 [0, 0, 0, 0, 4, 0, 0, 0, 0, 32, 0, 0, 1, 2, 3, 4]).drop 16).take 4 = [1, 2, 3, 4] ∧ byteAt ([0x13, 0x84] : List Byte) 0 ≠ 0x10 := by
  decide +kernel

/-- R411: NEGOTIATE_ALGORITHMS that offers the algorithms of the device alone. -/
def algorithms : List Byte :=
  msg 0xE3 3 0 ([48, 0, 1, 0] ++ natLe 4 64 ++ natLe 4 4 ++ List.replicate 12 0 ++ [0, 0, 0, 0] ++ [2, 0x20, 4, 0, 3, 0x20, 2, 0, 5, 0x20, 1, 0])

theorem witness_AttestationSessionsAndKeys_algorithms : algsOffered algorithms = true ∧ algsOffered (msg 0xE3 0 0 (List.replicate 28 0)) = false := by
  decide +kernel

/-- A message under the session that key exchange opened. -/
def secured (est : Bool) (m : List Byte) : State :=
  spdmReq true (natLe 4 0x00010005 ++ m) (connected { stage := 3, session := some { id := 0x00010005, established := est } })

/-- KEY_LOAD, KEY_CLEAR and KEY_STATUS of R414: code, key number and the key. -/
def keyMsg (code k : Nat) (key : List Word) : List Byte :=
  bytesOf ([w32 (0x4B * 2 ^ 24 + code * 2 ^ 16 + k), 0, 0] ++ key)

theorem witness_AttestationSessionsAndKeys_2 :
    (∀ k ∈ [0xE5, 0xE8, 0xE9, 0xEC], let s := secured true (msg k 0 0 (List.replicate 16 0))
      goes s 1 0x60 = true ∧ s.spdmKind 1 = k ∧ (spdmIn (s.chan 1).words).1 = true ∧ fieldAt (spdmIn (s.chan 1).words).2 0 4 = 0x00010005 ∧
        isKeyMsg ((spdmIn (s.chan 1).words).2.drop 4) = false) ∧
    ((secured false []).spdmOf 1).session = some { id := 0x00010005, established := false } ∧ ((secured true []).spdmOf 1).session ≠ none ∧
    ((served []).spdmOf 1).session = none ∧ (0 : Nat) < 0 + 120000000 ∧ (served []).firmwareRuns = true := by decide +kernel

theorem witness_AttestationSessionsAndKeys_3 :
    ∀ e ∈ [(1, 0x4B01, List.replicate 8 (7 : Word)), (2, 0x4B02, []), (3, 0x4B03, [])],
      let m := keyMsg e.1 5 e.2.2
      let s := secured true m
      goes s 1 0x60 = true ∧ s.spdmKind 1 = e.2.1 ∧ isKeyMsg m = true ∧ byteAt m 2 = e.1 ∧ fld (wd (wordsOf 11 m) 0) 15 8 = 0 ∧
        wd (wordsOf 11 m) 1 = 0 ∧ wd (wordsOf 11 m) 2 = 0 ∧ fld (wd (wordsOf 11 m) 0) 23 16 = byteAt m 2 ∧
        m.length = (if e.1 = 1 then 44 else 12) ∧ fld (wd (wordsOf 11 m) 0) 7 0 = 5 ∧ mrising s.rhb.keys = true ∧ mrising s.pilot.keyBind = true ∧
        s.keyLoaded 5 = false ∧ linked.keyLoaded 5 = true := by decide +kernel

theorem witness_AttestationSessionsAndKeys_4 :
    mget ({ served [] with pilot := { (served []).pilot with keyBind := [(5, (1, 0))] } } : State).pilot.keyBind 5 = some (1, 0) ∧
      mget ({ served [] with pilot := { (served []).pilot with keyBind := [(5, (2, 0))] } } : State).pilot.keyBind 5 = some (2, 0) ∧
      ((2 : Nat), (0 : Nat)) ≠ (1, 0) := by decide +kernel

/-- R414: KEY_LOAD through a session binds the key to its channel. -/
theorem test_key_load :
    let t := after (.keyLoad 1) (secured true (keyMsg 1 5 (List.replicate 8 7)))
    mget t.rhb.keys 5 = some (List.replicate 8 7) ∧ mget t.pilot.keyBind 5 = some (1, 0) := by decide +kernel

/-! ### The board -/

theorem witness_JtagSelectsAndReachesRegisters :
    dev.jtagMay = false ∧ ({ dev with pilot := { dev.pilot with config := config 2 0 0 0 } } : State).jtagMay = true ∧ (3 : Nat) % 2 = 1 ∧ (2 : Nat) % 2 = 0 := by
  decide +kernel

/-- R436: TAP_RESET and IDCODE select the identity; BYPASS is all ones. -/
theorem test_jtag_bypass : (after .bypass dev).jtag.ir = 0xFF := by decide +kernel

theorem witness_GpioDebounce :
    let up (now : Nat) : State := { dev with now := now, gpio := dev.gpio.set 2 { level := true, accepted := false, since := 0 } }
    dev.gpio.length = 16 ∧ mrising dev.regs = true ∧ dev.rst.mode ≠ .held ∧ (dev.pin 2).level ≠ true ∧ ((up 0).pin 2).level ≠ ((up 0).pin 2).accepted ∧
      ((up 0).pin 2).since + fld ((up 0).reg (Reg.pwrGpioDeb + 4 * 2)) 9 0 ≤ 100000 ∧
      ¬ ((setRegs [(Reg.pwrGpioDeb + 4 * 2, 10)] (up 5)).pin 2).since + fld ((setRegs [(Reg.pwrGpioDeb + 4 * 2, 10)] (up 5)).reg (Reg.pwrGpioDeb + 4 * 2)) 9 0 ≤ 5 := by
  decide +kernel

theorem witness_ThermalAndPowerControl :
    let cold : List Int := List.replicate 44 30
    let hot : List Int := (List.replicate 44 30).set 0 130
    let once : State := { dev with therm := { dev.therm with tripCount := (List.replicate 44 0).set 0 1 } }
    dev.rst.mode ≠ .held ∧ cold.length = 44 ∧ (∀ k < 44, cold.getD k 0 < tripAt k) ∧ once.sensorOn 0 ∧ tripAt 0 ≤ hot.getD 0 0 ∧
      1 ≤ once.therm.tripCount.getD 0 0 ∧ mrising dev.regs = true := by decide +kernel

/-- R430: DUTY stays at 16 while the power is under the limit, and falls by one above it. -/
theorem test_duty :
    (after .gateDutyUpdate dev).therm.duty = 16 ∧
      (after .gateDutyUpdate ((after (.powerAverage 2000) (setRegs [(Reg.pwrLimit, 700)] dev)))).therm.duty = 15 := by decide +kernel

theorem witness_FullResetAndRelease :
    let held (p r c : Bool) : State := { State.reset with rst := { State.reset.rst with mode := .held, pinHeld := p, railHeld := r, clkHeld := c } }
    dev.rst.tripHeld = false ∧ ({ dev with rst := { dev.rst with tripHeld := true } } : State).rst.tripHeld = true ∧
      (setBits 12 0x804).head? = some 2 ∧ (0x804 : Nat).testBit 1 = false ∧ (held true false false).rst.mode = .held ∧
      (held true false false).rst.railHeld = false ∧ (held false true false).rst.pinHeld = false ∧ (held false false true).rst.clkHeld = true ∧
      State.reset.bootSlot default = none := by decide +kernel

/-- R406: a first check that fails twice takes three reconstructions, nine failures leave no key, and so does an identity key that does not unwrap. -/
theorem test_device_secret :
    let boot (k : Nat) (id : Bool) : Secure := (State.reset.boot { (default : BootIn) with dsFails := k, idOk := id }).secure
    (boot 2 true).tries = 3 ∧ (boot 2 true).keys.isSome = true ∧ (boot 9 true).tries = 9 ∧ (boot 9 true).keys = none ∧
      (boot 0 false).keys = none := by decide +kernel

theorem witness_PortClocksAndHostResets :
    linked.portUp 1 = true ∧ dev.mbx.length = 20 ∧ dev.pilot.jobs = [] ∧ 1 ≤ 16 ∧ dev.mbxLevel 19 = false ∧
      (dev.modChan 19 (fun c => { c with ctrl := 0xFFFFFFFF, rspReady := true, events := [[0]] })).mbxLevel 19 = true := by decide +kernel

/-- The state after reset has the form that every step keeps, and a step goes on from it. -/
theorem witness_EveryStepKeepsTheForm : State.reset.Inv ∧ (match step State.reset with | .next _ => true | _ => false) = true := by
  constructor
  · unfold State.Inv State.unitsWf State.memWf State.mapsWf
    decide +kernel
  · decide +kernel

/-! ### Examples of the manual -/

/-- R124's example after R127: I 1,999,999, scales 0x62 and 0x55, one escape 3.25 at an activation of -37. -/
theorem test_matmul_row :
    let p : Plane := { valid := true, fmt := 0, gsize := 2, k := 128, n := 1, elems := List.replicate 124 127 ++ [1, 0, 0, 0], scales := [0x55], escs := [(0, 126, 0x4050)] }
    p.row 0 false (List.replicate 124 127 ++ [3, 0, 256 - 37, 0]) [0x62] = [0x4677A960] := by decide +kernel

/-- The example after R248: 24.0 needs code 0x65 and 15.0 code 0x60. -/
theorem test_scale_codes : s8CodeFor 127 (dec32 0x41C00000) = 0x65 ∧ s8CodeFor 127 (dec32 0x41700000) = 0x60 := by decide +kernel

/-- The example after R229: the code lengths of 16 symbols. -/
theorem test_facet_lengths :
    fctLengths 32 [8, 8, 16, 32, 64, 128, 256, 512, 512, 256, 128, 64, 32, 16, 8, 8] = [8, 8, 7, 6, 5, 4, 3, 2, 2, 3, 4, 5, 6, 7, 8, 8] := by decide +kernel

/-- The example after R61: 16,384 streams on 31 of 32 usable cores. -/
theorem test_capacity :
    let s := loaded 0
    let r : SlotRec := { job := 1, imageVa := 0, bytes := 0, digest := [], streamsFull := 16384, initOff := 0, adpGenOff := 0, adpDir := 0, kvRecOff := 0, kvRecCount := 0 }
    (setRegs [(Reg.logSchedUsable, 0xFFEFFFFF)] s).capacityOf r = 15872 := by decide +kernel

/-- The example after R388: the words of its STREAM_ADMIT, of this device's job 1, and the response. -/
theorem test_stream_admit :
    let w : List Word := [0x00056403, 0x4E20, 0x100, 0x00010001, 0x5A1C03E7, 0x9C40, 0x110200C0, 0, 0, 0, 0, 0, 0, 0, 0]
    let t := after (.streamAdmit 1) (request 1 0x30 1 w (loaded 0))
    let x := (t.strm 0).bind
    mgetD (t.chan 1).rsp 0 0 = 0xE9143005 ∧ mgetD (t.chan 1).rsp 1 0 = 0x00010000 ∧ x.extId = 5 ∧ x.ports = 1 ∧ x.dport = 40000 ∧ x.ssrc = 0x5A1C03E7 ∧
      cxPrio (t.sctx 0) = 2 ∧ cxCeil (t.sctx 0) = 1 ∧ cxState (t.sctx 0) = 1 ∧ cxRate (t.sctx 0) = 256 ∧ cxEgress (t.sctx 0) = true := by decide +kernel

/-- FP32 by hand: 1 + 2 = 3, 2 * -3 = -6, 2 * 3 + 1 = 7. -/
theorem test_fp_add : fadd 0x3F800000 0x40000000 = 0x40400000 ∧ fmul 0x40000000 0xC0400000 = 0xC0C00000 ∧ ffma 0x40000000 0x40400000 0x3F800000 = 0x40E00000 := by
  decide +kernel

/-! ### Commands in the queue -/

theorem witness_StepRunsFrontCommand : ({ dev with pending := [.nop 3] } : State).pending = [.nop 3] := rfl
theorem witness_StepIdleAdvancesTime : dev.pending = [] := by decide +kernel
theorem witness_ScanNetworkIsPrefixSum : ([1, 2, 3] : List Word).length ≤ 512 := by decide
theorem witness_ManagementBus : dev.rst.mode ≠ .held ∧ dev.mbxLevel 19 = false ∧ (5 : Nat) ≠ 6 := by decide +kernel
/-- That the state after reset has the form: the statement itself has no hypotheses. -/
theorem test_reset_memory : State.reset.mem.bytes = [] ∧ State.reset.pending = [] := by decide

end Slice0
end

section
/-! The step (O1). -/

namespace Sys2Proof.Machine

/-- The spec lets the block go on after every command. -/
theorem exec_goesOn (c : Instr) (s : State) : ∃ t, exec c s = .next t := by
  cases c <;> exact ⟨_, rfl⟩

/-- Settles O1: the step is that of the front command by definition. -/
theorem stepRunsFrontCommand : Obligations.StepRunsFrontCommand :=
  fun c _ s => ⟨rfl, exec_goesOn c s⟩

end Sys2Proof.Machine
end

section
/-! Accesses of the register space: width and alignment (O3), plain registers (O5), pairs (O6). -/

namespace Sys2Proof.Machine

/-! ### The bus -/

/-- No agent's access to the register space names a place in HBM. -/
theorem State.memAt_regSpace (s : State) (ag : Agent) {addr : Nat} (hlo : regBase ≤ addr) (hhi : addr < 2 ^ 45) : s.memAt ag addr = none := by
  have hhbm : ¬ addr < hbmEnd := by simp only [regBase, hbmEnd, gib] at *; omega
  have hbar : ¬ 2 ^ 45 ≤ addr := by omega
  cases ag <;> simp only [State.memAt, if_neg hhbm, hbar, false_and, if_false]

/-- An answer to `s` that is an error and changes nothing but the bus. -/
def State.ErrorAnswer (s t : State) : Prop := t.bus.err = true ∧ { t with bus := s.bus } = s

theorem State.errorAnswer_busError (s : State) : s.ErrorAnswer s.busError := ⟨rfl, rfl⟩

theorem State.errorAnswer_busRefused (s : State) (ag : Agent) : s.ErrorAnswer (s.busRefused ag) := ⟨rfl, rfl⟩

theorem State.reach_width (s : State) {addr width : Nat} (h : width ≠ 4 ∨ addr % 4 ≠ 0) : s.reach addr width = none := if_pos h

/-- A write that reaches no place is an error. -/
theorem State.errorAnswer_busWrite {s : State} {ag : Agent} {addr width : Nat} (v : Word) (hm : s.memAt ag addr = none)
    (hr : s.reach addr width = none) : s.ErrorAnswer (s.busWrite ag addr width v) := by
  unfold State.busWrite
  rw [hm, hr]
  split
  · exact s.errorAnswer_busError
  · dsimp only
    split
    · exact s.errorAnswer_busRefused ag
    · exact s.errorAnswer_busError

/-- A read that reaches no place is an error. -/
theorem State.errorAnswer_busRead {s : State} {ag : Agent} {addr width : Nat} (hm : s.memAt ag addr = none) (hr : s.reach addr width = none) :
    s.ErrorAnswer (s.busRead ag addr width) := by
  unfold State.busRead
  rw [hm, hr]
  split
  · exact s.errorAnswer_busError
  · dsimp only
    split
    · exact s.errorAnswer_busRefused ag
    · exact s.errorAnswer_busError

/-- Settles O3: the access names no place in HBM and reaches none in the register space. -/
theorem wrongWidthOrAlignmentHasNoEffect : Obligations.WrongWidthOrAlignmentHasNoEffect := by
  intro s ag addr width v hlo hhi hw
  have hm := s.memAt_regSpace ag hlo hhi
  have hr := s.reach_width hw
  exact ⟨⟨_, rfl, State.errorAnswer_busWrite v hm hr⟩, ⟨_, rfl, State.errorAnswer_busRead hm hr⟩⟩

/-! ### The Pilot's accesses to the hub registers -/

/-- What the Pilot's access to a hub register needs so that it reaches it. -/
structure State.HubReached (s : State) (off : Nat) : Prop where
  awake : s.rst.mode ≠ .held
  aligned : off % 4 = 0
  place : regAt (regBase + off) = some (.hub off)
  answers : s.answers (.hub off) = true

/-- The hub units lie between the mailboxes and the Rhumb blocks. -/
theorem lt_of_regAt_hub {addr off : Nat} (h : regAt addr = some (.hub off)) : addr < 2 ^ 44 := by
  by_contra hge
  rw [regAt, if_pos (not_lt.mp hge)] at h
  dsimp only at h
  split at h <;> simp at h

namespace State.HubReached
variable {s : State} {off : Nat} (h : s.HubReached off)
include h

theorem memAt_eq : s.memAt .pilot (regBase + off) = none :=
  s.memAt_regSpace .pilot (Nat.le_add_right _ _) ((lt_of_regAt_hub h.place).trans (by norm_num))

theorem granted_eq : s.granted .pilot (regBase + off) = true := by
  have := lt_of_regAt_hub h.place
  simpa [State.granted] using this

theorem reach_eq : s.reach (regBase + off) 4 = some (.hub off) := by
  have hal : (regBase + off) % 4 = 0 := by have := h.aligned; simp only [regBase]; omega
  rw [State.reach, if_neg (by simp [hal]), h.place]
  exact if_pos h.answers

theorem busWrite_eq (v : Word) : s.busWrite .pilot (regBase + off) 4 v = (s.writeReg (.hub off) v).busOk 0 := by
  rw [State.busWrite, if_neg h.awake, h.memAt_eq]
  simp only [h.granted_eq, h.reach_eq]
  rfl

end State.HubReached

/-- A register that is no half of a pair takes the write itself. -/
theorem State.writeReg_hub (s : State) {off : Nat} (v : Word) (hl : isLow (.hub off) = false) (hh : isHigh (.hub off) = false) :
    s.writeReg (.hub off) v = s.writeHub off v := by
  simp [State.writeReg, State.coreBusy, hl, hh, State.writeAt]

/-- The hub registers whose write starts something. -/
abbrev activeHub : List Nat := [Reg.pwrReq, Reg.logKvCtrl, Reg.logKvReq, Reg.logSchedSubmit, Reg.logSchedRedispatch]

theorem State.writeHub_plain (s : State) {off : Nat} (v : Word) (h : off ∉ activeHub) : s.writeHub off v = s.plainWrite off v := by
  simp only [activeHub, List.mem_cons, List.not_mem_nil, or_false, not_or] at h
  obtain ⟨h1, h2, h3, h4, h5⟩ := h
  rw [State.writeHub, if_neg h1, if_neg h2, if_neg h3, if_neg h4, if_neg h5]

theorem State.plainWrite_spec (s : State) {key : Nat} {r : RegSpec} (v : Word) (h : specOf key = some r) :
    s.plainWrite key v = s.setReg key (writtenValue r (s.reg key) v) := by
  rw [State.plainWrite, h]

theorem State.plainWrite_frame (s : State) (key : Nat) (v : Word) (b : Bus) (m : NatMap Word) :
    { s.plainWrite key v with bus := b, regs := m } = { s with bus := b, regs := m } := by
  unfold State.plainWrite
  split <;> rfl

/-- An answer of the bus keeps all but the bus. -/
theorem State.busOk_frame (s : State) (f : Bus → Bus) (v : Word) (b : Bus) (m : NatMap Word) :
    { (s.modBus f).busOk v with bus := b, regs := m } = { s with bus := b, regs := m } := rfl

theorem State.plainWrite_modBus (s : State) (f : Bus → Bus) (key : Nat) (v : Word) : (s.modBus f).plainWrite key v = (s.plainWrite key v).modBus f := by
  unfold State.plainWrite
  split <;> rfl

/-! ### The fields of a written register (R6, R7) -/

/-- The bits of the fields that a written value would give a reserved encoding. -/
def keptBits (enc : List (Nat × Nat × Nat × Nat)) (v : Word) (m : Word) : Word :=
  enc.foldl (fun m e => if encOk e v then m else m ||| w32 ((2 ^ e.2.1 - 1) * 2 ^ e.1)) m

theorem flag_mask (a l : Nat) {i : Nat} (hi : i < 32) (ha : a ≤ i) (hl : i < a + l) : flag (w32 ((2 ^ l - 1) * 2 ^ a)) i = true := by
  have hbit : i - a < l := by omega
  rw [flag, w32, BitVec.getLsbD_ofNat, Nat.testBit_mul_two_pow, Nat.testBit_two_pow_sub_one]
  simp [hi, ha, hbit]

theorem flag_keptBits_of_flag (enc : List (Nat × Nat × Nat × Nat)) (v : Word) {m : Word} {i : Nat} (h : flag m i = true) :
    flag (keptBits enc v m) i = true := by
  induction enc generalizing m with
  | nil => exact h
  | cons e enc ih =>
    refine ih ?_
    dsimp only
    split
    · exact h
    · simp only [flag, BitVec.getLsbD_or] at h ⊢
      rw [h, Bool.true_or]

theorem flag_keptBits {enc : List (Nat × Nat × Nat × Nat)} {v : Word} {e : Nat × Nat × Nat × Nat} (m : Word) {i : Nat} (he : e ∈ enc)
    (hv : encOk e v = false) (hi : i < 32) (ha : e.1 ≤ i) (hl : i < e.1 + e.2.1) : flag (keptBits enc v m) i = true := by
  induction enc generalizing m with
  | nil => cases he
  | cons d enc ih =>
    obtain rfl | he := List.mem_cons.mp he
    · refine flag_keptBits_of_flag enc v ?_
      have hmask := flag_mask e.1 e.2.1 hi ha hl
      simp only [hv, flag, BitVec.getLsbD_or, Bool.false_eq_true, if_false] at hmask ⊢
      rw [hmask, Bool.or_true]
    · exact ih _ he

/-- A bit of a written register: the value's bit where it is read-write and its field not kept, else the old one; a W1C bit written 1 clears. -/
theorem flag_writtenValue (r : RegSpec) (old v : Word) {i : Nat} (hi : i < 32) : flag (writtenValue r old v) i =
    ((bif flag r.rw i && !(flag (keptBits r.enc v 0) i) then flag v i else flag old i) && !(flag r.w1c i && flag v i)) := by
  have hw : writtenValue r old v = ((old &&& ~~~ (r.rw &&& ~~~ keptBits r.enc v 0)) ||| (v &&& (r.rw &&& ~~~ keptBits r.enc v 0)))
      &&& ~~~ (r.w1c &&& v) := rfl
  rw [hw]
  generalize keptBits r.enc v 0 = k
  simp only [flag, BitVec.getLsbD_and, BitVec.getLsbD_or, BitVec.getLsbD_not, hi, decide_true, Bool.true_and]
  generalize r.rw.getLsbD i = rw
  generalize k.getLsbD i = keep
  cases rw <;> cases keep <;> simp

/-- What the Pilot's write of a plain hub register leaves. -/
theorem State.HubReached.writes_plain {s : State} {off : Nat} {r : RegSpec} (h : s.HubReached off) (v : Word) (hrise : mrising s.regs = true)
    (hspec : specOf off = some r) (hl : isLow (.hub off) = false) (hh : isHigh (.hub off) = false) (hplain : off ∉ activeHub) :
    ∃ t, exec (.registerWrite .pilot (regBase + off) 4 v) s = .next t ∧ t.bus.err = false ∧ t.reg off = writtenValue r (s.reg off) v ∧
      (∀ k, k ≠ off → t.reg k = s.reg k) ∧ { t with bus := s.bus, regs := s.regs } = s := by
  have hwrite : s.busWrite .pilot (regBase + off) 4 v = (s.setReg off (writtenValue r (s.reg off) v)).busOk 0 := by
    rw [h.busWrite_eq, s.writeReg_hub v hl hh, s.writeHub_plain v hplain, s.plainWrite_spec v hspec]
  exact ⟨_, congrArg Host.Outcome.next hwrite, rfl, s.reg_setReg_same _ _ hrise, fun k hk => s.reg_setReg_ne _ hrise hk, rfl⟩

/-- Settles O5: the write sets one register, whose bits `flag_writtenValue` gives. -/
theorem plainRegisterWrite : Obligations.PlainRegisterWrite := by
  intro s off r v hup hrise hal hplace hans hspec hl hh hplain
  have hreach : s.HubReached off := ⟨hup, hal, hplace, hans⟩
  obtain ⟨t, hexec, herr, hreg, hother, hframe⟩ := hreach.writes_plain v hrise hspec hl hh hplain
  refine ⟨t, hexec, herr, hreg, hother, hframe, ?_, ?_, ?_, ?_⟩ <;> rw [hreg]
  · intro i hi hrw hw1c
    simp [flag_writtenValue r _ v hi, hrw, hw1c]
  · intro i hi hrw hw1c
    simp [flag_writtenValue r _ v hi, hrw, hw1c]
  · intro henc i hi hrw hw1c
    have hkeep : flag (keptBits r.enc v 0) i = false := by rw [henc]; simp [keptBits, flag]
    rw [flag_writtenValue r _ v hi, hrw, hw1c, hkeep]
    simp
  · intro e he hbad i hi ha hlt hw1c
    rw [flag_writtenValue r _ v hi, flag_keptBits 0 he hbad hi ha hlt, hw1c]
    simp

/-! ### Pairs (R8) -/

/-- The low words of the hub: aligned, apart from the registers whose access starts something, each with its high word next to it. -/
theorem lowHub_pair {off : Nat} (h : off ∈ lowHub) : off % 4 = 0 ∧ regAt (regBase + off) = some (.hub off) ∧
    regAt (regBase + (off + 4)) = some (.hub (off + 4)) ∧ off ∉ activeHub ∧ off + 4 ∉ activeHub ∧ isLow (.hub (off + 4)) = false ∧
    off ∉ [Reg.logEvqData3, Reg.logSchedGrantCores] ∧ off + 4 ∉ [Reg.logEvqData3, Reg.logSchedGrantCores] := by
  revert off
  decide

theorem State.writeReg_low (s : State) {off : Nat} (v : Word) (hl : isLow (.hub off) = true) :
    s.writeReg (.hub off) v = s.modBus (fun b => { b with low := mput b.low off v }) := by
  simp [State.writeReg, State.coreBusy, hl, keyOf]

theorem isHigh_of_isLow {off : Nat} (hl : isLow (.hub off) = true) : isHigh (.hub (off + 4)) = true := by
  simp [isHigh, RegAt.prev, RegAt.next, hl]

/-- The high word takes effect with the low word that waits for it. -/
theorem State.writeReg_high (s : State) {off : Nat} {lo : Word} (hi : Word) (hl : isLow (.hub off) = true) (hh : isLow (.hub (off + 4)) = false)
    (hlow : mget s.bus.low off = some lo) : s.writeReg (.hub (off + 4)) hi =
      ((s.modBus (fun b => { b with low := mdel b.low off })).writeHub off lo).writeHub (off + 4) hi := by
  simp [State.writeReg, State.coreBusy, hh, isHigh_of_isLow hl, RegAt.prev, keyOf, hlow, State.writeAt]

theorem captureKey_pilot_hub (off : Nat) : captureKey .pilot (.hub off) = off := by
  simp [captureKey, agentNo, keyOf]

/-- The captures after the Pilot's read of the hub register at `off`, whose high word reads as `hi`. -/
def readCaptures (off : Nat) (hi : Word) (m : NatMap Word) : NatMap Word :=
  if isLow (.hub off) then mput (mdel m off) (off + 4) hi else mdel m off

/-- The Pilot's read of a hub register that starts nothing: the captured value if there is one, else the register's. -/
theorem State.HubReached.busRead_eq {s : State} {off : Nat} (h : s.HubReached off) (hplain : off ∉ [Reg.logEvqData3, Reg.logSchedGrantCores]) :
    s.busRead .pilot (regBase + off) 4 =
      (s.modBus (fun b => { b with capture := readCaptures off (s.view (.hub (off + 4))) b.capture })).busOk
        ((mget s.bus.capture off).getD (s.view (.hub off))) := by
  simp only [List.mem_cons, List.not_mem_nil, or_false, not_or] at hplain
  obtain ⟨hevq, hgrant⟩ := hplain
  have heffect : s.readEffect .pilot (.hub off) = s := by
    rw [State.readEffect, if_neg (by simpa using hevq), if_neg (by simpa using hgrant)]
  rw [State.busRead, if_neg h.awake, h.memAt_eq]
  simp only [h.granted_eq, h.reach_eq, heffect, captureKey_pilot_hub, RegAt.next]
  cases hl : isLow (.hub off) <;> cases mget s.bus.capture off <;> simp [readCaptures, hl, State.modBus, State.busOk]

theorem State.HubReached.congr {s x : State} {off : Nat} (h : s.HubReached off) (hrst : x.rst = s.rst) (hpwr : x.pwr = s.pwr) :
    x.HubReached off := by
  refine ⟨hrst ▸ h.awake, h.aligned, h.place, ?_⟩
  have := h.answers
  simpa only [State.answers, State.domOpen, hpwr] using this

/-- The low word waits, and changes no register. -/
theorem State.HubReached.writes_low {s : State} {off : Nat} (h : s.HubReached off) (lo : Word) (hl : isLow (.hub off) = true) :
    s.busWrite .pilot (regBase + off) 4 lo = (s.modBus (fun b => { b with low := mput b.low off lo })).busOk 0 := by
  rw [h.busWrite_eq, s.writeReg_low lo hl]

/-- The high word sets both registers of the pair. -/
theorem State.HubReached.writes_high {s : State} {off : Nat} (h : s.HubReached (off + 4)) {lo : Word} (hi : Word) (hl : isLow (.hub off) = true)
    (hh : isLow (.hub (off + 4)) = false) (hplain : off ∉ activeHub) (hplain' : off + 4 ∉ activeHub) (hlow : mget s.bus.low off = some lo) :
    s.busWrite .pilot (regBase + (off + 4)) 4 hi =
      (((s.plainWrite off lo).plainWrite (off + 4) hi).modBus (fun b => { b with low := mdel b.low off })).busOk 0 := by
  rw [h.busWrite_eq, s.writeReg_high hi hl hh hlow, State.writeHub_plain _ _ hplain, State.writeHub_plain _ _ hplain', State.plainWrite_modBus,
    State.plainWrite_modBus]

/-- Settles O6: the low word waits on the bus for the high one, and the high word for the read after that of the low one. -/
theorem registerPairs : Obligations.RegisterPairs := by
  intro s off lo hi hup hmem hans hans'
  obtain ⟨hal, hplace, hplace', hplain, hplain', hh, hread, hread'⟩ := lowHub_pair hmem
  have hl : isLow (.hub off) = true := by simpa [isLow] using hmem
  have hreach : s.HubReached off := ⟨hup, hal, hplace, hans⟩
  have hreach' : s.HubReached (off + 4) := ⟨hup, by omega, hplace', hans'⟩
  constructor
  · have hhigh := State.HubReached.writes_high (s := (s.modBus fun b => { b with low := mput b.low off lo }).busOk 0) (hreach'.congr rfl rfl)
      hi hl hh hplain hplain' (mget_mput_same _ _ _)
    refine ⟨_, congrArg Host.Outcome.next (hreach.writes_low lo hl), rfl, rfl, _, congrArg Host.Outcome.next hhigh, rfl, ?_, ?_⟩
    · simp only [State.busOk, State.plainWrite_modBus]
      rfl
    · rw [State.busOk_frame, State.plainWrite_frame, State.plainWrite_frame, State.busOk_frame]
  · intro hcap
    refine ⟨_, congrArg Host.Outcome.next (hreach.busRead_eq hread), rfl, ?_, rfl, fun x hbus hrst hpwr => ?_⟩
    · simp [State.busOk, State.modBus, hcap, mget]
    · have hcapture : x.bus.capture = [(off + 4, s.view (.hub (off + 4)))] := by
        simp [hbus, State.busOk, State.modBus, readCaptures, hl, hcap, mdel, mput]
      refine ⟨_, congrArg Host.Outcome.next ((hreach'.congr hrst hpwr).busRead_eq hread'), ?_, ?_⟩
      · simp [State.busOk, State.modBus, hcapture, mget]
      · simp [State.busOk, State.modBus, hcapture, readCaptures, hh, mdel]

end Sys2Proof.Machine
end

section
/-! The tests and the revoke of a core (O27). -/

namespace Sys2Proof.Machine

/-! ### Commands to a core -/

theorem exec_window {c : Instr} {s t : State} {n : Nat} {f : State → State} (he : exec c s = s.onWindow n f) (hn : n < 32)
    (ha : s.answers (.core n 0) = true) (hf : f s = t) : exec c s = .next t := by
  rw [he, State.onWindow, if_pos ⟨hn, ha⟩, hf]

theorem exec_core {c : Instr} {s t : State} {n : Nat} {f : State → State} (he : exec c s = s.onCore n f) (hn : n < 32)
    (hd : s.domOn n = true) (hf : f s = t) : exec c s = .next t := by
  rw [he, State.onCore, if_pos ⟨hn, hd⟩, hf]

/-! ### Words -/

theorem fld_congr {x y : Word} {hi lo : Nat} (hlo : lo ≤ hi) (h : ∀ i, lo ≤ i → i ≤ hi → flag x i = flag y i) : fld x hi lo = fld y hi lo := by
  refine Nat.eq_of_testBit_eq fun j => ?_
  simp only [fld, bits, Nat.testBit_mod_two_pow, Nat.testBit_div_two_pow]
  by_cases hj : j < hi - lo + 1
  · have hbit : flag x (j + lo) = flag y (j + lo) := h _ (by omega) (by omega)
    simpa [hj, flag, BitVec.testBit_toNat] using hbit
  · simp [hj]

/-- A field that is written reads as what was written. -/
theorem fld_setFld (x : Word) {hi lo v : Nat} (hhi : hi < 32) (hlo : lo ≤ hi) (hv : v < 2 ^ (hi - lo + 1)) : fld (setFld x hi lo v) hi lo = v := by
  have hword : v * 2 ^ lo < 2 ^ 32 := calc
    v * 2 ^ lo < 2 ^ (hi - lo + 1) * 2 ^ lo := Nat.mul_lt_mul_of_pos_right hv (by positivity)
    _ = 2 ^ (hi + 1) := by rw [← pow_add]; congr 1; omega
    _ ≤ 2 ^ 32 := Nat.pow_le_pow_right (by norm_num) hhi
  have hfld : fld (setFld x hi lo v) hi lo = fld (w32 (v * 2 ^ lo)) hi lo := by
    refine fld_congr hlo fun i hli hih => ?_
    have hm := flag_mask lo (hi - lo + 1) (i := i) (by omega) hli (by omega)
    simp only [flag] at hm
    simp [setFld, flag, hm]
  rw [hfld, fld, w32, BitVec.toNat_ofNat, Nat.mod_eq_of_lt hword, bits, Nat.mul_div_cancel _ (by positivity), Nat.mod_eq_of_lt hv]

/-- A bit that is cleared reads as 0. -/
theorem State.flag_clrReg (s : State) {k : Nat} {m : Word} {i : Nat} (h : mrising s.regs = true) (hm : flag m i = true) :
    flag ((s.clrReg k m).reg k) i = false := by
  rw [s.reg_clrReg_same k m h]
  simp only [flag] at hm
  simp [flag, hm]

/-- A field without a bit that is cleared stays. -/
theorem State.fld_clrReg (s : State) {k : Nat} {m : Word} {hi lo : Nat} (h : mrising s.regs = true) (hhi : hi < 32) (hlo : lo ≤ hi)
    (hm : ∀ i, lo ≤ i → i ≤ hi → flag m i = false) : fld ((s.clrReg k m).reg k) hi lo = fld (s.reg k) hi lo := by
  rw [s.reg_clrReg_same k m h]
  refine fld_congr hlo fun i hli hih => ?_
  have hbit := hm i hli hih
  have h32 : i < 32 := by omega
  rw [flag] at hbit
  rw [flag, flag, BitVec.getLsbD_and, BitVec.getLsbD_not, hbit]
  simp [h32]

/-! ### Starts of tests -/

theorem Core.mem_startTest (c : Core) (k b : Nat) : (k, b) ∈ (c.startTest k b).bist := by
  simp [Core.startTest]

/-- The state with test `k` of core `n` started, whose DONE is that of the register `key`. -/
def State.testStarted (s : State) (n k b key : Nat) : State := (s.modCore n (fun c => c.startTest k b)).clrReg key 0x40000000

theorem State.bist_testStarted (s : State) {n : Nat} (k b key : Nat) (hn : n < s.cores.length) : (k, b) ∈ ((s.testStarted n k b key).core n).bist := by
  rw [State.testStarted, State.core_clrReg, s.core_modCore_same _ hn]
  exact Core.mem_startTest _ k b

theorem State.done_testStarted (s : State) (n k b key : Nat) (h : mrising s.regs = true) : flag ((s.testStarted n k b key).reg key) 30 = false :=
  State.flag_clrReg _ h (by decide)

theorem State.fld_testStarted (s : State) (n k b key : Nat) (h : mrising s.regs = true) :
    fld ((s.testStarted n k b key).reg key) 5 0 = fld (s.reg key) 5 0 :=
  State.fld_clrReg (s.modCore n (fun c => c.startTest k b)) h (by norm_num) (by norm_num) (by decide)

theorem State.mem_testStarted (s : State) (n k b key : Nat) : (s.testStarted n k b key).mem = s.mem := by
  rw [State.testStarted, State.clrReg_mem, State.modCore_mem]

theorem State.doMxBist_idle (s : State) {n : Nat} (h : (s.core n).idle = true) :
    s.doMxBist n = s.testStarted n 1 0 (coreKey n Reg.mxBist) := if_pos h

theorem State.doMxBist_busy (s : State) {n : Nat} (h : (s.core n).idle = false) : s.doMxBist n = s := if_neg (by simp [h])

theorem State.doVxBist_idle (s : State) {n : Nat} (h : (s.core n).idle = true) :
    s.doVxBist n = s.testStarted n 2 0 (coreKey n Reg.vxBist) := if_pos h

theorem State.doVxBist_busy (s : State) {n : Nat} (h : (s.core n).idle = false) : s.doVxBist n = s := if_neg (by simp [h])

/-- The state after BANK of SPD_BIST is set. -/
def State.bankSet (s : State) (n bank : Nat) : State :=
  s.setReg (coreKey n Reg.spdBist) (setFld (s.reg (coreKey n Reg.spdBist)) 5 0 bank)

theorem State.fld_bankSet (s : State) (n : Nat) {bank : Nat} (h : mrising s.regs = true) (hb : bank < 64) :
    fld ((s.bankSet n bank).reg (coreKey n Reg.spdBist)) 5 0 = bank := by
  rw [State.bankSet, s.reg_setReg_same _ _ h]
  exact fld_setFld _ (by norm_num) (by norm_num) hb

theorem State.mem_bankSet (s : State) (n bank : Nat) : (s.bankSet n bank).mem = s.mem := by
  rw [State.bankSet, State.setReg_mem]

theorem State.setReg_frame (s : State) (k : Nat) (v : Word) : { s.setReg k v with regs := s.regs } = s := rfl

theorem State.bankSet_frame (s : State) (n bank : Nat) : { s.bankSet n bank with regs := s.regs } = s := by
  rw [State.bankSet]
  exact s.setReg_frame _ _

theorem State.cores_bankSet (s : State) (n bank : Nat) : (s.bankSet n bank).cores = s.cores := by
  rw [State.bankSet, State.setReg_cores]

theorem State.core_bankSet (s : State) (n bank m : Nat) : (s.bankSet n bank).core m = s.core m := by
  rw [State.bankSet, State.core_setReg]

theorem State.doSpdBist_eq (s : State) (n bank : Nat) : s.doSpdBist n bank =
    if ((s.bankSet n bank).core n).idle then (s.bankSet n bank).testStarted n 0 (bank % 64) (coreKey n Reg.spdBist) else s.bankSet n bank := rfl

theorem State.doSpdBist_idle (s : State) {n bank : Nat} (h : (s.core n).idle = true) (hb : bank < 64) :
    s.doSpdBist n bank = (s.bankSet n bank).testStarted n 0 bank (coreKey n Reg.spdBist) := by
  rw [s.doSpdBist_eq, s.core_bankSet, if_pos h, Nat.mod_eq_of_lt hb]

theorem State.doSpdBist_busy (s : State) {n : Nat} (bank : Nat) (h : (s.core n).idle = false) : s.doSpdBist n bank = s.bankSet n bank := by
  rw [s.doSpdBist_eq, s.core_bankSet, if_neg (by simp [h])]

/-! ### The revoke -/

theorem State.doSpdRevoke_starts (s : State) {n x : Nat} {idle : Bool} (h : (s.core n).revoking = none) (hx : x < 4096)
    (hfree : idle = true ∨ x ≠ s.coreCtx n) : s.doSpdRevoke n x idle = s.modCore n (fun c => { c with revoking := some x }) := by
  have hrun : (!idle && x == s.coreCtx n) = false := by
    obtain rfl | hne := hfree
    · rfl
    · simp [hne]
  rw [State.doSpdRevoke, h, Nat.mod_eq_of_lt hx, hrun]
  rfl

theorem State.doSpdRevoke_running (s : State) {n x : Nat} (h : (s.core n).revoking = none) (hx : x < 4096) (hrun : x = s.coreCtx n) :
    s.doSpdRevoke n x false = s.orReg (coreKey n Reg.spdErr) (w32 (2 ^ 28)) := by
  rw [State.doSpdRevoke, h, Nat.mod_eq_of_lt hx, hrun]
  simp

theorem State.doSpdRevokeDone_revoking (s : State) {n x : Nat} (h : (s.core n).revoking = some x) :
    s.doSpdRevokeDone n = s.modCore n (fun c => c.revokeTags x) := by
  rw [State.doSpdRevokeDone, h]

/-! ### Ends of tests while the firmware does not run -/

theorem State.soundDone_down (s : State) (n kind bank : Nat) (pass : Bool) (h : s.firmwareRuns = false) : s.soundDone n kind bank pass = s := by
  rw [State.soundDone, h]
  rfl

theorem State.continueUp_down (s : State) (h : s.firmwareRuns = false) : s.continueUp = s := by
  rw [State.continueUp, h]
  rfl

theorem State.firmwareRuns_congr {s t : State} (h : t.rst = s.rst) : t.firmwareRuns = s.firmwareRuns := by
  rw [State.firmwareRuns, h, State.firmwareRuns]

/-- While the firmware does not run nothing follows the end of a test. -/
theorem State.soundDone_continueUp_down {s t : State} (n kind bank : Nat) (pass : Bool) (hf : s.firmwareRuns = false) (h : t.rst = s.rst) :
    (t.soundDone n kind bank pass).continueUp = t := by
  have ht : t.firmwareRuns = false := (State.firmwareRuns_congr h).trans hf
  rw [t.soundDone_down _ _ _ _ ht, t.continueUp_down ht]

theorem State.rst_endMxBist (s : State) (n : Nat) (pass : Bool) : (s.endMxBist n pass).rst = s.rst := by
  rw [State.endMxBist, State.setReg_rst, State.modCore_rst]

theorem State.doMxBistDone_testing (s : State) {n b : Nat} (pass : Bool) (h : (s.core n).testing 1 = some b) :
    s.doMxBistDone n pass = (s.endMxBist n pass).soundDone n 1 0 pass := by
  rw [State.doMxBistDone, h]

theorem State.doMxBistDone_down (s : State) {n b : Nat} (pass : Bool) (hf : s.firmwareRuns = false) (h : (s.core n).testing 1 = some b) :
    (s.doMxBistDone n pass).continueUp = s.endMxBist n pass := by
  rw [s.doMxBistDone_testing pass h, State.soundDone_continueUp_down _ _ _ _ hf (s.rst_endMxBist n pass)]

theorem State.rst_endVxBist (s : State) (n : Nat) (pass : Bool) : (s.endVxBist n pass).rst = s.rst := by
  rw [State.endVxBist, State.setReg_rst, State.modCore_rst]

theorem State.doVxBistDone_testing (s : State) {n b : Nat} (pass : Bool) (h : (s.core n).testing 2 = some b) :
    s.doVxBistDone n pass = (s.endVxBist n pass).soundDone n 2 0 pass := by
  rw [State.doVxBistDone, h]

theorem State.doVxBistDone_down (s : State) {n b : Nat} (pass : Bool) (hf : s.firmwareRuns = false) (h : (s.core n).testing 2 = some b) :
    (s.doVxBistDone n pass).continueUp = s.endVxBist n pass := by
  rw [s.doVxBistDone_testing pass h, State.soundDone_continueUp_down _ _ _ _ hf (s.rst_endVxBist n pass)]

theorem State.rst_endSpdBist (s : State) (n b : Nat) (pass : Bool) : (s.endSpdBist n b pass).rst = s.rst := by
  rw [State.endSpdBist, State.setReg_rst, State.modCore_rst]

theorem State.doSpdBistDone_testing (s : State) {n b : Nat} (pass : Bool) (h : (s.core n).testing 0 = some b) :
    s.doSpdBistDone n pass = (s.endSpdBist n b pass).soundDone n 0 b pass := by
  rw [State.doSpdBistDone, h]

theorem State.doSpdBistDone_down (s : State) {n b : Nat} (pass : Bool) (hf : s.firmwareRuns = false) (h : (s.core n).testing 0 = some b) :
    (s.doSpdBistDone n pass).continueUp = s.endSpdBist n b pass := by
  rw [s.doSpdBistDone_testing pass h, State.soundDone_continueUp_down _ _ _ _ hf (s.rst_endSpdBist n b pass)]

theorem Core.testing_endTest (c : Core) (k : Nat) : (c.endTest k).testing k = none := by
  simp [Core.testing, Core.endTest]

/-! ### The written bits of a bank -/

/-- The written bits of granule `g` without those of the lines of the bank among `l`. -/
def withoutBank (bank g : Nat) (l : List Nat) (m : BitVec 64) : BitVec 64 :=
  l.foldl (fun (m : BitVec 64) i => if bankOf (64 * g + i) = bank then m &&& ~~~ (BitVec.ofNat 64 (2 ^ i)) else m) m

theorem withoutBank_of_clear (bank g : Nat) (l : List Nat) {m : BitVec 64} {i : Nat} (h : m.getLsbD i = false) :
    (withoutBank bank g l m).getLsbD i = false := by
  induction l generalizing m with
  | nil => exact h
  | cons j l ih =>
    refine ih ?_
    dsimp only
    split
    · rw [BitVec.getLsbD_and, h, Bool.false_and]
    · exact h

theorem withoutBank_clear {bank g i : Nat} {l : List Nat} (m : BitVec 64) (hi : i ∈ l) (hb : bankOf (64 * g + i) = bank) :
    (withoutBank bank g l m).getLsbD i = false := by
  induction l generalizing m with
  | nil => cases hi
  | cons j l ih =>
    obtain rfl | hi := List.mem_cons.mp hi
    · refine withoutBank_of_clear bank g l ?_
      dsimp only
      rw [if_pos hb]
      by_cases h64 : i < 64
      · rw [BitVec.getLsbD_and, BitVec.getLsbD_not, BitVec.getLsbD_ofNat, Nat.testBit_two_pow_self]
        simp [h64]
      · exact BitVec.getLsbD_of_ge _ _ (not_lt.mp h64)
    · exact ih _ hi

theorem Core.written_clearBank (c : Core) (bank : Nat) : (c.clearBank bank).written = c.written.filterMap (fun w =>
    if withoutBank bank w.1 (List.range 64) w.2 = 0 then none else some (w.1, withoutBank bank w.1 (List.range 64) w.2)) := rfl

/-- No line of a cleared bank counts as written. -/
theorem Core.lineWritten_clearBank (c : Core) {bank l : Nat} (h : bankOf l = bank) : (c.clearBank bank).lineWritten l = false := by
  rw [Core.lineWritten, mgetD, c.written_clearBank]
  cases hm : mget _ (granuleOf l) with
  | none => exact BitVec.getLsbD_zero
  | some m =>
    obtain ⟨w, -, hw⟩ := List.mem_filterMap.mp (mget_mem hm)
    split at hw
    · cases hw
    · obtain ⟨hg, heq⟩ := Prod.mk.inj (Option.some.inj hw)
      rw [Option.getD_some, ← heq]
      refine withoutBank_clear w.2 (List.mem_range.mpr (Nat.mod_lt l (by norm_num))) ?_
      rw [hg, granuleOf, Nat.div_add_mod, h]

/-! ### What the end of a test leaves -/

/-- DONE and PASS of a test, as its register shows them. -/
def outcomeWord (pass : Bool) : Nat := 2 ^ 30 + b2n pass * 2 ^ 29

theorem State.cReg_endMxBist (s : State) (n : Nat) (pass : Bool) (h : mrising s.regs = true) :
    (s.endMxBist n pass).cReg n Reg.mxBist = w32 (outcomeWord pass) := by
  rw [State.cReg, State.endMxBist, State.reg_setReg_same, outcomeWord]
  rwa [State.modCore_regs]

theorem State.core_endMxBist (s : State) {n : Nat} (pass : Bool) (h : n < s.cores.length) : (s.endMxBist n pass).core n =
    { (s.core n).endTest 1 with plane0 := { (s.core n).plane0 with valid := false }, plane1 := { (s.core n).plane1 with valid := false } } := by
  rw [State.endMxBist, State.core_setReg, s.core_modCore_same _ h]

theorem State.mem_endMxBist (s : State) (n : Nat) (pass : Bool) : (s.endMxBist n pass).mem = s.mem := by
  rw [State.endMxBist, State.setReg_mem, State.modCore_mem]

theorem State.cReg_endVxBist (s : State) (n : Nat) (pass : Bool) (h : mrising s.regs = true) :
    (s.endVxBist n pass).cReg n Reg.vxBist = w32 (outcomeWord pass) := by
  rw [State.cReg, State.endVxBist, State.reg_setReg_same, outcomeWord]
  rwa [State.modCore_regs]

theorem State.core_endVxBist (s : State) {n : Nat} (pass : Bool) (h : n < s.cores.length) :
    (s.endVxBist n pass).core n = { (s.core n).endTest 2 with wss := 0, tregs := [] } := by
  rw [State.endVxBist, State.core_setReg, s.core_modCore_same _ h]

theorem State.mem_endVxBist (s : State) (n : Nat) (pass : Bool) : (s.endVxBist n pass).mem = s.mem := by
  rw [State.endVxBist, State.setReg_mem, State.modCore_mem]

theorem State.cReg_endSpdBist (s : State) (n bank : Nat) (pass : Bool) (h : mrising s.regs = true) :
    (s.endSpdBist n bank pass).cReg n Reg.spdBist = w32 (outcomeWord pass + fld (s.cReg n Reg.spdBist) 5 0) := by
  rw [State.cReg, State.endSpdBist, State.reg_setReg_same, outcomeWord]
  · rfl
  · rwa [State.modCore_regs]

theorem State.core_endSpdBist (s : State) {n : Nat} (bank : Nat) (pass : Bool) (h : n < s.cores.length) :
    (s.endSpdBist n bank pass).core n = ((s.core n).clearBank bank).endTest 0 := by
  rw [State.endSpdBist, State.core_setReg, s.core_modCore_same _ h]

theorem State.mem_endSpdBist (s : State) (n bank : Nat) (pass : Bool) : (s.endSpdBist n bank pass).mem = s.mem := by
  rw [State.endSpdBist, State.setReg_mem, State.modCore_mem]

/-- A small number beside the outcome leaves DONE and PASS. -/
theorem flag_outcomeWord (pass : Bool) {x : Nat} (hx : x < 64) :
    flag (w32 (outcomeWord pass + x)) 30 = true ∧ flag (w32 (outcomeWord pass + x)) 29 = pass := by
  revert x pass
  decide

/-! ### The statement -/

/-- A test that starts is listed, with DONE clear. -/
theorem exec_bist_idle {s : State} {n : Nat} (hn : n < 32) (hlen : s.cores.length = 32) (hr : mrising s.regs = true)
    (ha : s.answers (.core n 0) = true) (h : (s.core n).idle = true) :
    (∃ t, exec (.mxBist n) s = .next t ∧ (1, 0) ∈ (t.core n).bist ∧ flag (t.cReg n Reg.mxBist) 30 = false ∧ t.mem = s.mem) ∧
    (∃ t, exec (.vxBist n) s = .next t ∧ (2, 0) ∈ (t.core n).bist ∧ flag (t.cReg n Reg.vxBist) 30 = false ∧ t.mem = s.mem) ∧
    (∀ b < 64, ∃ t, exec (.spdBist n b) s = .next t ∧ (0, b) ∈ (t.core n).bist ∧ fld (t.cReg n Reg.spdBist) 5 0 = b ∧
      flag (t.cReg n Reg.spdBist) 30 = false ∧ t.mem = s.mem) := by
  have hc : n < s.cores.length := hlen ▸ hn
  refine ⟨⟨_, exec_window (f := fun s => s.doMxBist n) rfl hn ha (s.doMxBist_idle h), s.bist_testStarted _ _ _ hc,
      s.done_testStarted _ _ _ _ hr, s.mem_testStarted _ _ _ _⟩,
    ⟨_, exec_window (f := fun s => s.doVxBist n) rfl hn ha (s.doVxBist_idle h), s.bist_testStarted _ _ _ hc,
      s.done_testStarted _ _ _ _ hr, s.mem_testStarted _ _ _ _⟩, fun b hb => ?_⟩
  have hc' : n < (s.bankSet n b).cores.length := (s.cores_bankSet n b).symm ▸ hc
  have hr' : mrising (s.bankSet n b).regs = true := s.setReg_rising _ _ hr
  refine ⟨_, exec_window (f := fun s => s.doSpdBist n b) rfl hn ha (s.doSpdBist_idle h hb), State.bist_testStarted _ _ _ _ hc', ?_,
    State.done_testStarted _ _ _ _ _ hr', (State.mem_testStarted _ _ _ _ _).trans (s.mem_bankSet n b)⟩
  exact (State.fld_testStarted _ _ _ _ _ hr').trans (s.fld_bankSet n hr hb)

/-- On a core that is not idle no test starts. -/
theorem exec_bist_busy {s : State} {n : Nat} (hn : n < 32) (hr : mrising s.regs = true) (ha : s.answers (.core n 0) = true)
    (h : (s.core n).idle = false) : exec (.mxBist n) s = .next s ∧ exec (.vxBist n) s = .next s ∧
      ∀ b < 64, ∃ t, exec (.spdBist n b) s = .next t ∧ fld (t.cReg n Reg.spdBist) 5 0 = b ∧
        (∀ k, k ≠ coreKey n Reg.spdBist → t.reg k = s.reg k) ∧ { t with regs := s.regs } = s :=
  ⟨exec_window (f := fun s => s.doMxBist n) rfl hn ha (s.doMxBist_busy h),
    exec_window (f := fun s => s.doVxBist n) rfl hn ha (s.doVxBist_busy h),
    fun b hb => ⟨_, exec_window (f := fun s => s.doSpdBist n b) rfl hn ha (s.doSpdBist_busy b h), s.fld_bankSet n hr hb,
      fun _ hk => s.reg_setReg_ne _ hr hk, s.bankSet_frame n b⟩⟩

/-- The end of the tag pass takes every granule from the context, and none from another. -/
theorem exec_spdRevokeDone {s : State} {n x : Nat} (hn : n < 32) (hlen : s.cores.length = 32) (hd : s.domOn n = true)
    (h : (s.core n).revoking = some x) : ∃ t, exec (.spdRevokeDone n) s = .next t ∧ (t.core n).revoking = none ∧
      (∀ g ∈ (t.core n).tags, g.2 ≠ x) ∧ (∀ g ∈ (s.core n).tags, g.2 ≠ x → g ∈ (t.core n).tags) ∧ (t.core n).spad = (s.core n).spad ∧
      { t with cores := s.cores } = s := by
  refine ⟨_, exec_core (f := fun s => s.doSpdRevokeDone n) rfl hn hd (s.doSpdRevokeDone_revoking h), ?_⟩
  rw [s.core_modCore_same _ (hlen ▸ hn)]
  exact ⟨rfl, fun g hg => by simpa using (List.mem_filter.mp hg).2, fun g hg hx => List.mem_filter.mpr ⟨hg, by simpa using hx⟩, rfl, rfl⟩

/-- Settles O27: the starts, the revoke, and the ends of the tests, each from what its operation leaves. -/
theorem coreTestsAndRevoke : Obligations.CoreTestsAndRevoke := by
  intro s n hn hlen hr
  have hc : n < s.cores.length := hlen ▸ hn
  refine ⟨fun ha => ⟨exec_bist_idle hn hlen hr ha, exec_bist_busy hn hr ha, fun x hx hrev hfree => ?_, fun x hx hrev hbusy hrun => ?_⟩,
    fun hd => ⟨fun x => exec_spdRevokeDone hn hlen hd, fun pass hf => ⟨fun b hb => ?_, fun b hb => ?_, fun b hb hw => ?_⟩⟩⟩
  · exact exec_window (f := fun s => s.doSpdRevoke n x (s.core n).idle) rfl hn ha (s.doSpdRevoke_starts hrev hx hfree)
  · exact exec_window (f := fun s => s.doSpdRevoke n x (s.core n).idle) rfl hn ha (hbusy ▸ s.doSpdRevoke_running hrev hx hrun)
  · refine ⟨_, exec_core (f := fun s => (s.doMxBistDone n pass).continueUp) rfl hn hd (s.doMxBistDone_down pass hf hb), s.cReg_endMxBist n pass hr, ?_⟩
    rw [s.core_endMxBist pass hc, s.mem_endMxBist]
    exact ⟨Core.testing_endTest _ _, rfl, rfl, rfl⟩
  · refine ⟨_, exec_core (f := fun s => (s.doVxBistDone n pass).continueUp) rfl hn hd (s.doVxBistDone_down pass hf hb), s.cReg_endVxBist n pass hr, ?_⟩
    rw [s.core_endVxBist pass hc, s.mem_endVxBist]
    exact ⟨Core.testing_endTest _ _, rfl, rfl⟩
  · refine ⟨_, exec_core (f := fun s => (s.doSpdBistDone n pass).continueUp) rfl hn hd (s.doSpdBistDone_down pass hf hb), ?_⟩
    obtain ⟨hdone, hpass⟩ := flag_outcomeWord pass (x := fld (s.cReg n Reg.spdBist) 5 0) (Nat.mod_lt _ (by norm_num))
    rw [s.cReg_endSpdBist n b pass hr, s.core_endSpdBist b pass hc, s.mem_endSpdBist]
    exact ⟨hdone, hpass, Core.testing_endTest _ _, fun l hl => Core.lineWritten_clearBank _ hl, rfl⟩

end Sys2Proof.Machine
end

section
/-! The form of the machine (O59, O60): `State.Inv.foo` says that the operation `State.foo` keeps it, for every operation in the order of the model; a
command is one of them, and so is 1 µs without a command. -/

namespace Sys2Proof.Machine

-- The proofs are many and short: a thread for each of them is more than the system gives.
set_option Elab.async false

/-! ### The form: how it is read and kept -/

/-- An update of a part that the form speaks of keeps the form when that part is still well formed. -/
theorem State.Inv.update {s t : State} (h : s.Inv)
    (cores : s.cores.length = 32 → t.cores.length = 32 := by exact id) (gpio : s.gpio.length = 16 → t.gpio.length = 16 := by exact id)
    (mbx : s.mbx.length = 20 → t.mbx.length = 20 := by exact id)
    (spdm : s.pilot.spdm.length = 20 → t.pilot.spdm.length = 20 := by exact id)
    (mem : cellsWf s.mem.bytes = true → cellsWf t.mem.bytes = true := by exact id)
    (flash : cellsWf s.flash = true → cellsWf t.flash = true := by exact id)
    (regs : mrising s.regs = true → mrising t.regs = true := by exact id)
    (streams : mrising s.fe.streams = true → mrising t.fe.streams = true := by exact id)
    (slots : mrising s.pilot.slots = true → mrising t.pilot.slots = true := by exact id)
    (reserved : mrising s.pilot.reserved = true → mrising t.pilot.reserved = true := by exact id)
    (keyBind : mrising s.pilot.keyBind = true → mrising t.pilot.keyBind = true := by exact id)
    (keys : mrising s.rhb.keys = true → mrising t.rhb.keys = true := by exact id)
    (nctr : mrising s.rhb.nctr = true → mrising t.rhb.nctr = true := by exact id)
    (rot : mrising s.sched.rot = true → mrising t.sched.rot = true := by exact id) : t.Inv := by
  obtain ⟨⟨hc, hg, hx, hp⟩, ⟨hm, hf⟩, h1, h2, h3, h4, h5, h6, h7, h8⟩ := h
  exact ⟨⟨cores hc, gpio hg, mbx hx, spdm hp⟩, ⟨mem hm, flash hf⟩,
    regs h1, streams h2, slots h3, reserved h4, keyBind h5, keys h6, nctr h7, rot h8⟩

theorem State.Inv.withPending {s : State} {x : List Instr} (h : s.Inv) : State.Inv { s with pending := x } := h

theorem State.Inv.withFreeCtr {s : State} {x : Nat} (h : s.Inv) : State.Inv { s with freeCtr := x } := h

theorem State.Inv.withNow {s : State} {x : Nat} (h : s.Inv) : State.Inv { s with now := x } := h

theorem State.Inv.withBus {s : State} {x : Bus} (h : s.Inv) : State.Inv { s with bus := x } := h

theorem State.Inv.withPwr {s : State} {x : Pwr} (h : s.Inv) : State.Inv { s with pwr := x } := h

theorem State.Inv.withRst {s : State} {x : Rst} (h : s.Inv) : State.Inv { s with rst := x } := h

theorem State.Inv.withSecure {s : State} {x : Secure} (h : s.Inv) : State.Inv { s with secure := x } := h

theorem State.Inv.withTherm {s : State} {x : Therm} (h : s.Inv) : State.Inv { s with therm := x } := h

theorem State.Inv.withGpioLine {s : State} {x : Bool} (h : s.Inv) : State.Inv { s with gpioLine := x } := h

theorem State.Inv.withJtag {s : State} {x : Jtag} (h : s.Inv) : State.Inv { s with jtag := x } := h

theorem State.Inv.withSmbus {s : State} {x : Smbus} (h : s.Inv) : State.Inv { s with smbus := x } := h

theorem State.Inv.withHub {s : State} {x : Hub} (h : s.Inv) : State.Inv { s with hub := x } := h

theorem State.Inv.withLog {s : State} {x : Logbook} (h : s.Inv) : State.Inv { s with log := x } := h

theorem State.Inv.withMem {s : State} {m : Mem} (h : s.Inv) (e : m.bytes = s.mem.bytes := by dsimp only) : State.Inv { s with mem := m } :=
  h.update (mem := fun hm => e ▸ hm)

theorem State.Inv.withFe {s : State} {f : FrontEnd} (h : s.Inv) (e : f.streams = s.fe.streams := by dsimp only) : State.Inv { s with fe := f } :=
  h.update (streams := fun hm => e ▸ hm)

theorem State.Inv.withSched {s : State} {c : Sched} (h : s.Inv) (e : c.rot = s.sched.rot := by dsimp only) : State.Inv { s with sched := c } :=
  h.update (rot := fun hm => e ▸ hm)

theorem State.Inv.withPilot {s : State} {p : Pilot} (h : s.Inv)
    (e : (p.spdm, p.slots, p.reserved, p.keyBind) = (s.pilot.spdm, s.pilot.slots, s.pilot.reserved, s.pilot.keyBind) := by dsimp only) :
    State.Inv { s with pilot := p } := by
  simp only [Prod.mk.injEq] at e
  obtain ⟨hx, hs, hr, hk⟩ := e
  exact h.update (spdm := fun hm => hx ▸ hm) (slots := fun hm => hs ▸ hm) (reserved := fun hm => hr ▸ hm) (keyBind := fun hm => hk ▸ hm)

theorem State.Inv.withCores {s : State} {cs : List Core} (h : s.Inv) (e : cs.length = s.cores.length) : State.Inv { s with cores := cs } :=
  h.update (cores := e.trans)

theorem State.Inv.withRegs {s : State} {m : NatMap Word} (h : s.Inv) (hm : mrising s.regs = true → mrising m = true) :
    State.Inv { s with regs := m } :=
  h.update (regs := hm)

theorem State.Inv.withStreams {s : State} {m : NatMap Stream} (h : s.Inv) (hm : mrising s.fe.streams = true → mrising m = true) :
    State.Inv { s with fe := { s.fe with streams := m } } :=
  h.update (streams := hm)

theorem State.Inv.withSlots {s : State} {m : NatMap SlotRec} (h : s.Inv) (hm : mrising s.pilot.slots = true → mrising m = true) :
    State.Inv { s with pilot := { s.pilot with slots := m } } :=
  h.update (slots := hm)

theorem State.Inv.withReserved {s : State} {m : NatMap Reservation} (h : s.Inv)
    (hm : mrising s.pilot.reserved = true → mrising m = true) : State.Inv { s with pilot := { s.pilot with reserved := m } } :=
  h.update (reserved := hm)

theorem State.Inv.withKeyBind {s : State} {m : NatMap (Nat × Nat)} (h : s.Inv)
    (hm : mrising s.pilot.keyBind = true → mrising m = true) : State.Inv { s with pilot := { s.pilot with keyBind := m } } :=
  h.update (keyBind := hm)

theorem State.Inv.withRot {s : State} {m : NatMap Nat} (h : s.Inv) (hm : mrising s.sched.rot = true → mrising m = true) :
    State.Inv { s with sched := { s.sched with rot := m } } :=
  h.update (rot := hm)

/-- A change of the values of a table leaves its numbers rising. -/
theorem mrising_map {α β : Type} {m : NatMap α} {g : Nat × α → Nat × β} (hg : ∀ e, (g e).1 = e.1) (hm : mrising m = true) :
    mrising (m.map g) = true := by
  induction m with
  | nil => rfl
  | cons a r ih =>
    obtain ⟨ha, hr⟩ := (mrising_cons a r).mp hm
    refine (mrising_cons _ _).mpr ⟨fun e he => ?_, ih hr⟩
    obtain ⟨x, hx, rfl⟩ := List.mem_map.mp he
    rw [hg, hg]
    exact ha x hx

theorem State.Inv.pair {α : Type} {s : State} {a : α} (h : s.Inv) : (s, a).1.Inv := h

/-- The first component of a pair that is known. -/
theorem State.Inv.fst {α : Type} {p : State × α} {t : State} {a : α} (h : p.1.Inv) (e : p = (t, a)) : t.Inv := by
  subst e; exact h

theorem State.Inv.ite {c : Prop} {_ : Decidable c} {s t : State} (hs : s.Inv) (ht : t.Inv) : (if c then s else t).Inv := by
  split <;> assumption

theorem State.Inv.ite_fst {α : Type} {c : Prop} {_ : Decidable c} {p q : State × α} (hp : p.1.Inv) (hq : q.1.Inv) :
    (if c then p else q).1.Inv := by
  split <;> assumption

theorem State.Inv.foldl {α : Type} {f : State → α → State} {l : List α} {s : State} (h : s.Inv)
    (hf : ∀ s a, s.Inv → (f s a).Inv) : (l.foldl f s).Inv := by
  induction l generalizing s with
  | nil => exact h
  | cons a l ih => exact ih (hf s a h)

theorem State.Inv.foldl_fst {α β : Type} {f : State × β → α → State × β} {l : List α} {p : State × β} (h : p.1.Inv)
    (hf : ∀ p a, p.1.Inv → (f p a).1.Inv) : (l.foldl f p).1.Inv := by
  induction l generalizing p with
  | nil => exact h
  | cons a l ih => exact ih (hf p a h)

theorem State.Inv.getD {o : Option State} {s : State} (ho : ∀ t ∈ o, t.Inv) (h : s.Inv) : (o.getD s).Inv := by
  cases o with
  | none => exact h
  | some t => exact ho t rfl

/-- Settles O59: 32 cores, 16 pins and 20 channels, and every memory and table empty. -/
theorem resetHasTheForm : Obligations.ResetHasTheForm := by
  refine ⟨⟨List.length_replicate, List.length_replicate, List.length_replicate, List.length_replicate⟩, ⟨rfl, rfl⟩, ?_⟩
  exact ⟨rfl, rfl, rfl, rfl, rfl, rfl, rfl, rfl⟩

/-! ### Registers, cores and lines of the units -/

theorem State.Inv.setReg {s : State} {key : Nat} {v : Word} (h : s.Inv) : (s.setReg key v).Inv :=
  h.withRegs (mrising_mputD _ _ _ _)

theorem State.Inv.bump {s : State} {key n : Nat} (h : s.Inv) : (s.bump key n).Inv := by
  unfold State.bump
  exact h.setReg

theorem State.Inv.orReg {s : State} {key : Nat} {m : Word} (h : s.Inv) : (s.orReg key m).Inv := by
  unfold State.orReg
  exact h.setReg

theorem State.Inv.clrReg {s : State} {key : Nat} {m : Word} (h : s.Inv) : (s.clrReg key m).Inv := by
  unfold State.clrReg
  exact h.setReg

theorem State.Inv.resetRegs {s : State} {lo hi : Nat} (h : s.Inv) : (s.resetRegs lo hi).Inv :=
  h.withRegs (mrising_mclear _ _ _)

theorem State.Inv.setReg2 {s : State} {lo v : Nat} (h : s.Inv) : (s.setReg2 lo v).Inv := by
  unfold State.setReg2
  exact h.setReg.setReg

theorem State.Inv.plainWrite {s : State} {key : Nat} {v : Word} (h : s.Inv) : (s.plainWrite key v).Inv := by
  unfold State.plainWrite
  split
  exacts [h.setReg, h]

theorem State.Inv.setCore {s : State} {n : Nat} {c : Core} (h : s.Inv) : (s.setCore n c).Inv :=
  h.withCores List.length_set

theorem State.Inv.modCore {s : State} {n : Nat} {f : Core → Core} (h : s.Inv) : (s.modCore n f).Inv := by
  unfold State.modCore
  exact h.setCore

theorem State.Inv.cBump {s : State} {n off k : Nat} (h : s.Inv) : (s.cBump n off k).Inv := by
  unfold State.cBump
  exact h.bump

theorem State.Inv.nextFree {s : State} (h : s.Inv) : s.nextFree.Inv := by
  unfold State.nextFree
  exact h.withFreeCtr

/-! ### Memory, translation and the address spaces -/

theorem State.Inv.stackErr {s : State} {h1 bit addr : Nat} (h : s.Inv) : (s.stackErr h1 bit addr).Inv := by
  unfold State.stackErr
  exact h.setReg

theorem State.Inv.startHbmTest {s : State} {h1 pc : Nat} (h : s.Inv) : (s.startHbmTest h1 pc).Inv := by
  unfold State.startHbmTest
  exact h.ite h.setReg.orReg

theorem State.Inv.noteLine {s : State} {l : Nat} {late : Bool} (h : s.Inv) : (s.noteLine l late).Inv := by
  unfold State.noteLine
  dsimp only
  split
  · exact h
  · split
    · split
      exacts [h.bump.withMem.bump.stackErr.bump, h.bump.bump.stackErr.startHbmTest.setReg2]
    · exact h.bump.withMem.bump.stackErr.ite h.bump

theorem State.Inv.noteRead {s : State} {a n : Nat} {late : Bool} (h : s.Inv) : (s.noteRead a n late).Inv := by
  unfold State.noteRead
  exact h.foldl fun _ _ h => h.noteLine

theorem Mem.cellsWf_takeOver {m : Mem} {ident l : Nat} (h : cellsWf m.bytes = true) : cellsWf (m.takeOver ident l).bytes = true := by
  unfold Mem.takeOver
  split
  · split
    · exact h
    · exact cellsWf_cellsWrite _ _ _ h
  · exact h

theorem Mem.cellsWf_foldl {f : Mem → Nat → Mem} {ls : List Nat} {m : Mem} (h : cellsWf m.bytes = true)
    (hf : ∀ m l, cellsWf m.bytes = true → cellsWf (f m l).bytes = true) : cellsWf (ls.foldl f m).bytes = true := by
  induction ls generalizing m with
  | nil => exact h
  | cons l ls ih => exact ih (hf m l h)

theorem Mem.cellsWf_write {m : Mem} {ident a : Nat} {bs : List Byte} (h : cellsWf m.bytes = true) : cellsWf (m.write ident a bs).bytes = true :=
  cellsWf_cellsWrite _ _ _ (Mem.cellsWf_foldl h fun _ _ => Mem.cellsWf_takeOver)

theorem Mem.cellsWf_fillZ {m : Mem} {a n : Nat} (h : cellsWf m.bytes = true) : cellsWf (m.fillZ a n).bytes = true :=
  cellsWf_filter _ _ (cellsWf_cellsWrite _ _ _ h)

theorem Mem.cellsWf_wipe {m : Mem} {l : Nat} (h : cellsWf m.bytes = true) : cellsWf (m.wipe l).bytes = true :=
  cellsWf_filter _ _ h

theorem State.Inv.poke {s : State} {ident a : Nat} {bs : List Byte} {late : Bool} (h : s.Inv) : (s.poke ident a bs late).Inv := by
  have hold : ((partLines a bs.length).foldl (fun s l => s.noteLine l late) s).Inv := h.foldl fun _ _ h => h.noteLine
  unfold State.poke
  dsimp only
  split
  · have hcounted := hold.foldl (l := linesOf a bs.length) (f := fun s l =>
      (s.liveCopies (64 * l) late).foldl (fun s c => s.bump (hbmKey c.2.stack Reg.hbmCntWrlines)) s)
      fun _ _ h => h.foldl fun _ _ h => h.bump
    exact hcounted.update (mem := fun hm => Mem.cellsWf_write (Mem.cellsWf_foldl hm fun _ _ => Mem.cellsWf_wipe))
  · exact hold.ite h

theorem State.Inv.hubNote {s : State} {a n : Nat} (h : s.Inv) : (s.hubNote a n).Inv := by
  unfold State.hubNote
  exact h.noteRead.ite h

theorem State.Inv.hubPoke {s : State} {a : Nat} {bs : List Byte} (h : s.Inv) : (s.hubPoke a bs).Inv := by
  unfold State.hubPoke
  exact h.poke.ite h

theorem State.Inv.hubPokeW {s : State} {a : Nat} {w : Word} (h : s.Inv) : (s.hubPokeW a w).Inv := by
  unfold State.hubPokeW
  exact h.hubPoke

theorem State.Inv.noteWalk {s : State} {ctx va lo : Nat} (h : s.Inv) : (s.noteWalk ctx va lo).Inv := by
  unfold State.noteWalk
  exact (h.noteRead.ite h).foldl fun _ _ h => h.noteLine

theorem State.Inv.vnote {s : State} {tlb : List Tlb} {ctx va n : Nat} (h : s.Inv) : (s.vnote tlb ctx va n).Inv := by
  unfold State.vnote
  split
  exacts [h, h.foldl fun _ _ h => h.noteRead]

theorem State.Inv.vwrite {s t : State} {tlb : List Tlb} {ctx va : Nat} {bs : List Byte} (h : s.Inv)
    (e : s.vwrite tlb ctx va bs = .ok t) : t.Inv := by
  unfold State.vwrite at e
  split at e
  · cases e
  · split at e
    · cases e
    · cases e
      exact State.Inv.foldl_fst h fun _ _ h => h.poke

theorem State.Inv.hubXlate {s : State} {ctx va n : Nat} (h : s.Inv) : (s.hubXlate ctx va n).Inv := by
  unfold State.hubXlate
  refine h.foldl fun s a h => ?_
  split
  · exact h
  · extract_lets
    split
    exacts [h.noteWalk.withHub, h.noteWalk]

theorem State.Inv.ctxNote {s : State} {ctx va n : Nat} (h : s.Inv) : (s.ctxNote ctx va n).Inv := by
  unfold State.ctxNote
  exact h.hubXlate.vnote

theorem State.Inv.ctxPoke {s : State} {ctx va : Nat} {bs : List Byte} (h : s.Inv) : (s.ctxPoke ctx va bs).Inv := by
  unfold State.ctxPoke
  dsimp only
  split
  · next heq => exact h.hubXlate.vwrite heq
  · exact h.hubXlate

theorem State.Inv.takeFrame {s t : State} {j : Job} {big : Bool} {pa : Nat} (h : s.Inv) (e : s.takeFrame j big = some (pa, t)) : t.Inv := by
  unfold State.takeFrame at e
  split at e
  · cases e
  · cases e
    exact h.update (mem := Mem.cellsWf_fillZ)

theorem State.Inv.mapFrom {s t : State} {j : Job} {va pa fuel level tab : Nat} {big w : Bool} (h : s.Inv)
    (e : s.mapFrom j va pa big w fuel level tab = some t) : t.Inv := by
  induction fuel generalizing s level tab with
  | zero => cases e
  | succ m ih =>
    unfold State.mapFrom at e
    extract_lets idx a ent at e
    split at e
    · cases e
      exact h.hubPoke
    · split at e
      · exact ih h e
      · split at e
        · cases e
        · next heq => exact ih (h.takeFrame heq).hubPoke e

theorem State.Inv.mapPage {s t : State} {j : Job} {va pa : Nat} {big w : Bool} (h : s.Inv) (e : s.mapPage j va pa big w = some t) : t.Inv :=
  h.mapFrom e

theorem State.Inv.unmapFrom {s : State} {va fuel level tab : Nat} (h : s.Inv) : (s.unmapFrom va fuel level tab).Inv := by
  induction fuel generalizing s level tab with
  | zero =>
    rw [State.unmapFrom]
    exact h
  | succ m ih =>
    rw [State.unmapFrom]
    exact h.ite ((ih h).ite h.hubPoke)

theorem State.Inv.unmapPage {s : State} {ctx va : Nat} (h : s.Inv) : (s.unmapPage ctx va).Inv := by
  unfold State.unmapPage
  exact h.unmapFrom

theorem State.Inv.dropTlbs {s : State} {i : Inval} (h : s.Inv) : (s.dropTlbs i).Inv := by
  unfold State.dropTlbs
  exact (h.withCores (List.length_map _)).withHub.foldl fun _ _ h => h.ite h.cBump

theorem State.Inv.startInval {s : State} (h : s.Inv) : s.startInval.Inv := by
  unfold State.startInval
  split
  exacts [h.withHub.dropTlbs, h]

theorem State.Inv.invalidate {s : State} {i : Inval} (h : s.Inv) : (s.invalidate i).Inv := by
  unfold State.invalidate
  exact h.withHub.ite (h.withHub.startInval.ite h.withHub)

theorem State.Inv.toFill {s : State} {f : Fill} (h : s.Inv) : (s.toFill f).Inv := by
  unfold State.toFill
  exact h.withHub.ite h.withHub

theorem State.Inv.lastInval {s t : State} {ctx : Nat} {f : Inval → Inval} (h : s.Inv) (e : s.lastInval ctx f = some t) : t.Inv := by
  unfold State.lastInval at e
  dsimp only at e
  split at e
  · cases e
    exact h.withHub
  · obtain ⟨_, _, rfl⟩ := Option.map_eq_some_iff.mp e
    exact h.withHub

theorem State.Inv.fillAfter {s : State} {ctx : Nat} {f : Fill} (h : s.Inv) : (s.fillAfter ctx f).Inv :=
  State.Inv.getD (fun _ => h.lastInval) h.toFill

/-! ### The scratchpad -/

theorem State.Inv.grant {s : State} {n line : Nat} (h : s.Inv) : (s.grant n line).Inv := by
  unfold State.grant
  exact h.ite h.modCore.cBump

theorem State.Inv.spadEvent {s : State} {n port bit line : Nat} (h : s.Inv) : (s.spadEvent n port bit line).Inv := by
  unfold State.spadEvent
  exact h.setReg.ite h.setReg.setReg

theorem State.Inv.spadCe {s : State} {n u : Nat} (h : s.Inv) : (s.spadCe n u).Inv := by
  unfold State.spadCe
  exact h.setReg.modCore.cBump

theorem State.Inv.readLine {s : State} {n port l : Nat} (h : s.Inv) : (s.readLine n port l).1.Inv := by
  unfold State.readLine
  exact h.cBump.pair.ite_fst ((h.foldl fun _ _ h => h.spadCe).pair.ite_fst (h.foldl fun _ _ h => h.spadCe).spadEvent.cBump.pair)

theorem State.Inv.readLines {s : State} {n port : Nat} {x : List Nat} (h : s.Inv) : (s.readLines n port x).1.Inv := by
  induction x generalizing s with
  | nil =>
    rw [State.readLines]
    exact h.pair
  | cons x' l ih =>
    rw [State.readLines]
    split
    · next heq =>
        have ht := h.readLine.fst heq
        split
        · next heq1 =>
            have h1 := (ih ht).fst heq1
            exact (h1.ite h1.setReg).pair

theorem State.Inv.readReq {s : State} {n port : Nat} {req : List (Nat × Nat)} (h : s.Inv) : (s.readReq n port req).1.Inv := by
  unfold State.readReq
  extract_lets
  split
  · exact h.spadEvent.cBump.pair
  · split
    · next heq1 => exact ((h.foldl fun _ _ h => h.grant).readLines.fst heq1).pair

theorem State.Inv.writeReq {s : State} {n port : Nat} {req : List (Nat × List Byte)} (h : s.Inv) : (s.writeReq n port req).1.Inv := by
  unfold State.writeReq
  extract_lets
  split
  exacts [h.spadEvent.cBump.pair, (h.foldl fun _ _ h => h.grant).modCore.pair]

theorem State.Inv.engReads {s : State} {n port : Nat} {rs : List (Nat × Nat)} {x : List (List (Nat × Nat))} (h : s.Inv) :
    (s.engReads n port rs x).1.Inv := by
  induction x generalizing s with
  | nil =>
    rw [State.engReads]
    exact h.pair
  | cons x' l ih =>
    rw [State.engReads]
    split
    · split
      · next heq1 => exact (h.readReq.fst heq1).pair
      · next heq1 => exact ih (h.readReq.fst heq1)
    · exact h.pair

theorem State.Inv.engWrites {s : State} {n port : Nat} {rs : List (Nat × Nat)} {x : List (List (Nat × List Byte))} (h : s.Inv) :
    (s.engWrites n port rs x).1.Inv := by
  induction x generalizing s with
  | nil =>
    rw [State.engWrites]
    exact h.pair
  | cons x' l ih =>
    rw [State.engWrites]
    split
    · split
      · next heq1 => exact (h.writeReq.fst heq1).pair
      · next heq1 => exact ih (h.writeReq.fst heq1)
    · exact h.pair

theorem State.Inv.engRead {s : State} {n port : Nat} {rs : List (Nat × Nat)} {a len : Nat} (h : s.Inv) : (s.engRead n port rs a len).1.Inv := by
  unfold State.engRead
  split
  · next heq => exact (h.engReads.fst heq).pair
  · next heq => exact (h.engReads.fst heq).pair

theorem State.Inv.engRuns {s : State} {n port : Nat} {rs runs : List (Nat × Nat)} (h : s.Inv) : (s.engRuns n port rs runs).1.Inv := by
  unfold State.engRuns
  split
  · next heq => exact (h.engReads.fst heq).pair
  · next heq => exact (h.engReads.fst heq).pair

theorem State.Inv.engWrite {s : State} {n port : Nat} {rs : List (Nat × Nat)} {a : Nat} {bs : List Byte} (h : s.Inv) :
    (s.engWrite n port rs a bs).1.Inv := by
  unfold State.engWrite
  exact h.engWrites

theorem State.Inv.engPut {s : State} {n port : Nat} {rs : List (Nat × Nat)} {runs : List (Nat × List Byte)} (h : s.Inv) :
    (s.engPut n port rs runs).1.Inv := by
  unfold State.engPut
  exact h.engWrites

theorem State.Inv.spadRead {s : State} {n port a len : Nat} (h : s.Inv) : (s.spadRead n port a len).1.Inv := by
  unfold State.spadRead
  exact h.engRead

theorem State.Inv.spadWrite {s : State} {n port a : Nat} {bs : List Byte} (h : s.Inv) : (s.spadWrite n port a bs).1.Inv := by
  unfold State.spadWrite
  exact h.engWrite

theorem State.Inv.strike {s : State} {n : Nat} {x : Inject} (h : s.Inv) : (s.strike n x).Inv := by
  unfold State.strike
  split
  exacts [h.modCore, h.modCore, h]

theorem State.Inv.doSpdRevoke {s : State} {n ctxId : Nat} {idle : Bool} (h : s.Inv) : (s.doSpdRevoke n ctxId idle).Inv := by
  unfold State.doSpdRevoke
  exact h.ite (h.orReg.ite h.modCore)

theorem State.Inv.writeSpare {s : State} {n : Nat} {v : Word} (h : s.Inv) : (s.writeSpare n v).Inv := by
  unfold State.writeSpare
  exact h.plainWrite.foldl fun _ _ h => h.modCore

/-! ### The control of a core -/

theorem State.Inv.dropRemote {s : State} {ctx : Nat} (h : s.Inv) : (s.dropRemote ctx).Inv :=
  h.withCores (List.length_map _)

theorem State.Inv.coreFault {s : State} {n code va : Nat} (h : s.Inv) : (s.coreFault n code va).Inv := by
  unfold State.coreFault
  exact (h.cBump.ite h.setReg.setReg2).modCore.dropRemote

theorem State.Inv.xlatInfo {s : State} {n : Nat} {e : XErr} {va : Nat} (h : s.Inv) : (s.xlatInfo n e va).Inv := by
  unfold State.xlatInfo
  exact h.setReg.setReg2

theorem State.Inv.xlatFault {s : State} {n : Nat} {e : XErr} {va cmdVa : Nat} (h : s.Inv) : (s.xlatFault n e va cmdVa).Inv := by
  unfold State.xlatFault
  exact h.xlatInfo.coreFault

theorem State.Inv.fetchFault {s : State} {n : Nat} {e : XErr} {va cmdVa : Nat} (h : s.Inv) : (s.fetchFault n e va cmdVa).Inv := by
  unfold State.fetchFault
  exact h.xlatInfo.coreFault

theorem State.Inv.spendRead {s : State} {n k : Nat} (h : s.Inv) : (s.spendRead n k).Inv := by
  unfold State.spendRead
  exact h.ite h.modCore.cBump

theorem State.Inv.endWalk {s : State} {n ctx va : Nat} {keep : Bool} (h : s.Inv) : (s.endWalk n ctx va keep).Inv := by
  unfold State.endWalk
  dsimp only
  split
  exacts [h.noteWalk.spendRead.cBump.modCore.ite h.noteWalk.spendRead.cBump, h.noteWalk.spendRead.cBump]

theorem State.Inv.tlbTouch {s : State} {n va : Nat} (h : s.Inv) : (s.tlbTouch n va).1.Inv := by
  unfold State.tlbTouch
  exact h.pair.ite_fst (h.endWalk.cBump.pair.ite_fst h.pair)

theorem State.Inv.tlbTouches {s : State} {n : Nat} {x : List (Nat × Nat)} (h : s.Inv) : (s.tlbTouches n x).1.Inv := by
  induction x generalizing s with
  | nil =>
    rw [State.tlbTouches]
    exact h.pair
  | cons x' l ih =>
    rw [State.tlbTouches]
    split
    · next heq => exact ih (h.tlbTouch.fst heq)
    · next heq => exact (h.tlbTouch.fst heq).pair

theorem State.Inv.fetchRead {s : State} {n va len : Nat} (h : s.Inv) : (s.fetchRead n va len).1.Inv := by
  unfold State.fetchRead
  split
  · next heq => exact (h.tlbTouches.fst heq).pair
  · next heq =>
      have ht := h.tlbTouches.fst heq
      extract_lets
      split
      exacts [ht.pair, ht.spendRead.vnote.pair.ite_fst ht.pair]

theorem State.Inv.scanWord {s : State} {n va held : Nat} (h : s.Inv) : (s.scanWord n va held).1.Inv := by
  unfold State.scanWord
  split
  · exact h.pair
  · split
    · next heq1 => exact (h.fetchRead.fst heq1).pair
    · next heq1 => exact (h.fetchRead.fst heq1).pair
    · next heq1 => exact (h.fetchRead.fst heq1).pair

theorem State.Inv.scanPower {s : State} {n endVa fuel va held : Nat} (h : s.Inv) : (s.scanPower n endVa fuel va held).1.Inv := by
  induction fuel generalizing s va held with
  | zero =>
    rw [State.scanPower]
    exact h.pair
  | succ m ih =>
    rw [State.scanPower]
    split
    · exact h.pair
    · split
      · next heq1 => exact (h.scanWord.fst heq1).pair
      · next heq1 => exact (h.scanWord.fst heq1).pair
      · next heq1 =>
          have h1 := h.scanWord.fst heq1
          extract_lets
          split
          · exact h1.pair
          · next next _ _ =>
              split
              · split
                · next heq4 => exact (h1.scanWord.fst heq4).pair
                · next heq4 => exact (h1.scanWord.fst heq4).pair
                · next heq4 =>
                    have h4 := h1.scanWord.fst heq4
                    exact h4.pair.ite_fst (ih h4)
              · exact ih h1

theorem State.Inv.checkHeader {s : State} {n list : Nat} {h1 : List Word} (h : s.Inv) : (s.checkHeader n list h1).Inv := by
  unfold State.checkHeader
  dsimp only
  split
  · exact h.coreFault
  · split
    · exact h.modCore.ite h.coreFault
    · split
      · exact h.coreFault
      · split
        · split
          · next heq4 => exact (h.scanPower.fst heq4).modCore
          · next heq4 => exact (h.scanPower.fst heq4).coreFault
          · next heq4 => exact (h.scanPower.fst heq4).fetchFault
          · next heq4 => exact (h.scanPower.fst heq4).modCore
        · exact h.modCore

theorem State.Inv.openListAt {s : State} {n list : Nat} (h : s.Inv) : (s.openListAt n list).Inv := by
  unfold State.openListAt
  split
  · exact h.checkHeader
  · split
    · next heq1 => exact h.fetchRead.fst heq1
    · next heq1 => exact (h.fetchRead.fst heq1).fetchFault
    · next heq1 => exact (h.fetchRead.fst heq1).modCore.checkHeader

theorem State.Inv.openList {s : State} {n : Nat} (h : s.Inv) : (s.openList n).Inv := by
  unfold State.openList
  split
  · exact h
  · exact h.openListAt
  · split
    · exact h.openListAt
    · extract_lets
      split
      · next heq3 => exact h.fetchRead.fst heq3
      · next heq3 => exact (h.fetchRead.fst heq3).fetchFault
      · next heq3 => exact (h.fetchRead.fst heq3).modCore.openListAt

theorem State.Inv.settle {s : State} {n : Nat} (h : s.Inv) : (s.settle n).Inv := by
  unfold State.settle
  exact h.coreFault.ite h

theorem State.Inv.advance {s : State} {n : Nat} (h : s.Inv) : (s.advance n).Inv := by
  unfold State.advance
  exact h.modCore.cBump.settle

theorem State.Inv.doListFetchData {s : State} {n : Nat} (h : s.Inv) : (s.doListFetchData n).Inv := by
  unfold State.doListFetchData
  extract_lets
  split
  · exact h
  · split
    · exact h.openList.settle
    · split
      · exact h.settle
      · split
        · next heq3 => exact (h.fetchRead.fst heq3).settle
        · next heq3 => exact (h.fetchRead.fst heq3).fetchFault
        · next heq3 => exact (h.fetchRead.fst heq3).modCore.settle

theorem State.Inv.skipLoop {s : State} {n endVa fuel va depth held : Nat} (h : s.Inv) : (s.skipLoop n endVa fuel va depth held).1.Inv := by
  induction fuel generalizing s va depth held with
  | zero =>
    rw [State.skipLoop]
    exact h.pair
  | succ m ih =>
    rw [State.skipLoop]
    split
    · exact h.pair
    · split
      · next heq1 => exact (h.scanWord.fst heq1).pair
      · next heq1 => exact (h.scanWord.fst heq1).pair
      · next heq1 =>
          have h1 := h.scanWord.fst heq1
          exact h1.pair.ite_fst (h1.pair.ite_fst ((ih h1).ite_fst ((h1.pair.ite_fst (ih h1)).ite_fst (ih h1))))

theorem State.Inv.dispatch {s : State} {n op : Nat} {badPair badPlace : Core → Cmd → Bool} (h : s.Inv) :
    (s.dispatch n op badPair badPlace).Inv := by
  unfold State.dispatch
  extract_lets
  split
  · exact h
  · split
    exacts [h.coreFault, h.coreFault.ite (h.coreFault.ite (h.modCore.advance.ite h))]

theorem State.Inv.control {s : State} {n op : Nat} {f : State → Cmd → State} (h : s.Inv) (hf : ∀ s d, s.Inv → (f s d).Inv) :
    (s.control n op f).Inv := by
  unfold State.control
  split
  · exact h
  · split
    exacts [h.coreFault, hf _ _ h]

theorem State.Inv.doNop {s : State} {n : Nat} (h : s.Inv) : (s.doNop n).Inv := by
  unfold State.doNop
  exact h.control (fun _ _ h => h.ite h.advance)

theorem State.Inv.doFence {s : State} {n : Nat} (h : s.Inv) : (s.doFence n).Inv := by
  unfold State.doFence
  refine h.control (fun s d h => ?_)
  dsimp only
  split
  · exact h.modCore.cBump.modCore
  · split
    · next heq2 => exact h.fetchRead.fst heq2
    · next heq2 => exact (h.fetchRead.fst heq2).modCore.cBump.fetchFault
    · next heq2 =>
        have h2 := h.fetchRead.fst heq2
        exact h2.modCore.cBump.modCore.ite h2.modCore.cBump.coreFault

theorem State.Inv.doEnd {s : State} {n : Nat} (h : s.Inv) : (s.doEnd n).Inv := by
  unfold State.doEnd
  exact h.control (fun _ _ h => h.modCore.cBump.ite h.coreFault)

theorem State.Inv.doLoop {s : State} {n : Nat} (h : s.Inv) : (s.doLoop n).Inv := by
  unfold State.doLoop
  refine h.control (fun s d h => ?_)
  extract_lets
  split
  · exact h.coreFault
  · next next _ _ _ =>
      split
      · exact h
      · split
        · split
          · next heq4 => exact (h.skipLoop.fst heq4).coreFault
          · next heq4 => exact (h.skipLoop.fst heq4).fetchFault
          · next heq4 => exact (h.skipLoop.fst heq4).modCore
          · next heq4 => exact (h.skipLoop.fst heq4).modCore.cBump.settle
        · exact h.coreFault.ite h.modCore.advance

theorem State.Inv.doEndloop {s : State} {n : Nat} (h : s.Inv) : (s.doEndloop n).Inv := by
  unfold State.doEndloop
  refine h.control (fun s d h => ?_)
  split
  exacts [h.coreFault, h.modCore.cBump.settle.ite h.modCore.advance]

theorem State.Inv.doBankPower {s : State} {n : Nat} (h : s.Inv) : (s.doBankPower n).Inv := by
  unfold State.doBankPower
  exact h.control (fun _ _ h => h.ite (h.ite h.withPwr.modCore.advance))

theorem State.Inv.doComplete {s : State} {n : Nat} (h : s.Inv) : (s.doComplete n).Inv := by
  unfold State.doComplete
  exact h.control (fun _ _ h => h.coreFault.ite (h.ite (h.ite h.modCore.advance)))

theorem State.Inv.modWork {s : State} {n : Nat} {f : Batch → Batch} {g : Direct → Direct} (h : s.Inv) : (s.modWork n f g).Inv := by
  unfold State.modWork
  split
  exacts [h.withLog, h, h.withSched]

theorem State.Inv.arrive {s : State} {n slice k : Nat} (h : s.Inv) : (s.arrive n slice k).Inv := by
  unfold State.arrive
  exact h.modWork

theorem State.Inv.doFenceDrainComplete {s : State} {n : Nat} (h : s.Inv) : (s.doFenceDrainComplete n).Inv := by
  unfold State.doFenceDrainComplete
  extract_lets
  split
  exacts [h.ite ((h.modCore.cBump.arrive.ite h.modCore.cBump).modCore.ite (h.modCore.cBump.arrive.ite h.modCore.cBump).modCore.settle), h]

theorem State.Inv.doBarrierOpen {s : State} {n : Nat} (h : s.Inv) : (s.doBarrierOpen n).Inv := by
  unfold State.doBarrierOpen
  exact h.modCore.settle.ite h

theorem State.Inv.doCoreAbort {s : State} {n : Nat} (h : s.Inv) : (s.doCoreAbort n).Inv := by
  unfold State.doCoreAbort
  exact h.modCore.dropRemote

theorem State.Inv.pump {s : State} {n : Nat} (h : s.Inv) : (s.pump n).Inv := by
  unfold State.pump
  exact h.modCore

theorem State.Inv.compat {s : State} {n op : Nat} {f : Core → List Word → Option (List Cmd)} (h : s.Inv) : (s.compat n op f).Inv := by
  unfold State.compat
  extract_lets
  split
  · exact h.pump
  · split
    exacts [h.coreFault, h.modCore.cBump.pump.settle]

theorem State.Inv.doLoadw {s : State} {n : Nat} (h : s.Inv) : (s.doLoadw n).Inv := by
  unfold State.doLoadw
  exact h.compat

theorem State.Inv.doGemm {s : State} {n : Nat} (h : s.Inv) : (s.doGemm n).Inv := by
  unfold State.doGemm
  exact h.compat

theorem State.Inv.doVop {s : State} {n : Nat} (h : s.Inv) : (s.doVop n).Inv := by
  unfold State.doVop
  exact h.compat

theorem State.Inv.doDmaIn {s : State} {n : Nat} (h : s.Inv) : (s.doDmaIn n).Inv := by
  unfold State.doDmaIn
  exact h.compat

theorem State.Inv.doDmaOut {s : State} {n : Nat} (h : s.Inv) : (s.doDmaOut n).Inv := by
  unfold State.doDmaOut
  exact h.compat

theorem State.Inv.doSync {s : State} {n : Nat} (h : s.Inv) : (s.doSync n).Inv := by
  unfold State.doSync
  split
  exacts [h, h.coreFault.ite h.modCore.cBump]

theorem State.Inv.doStepEnd {s : State} {n : Nat} (h : s.Inv) : (s.doStepEnd n).Inv := by
  unfold State.doStepEnd
  split
  exacts [h, h.coreFault.ite h.modCore.cBump]

/-! ### The Loupe -/

theorem State.Inv.lpeInfo {s : State} {n detail sub block : Nat} (h : s.Inv) : (s.lpeInfo n detail sub block).Inv := by
  unfold State.lpeInfo
  exact h.setReg.nextFree

theorem State.Inv.loupeBad {s : State} {n block : Nat} {e : FErr} (h : s.Inv) : (s.loupeBad n block e).Inv := by
  unfold State.loupeBad
  exact h.lpeInfo.cBump

theorem State.Inv.loupeBlock {s : State} {n : Nat} {r : LoupeReq} (h : s.Inv) : (s.loupeBlock n r).1.Inv := by
  unfold State.loupeBlock
  extract_lets
  split
  · next heq => exact (h.engRead.fst heq).pair
  · next heq =>
      have ht := h.engRead.fst heq
      extract_lets
      split
      · exact ht.cBump.lpeInfo.pair
      · split
        · next heq2 => exact (ht.cBump.engRead.fst heq2).pair
        · next heq2 =>
            have h2 := ht.cBump.engRead.fst heq2
            extract_lets
            split
            · exact h2.cBump.cBump.pair
            · split
              exacts [h2.cBump.loupeBad.pair, (h2.cBump.cBump.cBump.ite h2.cBump.cBump).pair]

theorem State.Inv.refillBlock {s : State} {n : Nat} {r : LoupeReq} (h : s.Inv) : (s.refillBlock n r).1.Inv := by
  unfold State.refillBlock
  extract_lets
  split
  · exact h.lpeInfo.pair
  · split
    · exact h.cBump.cBump.pair
    · split
      exacts [h.cBump.loupeBad.pair, (h.cBump.cBump.cBump.ite h.cBump.cBump).pair]

theorem State.Inv.loupeLand {s : State} {n : Nat} {r : LoupeReq} {bs : List Byte} (h : s.Inv) : (s.loupeLand n r bs).1.Inv := by
  unfold State.loupeLand
  split
  · exact h.spadWrite
  · split
    · exact h.pair
    · split
      exacts [h.engWrite, h.pair]

theorem State.Inv.doLoupeBlockDecode {s : State} {n : Nat} (h : s.Inv) : (s.doLoupeBlockDecode n).Inv := by
  unfold State.doLoupeBlockDecode
  extract_lets
  split
  · exact h
  · split
    · exact h
    · extract_lets
      split
      · next heq2 =>
          have h2 := (h.modCore.refillBlock.ite_fst h.modCore.loupeBlock).fst heq2
          exact h2.coreFault.modCore.ite h2.coreFault
      · next heq2 =>
          have h2 := (h.modCore.refillBlock.ite_fst h.modCore.loupeBlock).fst heq2
          split
          · next heq3 => exact (h2.loupeLand.fst heq3).coreFault
          · next heq3 => exact (h2.loupeLand.fst heq3).modCore

/-! ### The matrix engine -/

theorem State.Inv.mxInfo {s : State} {n detail : Nat} {pos : Option (Nat × Nat)} (h : s.Inv) : (s.mxInfo n detail pos).Inv := by
  unfold State.mxInfo
  exact h.setReg.nextFree

theorem State.Inv.mxIssue {s : State} {n op : Nat} {start : Core → Cmd → Core} (h : s.Inv) : (s.mxIssue n op start).Inv := by
  unfold State.mxIssue
  extract_lets
  split
  exacts [h.modCore.ite h, h]

theorem State.Inv.loadCyc {s : State} {n bytes : Nat} (h : s.Inv) : (s.loadCyc n bytes).Inv := by
  unfold State.loadCyc
  exact h.ite h.cBump

theorem State.Inv.loadPart {s : State} {n : Nat} {rs : List (Nat × Nat)} {a len : Nat} (h : s.Inv) : (s.loadPart n rs a len).1.Inv := by
  unfold State.loadPart
  split
  · next heq => exact (h.engRead.fst heq).pair
  · next heq => exact (h.engRead.fst heq).loadCyc.pair

theorem State.Inv.readSide {s : State} {n : Nat} {rs : List (Nat × Nat)} {a : Nat} {x : List Nat} (h : s.Inv) : (s.readSide n rs a x).1.Inv := by
  induction x generalizing s a with
  | nil =>
    rw [State.readSide]
    exact h.pair
  | cons x' l ih =>
    rw [State.readSide]
    split
    · next heq => exact (h.loadPart.fst heq).pair
    · next heq =>
        have ht := h.loadPart.fst heq
        split
        · next heq1 => exact ((ih ht).fst heq1).pair
        · next heq1 => exact ((ih ht).fst heq1).pair

theorem State.Inv.loadFault {s : State} {n code va : Nat} (h : s.Inv) : (s.loadFault n code va).Inv := by
  unfold State.loadFault
  exact h.coreFault.modCore

theorem State.Inv.runLoad {s : State} {n : Nat} {d : Cmd} {inj : Inject} (h : s.Inv) : (s.runLoad n d inj).Inv := by
  unfold State.runLoad
  dsimp only
  split
  · exact h.strike.mxInfo.loadFault
  · split
    · exact h.strike.mxInfo.loadFault
    · split
      · next heq2 => exact ((h.strike.loadCyc.pair.ite_fst h.strike.loadPart).fst heq2).loadFault
      · next heq2 =>
          have h2 := (h.strike.loadCyc.pair.ite_fst h.strike.loadPart).fst heq2
          split
          · next heq3 => exact (h2.readSide.fst heq3).loadFault
          · next heq3 =>
              have h3 := h2.readSide.fst heq3
              split
              · next heq4 => exact ((h3.loadCyc.pair.ite_fst h3.loadPart).fst heq4).loadFault
              · next heq4 =>
                  have h4 := (h3.loadCyc.pair.ite_fst h3.loadPart).fst heq4
                  split
                  exacts [h4.mxInfo.loadFault, h4.modCore]

theorem State.Inv.doMxLoad {s : State} {n : Nat} {inj : Inject} (h : s.Inv) : (s.doMxLoad n inj).Inv := by
  unfold State.doMxLoad
  extract_lets
  split
  exacts [h.dispatch.mxIssue.runLoad.ite h.dispatch.mxIssue, h.dispatch.mxIssue]

theorem State.Inv.readRows {s : State} {n : Nat} {d : Cmd} {p : Plane} {out : Option (List Byte)} {mb r k : Nat} (h : s.Inv) :
    (s.readRows n d p out mb r k).1.Inv := by
  unfold State.readRows
  extract_lets
  split
  · split
    exacts [h.pair, h.lpeInfo.pair]
  · split
    · next heq => exact (h.engRuns.fst heq).pair
    · next heq => exact (h.engRuns.fst heq).pair

theorem State.Inv.readScales {s : State} {n : Nat} {d : Cmd} {p : Plane} {r k : Nat} (h : s.Inv) : (s.readScales n d p r k).1.Inv := by
  unfold State.readScales
  split
  · exact h.pair
  · split
    · next heq1 => exact (h.engRuns.fst heq1).pair
    · next heq1 => exact (h.engRuns.fst heq1).pair

theorem State.Inv.enterRow {s : State} {n : Nat} {p : Plane} (h : s.Inv) : (s.enterRow n p).Inv := by
  unfold State.enterRow
  exact h.cBump.cBump.ite h.cBump

theorem State.Inv.enterRows {s : State} {n : Nat} {d : Cmd} {p : Plane} {par : Option Nat} {r : Nat} {x : List (List Nat × List Nat)} (h : s.Inv) :
    (s.enterRows n d p par r x).1.Inv := by
  induction x generalizing s r with
  | nil =>
    rw [State.enterRows]
    exact h.pair
  | cons x' l ih =>
    rw [State.enterRows]
    split
    · exact h.enterRow.pair
    · split
      · next heq1 => exact ((ih h.enterRow).fst heq1).pair

theorem State.Inv.matmulRows {s : State} {n : Nat} {d : Cmd} {p : Plane} {out : Option (List Byte)} {par : Option Nat} {fuel left mb r : Nat}
    (h : s.Inv) : (s.matmulRows n d p out par fuel left mb r).1.Inv := by
  induction fuel generalizing s left mb r with
  | zero =>
    rw [State.matmulRows]
    exact h.pair
  | succ m ih =>
    rw [State.matmulRows]
    split
    · exact h.pair
    · extract_lets
      split
      · next heq1 => exact (h.readRows.fst heq1).pair
      · next heq1 =>
          have h1 := h.readRows.fst heq1
          split
          · next heq2 => exact (h1.readScales.fst heq2).pair
          · next heq2 =>
              have h2 := h1.readScales.fst heq2
              split
              · next heq3 => exact (h2.enterRows.fst heq3).pair
              · next heq3 =>
                  have h3 := h2.enterRows.fst heq3
                  split
                  · next heq4 => exact ((ih h3).fst heq4).pair
                  · next heq4 => exact ((ih h3).fst heq4).pair

theorem State.Inv.mxParity {s : State} {n : Nat} (h : s.Inv) : (s.mxParity n).Inv := by
  unfold State.mxParity
  exact h.setReg.modCore.cBump

theorem State.Inv.runMatmul {s : State} {n : Nat} {inj : Inject} {fuel : Nat} {d : Cmd} (h : s.Inv) : (s.runMatmul n inj fuel d).Inv := by
  induction fuel generalizing s d with
  | zero => exact h
  | succ m ih =>
    unfold State.runMatmul
    extract_lets c p w rows rb out par
    refine h.ite ?_
    split
    · next heq =>
        have ht := h.matmulRows.fst heq
        exact (ht.mxParity.mxInfo.ite ht).coreFault
    · next heq =>
        have ht := h.matmulRows.fst heq
        exact ht.modCore.modCore.ite (ih ht.modCore)

theorem State.Inv.stepMatmul {s : State} {n : Nat} {inj : Inject} (h : s.Inv) : (s.stepMatmul n inj).Inv := by
  unfold State.stepMatmul
  split
  exacts [h.strike.runMatmul.ite h, h]

theorem State.Inv.doMxMatmul {s : State} {n : Nat} {inj : Inject} (h : s.Inv) : (s.doMxMatmul n inj).Inv := by
  unfold State.doMxMatmul
  extract_lets
  split
  · split
    exacts [h.dispatch.mxInfo.coreFault, h.dispatch.mxIssue.ite h.dispatch.mxIssue.stepMatmul]
  · exact h.dispatch.stepMatmul

theorem State.Inv.doTilePush {s : State} {n : Nat} (h : s.Inv) : (s.doTilePush n).Inv := by
  unfold State.doTilePush
  exact h.modCore.stepMatmul

theorem State.Inv.doMxBist {s : State} {n : Nat} (h : s.Inv) : (s.doMxBist n).Inv := by
  unfold State.doMxBist
  exact h.modCore.clrReg.ite h

theorem State.Inv.endMxBist {s : State} {n : Nat} {pass : Bool} (h : s.Inv) : (s.endMxBist n pass).Inv := by
  unfold State.endMxBist
  exact h.modCore.setReg

/-! ### The vector engine -/

theorem State.Inv.enterPass {s : State} {n : Nat} {regs : List Nat} (h : s.Inv) : (s.enterPass n regs).Inv := by
  unfold State.enterPass
  exact h.cBump.ite h.cBump.cBump

theorem State.Inv.vxParity {s : State} {n reg va : Nat} (h : s.Inv) : (s.vxParity n reg va).Inv := by
  unfold State.vxParity
  exact h.setReg.cBump.coreFault

theorem State.Inv.vxIssue {s : State} {n op : Nat} (h : s.Inv) : (s.vxIssue n op).Inv := by
  unfold State.vxIssue
  extract_lets
  split
  exacts [h.modCore.ite h, h]

theorem State.Inv.putWords {s : State} {n : Nat} {d : Cmd} {l : List (Nat × Word)} (h : s.Inv) : (s.putWords n d l).1.Inv := by
  unfold State.putWords
  exact h.engPut

theorem State.Inv.passTile {s : State} {n : Nat} {pop : Bool} (h : s.Inv) : (s.passTile n pop).1.Inv := by
  unfold State.passTile
  exact h.modCore.pair.ite_fst h.pair

theorem State.Inv.chainPass {s : State} {n : Nat} {d : Cmd} {inj : Inject} {p : Nat} (h : s.Inv) : (s.chainPass n d inj p).1.Inv := by
  unfold State.chainPass
  extract_lets
  split
  · exact h.enterPass.vxParity.pair
  · split
    · next heq1 =>
        have h1 := h.passTile.fst heq1
        dsimp only
        split
        · next heq2 => exact ((h1.engRead.ite_fst h1.pair).fst heq2).coreFault.pair
        · next heq2 =>
            have h2 := (h1.engRead.ite_fst h1.pair).fst heq2
            split
            · split
              · next heq4 => exact ((h2.enterPass.modCore.ite h2.enterPass).putWords.fst heq4).coreFault.pair
              · next heq4 => exact ((h2.enterPass.modCore.ite h2.enterPass).putWords.fst heq4).pair
            · exact (h2.enterPass.modCore.ite h2.enterPass).modCore.pair

theorem State.Inv.compatStorePass {s : State} {n : Nat} {d : Cmd} {p : Nat} (h : s.Inv) : (s.compatStorePass n d p).1.Inv := by
  unfold State.compatStorePass
  split
  · next heq =>
      have ht := h.passTile.fst heq
      dsimp only
      split
      · next heq1 => exact ((ht.engRead.ite_fst ht.pair).fst heq1).coreFault.pair
      · next heq1 =>
          have h1 := (ht.engRead.ite_fst ht.pair).fst heq1
          split
          · next heq2 => exact (h1.engWrite.fst heq2).coreFault.pair
          · next heq2 => exact (h1.engWrite.fst heq2).enterPass.pair

theorem State.Inv.compatVopPass {s : State} {n : Nat} {d : Cmd} {p : Nat} (h : s.Inv) : (s.compatVopPass n d p).1.Inv := by
  unfold State.compatVopPass
  dsimp only
  split
  · next heq => exact (h.engRead.fst heq).coreFault.pair
  · next heq =>
      have ht := h.engRead.fst heq
      split
      · next heq1 => exact (ht.engRead.fst heq1).coreFault.pair
      · next heq1 =>
          have h1 := ht.engRead.fst heq1
          split
          · next heq2 => exact ((h1.engRead.ite_fst h1.pair).fst heq2).coreFault.pair
          · next heq2 =>
              have h2 := (h1.engRead.ite_fst h1.pair).fst heq2
              split
              · next heq3 => exact (h2.engWrite.fst heq3).coreFault.pair
              · next heq3 => exact (h2.engWrite.fst heq3).enterPass.pair

theorem State.Inv.chainRun {s : State} {n : Nat} {d : Cmd} {inj : Inject} {left p : Nat} (h : s.Inv) : (s.chainRun n d inj left p).1.Inv := by
  induction left generalizing s p with
  | zero =>
    rw [State.chainRun]
    exact h.pair
  | succ m ih =>
    rw [State.chainRun]
    split
    · exact h.pair
    · split
      · next heq1 => exact ((h.chainPass.ite_fst (h.compatStorePass.ite_fst h.compatVopPass)).fst heq1).pair
      · next heq1 => exact ih ((h.chainPass.ite_fst (h.compatStorePass.ite_fst h.compatVopPass)).fst heq1)

theorem State.Inv.runChain {s : State} {n : Nat} {d : Cmd} {inj : Inject} (h : s.Inv) : (s.runChain n d inj).Inv := by
  unfold State.runChain
  extract_lets
  split
  · next heq => exact h.strike.chainRun.fst heq
  · next heq =>
      have ht := h.strike.chainRun.fst heq
      exact ht.modCore.ite ht.modCore

theorem State.Inv.doVxChain {s : State} {n : Nat} {inj : Inject} (h : s.Inv) : (s.doVxChain n inj).Inv := by
  unfold State.doVxChain
  dsimp only
  split
  · refine State.Inv.runChain ?_
    split
    exacts [h.dispatch.vxIssue.ite h.dispatch, h.dispatch]
  · split
    exacts [h.dispatch.vxIssue.ite h.dispatch, h.dispatch]

theorem State.Inv.runReduce {s : State} {n : Nat} {d : Cmd} {inj : Inject} (h : s.Inv) : (s.runReduce n d inj).Inv := by
  unfold State.runReduce
  extract_lets
  split
  exacts [(h.foldl fun _ _ h => h.enterPass).vxParity, (h.foldl fun _ _ h => h.enterPass).modCore]

theorem State.Inv.doVxReduce {s : State} {n : Nat} {inj : Inject} (h : s.Inv) : (s.doVxReduce n inj).Inv := by
  unfold State.doVxReduce
  extract_lets
  split
  exacts [h.dispatch.vxIssue.runReduce, h.dispatch.vxIssue]

theorem State.Inv.runScan {s : State} {n : Nat} {d : Cmd} {inj : Inject} (h : s.Inv) : (s.runScan n d inj).Inv := by
  unfold State.runScan
  extract_lets
  split
  exacts [(h.foldl fun _ _ h => h.enterPass).vxParity, (h.foldl fun _ _ h => h.enterPass).modCore]

theorem State.Inv.doVxScan {s : State} {n : Nat} {inj : Inject} (h : s.Inv) : (s.doVxScan n inj).Inv := by
  unfold State.doVxScan
  extract_lets
  split
  exacts [h.dispatch.vxIssue.runScan, h.dispatch.vxIssue]

theorem State.Inv.loadTile {s : State} {n : Nat} {d : Cmd} {q : Nat} (h : s.Inv) : (s.loadTile n d q).1.Inv := by
  unfold State.loadTile
  extract_lets
  split
  · next heq => exact (h.engRuns.fst heq).pair
  · next heq => exact (h.engRuns.fst heq).enterPass.modCore.pair

theorem State.Inv.vxPasses {s : State} {pass : State → Nat → State × Option Nat} {left p : Nat} (h : s.Inv)
    (hp : ∀ s p, s.Inv → (pass s p).1.Inv) : (s.vxPasses pass left p).1.Inv := by
  induction left generalizing s p with
  | zero => exact h
  | succ m ih =>
    simp only [State.vxPasses]
    split
    · next heq => exact (hp _ _ h).fst heq
    · next heq => exact ih ((hp _ _ h).fst heq)

theorem State.Inv.runVload {s : State} {n : Nat} {d : Cmd} {inj : Inject} (h : s.Inv) : (s.runVload n d inj).Inv := by
  unfold State.runVload
  split
  · next heq => exact ((h.strike.vxPasses (fun _ _ h => h.loadTile)).fst heq).coreFault
  · next heq => exact ((h.strike.vxPasses (fun _ _ h => h.loadTile)).fst heq).modCore

theorem State.Inv.doVxLoad {s : State} {n : Nat} {inj : Inject} (h : s.Inv) : (s.doVxLoad n inj).Inv := by
  unfold State.doVxLoad
  extract_lets
  split
  exacts [h.dispatch.vxIssue.runVload, h.dispatch.vxIssue]

theorem State.Inv.storePass {s : State} {n : Nat} {d : Cmd} {inj : Inject} {out : List StoredRow} {p : Nat} (h : s.Inv) :
    (s.storePass n d inj out p).1.Inv := by
  unfold State.storePass
  extract_lets
  split
  · exact h.enterPass.vxParity.pair
  · split
    · next heq1 => exact (h.enterPass.cBump.cBump.engPut.fst heq1).coreFault.pair
    · next heq1 =>
        have h1 := h.enterPass.cBump.cBump.engPut.fst heq1
        split
        · next heq2 => exact (h1.engPut.fst heq2).coreFault.pair
        · next heq2 => exact (h1.engPut.fst heq2).pair

theorem State.Inv.runVstore {s : State} {n : Nat} {d : Cmd} {inj : Inject} (h : s.Inv) : (s.runVstore n d inj).Inv := by
  unfold State.runVstore
  dsimp only
  split
  · next heq => exact ((h.strike.engRead.ite_fst h.strike.pair).fst heq).coreFault
  · next heq =>
      have ht := (h.strike.engRead.ite_fst h.strike.pair).fst heq
      split
      · next heq1 => exact (ht.vxPasses (fun _ _ h => h.storePass)).fst heq1
      · next heq1 => exact ((ht.vxPasses (fun _ _ h => h.storePass)).fst heq1).modCore

theorem State.Inv.doVxStore {s : State} {n : Nat} {inj : Inject} (h : s.Inv) : (s.doVxStore n inj).Inv := by
  unfold State.doVxStore
  extract_lets
  split
  exacts [h.dispatch.vxIssue.runVstore, h.dispatch.vxIssue]

theorem State.Inv.doVxBist {s : State} {n : Nat} (h : s.Inv) : (s.doVxBist n).Inv := by
  unfold State.doVxBist
  exact h.modCore.clrReg.ite h

theorem State.Inv.endVxBist {s : State} {n : Nat} {pass : Bool} (h : s.Inv) : (s.endVxBist n pass).Inv := by
  unfold State.endVxBist
  exact h.modCore.setReg

/-! ### The stream engine -/

theorem State.Inv.place {s : State} {n seq : Nat} {xs : List Xfer} (h : s.Inv) : (s.place n seq xs).Inv := by
  unfold State.place
  exact h.modCore

theorem State.Inv.sxIssue {s : State} {n op : Nat} {may : Core → Cmd → Bool} {start : State → Cmd → State} (h : s.Inv)
    (hf : ∀ s d, s.Inv → (start s d).Inv) : (s.sxIssue n op may start).Inv := by
  unfold State.sxIssue
  dsimp only
  split
  · split
    exacts [hf _ _ h.modCore, h]
  · exact h

theorem State.Inv.sxInfo {s : State} {n slice slot elem : Nat} (h : s.Inv) : (s.sxInfo n slice slot elem).Inv := by
  unfold State.sxInfo
  exact h.setReg

theorem State.Inv.elemAddr {s : State} {n : Nat} {d : Cmd} {i : Nat} (h : s.Inv) : (s.elemAddr n d i).1.Inv := by
  unfold State.elemAddr
  extract_lets
  split
  · exact h.pair
  · split
    · exact h.pair
    · split
      exacts [h.pair, h.pair.ite_fst h.pair]
  · split
    · exact h.pair
    · split
      · next heq3 => exact (h.engRead.fst heq3).pair
      · next heq3 => exact (h.engRead.fst heq3).pair

theorem State.Inv.mapEntry {s : State} {n seq va : Nat} (h : s.Inv) : (s.mapEntry n seq va).1.Inv := by
  unfold State.mapEntry
  extract_lets
  split
  · exact h.pair
  · split
    · exact h.pair
    · split
      · next heq2 => exact (h.fetchRead.fst heq2).pair
      · next heq2 => exact (h.fetchRead.fst heq2).modCore.cBump.pair

theorem State.Inv.facetMapFault {s : State} {n block va : Nat} (h : s.Inv) : (s.facetMapFault n block va).Inv := by
  unfold State.facetMapFault
  exact h.lpeInfo.coreFault

theorem State.Inv.armBlockIn {s : State} {n : Nat} {d : Cmd} {slot : Nat} {e : Word} {a : ArmSt} (h : s.Inv) : (s.armBlockIn n d slot e a).1.Inv := by
  unfold State.armBlockIn
  extract_lets
  split
  · exact h.pair
  · split
    · split
      · next heq2 => exact (h.engWrite.fst heq2).pair
      · next heq2 => exact (h.engWrite.fst heq2).pair
    · exact h.place.pair

theorem State.Inv.armBlockOut {s : State} {n : Nat} {d : Cmd} {slot : Nat} {a : ArmSt} (h : s.Inv) : (s.armBlockOut n d slot a).1.Inv := by
  unfold State.armBlockOut
  extract_lets
  split
  · next heq => exact (h.engRead.fst heq).pair
  · next heq =>
      have ht := h.engRead.fst heq
      exact ht.pair.ite_fst ht.place.pair

theorem State.Inv.armBlocks {s : State} {n : Nat} {d : Cmd} {va left j : Nat} {x : ArmSt} (h : s.Inv) : (s.armBlocks n d va left j x).1.Inv := by
  induction left generalizing s j x with
  | zero =>
    rw [State.armBlocks]
    exact h.pair
  | succ m ih =>
    rw [State.armBlocks]
    split
    · next heq => exact ((h.armBlockIn.ite_fst h.armBlockOut).fst heq).pair
    · next heq => exact ih ((h.armBlockIn.ite_fst h.armBlockOut).fst heq)

theorem State.Inv.armEntry {s : State} {n : Nat} {d : Cmd} {i line : Nat} (h : s.Inv) : (s.armEntry n d i line).1.Inv := by
  unfold State.armEntry
  exact h.engWrite

theorem State.Inv.armPlace {s : State} {n : Nat} {d : Cmd} {va k : Nat} {e : Option ArmStop} {a : ArmSt} (h : s.Inv) :
    (s.armPlace n d va k e a).1.Inv := by
  unfold State.armPlace
  split
  · next heq => exact (h.armBlocks.fst heq).pair
  · next heq => exact (h.armBlocks.fst heq).pair

theorem State.Inv.armElem {s : State} {n : Nat} {d : Cmd} {a : ArmSt} (h : s.Inv) : (s.armElem n d a).1.Inv := by
  unfold State.armElem
  extract_lets
  split
  · split
    · next heq1 => exact (h.elemAddr.fst heq1).pair
    · next heq1 => exact (h.elemAddr.fst heq1).pair
    · next heq1 =>
        have h1 := h.elemAddr.fst heq1
        split
        · split
          · next heq3 => exact (h1.armEntry.fst heq3).pair
          · next heq3 => exact (h1.armEntry.fst heq3).pair
        · exact h1.pair.ite_fst (h1.pair.ite_fst h1.place.pair)
  · split
    · split
      · next heq2 => exact (h.mapEntry.fst heq2).pair
      · next heq2 =>
          have h2 := h.mapEntry.fst heq2
          exact h2.pair.ite_fst h2.armPlace
      · next heq2 => exact (h.mapEntry.fst heq2).armPlace
    · exact h.armPlace

theorem State.Inv.doSxWait {s : State} {n : Nat} (h : s.Inv) : (s.doSxWait n).Inv := by
  unfold State.doSxWait
  exact h.dispatch.sxIssue (fun _ _ h => h.modCore)

theorem State.Inv.doSxShareWrite {s : State} {n : Nat} {v : Word} (h : s.Inv) : (s.doSxShareWrite n v).Inv := by
  unfold State.doSxShareWrite
  exact h.orReg.ite h.plainWrite

theorem State.Inv.refillBuckets {s : State} {n cycles : Nat} (h : s.Inv) : (s.refillBuckets n cycles).Inv := by
  unfold State.refillBuckets
  exact h.modCore

theorem State.Inv.startWalk {s : State} {n ctx va : Nat} (h : s.Inv) : (s.startWalk n ctx va).Inv := by
  unfold State.startWalk
  exact h.ite h.modCore.cBump

theorem State.Inv.xferData {s : State} {n port : Nat} {x : Xfer} (h : s.Inv) : (s.xferData n port x).1.Inv := by
  unfold State.xferData
  split
  exacts [h.engRead, h.engRead, h.engRead, h.pair]

theorem State.Inv.enterLocal {s : State} {n : Nat} {x : Xfer} (h : s.Inv) : (s.enterLocal n x).Inv := by
  unfold State.enterLocal
  extract_lets
  split
  · exact h.startWalk
  · split
    · exact h.modCore.xlatFault
    · split
      · exact h.modCore.xlatFault
      · split
        · next heq3 => exact (h.xferData.fst heq3).modCore.coreFault
        · next heq3 => exact (h.xferData.fst heq3).modCore

theorem State.Inv.doWalkComplete {s : State} {n : Nat} (h : s.Inv) : (s.doWalkComplete n).Inv := by
  unfold State.doWalkComplete
  extract_lets
  split
  · exact h
  · split
    · exact h
    · extract_lets
      split
      · exact h.modCore.endWalk
      · split
        exacts [h.modCore.endWalk.xlatFault, h.modCore.endWalk]

theorem State.Inv.strikeMem {s : State} {x : Inject} (h : s.Inv) : (s.strikeMem x).Inv := by
  unfold State.strikeMem
  split
  exacts [h.withMem, h.withMem, h]

theorem State.Inv.land {s : State} {n port seq a : Nat} {bs : List Byte} (h : s.Inv) : (s.land n port seq a bs).Inv := by
  unfold State.land
  split
  · next heq => exact h.engWrite.fst heq
  · next heq => exact (h.engWrite.fst heq).coreFault

theorem State.Inv.landBlock {s : State} {n : Nat} {x : Xfer} {word : Nat} {entry : Word} (h : s.Inv) : (s.landBlock n x word entry).Inv := by
  unfold State.landBlock
  exact h.ite h.land

theorem State.Inv.xferPoke {s : State} {n : Nat} {x : Xfer} {pa : Nat} {bs : List Byte} (h : s.Inv) : (s.xferPoke n x pa bs).Inv := by
  unfold State.xferPoke
  exact h.poke.ite h.poke.xlatFault

theorem State.Inv.xferPeek {s : State} {n : Nat} {x : Xfer} (h : s.Inv) : (s.xferPeek n x).1.Inv := by
  unfold State.xferPeek
  extract_lets
  split
  exacts [h.noteRead.pair, h.noteRead.xlatFault.pair]

/-! ### The Necklace -/

theorem State.Inv.sendFlit {s : State} {n : Nat} {f : Flit} (h : s.Inv) : (s.sendFlit n f).Inv := by
  unfold State.sendFlit
  split
  exacts [h.modCore, h]

theorem State.Inv.flushHop {s : State} {n k : Nat} (h : s.Inv) : (s.flushHop n k).Inv := by
  induction k generalizing s with
  | zero =>
    rw [State.flushHop]
    exact h
  | succ m ih =>
    rw [State.flushHop]
    split
    exacts [h, (ih h.modCore.sendFlit.cBump).ite h]

theorem State.Inv.engageBypass {s : State} {n : Nat} (h : s.Inv) : (s.engageBypass n).Inv := by
  unfold State.engageBypass
  exact h.flushHop.modCore.ite h.flushHop

theorem State.Inv.takeIndex {s : State} {n port : Nat} {t : Take} {j : Nat} (h : s.Inv) : (s.takeIndex n port t j).Inv := by
  unfold State.takeIndex
  split
  exacts [h.land.ite h, h]

theorem State.Inv.segLanded {s : State} {n port : Nat} {t : Take} {j : Nat} (h : s.Inv) : (s.segLanded n port t j).Inv := by
  unfold State.segLanded
  exact h.takeIndex.modCore

theorem State.Inv.fetchSegs {s : State} {n : Nat} {t : Take} {segs : List Nat} (h : s.Inv) : (s.fetchSegs n t segs).Inv := by
  unfold State.fetchSegs
  exact h.modCore.cBump.foldl fun _ _ h => h.segLanded

theorem State.Inv.landFlit {s : State} {n : Nat} {q : Nat × Flit} (h : s.Inv) : (s.landFlit n q).Inv := by
  unfold State.landFlit
  split
  exacts [h, h.land.segLanded.ite h.land]

theorem State.Inv.drainTakeQ {s : State} {n : Nat} (h : s.Inv) : (s.drainTakeQ n).Inv := by
  unfold State.drainTakeQ
  exact h.modCore.foldl fun _ _ h => h.landFlit

theorem State.Inv.fallBack {s : State} {n seq : Nat} (h : s.Inv) : (s.fallBack n seq).Inv := by
  unfold State.fallBack
  extract_lets
  split
  exacts [h.drainTakeQ, h.drainTakeQ.modCore.cBump.fetchSegs]

theorem State.Inv.toRefetch {s : State} {n seq lo hi : Nat} {cnt : Option Nat} (h : s.Inv) : (s.toRefetch n seq lo hi cnt).Inv := by
  unfold State.toRefetch
  split
  · exact h
  · dsimp only
    split
    · exact h
    · split
      · refine State.Inv.fallBack ?_
        split
        exacts [h.cBump, h]
      · refine (State.Inv.modCore ?_).fetchSegs
        split
        exacts [h.cBump, h]

theorem State.Inv.raiseNext {s : State} {n seq k : Nat} (h : s.Inv) : (s.raiseNext n seq k).Inv := by
  unfold State.raiseNext
  exact h.modCore

theorem State.Inv.dropPart {s : State} {n : Nat} {t : Take} {j : Nat} (h : s.Inv) : (s.dropPart n t j).Inv := by
  unfold State.dropPart
  split
  exacts [h.ite h.toRefetch, h]

theorem State.Inv.queueFlit {s : State} {n : Nat} {t : Take} {f : Flit} (h : s.Inv) : (s.queueFlit n t f).Inv := by
  unfold State.queueFlit
  exact h.modCore.cBump

theorem State.Inv.takeFlit {s : State} {n seq : Nat} {f : Flit} {good : Bool} (h : s.Inv) : (s.takeFlit n seq f good).Inv := by
  unfold State.takeFlit
  extract_lets
  split
  · exact h.modCore.ite h
  · split
    · exact h.modCore.ite h
    · split
      · exact (h.modCore.ite h).sxInfo.coreFault
      · extract_lets
        split
        exacts [(h.modCore.ite h).dropPart.toRefetch.raiseNext,
            (h.modCore.ite h).dropPart.toRefetch.raiseNext.ite ((h.modCore.ite h).dropPart.toRefetch.raiseNext.toRefetch.ite
                ((h.modCore.ite h).dropPart.toRefetch.raiseNext.queueFlit.ite (h.modCore.ite h).dropPart.toRefetch.raiseNext.toRefetch))]

theorem State.Inv.passFlit {s : State} {n : Nat} {f : Flit} {good stall : Bool} (h : s.Inv) : (s.passFlit n f good stall).Inv := by
  unfold State.passFlit
  exact (((h.ite h.drainTakeQ).modCore.ite (h.ite h.drainTakeQ).cBump.orReg.modCore).foldl fun _ _ h => h.takeFlit).ite
      (((h.ite h.drainTakeQ).modCore.ite (h.ite h.drainTakeQ).cBump.orReg.modCore).foldl fun _ _ h => h.takeFlit).drainTakeQ

theorem State.Inv.doFlitArrive {s : State} {n : Nat} {crcOk stall : Bool} (h : s.Inv) : (s.doFlitArrive n crcOk stall).Inv := by
  unfold State.doFlitArrive
  split
  · exact h
  · split
    · exact h
    · extract_lets
      split
      exacts [h.modCore.passFlit.sendFlit.cBump, h.modCore.passFlit]

theorem State.Inv.inject {s : State} {n : Nat} (h : s.Inv) : (s.inject n).Inv := by
  unfold State.inject
  split
  · exact h
  · split
    exacts [h, h.modCore.passFlit.sendFlit.cBump]

theorem State.Inv.takeLate {s : State} {n : Nat} {t : Take} (h : s.Inv) : (s.takeLate n t).Inv := by
  unfold State.takeLate
  split
  exacts [h, h.toRefetch.raiseNext.toRefetch.raiseNext.ite h.toRefetch.raiseNext]

theorem State.Inv.takeTimeout {s : State} {n : Nat} {t : Take} (h : s.Inv) : (s.takeTimeout n t).Inv := by
  unfold State.takeTimeout
  exact h.toRefetch.raiseNext

theorem State.Inv.doTakeFirstTimeout {s : State} {n k : Nat} (h : s.Inv) : (s.doTakeFirstTimeout n k).Inv := by
  unfold State.doTakeFirstTimeout
  split
  exacts [h.takeTimeout.ite h, h]

theorem State.Inv.doTakeGapTimeout {s : State} {n k : Nat} (h : s.Inv) : (s.doTakeGapTimeout n k).Inv := by
  unfold State.doTakeGapTimeout
  split
  · split
    exacts [h.takeTimeout.ite h, h]
  · exact h

theorem State.Inv.encBlocks {s : State} {n : Nat} {d : Cmd} {k i : Nat} (h : s.Inv) : (s.encBlocks n d k i).1.Inv := by
  induction k generalizing s i with
  | zero =>
    rw [State.encBlocks]
    exact h.pair
  | succ m ih =>
    rw [State.encBlocks]
    split
    · next heq => exact (h.engRead.fst heq).pair
    · next heq =>
        have ht := h.engRead.fst heq
        split
        · next heq1 => exact ((ih ht).fst heq1).pair
        · next heq1 => exact ((ih ht).fst heq1).pair

theorem State.Inv.encodeBlocks {s : State} {n : Nat} {d : Cmd} {t : FTable} {th left i off : Nat} (h : s.Inv) :
    (s.encodeBlocks n d t th left i off).1.Inv := by
  induction left generalizing s i off with
  | zero =>
    rw [State.encodeBlocks]
    exact h.pair
  | succ m ih =>
    rw [State.encodeBlocks]
    split
    · next heq => exact (h.engRead.fst heq).pair
    · next heq =>
        have ht := h.engRead.fst heq
        extract_lets
        split
        · next heq1 => exact (ht.engWrite.fst heq1).pair
        · next heq1 =>
            have h1 := ht.engWrite.fst heq1
            split
            · next heq2 => exact (h1.engWrite.fst heq2).pair
            · next heq2 =>
                have h2 := h1.engWrite.fst heq2
                exact ih (h2.cBump.cBump.ite h2.cBump)

theorem State.Inv.runHist {s : State} {n : Nat} {d : Cmd} (h : s.Inv) : (s.runHist n d).Inv := by
  unfold State.runHist
  extract_lets
  split
  · next heq => exact (h.encBlocks.fst heq).coreFault
  · next heq =>
      have ht := h.encBlocks.fst heq
      split
      · next heq1 => exact (ht.engWrite.fst heq1).coreFault
      · next heq1 => exact (ht.engWrite.fst heq1).modCore

theorem State.Inv.runEncode {s : State} {n : Nat} {d : Cmd} (h : s.Inv) : (s.runEncode n d).Inv := by
  unfold State.runEncode
  extract_lets
  split
  · next heq => exact (h.engRead.fst heq).coreFault
  · next heq =>
      have ht := h.engRead.fst heq
      extract_lets
      split
      · exact ht.lpeInfo.coreFault
      · split
        · next heq2 => exact (ht.encodeBlocks.fst heq2).coreFault
        · next heq2 => exact (ht.encodeBlocks.fst heq2).modCore

theorem State.Inv.startEnc {s : State} {n : Nat} {d : Cmd} (h : s.Inv) : (s.startEnc n d).Inv := by
  unfold State.startEnc
  exact h.modCore.ite (h.runHist.ite h.runEncode)

theorem State.Inv.doSxFacetEnc {s : State} {n : Nat} (h : s.Inv) : (s.doSxFacetEnc n).Inv := by
  unfold State.doSxFacetEnc
  extract_lets
  split
  exacts [(h.dispatch.sxIssue (fun _ _ h => h.startEnc)).modCore.ite (h.dispatch.sxIssue (fun _ _ h => h.startEnc)),
      h.dispatch.sxIssue (fun _ _ h => h.startEnc)]

/-! ### Arming of the stream engine -/

theorem State.Inv.addFlits {s : State} {n : Nat} {d : Cmd} {flits : List (Nat × Nat × Nat)} (h : s.Inv) : (s.addFlits n d flits).Inv := by
  unfold State.addFlits
  exact h.modCore.place

theorem State.Inv.segElem {s : State} {n : Nat} {d : Cmd} {a : ArmSt} (h : s.Inv) : (s.segElem n d a).1.Inv := by
  unfold State.segElem
  extract_lets
  split
  · next heq => exact (h.mapEntry.fst heq).pair
  · next heq => exact (h.mapEntry.fst heq).pair
  · next heq =>
      have ht := h.mapEntry.fst heq
      exact ht.pair.ite_fst (ht.addFlits.pair.ite_fst ht.pair)

theorem State.Inv.putTake {s : State} {n : Nat} {d : Cmd} {es : List Word} (h : s.Inv) : (s.putTake n d es).Inv := by
  unfold State.putTake
  exact h.modCore.takeLate

theorem State.Inv.armOver {s : State} {n : Nat} {d : Cmd} {a : ArmSt} (h : s.Inv) : (s.armOver n d a).Inv := by
  unfold State.armOver
  exact h.modCore.putTake.ite (h.modCore.modCore.ite h.modCore.place.modCore)

theorem State.Inv.armStop {s : State} {n : Nat} {d : Cmd} {stop : ArmStop} {a : ArmSt} (h : s.Inv) : (s.armStop n d stop a).Inv := by
  unfold State.armStop
  refine State.Inv.modCore ?_
  split
  exacts [h.facetMapFault.ite (h.sxInfo.coreFault.ite h.coreFault), h.xlatFault]

theorem State.Inv.armRun {s : State} {n : Nat} {d : Cmd} {fuel : Nat} {x : ArmSt} (h : s.Inv) : (s.armRun n d fuel x).Inv := by
  induction fuel generalizing s x with
  | zero =>
    rw [State.armRun]
    exact h
  | succ m ih =>
    rw [State.armRun]
    split
    · exact h.armOver
    · split
      · next heq1 => exact ((h.armElem.ite_fst h.segElem).fst heq1).modCore
      · next heq1 => exact ((h.armElem.ite_fst h.segElem).fst heq1).armStop
      · next heq1 => exact ih ((h.armElem.ite_fst h.segElem).fst heq1)

theorem State.Inv.armsGo {s : State} {n : Nat} (h : s.Inv) : (s.armsGo n).Inv := by
  unfold State.armsGo
  refine h.foldl fun s a h => ?_
  split
  exacts [h.ite h.armRun, h]

theorem State.Inv.armBegin {s : State} {n : Nat} {a : ArmSt} (h : s.Inv) : (s.armBegin n a).Inv := by
  unfold State.armBegin
  exact h.modCore.armsGo

theorem State.Inv.startArm {s : State} {n : Nat} {d : Cmd} (h : s.Inv) : (s.startArm n d).Inv := by
  unfold State.startArm
  exact h.sxInfo.coreFault.ite (h.modCore.cBump.ite h.modCore).armBegin

theorem State.Inv.doSxArm {s : State} {n : Nat} (h : s.Inv) : (s.doSxArm n).Inv := by
  unfold State.doSxArm
  exact h.dispatch.sxIssue (fun _ _ h => h.startArm)

theorem State.Inv.doGenerationStart {s : State} {n slice slot : Nat} (h : s.Inv) : (s.doGenerationStart n slice slot).Inv := by
  unfold State.doGenerationStart
  extract_lets
  split
  exacts [h.modCore.armsGo.modCore, h]

theorem State.Inv.startSource {s : State} {n : Nat} {d : Cmd} (h : s.Inv) : (s.startSource n d).Inv := by
  unfold State.startSource
  exact h.modCore.armBegin.ite h.modCore.addFlits.modCore

theorem State.Inv.doSxNklSource {s : State} {n : Nat} (h : s.Inv) : (s.doSxNklSource n).Inv := by
  unfold State.doSxNklSource
  exact (h.dispatch.sxIssue (fun _ _ h => h.startSource)).inject

theorem State.Inv.startTake {s : State} {n : Nat} {d : Cmd} (h : s.Inv) : (s.startTake n d).Inv := by
  unfold State.startTake
  exact h.armBegin.ite h.putTake

theorem State.Inv.doSxNklTake {s : State} {n : Nat} (h : s.Inv) : (s.doSxNklTake n).Inv := by
  unfold State.doSxNklTake
  exact h.dispatch.sxIssue (fun _ _ h => h.startTake)

theorem State.Inv.readWorkList {s : State} {n : Nat} {d : WlDesc} (h : s.Inv) : (s.readWorkList n d).Inv := by
  unfold State.readWorkList
  exact h.modCore

theorem State.Inv.landWorkList {s : State} {n : Nat} {x : Xfer} {bs : List Byte} (h : s.Inv) : (s.landWorkList n x bs).Inv := by
  unfold State.landWorkList
  extract_lets
  split
  exacts [h, h.ite h.modCore.armsGo]

theorem State.Inv.refetched {s : State} {n : Nat} {x : Xfer} {j : Nat} (h : s.Inv) : (s.refetched n x j).Inv := by
  unfold State.refetched
  extract_lets
  split
  exacts [h.ite h.segLanded, h]

theorem State.Inv.finishRead {s : State} {n : Nat} {x : Xfer} {bs : List Byte} (h : s.Inv) : (s.finishRead n x bs).Inv := by
  unfold State.finishRead
  extract_lets
  split
  exacts [h.cBump.land, h.cBump.land.landBlock, h.cBump.modCore, h.cBump.land.refetched, h.cBump.land, h.cBump.landWorkList, h.cBump]

theorem State.Inv.finishWrite {s : State} {n : Nat} {x : Xfer} (h : s.Inv) : (s.finishWrite n x).Inv := by
  unfold State.finishWrite
  extract_lets
  split
  exacts [h.cBump.foldl fun _ _ h => h.xferPoke, h.cBump.xferPoke.modCore]

theorem State.Inv.doTransferComplete {s : State} {n idx : Nat} {inj : Inject} (h : s.Inv) : (s.doTransferComplete n idx inj).Inv := by
  unfold State.doTransferComplete
  split
  · exact h
  · split
    · exact h
    · refine (State.Inv.modCore ?_).armsGo
      split
      · exact h.modCore.finishWrite
      · split
        · next heq3 => exact (h.modCore.strikeMem.xferPeek.fst heq3).finishRead
        · next heq3 => exact h.modCore.strikeMem.xferPeek.fst heq3

/-! ### Page tables and frames -/

theorem State.Inv.modKv {s : State} {f : Kv → Kv} (h : s.Inv) : (s.modKv f).Inv := by
  unfold State.modKv
  exact h.withLog

theorem State.Inv.setCount {s : State} {p f k : Nat} (h : s.Inv) : (s.setCount p f k).Inv := by
  unfold State.setCount
  exact h.hubPoke

theorem State.Inv.setFree {s : State} {p f : Nat} {v : Bool} (h : s.Inv) : (s.setFree p f v).Inv := by
  unfold State.setFree
  exact h.hubPoke

theorem State.Inv.lowerCount {s : State} {p f k : Nat} (h : s.Inv) : (s.lowerCount p f k).Inv := by
  unfold State.lowerCount
  exact h.setCount.fillAfter.ite h.setCount

theorem State.Inv.unscrub {s : State} {p f : Nat} (h : s.Inv) : (s.unscrub p f).Inv := by
  unfold State.unscrub
  exact h.withHub

theorem State.Inv.lowerFrame {s : State} {ctx pa k : Nat} (h : s.Inv) : (s.lowerFrame ctx pa k).Inv := by
  unfold State.lowerFrame
  split
  exacts [h.lowerCount, h]

theorem State.Inv.kvMapTo {s t : State} {ctx va pa : Nat} (h : s.Inv) (e : s.kvMapTo ctx va pa = some t) : t.Inv := by
  unfold State.kvMapTo at e
  split at e
  · cases e
  · obtain ⟨_, hm, rfl⟩ := Option.map_eq_some_iff.mp e
    exact (h.mapPage hm).invalidate

theorem State.Inv.kvUnmap {s : State} {ctx va : Nat} (h : s.Inv) : (s.kvUnmap ctx va).Inv := by
  unfold State.kvUnmap
  exact h.unmapPage.invalidate

theorem State.Inv.kvAdmit {s : State} (h : s.Inv) : s.kvAdmit.Inv := by
  unfold State.kvAdmit
  exact h.modKv.ite h

theorem State.Inv.kvSend {s : State} {rs : List KvReq} (h : s.Inv) : (s.kvSend rs).Inv := by
  unfold State.kvSend
  exact h.modKv.kvAdmit

theorem State.Inv.kvPop {s : State} (h : s.Inv) : s.kvPop.Inv := by
  unfold State.kvPop
  exact h.modKv.kvAdmit

theorem State.Inv.kvResult {s : State} {err : Nat} (h : s.Inv) : (s.kvResult err).Inv := by
  unfold State.kvResult
  exact h.setReg.modKv

theorem State.Inv.kvRefuse {s : State} {r : KvReq} {err : Nat} (h : s.Inv) : (s.kvRefuse r err).Inv := by
  unfold State.kvRefuse
  extract_lets
  split
  exacts [(h.bump.orReg.ite h.bump).kvResult, (h.bump.orReg.ite h.bump).modCore.coreFault]

theorem State.Inv.kvAnswer {s : State} {r : KvReq} {f : Attn → Attn} (h : s.Inv) : (s.kvAnswer r f).Inv := by
  unfold State.kvAnswer
  split
  exacts [h.kvResult, h.modCore]

theorem State.Inv.kvLater {s : State} {r : KvReq} {frame : Option Nat} (h : s.Inv) : (s.kvLater r frame).Inv :=
  State.Inv.getD (fun _ => h.lastInval) h.kvAnswer

theorem State.Inv.doPin {s : State} (h : s.Inv) : s.doPin.Inv := by
  unfold State.doPin
  split
  · exact h
  · extract_lets
    split
    · exact h.kvPop.kvRefuse
    · split
      exacts [h.kvPop.kvRefuse, h.kvPop.kvRefuse.ite h.kvPop.setCount.bump.modKv.kvAnswer]

theorem State.Inv.doUnpin {s : State} (h : s.Inv) : s.doUnpin.Inv := by
  unfold State.doUnpin
  split
  exacts [h, h.kvPop.modKv.lowerFrame.ite h.kvPop]

theorem State.Inv.doMapFresh {s : State} (h : s.Inv) : s.doMapFresh.Inv := by
  unfold State.doMapFresh
  split
  · exact h
  · dsimp only
    split
    · exact h.kvPop.kvRefuse
    · split
      · exact h.kvPop.kvRefuse
      · split
        · exact h.kvPop.kvRefuse
        · split
          · exact h.kvPop.kvRefuse
          · next heq4 =>
              refine ((State.Inv.setFree ?_).setCount.kvMapTo heq4).bump.kvLater
              split
              exacts [h.kvPop.kvUnmap.lowerFrame, h.kvPop]

theorem State.Inv.doCow {s : State} (h : s.Inv) : s.doCow.Inv := by
  unfold State.doCow
  split
  · exact h
  · extract_lets
    split
    · exact h.kvPop.kvRefuse
    · split
      · exact h.kvPop.kvRefuse
      · split
        exacts [h.kvPop.kvRefuse, h.kvPop.setCount.setFree.setCount.bump.modKv]

theorem State.Inv.copyPhys {s : State} {ident src dst n : Nat} (h : s.Inv) : (s.copyPhys ident src dst n).Inv := by
  unfold State.copyPhys
  exact h.noteRead.poke

theorem State.Inv.doCowCompletion {s : State} (h : s.Inv) : s.doCowCompletion.Inv := by
  unfold State.doCowCompletion
  split
  · exact h
  · extract_lets
    split
    · dsimp only
      split
      · refine State.Inv.kvRefuse ?_
        split
        exacts [h.modKv.copyPhys.copyPhys, h.modKv.copyPhys]
      · next heq3 =>
          refine (State.Inv.kvMapTo ?_ heq3).lowerCount.bump.kvLater
          split
          exacts [h.modKv.copyPhys.copyPhys, h.modKv.copyPhys]
    · exact h.modKv.kvRefuse

theorem State.Inv.doAttach {s : State} (h : s.Inv) : s.doAttach.Inv := by
  unfold State.doAttach
  split
  · exact h
  · extract_lets
    split
    · exact h.kvPop.kvRefuse
    · split
      · exact h.kvPop.kvRefuse
      · split
        · exact h.kvPop.kvRefuse
        · split
          · exact h.kvPop.kvRefuse
          · next heq4 => exact (h.kvPop.unscrub.setFree.setCount.kvMapTo heq4).kvLater

theorem State.Inv.doUnmap {s : State} (h : s.Inv) : s.doUnmap.Inv := by
  unfold State.doUnmap
  split
  · exact h
  · dsimp only
    split
    · split
      exacts [h.kvPop.kvResult, h.kvPop.kvAnswer]
    · split
      · split
        exacts [h.kvPop.bump.kvResult, h.kvPop.bump.kvAnswer]
      · split
        · split
          exacts [h.kvPop.kvResult, h.kvPop.kvAnswer]
        · exact h.kvPop.kvUnmap.lowerCount.kvLater

theorem State.Inv.releasePins {s : State} {n : Nat} (h : s.Inv) : (s.releasePins n).Inv := by
  unfold State.releasePins
  refine h.modKv.foldl fun s a h => ?_
  split
  exacts [h.lowerCount, h]

theorem State.Inv.doReleaseCore {s : State} (h : s.Inv) : s.doReleaseCore.Inv := by
  unfold State.doReleaseCore
  split
  exacts [h, h.kvPop.releasePins.kvResult]

theorem State.Inv.releaseCore {s : State} {n : Nat} (h : s.Inv) : (s.releaseCore n).Inv := by
  unfold State.releaseCore
  exact h.modKv.releasePins

theorem State.Inv.loadPool {s : State} {p : Nat} (h : s.Inv) : (s.loadPool p).Inv := by
  unfold State.loadPool
  exact h.modKv

theorem State.Inv.doPoolLoad {s : State} (h : s.Inv) : s.doPoolLoad.Inv := by
  unfold State.doPoolLoad
  split
  exacts [h, h.kvPop.loadPool.kvResult]

theorem State.Inv.kvReqWrite {s : State} {v : Word} (h : s.Inv) : (s.kvReqWrite v).Inv := by
  unfold State.kvReqWrite
  dsimp only
  split
  exacts [h.modKv.ite h.orReg, h.modKv.ite h.orReg, h.modKv.ite h.orReg, h.modKv.ite h.orReg, h.orReg]

theorem State.Inv.doFrameScrubbed {s : State} (h : s.Inv) : s.doFrameScrubbed.Inv := by
  unfold State.doFrameScrubbed
  split
  · exact h
  · split
    · exact h
    · dsimp only
      split
      · exact h.withHub
      · next f _ _ _ _ =>
        have hm : cellsWf (match f.scale with
            | some a => (s.mem.fillZ f.pa 65536).fillZ a 2048
            | none => s.mem.fillZ f.pa 65536).bytes = true := by
          split
          exacts [Mem.cellsWf_fillZ (Mem.cellsWf_fillZ h.2.1.1), Mem.cellsWf_fillZ h.2.1.1]
        have hs := (h.update (t := { s with hub := s.hub.popFill, mem := _ }) (mem := fun _ => hm)).bump (key := hbmKey 0 Reg.hbmCntFill) (n := 1)
        split
        exacts [hs.setFree.bump, hs]

theorem State.Inv.doFillComplete {s : State} (h : s.Inv) : s.doFillComplete.Inv := by
  unfold State.doFillComplete
  split
  · exact h
  · extract_lets n
    split
    · exact h
    · exact State.Inv.bump (h.update (mem := Mem.cellsWf_fillZ))

/-! ### Attention -/

theorem State.Inv.startMxAttn {s : State} {n : Nat} {d : Cmd} (h : s.Inv) : (s.startMxAttn n d).Inv := by
  unfold State.startMxAttn
  split
  · next heq => exact (h.engRead.fst heq).coreFault
  · next heq =>
      have ht := h.engRead.fst heq
      exact ht.coreFault.ite (ht.coreFault.ite ht.modCore.kvSend)

theorem State.Inv.issueMxAttn {s : State} {n : Nat} (h : s.Inv) : (s.issueMxAttn n).Inv := by
  unfold State.issueMxAttn
  extract_lets
  split
  exacts [h.modCore.startMxAttn, h]

theorem State.Inv.startFetches {s : State} {n : Nat} {d : Cmd} {fuel : Nat} (h : s.Inv) : (s.startFetches n d fuel).Inv := by
  induction fuel generalizing s with
  | zero =>
    rw [State.startFetches]
    exact h
  | succ m ih =>
    rw [State.startFetches]
    split
    · exact h
    · extract_lets
      split
      · exact h
      · split
        exacts [h, h.ite (ih h.modCore)]

theorem State.Inv.readToken {s : State} {n : Nat} {rs : List (Nat × Nat)} {base i : Nat} (h : s.Inv) : (s.readToken n rs base i).1.Inv := by
  unfold State.readToken
  split
  · next heq => exact (h.engRuns.fst heq).pair
  · next heq => exact (h.engRuns.fst heq).pair

theorem State.Inv.readBlock {s : State} {n : Nat} {d : Cmd} {r : List Word} {b : Nat × Bool} {slot left i : Nat} (h : s.Inv) :
    (s.readBlock n d r b slot left i).1.Inv := by
  induction left generalizing s i with
  | zero => exact h
  | succ m ih =>
    unfold State.readBlock
    dsimp only
    split
    · next heq =>
      split at heq
      · exact h.readToken.fst heq
      · cases heq
    · next t tok heq =>
      have ht : t.Inv := by
        split at heq
        · exact h.readToken.fst heq
        · cases heq
          exact h
      split
      · next heq => exact (ih ht).fst heq
      · next heq => exact (ih ht).fst heq

theorem State.Inv.readMask {s : State} {n : Nat} {d v : Cmd} {r : List Word} {b : Nat × Bool} {i : Nat} (h : s.Inv) :
    (s.readMask n d v r b i).1.Inv := by
  unfold State.readMask
  split
  · extract_lets
    split
    · next heq1 => exact (h.engRuns.fst heq1).pair
    · next heq1 => exact (h.engRuns.fst heq1).pair
  · exact h.pair

theorem State.Inv.countRow {s : State} {n : Nat} {st : Option StoredRow} {backward : Bool} (h : s.Inv) : (s.countRow n st backward).Inv := by
  unfold State.countRow
  extract_lets
  split
  exacts [h.cBump.cBump.cBump, h.cBump]

theorem State.Inv.attnRows {s : State} {n : Nat} {d v : Cmd} {r : List Word} {b : Nat × Bool} {blk : KvBlock} {par : Option Nat} {rows : List
    (List Word)} {i : Nat} (h : s.Inv) : (s.attnRows n d v r b blk par rows i).1.Inv := by
  induction rows generalizing s i with
  | nil =>
    rw [State.attnRows]
    exact h.pair
  | cons x l ih =>
    rw [State.attnRows]
    split
    · next heq => exact (h.engRead.fst heq).pair
    · next heq =>
        have ht := h.engRead.fst heq
        split
        · exact ht.cBump.pair
        · split
          · next heq2 => exact (ht.readMask.fst heq2).pair
          · next heq2 =>
              have h2 := ht.readMask.fst heq2
              extract_lets
              split
              · next heq3 => exact ((ih h2.countRow).fst heq3).pair
              · next heq3 => exact ((ih h2.countRow).fst heq3).pair

theorem State.Inv.attnBlock {s : State} {n : Nat} {d v : Cmd} {a : Attn} {inj : Inject} (h : s.Inv) : (s.attnBlock n d v a inj).Inv := by
  unfold State.attnBlock
  split
  · exact h
  · split
    · next heq1 => exact (h.strike.readBlock.fst heq1).coreFault
    · next heq1 =>
        have h1 := h.strike.readBlock.fst heq1
        extract_lets
        split
        · exact h1.cBump.cBump.vxParity
        · split
          · next heq3 =>
              have h3 := h1.cBump.attnRows.fst heq3
              exact (h3.mxParity.mxInfo.ite h3).coreFault
          · next heq3 => exact (h1.cBump.attnRows.fst heq3).modCore.cBump.cBump

theorem State.Inv.attnStep {s : State} {n : Nat} {inj : Inject} (h : s.Inv) : (s.attnStep n inj).Inv := by
  unfold State.attnStep
  split
  · exact h
  · split
    · exact h
    · extract_lets
      split
      exacts [h.startFetches.attnBlock.ite h.startFetches, h.startFetches]

theorem State.Inv.doMxAttn {s : State} {n : Nat} {inj : Inject} (h : s.Inv) : (s.doMxAttn n inj).Inv := by
  unfold State.doMxAttn
  exact (h.dispatch.ite h).issueMxAttn.attnStep

theorem State.Inv.contRows {s : State} {n : Nat} {v : Cmd} {left i : Nat} (h : s.Inv) : (s.contRows n v left i).1.Inv := by
  induction left generalizing s i with
  | zero =>
    rw [State.contRows]
    exact h.pair
  | succ m ih =>
    rw [State.contRows]
    split
    · next heq => exact (h.engRead.fst heq).pair
    · next heq =>
        have ht := h.engRead.fst heq
        split
        · next heq1 => exact ((ih ht).fst heq1).pair
        · next heq1 => exact ((ih ht).fst heq1).pair

theorem State.Inv.startVxAttn {s : State} {n : Nat} {v : Cmd} (h : s.Inv) : (s.startVxAttn n v).Inv := by
  unfold State.startVxAttn
  extract_lets
  split
  · next heq => exact (h.engRead.fst heq).coreFault
  · next heq =>
      have ht := h.engRead.fst heq
      extract_lets
      split
      · exact ht.coreFault
      · split
        · next heq2 => exact ((ht.contRows.ite_fst ht.pair).fst heq2).coreFault
        · next heq2 => exact ((ht.contRows.ite_fst ht.pair).fst heq2).modCore

theorem State.Inv.issueVxAttn {s : State} {n : Nat} (h : s.Inv) : (s.issueVxAttn n).Inv := by
  unfold State.issueVxAttn
  extract_lets
  split
  exacts [h.modCore.startVxAttn.ite h, h]

theorem State.Inv.putAttnRows {s : State} {n : Nat} {v : Cmd} {x : List (List Word)} {i : Nat} (h : s.Inv) : (s.putAttnRows n v x i).1.Inv := by
  induction x generalizing s i with
  | nil =>
    rw [State.putAttnRows]
    exact h.pair
  | cons x' l ih =>
    rw [State.putAttnRows]
    split
    · next heq => exact (h.engWrite.fst heq).pair
    · next heq => exact ih (h.engWrite.fst heq)

theorem State.Inv.spoilWork {s : State} {n : Nat} {d : Cmd} (h : s.Inv) : (s.spoilWork n d).Inv := by
  unfold State.spoilWork
  extract_lets
  split
  · next heq => exact (h.engWrite.fst heq).coreFault.withFreeCtr
  · next heq => exact (h.engWrite.fst heq).withFreeCtr

theorem State.Inv.attnOver {s : State} {n : Nat} {d v : Cmd} (h : s.Inv) : (s.attnOver n d v).Inv := by
  unfold State.attnOver
  exact h.spoilWork.modCore

theorem State.Inv.putRecord {s : State} {n : Nat} {v : Cmd} {r : List Word} (h : s.Inv) : (s.putRecord n v r).1.Inv := by
  unfold State.putRecord
  exact h.engWrite

theorem State.Inv.attnFinal {s : State} {n : Nat} {d v : Cmd} {a : Attn} (h : s.Inv) : (s.attnFinal n d v a).Inv := by
  unfold State.attnFinal
  split
  · next heq => exact (h.putAttnRows.fst heq).coreFault
  · next heq =>
      have ht := h.putAttnRows.fst heq
      exact ht.attnOver.ite ht.modCore.kvSend

theorem State.Inv.attnFlush {s : State} {n : Nat} {d v : Cmd} {a : Attn} (h : s.Inv) : (s.attnFlush n d v a).Inv := by
  unfold State.attnFlush
  split
  · extract_lets
    split
    · next heq1 => exact ((h.cBump.cBump.ite h.cBump).putRecord.fst heq1).coreFault
    · next heq1 => exact ((h.cBump.cBump.ite h.cBump).putRecord.fst heq1).modCore
  · split
    · next heq1 => exact (h.putRecord.fst heq1).coreFault
    · next heq1 => exact (h.putRecord.fst heq1).attnOver

theorem State.Inv.attnTail {s : State} {n : Nat} (h : s.Inv) : (s.attnTail n).Inv := by
  unfold State.attnTail
  split
  · exact h
  · split
    exacts [(h.attnFinal.ite h).ite ((h.attnFlush.ite h).ite ((h.ite h.attnOver).ite h)), h]

theorem State.Inv.doVxAttn {s : State} {n : Nat} {inj : Inject} (h : s.Inv) : (s.doVxAttn n inj).Inv := by
  unfold State.doVxAttn
  exact h.dispatch.issueVxAttn.attnStep.attnTail

theorem State.Inv.unpinAll {s : State} {n seq : Nat} (h : s.Inv) : (s.unpinAll n seq).Inv := by
  unfold State.unpinAll
  exact h.kvSend

/-! ### Contexts -/

theorem State.Inv.putSctx {s : State} {i : Nat} {ws : List Word} (h : s.Inv) : (s.putSctx i ws).Inv := by
  unfold State.putSctx
  exact h.hubPoke.hubPoke

theorem State.Inv.modSctx {s : State} {i : Nat} {f : List Word → List Word} (h : s.Inv) : (s.modSctx i f).Inv := by
  unfold State.modSctx
  exact h.putSctx

theorem State.Inv.putStrm {s : State} {i : Nat} {x : Stream} (h : s.Inv) : (s.putStrm i x).Inv :=
  h.withStreams (mrising_mput _ _ _)

theorem State.Inv.modStrm {s : State} {i : Nat} {f : Stream → Stream} (h : s.Inv) : (s.modStrm i f).Inv := by
  unfold State.modStrm
  exact h.putStrm

theorem State.Inv.putMslot {s : State} {m : Nat} {ws : List Word} (h : s.Inv) : (s.putMslot m ws).Inv := by
  unfold State.putMslot
  exact h.hubPoke

theorem State.Inv.logEvent {s : State} {typ : Nat} {h1 seq : Word} (h : s.Inv) : (s.logEvent typ h1 seq).Inv := by
  unfold State.logEvent
  exact h.withLog.ite h.bump.orReg

theorem State.Inv.logEventFree {s : State} {typ : Nat} {h1 : Word} (h : s.Inv) : (s.logEventFree typ h1).Inv := by
  unfold State.logEventFree
  exact h.logEvent.nextFree

theorem State.Inv.ringPush {s t : State} {k : Nat} {bs : List Byte} (h : s.Inv) (e : s.ringPush k bs = some t) : t.Inv := by
  unfold State.ringPush at e
  split at e
  · cases e
  · cases e
    exact h.hubPoke.hubPokeW

theorem State.Inv.transmit {s : State} {port : Nat} {f : TxFrame} (h : s.Inv) : (s.transmit port f).Inv := by
  unfold State.transmit
  exact h.withFe

theorem State.Inv.sendVsf {s : State} {p : Peer} {bs : List Byte} (h : s.Inv) : (s.sendVsf p bs).Inv := by
  unfold State.sendVsf
  exact h.transmit

theorem State.Inv.sendAck {s : State} {p : Peer} {h1 seq : Word} {status : Nat} (h : s.Inv) : (s.sendAck p h1 seq status).Inv := by
  unfold State.sendAck
  extract_lets
  split
  · split
    · next heq1 => exact h.ringPush heq1
    · exact h.bump
  · exact h.sendVsf

theorem State.Inv.sendResult {s : State} {i : Nat} {bs : List Byte} (h : s.Inv) : (s.sendResult i bs).Inv := by
  unfold State.sendResult
  dsimp only
  split
  · split
    · next heq =>
      split at heq
      exacts [h.ringPush heq, nomatch heq]
    · exact h.withFe
  · exact h.sendVsf

theorem State.Inv.drainLocal {fuel : Nat} {s : State} (h : s.Inv) : (State.drainLocal fuel s).Inv := by
  induction fuel generalizing s with
  | zero =>
    rw [State.drainLocal]
    exact h
  | succ m ih =>
    rw [State.drainLocal]
    split
    · exact h
    · split
      · next heq1 => exact ih (h.ringPush heq1).withFe
      · exact h

theorem State.Inv.dropKv {s : State} {i : Nat} (h : s.Inv) : (s.dropKv i).Inv := by
  unfold State.dropKv
  extract_lets
  split
  · exact h
  · refine h.foldl fun s a h => ?_
    extract_lets
    split
    exacts [h.kvUnmap.lowerFrame, h]

theorem State.Inv.freeStream {s : State} {i : Nat} (h : s.Inv) : (s.freeStream i).Inv :=
  State.Inv.logEventFree (h.dropKv.putSctx.update (streams := mrising_mdel _ _))

theorem State.Inv.abortStream {s : State} {i : Nat} (h : s.Inv) : (s.abortStream i).Inv := by
  unfold State.abortStream
  exact h.ite h.putSctx.modStrm.withFe.logEventFree

theorem State.Inv.hubFail {s : State} {i ctx va n : Nat} {wr : Bool} (h : s.Inv) : (s.hubFail i ctx va n wr).Inv := by
  unfold State.hubFail
  exact h.abortStream.bump.orReg.ite h.abortStream

theorem State.Inv.closeSettle {s : State} {i : Nat} (h : s.Inv) : (s.closeSettle i).Inv := by
  unfold State.closeSettle
  exact h.freeStream.ite h

theorem State.Inv.startClose {s : State} {i : Nat} {seq : Word} (h : s.Inv) : (s.startClose i seq).Inv := by
  unfold State.startClose
  exact h.putSctx.modStrm.closeSettle

theorem State.Inv.setOvc {s : State} {i : Nat} {v : Bool} (h : s.Inv) : (s.setOvc i v).Inv := by
  unfold State.setOvc
  exact h.putSctx.logEventFree

theorem State.Inv.balance {s : State} {m : Nat} (h : s.Inv) : (s.balance m).Inv := by
  unfold State.balance
  refine State.Inv.foldl_fst (h.foldl fun _ _ h => h.setOvc.ite h) fun p i h => ?_
  dsimp only
  split
  · split
    exacts [h.setOvc, h]
  · exact h

theorem State.Inv.setCapacity {s : State} {m cap : Nat} (h : s.Inv) : (s.setCapacity m cap).Inv := by
  unfold State.setCapacity
  exact h.putMslot.balance

/-! ### The Logbook -/

theorem State.Inv.putCent {s : State} {c : Nat} {ws : List Word} (h : s.Inv) : (s.putCent c ws).Inv := by
  unfold State.putCent
  exact h.hubPoke

theorem State.Inv.modCent {s : State} {c : Nat} {f : List Word → List Word} (h : s.Inv) : (s.modCent c f).Inv := by
  unfold State.modCent
  exact h.putCent

theorem State.Inv.modBatch {s : State} {id : Nat} {f : Batch → Batch} (h : s.Inv) : (s.modBatch id f).Inv := by
  unfold State.modBatch
  exact h.withLog

theorem State.Inv.sweepBatches {s : State} (h : s.Inv) : s.sweepBatches.Inv := by
  unfold State.sweepBatches
  exact h.withLog

theorem State.Inv.enqueueReady {s : State} {i : WorkItem} (h : s.Inv) : (s.enqueueReady i).Inv := by
  unfold State.enqueueReady
  exact h.ite h.withSched

theorem State.Inv.dispatchHeld {s : State} (h : s.Inv) : s.dispatchHeld.Inv := by
  unfold State.dispatchHeld
  split
  exacts [h.hubPoke.modBatch.enqueueReady, h]

theorem State.Inv.doHeldBatchDispatch {s : State} (h : s.Inv) : s.doHeldBatchDispatch.Inv := by
  unfold State.doHeldBatchDispatch
  exact h.sweepBatches.dispatchHeld

theorem State.Inv.formBatch {s : State} {model tick : Nat} {es : List BEntry} {hw prog : Nat} (h : s.Inv) :
    (s.formBatch model tick es hw prog).1.Inv := by
  unfold State.formBatch
  exact (h.foldl fun _ _ h => h.modSctx).withLog.pair

theorem State.Inv.journalNote {s : State} {i : Nat} (h : s.Inv) : (s.journalNote i).Inv := by
  unfold State.journalNote
  exact h.ctxNote

theorem State.Inv.tickModel {s : State} {m : Nat} (h : s.Inv) : (s.tickModel m).Inv := by
  unfold State.tickModel
  exact h.foldl fun _ _ h => h.formBatch

theorem State.Inv.journalFail {s : State} {i : Nat} (h : s.Inv) : (s.journalFail i).Inv := by
  unfold State.journalFail
  exact h.hubFail

theorem State.Inv.doTick {s : State} (h : s.Inv) : s.doTick.Inv := by
  unfold State.doTick
  exact ((((h.foldl fun _ _ h => h.journalNote).foldl fun _ _ h => h.journalFail).sweepBatches.foldl
    fun _ _ h => h.tickModel.ite h).foldl fun _ _ h => h.dispatchHeld).ite h

theorem State.Inv.commitEntry {s : State} {b : Batch} {e : BEntry} (h : s.Inv) : (s.commitEntry b e).Inv := by
  unfold State.commitEntry
  exact ((h.putSctx.putStrm.bump.ite h.putSctx.putStrm).logEvent.ite (h.putSctx.putStrm.bump.ite h.putSctx.putStrm)).ite h.bump

theorem State.Inv.joinEntry {s : State} {id slice k : Nat} (h : s.Inv) : (s.joinEntry id slice k).Inv := by
  unfold State.joinEntry
  split
  · exact h
  · split
    exacts [h, h.modBatch.commitEntry.ite h.modBatch]

theorem State.Inv.doSliceCompletion {s : State} {n : Nat} (h : s.Inv) : (s.doSliceCompletion n).Inv := by
  unfold State.doSliceCompletion
  split
  · exact h
  · extract_lets
    split
    exacts [h.modCore.bump, (h.modCore.foldl fun _ _ h => h.joinEntry).sweepBatches]

theorem State.Inv.releaseSeg {s : State} {i : Nat} {r : Release} {seg flags : Nat} {payload : List Byte} {final : Bool} (h : s.Inv) :
    (s.releaseSeg i r seg flags payload final).Inv := by
  unfold State.releaseSeg
  exact h.bump.ite h.putSctx.modStrm.sendResult

theorem State.Inv.doResultRelease {s : State} {i : Nat} (h : s.Inv) : (s.doResultRelease i).Inv := by
  unfold State.doResultRelease
  split
  · extract_lets
    split
    · exact h.ctxNote.modStrm.hubFail
    · split
      · exact ((h.ctxNote.modStrm.foldl fun _ _ h => h.releaseSeg).bump.ite (h.ctxNote.modStrm.foldl fun _ _ h => h.releaseSeg)).closeSettle
  · exact h

theorem State.Inv.doResultRetransmit {s : State} {i : Nat} (h : s.Inv) : (s.doResultRetransmit i).Inv := by
  unfold State.doResultRetransmit
  split
  · exact h
  · split
    exacts [h, (h.putStrm.bump.sendResult.modSctx.logEvent.ite h.putStrm.bump.sendResult).closeSettle]

theorem State.Inv.evqPop {s : State} (h : s.Inv) : s.evqPop.Inv := by
  unfold State.evqPop
  exact h.withLog

/-! ### The Rhumb links -/

theorem State.Inv.modRhb {s : State} {f : Rhumb → Rhumb} (h : s.Inv)
    (hk : mrising s.rhb.keys = true → mrising (f s.rhb).keys = true := by exact id)
    (hn : mrising s.rhb.nctr = true → mrising (f s.rhb).nctr = true := by exact id) : (s.modRhb f).Inv :=
  h.update (keys := hk) (nctr := hn)

theorem State.Inv.modPort {s : State} {p : Nat} {f : RhbPort → RhbPort} (h : s.Inv) : (s.modPort p f).Inv := by
  unfold State.modPort
  exact h.modRhb

theorem State.Inv.pBump {s : State} {p off n : Nat} (h : s.Inv) : (s.pBump p off n).Inv := by
  unfold State.pBump
  exact h.bump

theorem State.Inv.setStatus {s : State} {p : Nat} {up training failed testing : Bool} {lanes : Nat} (h : s.Inv) :
    (s.setStatus p up training failed testing lanes).Inv := by
  unfold State.setStatus
  exact h.setReg

theorem State.Inv.drainPort {s : State} {p : Nat} (h : s.Inv) : (s.drainPort p).Inv := by
  unfold State.drainPort
  exact h.ite h.modPort.pBump

theorem State.Inv.toPort {s : State} {p req : Nat} {t : RhbTx} (h : s.Inv) : (s.toPort p req t).Inv := by
  unfold State.toPort
  exact h.modPort.drainPort

theorem State.Inv.routeTx {s : State} {t : RhbTx} (h : s.Inv) : (s.routeTx t).Inv := by
  unfold State.routeTx
  split
  exacts [h.toPort, h.pBump]

theorem State.Inv.sendTx {s : State} {t : RhbTx} (h : s.Inv) : (s.sendTx t).Inv := by
  unfold State.sendTx
  exact (h.modRhb (hn := mrising_mput _ _ _)).routeTx.ite h

theorem State.Inv.linkDown {s : State} {p : Nat} {testing : Bool} (h : s.Inv) : (s.linkDown p testing).Inv := by
  unfold State.linkDown
  exact (h.orReg.ite h).setStatus.modPort

theorem State.Inv.startLaneTest {s : State} {p : Nat} (h : s.Inv) : (s.startLaneTest p).Inv := by
  unfold State.startLaneTest
  exact h.linkDown.clrReg

theorem State.Inv.replayAll {s : State} {p : Nat} (h : s.Inv) : (s.replayAll p).Inv := by
  unfold State.replayAll
  exact h.modPort.pBump.pBump.orReg.linkDown.ite (h.modPort.pBump.pBump.orReg.startLaneTest.ite h.modPort.pBump.pBump)

theorem State.Inv.doRhumbFlitReceive {s : State} {p : Nat} {f : RhbFlit} {crcOk : Bool} (h : s.Inv) : (s.doRhumbFlitReceive p f crcOk).Inv := by
  unfold State.doRhumbFlitReceive
  exact h.ite (h.pBump.modPort.pBump.ite (h.ite (h.pBump.modPort.replayAll.ite h.pBump.modPort).drainPort))

theorem State.Inv.takeRx {s : State} {p : Nat} {t : RhbTx} (h : s.Inv) : (s.takeRx p t).Inv := by
  unfold State.takeRx
  exact h.modPort

theorem State.Inv.doTransitForward {s : State} {p : Nat} {t : RhbTx} (h : s.Inv) : (s.doTransitForward p t).Inv := by
  unfold State.doTransitForward
  split
  · exact h
  · extract_lets
    split
    · exact h.takeRx
    · split
      · exact h.takeRx.pBump
      · split
        exacts [h.takeRx.pBump, h.takeRx.pBump.toPort]

theorem State.Inv.doLinkUpChange {s : State} {p : Nat} {up : Bool} (h : s.Inv) : (s.doLinkUpChange p up).Inv := by
  unfold State.doLinkUpChange
  exact (h.setStatus.modPort.drainPort.ite h).ite (h.linkDown.ite h)

theorem State.Inv.doPortFail {s : State} {p : Nat} (h : s.Inv) : (s.doPortFail p).Inv := by
  unfold State.doPortFail
  split
  exacts [h.setStatus.modPort.ite h, h]

theorem State.Inv.doPortRetryTraining {s : State} {p : Nat} (h : s.Inv) : (s.doPortRetryTraining p).Inv := by
  unfold State.doPortRetryTraining
  split
  exacts [h.setStatus.modPort.ite h, h]

theorem State.Inv.doRhbTest {s : State} {p : Nat} (h : s.Inv) : (s.doRhbTest p).Inv := by
  unfold State.doRhbTest
  exact h.startLaneTest.ite h

theorem State.Inv.doRhbRetrain {s : State} {p : Nat} (h : s.Inv) : (s.doRhbRetrain p).Inv := by
  unfold State.doRhbRetrain
  exact h.linkDown.ite h

theorem State.Inv.doRhbDevidWrite {s : State} {v : Word} (h : s.Inv) : (s.doRhbDevidWrite v).Inv := by
  unfold State.doRhbDevidWrite
  exact h.ite h.plainWrite

theorem State.Inv.doRhbKeyLoad {s : State} {k : Nat} (h : s.Inv) : (s.doRhbKeyLoad k).Inv :=
  h.modRhb (mrising_mput _ _ _) (mrising_mput _ _ _)

theorem State.Inv.doRhbKeyClear {s : State} {k : Nat} (h : s.Inv) : (s.doRhbKeyClear k).Inv :=
  h.modRhb (mrising_mdel _ _) (mrising_mdel _ _)

/-! ### The mailboxes -/

theorem State.Inv.modChan {s : State} {ch : Nat} {f : Channel → Channel} (h : s.Inv) : (s.modChan ch f).Inv :=
  h.update (mbx := (s.modChan_length ch f).trans)

theorem State.Inv.signal {s : State} {ch vector : Nat} (h : s.Inv) : (s.signal ch vector).Inv := by
  unfold State.signal
  exact h.modChan.ite h

theorem State.Inv.sendMgmt {s : State} {dev : Nat} {ws : List Word} (h : s.Inv) : (s.sendMgmt dev ws).Inv := by
  unfold State.sendMgmt
  exact h.sendTx.ite ((h.modRhb (hk := mrising_mput _ _ _)).sendTx.modRhb (hk := mrising_mdel _ _))

theorem State.Inv.flushMgmt {fuel : Nat} {s : State} (h : s.Inv) : (State.flushMgmt fuel s).Inv := by
  induction fuel generalizing s with
  | zero =>
    rw [State.flushMgmt]
    exact h
  | succ m ih =>
    rw [State.flushMgmt]
    split
    exacts [ih (h.modChan.sendMgmt.ite h.modChan.sendMgmt.modChan), h]

theorem State.Inv.pushEvent {s : State} {ch code job : Nat} {w : List Word} (h : s.Inv) : (s.pushEvent ch code job w).Inv := by
  unfold State.pushEvent
  exact ((h.modChan.signal.ite h.modChan).flushMgmt.ite (h.modChan.signal.ite h.modChan)).ite h.modChan

theorem State.Inv.popEvent {s : State} {ch : Nat} (h : s.Inv) : (s.popEvent ch).Inv := by
  unfold State.popEvent
  exact h.ite (h.modChan.ite h.modChan.pushEvent)

theorem State.Inv.mbxErr {s : State} {ch : Nat} {m : Word} (h : s.Inv) : (s.mbxErr ch m).Inv := by
  unfold State.mbxErr
  exact h.modChan.signal.ite h.modChan

theorem State.Inv.doMbxSend {s : State} {ch : Nat} (h : s.Inv) : (s.doMbxSend ch).Inv := by
  unfold State.doMbxSend
  exact h.mbxErr.ite h.modChan

theorem State.Inv.mbxReq {s : State} {ch k : Nat} {v : Word} (h : s.Inv) : (s.mbxReq ch k v).Inv := by
  unfold State.mbxReq
  exact h.mbxErr.ite h.modChan

theorem State.Inv.respond {s : State} {ch : Nat} {ws : List Word} (h : s.Inv) : (s.respond ch ws).Inv := by
  unfold State.respond
  exact (h.modChan.signal.ite h.modChan).sendMgmt.ite (h.modChan.signal.ite h.modChan)

theorem State.Inv.flashWrite {s : State} {a : Nat} {bs : List Byte} (h : s.Inv) : (s.flashWrite a bs).Inv :=
  h.update (flash := cellsWf_cellsWrite _ _ _)

theorem State.Inv.logRetire {s : State} {e : Word} (h : s.Inv) : (s.logRetire e).Inv := by
  unfold State.logRetire
  exact h.flashWrite.ite h.flashWrite.flashWrite

theorem State.Inv.enterUnit {s : State} {kind unit sub : Nat} (h : s.Inv) : (s.enterUnit kind unit sub).Inv := by
  unfold State.enterUnit
  exact h.withPilot.logRetire

theorem State.Inv.retireUnit {s : State} {kind unit sub : Nat} (h : s.Inv) : (s.retireUnit kind unit sub).Inv := by
  unfold State.retireUnit
  exact h.enterUnit.pushEvent

theorem State.Inv.modCounts {s : State} {client : Nat} {f : List Word → List Word} (h : s.Inv) : (s.modCounts client f).Inv := by
  unfold State.modCounts
  exact h.withPilot

theorem State.Inv.countCreate {s : State} {client : Nat} (h : s.Inv) : (s.countCreate client).Inv := by
  unfold State.countCreate
  exact h.modCounts

theorem State.Inv.countEnd {s : State} {client : Nat} {ok : Bool} (h : s.Inv) : (s.countEnd client ok).Inv := by
  unfold State.countEnd
  exact h.modCounts

theorem State.Inv.modJob {s : State} {id : Nat} {f : Job → Job} (h : s.Inv) : (s.modJob id f).Inv := by
  unfold State.modJob
  exact h.withPilot

theorem State.Inv.recapacity {s : State} {n : Nat} (h : s.Inv) : (s.recapacity n).Inv := by
  unfold State.recapacity
  refine h.foldl fun s a h => ?_
  split
  exacts [h.setCapacity.ite h, h]

theorem State.Inv.wantPower {s : State} {on : Bool} {ds : List Nat} (h : s.Inv) : (s.wantPower on ds).Inv := by
  unfold State.wantPower
  exact h.withPilot

theorem State.Inv.placePower {fuel : Nat} {s : State} (h : s.Inv) : (State.placePower fuel s).Inv := by
  induction fuel generalizing s with
  | zero => exact h
  | succ m ih =>
    rw [State.placePower]
    split
    · exact h
    · split
      exacts [ih h.withPwr.withPilot, h]

theorem State.Inv.askPower {s : State} {on : Bool} {ds : List Nat} (h : s.Inv) : (s.askPower on ds).Inv := by
  unfold State.askPower
  exact h.wantPower.placePower

theorem State.Inv.retireCore {s : State} {n : Nat} (h : s.Inv) : (s.retireCore n).Inv := by
  unfold State.retireCore
  exact (h.enterUnit.clrReg.askPower.recapacity.foldl fun _ _ h => (h.foldl fun _ _ h => h.pushEvent).ite h).withPilot

/-! ### Rhumb -/

theorem State.Inv.putTxFlow {s : State} {f : TxFlow} (h : s.Inv) : (s.putTxFlow f).Inv := by
  unfold State.putTxFlow
  exact h.modRhb

theorem State.Inv.putRxFlow {s : State} {f : RxFlow} (h : s.Inv) : (s.putRxFlow f).Inv := by
  unfold State.putRxFlow
  exact h.modRhb

theorem State.Inv.pumpFlow {s : State} {dev key : Nat} (h : s.Inv) : (s.pumpFlow dev key).Inv := by
  unfold State.pumpFlow
  exact h.putTxFlow.foldl fun _ _ h => h.sendTx

theorem State.Inv.pushFlow {s : State} {dev key : Nat} {mk : Nat → RhbTx} {core mig : Option Nat} (h : s.Inv) :
    (s.pushFlow dev key mk core mig).Inv := by
  unfold State.pushFlow
  exact (h.putTxFlow.pBump.ite h.putTxFlow).pumpFlow

theorem State.Inv.resendFlow {s : State} {dev key : Nat} (h : s.Inv) : (s.resendFlow dev key).Inv := by
  unfold State.resendFlow
  exact h.foldl fun _ _ h => h.sendTx.pBump

theorem State.Inv.sendNack {s : State} {t : RhbTx} {reason tid : Nat} (h : s.Inv) : (s.sendNack t reason tid).Inv := by
  unfold State.sendNack
  exact h.sendTx

theorem State.Inv.sendFlowAck {s : State} {dev key : Nat} (h : s.Inv) : (s.sendFlowAck dev key).Inv := by
  unfold State.sendFlowAck
  exact h.putRxFlow.sendTx

theorem State.Inv.deliver {s : State} {t : RhbTx} {f : State → State × Bool} {again : State → State} (h : s.Inv)
    (hf : ∀ s, s.Inv → (f s).1.Inv) (ha : ∀ s, s.Inv → (again s).Inv) : (s.deliver t f again).Inv := by
  unfold State.deliver
  dsimp only
  split
  · split
    · exact (hf s h).putRxFlow.sendFlowAck.ite (hf s h).putRxFlow
    · exact hf s h
  · exact (ha s h).ite h.sendNack

theorem State.Inv.dupTx {s : State} {t : RhbTx} (h : s.Inv) : (s.dupTx t).Inv := by
  unfold State.dupTx
  exact h.pBump.sendFlowAck

theorem State.Inv.receiveTx {s : State} {p op : Nat} {t : RhbTx} {tagOk : Bool} {f : State → State} (h : s.Inv)
    (hf : ∀ s, s.Inv → (f s).Inv) : (s.receiveTx p t tagOk op f).Inv := by
  unfold State.receiveTx
  split_ifs
  exacts [h, h.takeRx.pBump, h, h.takeRx.pBump, hf _ h.takeRx]

theorem State.Inv.setResidency {s : State} {ctx slice : Nat} {n : Option Nat} (h : s.Inv) : (s.setResidency ctx slice n).Inv := by
  unfold State.setResidency
  exact h.modRhb

theorem State.Inv.landRecord {s u : State} {t : RhbTx} (h : s.Inv) (e : s.landRecord t = some u) : u.Inv := by
  unfold State.landRecord at e
  dsimp only at e
  split at e
  · cases e
  · cases e
    exact h.ctxPoke.ctxPoke.ctxPoke.pBump

theorem State.Inv.leaveCore {s : State} {n slice : Nat} (h : s.Inv) : (s.leaveCore n slice).Inv := by
  unfold State.leaveCore
  exact (h.ite (h.foldl fun _ _ h => h.ctxPoke)).modCore.setResidency

theorem State.Inv.replayRecords {s : State} {n slice k : Nat} (h : s.Inv) : (s.replayRecords n slice k).Inv := by
  induction k generalizing s with
  | zero =>
    rw [State.replayRecords]
    exact h
  | succ m ih =>
    rw [State.replayRecords]
    split
    · next heq => exact (h.ctxNote.spadWrite.fst heq).coreFault
    · next heq => exact ih (h.ctxNote.spadWrite.fst heq).ctxPoke.cBump

theorem State.Inv.enterCore {s : State} {n slice : Nat} (h : s.Inv) : (s.enterCore n slice).Inv := by
  unfold State.enterCore
  exact h.setResidency.ite (h.replayRecords.foldl fun _ _ h => h.ctxPoke.ctxPoke.modCore).setResidency

theorem State.Inv.putLands {s : State} {t : RhbTx} (h : s.Inv) : (s.putLands t).1.Inv := by
  fun_cases State.putLands s t
  · exact h.sendNack.pair
  · exact h.sendNack.pair
  · next landed => exact (h.landRecord landed).pair
  · exact h.sendNack.pair
  · next written => exact (h.spadWrite.fst written).coreFault.sendNack.pair
  · next written _ => exact (h.spadWrite.fst written).cBump.modCore.pair

theorem State.Inv.doPut {s : State} {p : Nat} {t : RhbTx} {tagOk : Bool} (h : s.Inv) : (s.doPut p t tagOk).Inv := by
  unfold State.doPut
  exact h.receiveTx (fun _ h => h.deliver (fun _ h => h.putLands) (fun _ h => h.dupTx))

theorem State.Inv.getServed {s : State} {t : RhbTx} (h : s.Inv) : (s.getServed t).Inv := by
  unfold State.getServed
  extract_lets
  split
  · exact h.sendNack
  · split
    · exact h.sendNack
    · split
      exacts [h.ctxNote.sendNack, h.ctxNote.sendTx]

theorem State.Inv.doGet {s : State} {p : Nat} {t : RhbTx} {tagOk : Bool} (h : s.Inv) : (s.doGet p t tagOk).Inv := by
  unfold State.doGet
  exact h.receiveTx (fun _ h => h.deliver (fun _ h => h.getServed.pair) (fun _ h => h.getServed))

theorem State.Inv.endRemote {s : State} {n : Nat} {x : Xfer} (h : s.Inv) : (s.endRemote n x).Inv := by
  unfold State.endRemote
  exact h.modCore.cBump.modCore

theorem State.Inv.failRemote {s : State} {n detail : Nat} {x : Xfer} (h : s.Inv) : (s.failRemote n detail x).Inv := by
  unfold State.failRemote
  exact h.modCore.xlatFault

theorem State.Inv.cutFlow {s : State} {dev key : Nat} {f : Pend → Bool} (h : s.Inv) : (s.cutFlow dev key f).Inv := by
  unfold State.cutFlow
  exact h.putTxFlow.ite h

theorem State.Inv.migEvent {s : State} {i code : Nat} {newHandle first : Word} (h : s.Inv) : (s.migEvent i code newHandle first).Inv := by
  unfold State.migEvent
  exact h.pushEvent

theorem State.Inv.migFailed {s : State} {i : Nat} (h : s.Inv) : (s.migFailed i).Inv := by
  unfold State.migFailed
  split
  exacts [h, h.modRhb.modStrm.migEvent]

theorem State.Inv.migLost {s : State} {i : Nat} (h : s.Inv) : (s.migLost i).Inv := by
  unfold State.migLost
  split
  exacts [h, h.migFailed.ite h.modRhb.modStrm.migEvent]

theorem State.Inv.migCommit {s : State} {m : MigOut} (h : s.Inv) : (s.migCommit m).Inv := by
  unfold State.migCommit
  exact h.modRhb.pushFlow.ite h

theorem State.Inv.doAck {s : State} {p : Nat} {t : RhbTx} {tagOk : Bool} (h : s.Inv) : (s.doAck p t tagOk).Inv := by
  unfold State.doAck
  refine h.receiveTx (fun s h => ?_)
  refine ((h.cutFlow.foldl fun s a h => ?_).foldl fun _ _ h => h.migCommit.ite h).pumpFlow
  split
  · split
    exacts [h.endRemote, h]
  · exact h

theorem State.Inv.doGetdata {s : State} {p : Nat} {t : RhbTx} {tagOk : Bool} (h : s.Inv) : (s.doGetdata p t tagOk).Inv := by
  unfold State.doGetdata
  refine h.receiveTx (fun s h => ?_)
  extract_lets
  split
  · exact h
  · split
    · exact h.cutFlow.pumpFlow
    · split
      exacts [h.cutFlow.pumpFlow, h.cutFlow.pumpFlow.land.endRemote]

theorem State.Inv.doNack {s : State} {p : Nat} {t : RhbTx} {tagOk : Bool} (h : s.Inv) : (s.doNack p t tagOk).Inv := by
  unfold State.doNack
  refine h.receiveTx (fun s h => ?_)
  extract_lets
  split
  · exact h.pBump.resendFlow
  · exact h.pBump
  · split
    · split
      · exact h.pBump
      · split
        · split
          exacts [h.pBump.cutFlow.pumpFlow.failRemote, h.pBump.cutFlow.pumpFlow]
        · exact h.pBump.cutFlow.pumpFlow.migLost
        · exact h.pBump.cutFlow.pumpFlow
    · exact h.pBump

theorem State.Inv.doFlowTimeout {s : State} {k : Nat} (h : s.Inv) : (s.doFlowTimeout k).Inv := by
  unfold State.doFlowTimeout
  split
  · exact h
  · extract_lets
    split
    · exact h
    · split
      · refine (h.putTxFlow.foldl fun s a h => ?_).foldl fun _ _ h => h.migLost
        split
        · split
          exacts [h.failRemote, h]
        · exact h
      · exact h.putTxFlow.resendFlow

theorem State.Inv.doAckTimer {s : State} {k : Nat} (h : s.Inv) : (s.doAckTimer k).Inv := by
  unfold State.doAckTimer
  split
  exacts [h, h.sendFlowAck.ite h]

theorem State.Inv.enterRemote {s : State} {n : Nat} {x : Xfer} (h : s.Inv) : (s.enterRemote n x).Inv := by
  unfold State.enterRemote
  extract_lets
  split
  · next heq => exact (h.xferData.fst heq).modCore.coreFault
  · next heq => exact (h.xferData.fst heq).modCore.pushFlow

theorem State.Inv.enterXfer {s : State} {n : Nat} {x : Xfer} (h : s.Inv) : (s.enterXfer n x).Inv := by
  unfold State.enterXfer
  exact h.enterRemote.ite h.enterLocal

theorem State.Inv.grantClass {s : State} {n cls : Nat} (h : s.Inv) : (s.grantClass n cls).Inv := by
  unfold State.grantClass
  extract_lets
  split
  · exact h.doListFetchData
  · split
    exacts [h.enterXfer.ite h, h]

theorem State.Inv.doTransferEnter {s : State} {n cls : Nat} (h : s.Inv) : (s.doTransferEnter n cls).Inv := by
  unfold State.doTransferEnter
  dsimp only
  split
  · refine State.Inv.armsGo ?_
    split
    · split
      exacts [(h.armsGo.modCore.grantClass.ite h.armsGo).startWalk.ite (h.armsGo.modCore.grantClass.ite h.armsGo), h.armsGo.startWalk.ite h.armsGo]
    · split
      exacts [h.armsGo.modCore.grantClass.ite h.armsGo, h.armsGo]
  · split
    · split
      exacts [(h.modCore.grantClass.ite h).startWalk.ite (h.modCore.grantClass.ite h), h.startWalk.ite h]
    · split
      exacts [h.modCore.grantClass.ite h, h]

theorem State.Inv.notePass {s : State} {unit : Nat} (h : s.Inv) : (s.notePass unit).1.Inv := by
  unfold State.notePass
  exact h.withPilot.pair

theorem State.Inv.doLaneTestDone {s : State} {p : Nat} {failMask : Word} (h : s.Inv) : (s.doLaneTestDone p failMask).Inv := by
  unfold State.doLaneTestDone
  split
  · exact h
  · extract_lets
    split
    · next heq1 => exact (((h.setReg.setReg.notePass.ite_fst h.setReg.setReg.pair).fst heq1).orReg.foldl fun _ _ h => h.retireUnit).setStatus.modPort

/-! ### The commands of a core -/

theorem State.Inv.contextStart {s : State} {n : Nat} (h : s.Inv) : (s.contextStart n).Inv := by
  unfold State.contextStart
  exact h.modCore

theorem State.Inv.batchContext {s : State} {n : Nat} (h : s.Inv) : (s.batchContext n).Inv := by
  unfold State.batchContext
  exact h.ite h.contextStart

theorem State.Inv.enterAll {s : State} {n : Nat} (h : s.Inv) : (s.enterAll n).Inv := by
  unfold State.enterAll
  exact h.foldl fun _ _ h => h.enterCore

theorem State.Inv.doCoreStart {s : State} {n : Nat} {legacy : Bool} (h : s.Inv) : (s.doCoreStart n legacy).Inv := by
  unfold State.doCoreStart
  exact h.ite (h.ite h.contextStart.modCore.enterAll)

theorem State.Inv.loadDesc {s : State} {n : Nat} {d : WlDesc} (h : s.Inv) : (s.loadDesc n d).Inv := by
  unfold State.loadDesc
  exact h.setReg.setReg.setReg2.setReg2

theorem State.Inv.doCommandRetire {s : State} {n : Nat} {e : Engine} (h : s.Inv) : (s.doCommandRetire n e).Inv := by
  unfold State.doCommandRetire
  refine (State.Inv.pump ?_).modCore
  split
  · split
    exacts [(h.modCore.cBump.ite (h.modCore.unpinAll.ite h.modCore)).ite h, h]
  · split
    exacts [h.modCore.ite h, h]
  · split
    exacts [h.modCore.ite h, h]

theorem State.Inv.syncCores {s : State} {ctx : Nat} (h : s.Inv) : (s.syncCores ctx).Inv := by
  unfold State.syncCores
  exact h.ite h.modCent

theorem State.Inv.freeCore {s : State} {n : Nat} (h : s.Inv) : (s.freeCore n).Inv := by
  unfold State.freeCore
  exact h.modCore.withSched.syncCores

theorem State.Inv.doEndComplete {s : State} {n : Nat} (h : s.Inv) : (s.doEndComplete n).Inv := by
  unfold State.doEndComplete
  have hended {f k i j} : (((s.modCore n f).leaveCore n k).modWork n i j).Inv := h.modCore.leaveCore.modWork
  exact h.ite (h.coreFault.ite ((hended.withSched.ite hended).freeCore.ite (hended.withSched.ite hended).modCore))

theorem State.Inv.doSxWaitRemote {s : State} {n : Nat} (h : s.Inv) : (s.doSxWaitRemote n).Inv := by
  unfold State.doSxWaitRemote
  extract_lets
  split
  exacts [h.dispatch.modCore.ite h.dispatch, (h.dispatch.modCore.ite h.dispatch).modCore.settle.ite (h.dispatch.modCore.ite h.dispatch)]

theorem State.Inv.doWatchdog {s : State} {n : Nat} (h : s.Inv) : (s.doWatchdog n).Inv := by
  unfold State.doWatchdog
  exact h.coreFault.ite h

theorem State.Inv.noteRanges {s : State} {n : Nat} {x : SliceSt} (h : s.Inv) : (s.noteRanges n x).Inv := by
  unfold State.noteRanges
  exact h.ite (h.vnote.vnote.ite (h.ite h.vnote.vnote))

theorem State.Inv.rangeBytes {s : State} {n : Nat} {r : LiveRange} (h : s.Inv) : (s.rangeBytes n r).1.Inv := by
  unfold State.rangeBytes
  split
  · next heq => exact (h.spadRead.fst heq).pair
  · next heq =>
      have ht := h.spadRead.fst heq
      exact ht.pair.ite_fst (ht.ite ht.cBump).pair

theorem State.Inv.rangesBytes {s : State} {n : Nat} {x : List LiveRange} (h : s.Inv) : (s.rangesBytes n x).1.Inv := by
  induction x generalizing s with
  | nil =>
    rw [State.rangesBytes]
    exact h.pair
  | cons x' l ih =>
    rw [State.rangesBytes]
    split
    · next heq => exact (h.rangeBytes.fst heq).pair
    · next heq =>
        have ht := h.rangeBytes.fst heq
        split
        · next heq1 => exact ((ih ht).fst heq1).pair
        · next heq1 => exact ((ih ht).fst heq1).pair

theorem State.Inv.savePut {s : State} {n va : Nat} {bs : List Byte} (h : s.Inv) : (s.savePut n va bs).1.Inv := by
  unfold State.savePut
  split
  · exact h
  · split
    · next heq => exact h.vwrite heq
    · exact h

theorem State.Inv.spillSlice {s : State} {n : Nat} {x : SliceSt} {rs : List LiveRange} (h : s.Inv) : (s.spillSlice n x rs).1.Inv := by
  unfold State.spillSlice
  extract_lets
  split
  · next heq => exact (h.rangesBytes.fst heq).pair
  · next heq =>
      have ht := h.rangesBytes.fst heq
      split
      · split
        · next heq2 => exact (ht.savePut.fst heq2).pair
        · next heq2 =>
            have h2 := ht.savePut.fst heq2
            split
            · next heq3 => exact (h2.savePut.fst heq3).pair
            · next heq3 =>
                have h3 := h2.savePut.fst heq3
                split
                · next heq4 => exact (h3.savePut.fst heq4).pair
                · next heq4 => exact (h3.savePut.fst heq4).cBump.cBump.pair

theorem State.Inv.spillSlices {s : State} {n : Nat} {x : List (SliceSt × List LiveRange)} (h : s.Inv) : (s.spillSlices n x).1.Inv := by
  induction x generalizing s with
  | nil =>
    rw [State.spillSlices]
    exact h.pair
  | cons x' l ih =>
    rw [State.spillSlices]
    split
    · next heq => exact (h.spillSlice.fst heq).pair
    · next heq => exact ih (h.spillSlice.fst heq)

theorem State.Inv.doPreemptRequest {s : State} {n : Nat} (h : s.Inv) : (s.doPreemptRequest n).Inv := by
  unfold State.doPreemptRequest
  exact h.modCore.ite h

theorem State.Inv.dropTakes {s : State} {n : Nat} (h : s.Inv) : (s.dropTakes n).Inv := by
  unfold State.dropTakes
  exact h.drainTakeQ.foldl fun _ _ h => h.toRefetch

theorem State.Inv.doPreemptBoundary {s : State} {n : Nat} (h : s.Inv) : (s.doPreemptBoundary n).Inv := by
  unfold State.doPreemptBoundary
  split
  · exact h
  · extract_lets
    split
    · exact h.dropTakes.modCore
    · split
      · exact (h.dropTakes.modCore.foldl fun _ _ h => h.noteRanges).coreFault
      · split
        · next heq3 =>
            exact (((h.dropTakes.modCore.foldl fun _ _ h => h.noteRanges).modCore.foldl fun _ _ h => h.leaveCore).spillSlices.fst heq3).coreFault
        · next heq3 =>
            exact (((h.dropTakes.modCore.foldl fun _ _ h => h.noteRanges).modCore.foldl fun _ _ h => h.leaveCore).spillSlices.fst heq3).modCore

theorem State.Inv.doSpillComplete {s : State} {n : Nat} (h : s.Inv) : (s.doSpillComplete n).Inv := by
  unfold State.doSpillComplete
  exact h.ite h.orReg.cBump.modCent.modWork.freeCore.modCore.enqueueReady.bump

theorem State.Inv.refilled {s : State} {n k : Nat} (h : s.Inv) : (s.refilled n k).Inv := by
  unfold State.refilled
  exact h.ite h.cBump.cBump

theorem State.Inv.refillRange {s : State} {n region : Nat} {e : List Word} (h : s.Inv) : (s.refillRange n region e).1.Inv := by
  unfold State.refillRange
  extract_lets
  split
  · exact h.cBump.pair
  · split
    exacts [h.vnote.pair, h.vnote.refilled.spadWrite.ite_fst h.vnote.refilled.modCore.pair]

theorem State.Inv.refillRanges {s : State} {n region : Nat} {dir : List Word} {left i : Nat} (h : s.Inv) :
    (s.refillRanges n region dir left i).1.Inv := by
  induction left generalizing s i with
  | zero =>
    rw [State.refillRanges]
    exact h.pair
  | succ m ih =>
    rw [State.refillRanges]
    split
    · next heq => exact (h.refillRange.fst heq).pair
    · next heq => exact ih (h.refillRange.fst heq)

theorem State.Inv.refillSlice {s : State} {n slice : Nat} (h : s.Inv) : (s.refillSlice n slice).1.Inv := by
  unfold State.refillSlice
  extract_lets
  split
  · exact h.pair
  · extract_lets
    split
    · exact h.vnote.refilled.pair
    · split
      exacts [h.vnote.vnote.pair, h.vnote.vnote.refilled.refillRanges]

theorem State.Inv.refillSlices {s : State} {n : Nat} {x : List Nat} (h : s.Inv) : (s.refillSlices n x).1.Inv := by
  induction x generalizing s with
  | nil =>
    rw [State.refillSlices]
    exact h.pair
  | cons x' l ih =>
    rw [State.refillSlices]
    split
    · next heq => exact (h.refillSlice.fst heq).pair
    · next heq => exact ih (h.refillSlice.fst heq)

theorem State.Inv.startResume {s : State} {n : Nat} {run : Run} {mask : Nat} (h : s.Inv) : (s.startResume n run mask).Inv := by
  unfold State.startResume
  extract_lets
  split
  · next heq => exact (h.contextStart.modCore.refillSlices.fst heq).coreFault
  · next heq => exact h.contextStart.modCore.refillSlices.fst heq

theorem State.Inv.doPreemptResume {s : State} {n : Nat} (h : s.Inv) : (s.doPreemptResume n).Inv := by
  unfold State.doPreemptResume
  exact h.ite h.startResume

theorem State.Inv.doRefillComplete {s : State} {n : Nat} (h : s.Inv) : (s.doRefillComplete n).Inv := by
  unfold State.doRefillComplete
  exact h.ite ((h.modCore.foldl fun _ _ h => h.ctxPoke).enterAll.modCent.modWork.bump.ite
      (h.modCore.foldl fun _ _ h => h.ctxPoke).enterAll.modCent.modWork.bump.modCore)

theorem State.Inv.doCoreBatchStart {s : State} {n : Nat} (h : s.Inv) : (s.doCoreBatchStart n).Inv := by
  unfold State.doCoreBatchStart
  extract_lets
  split
  exacts [h, h.ite (h.loadDesc.modCore.readWorkList.startResume.ite h.loadDesc.modCore.readWorkList.batchContext.modCore.enterAll)]

theorem State.Inv.doSpdBist {s : State} {n bank : Nat} (h : s.Inv) : (s.doSpdBist n bank).Inv := by
  unfold State.doSpdBist
  exact h.setReg.modCore.clrReg.ite h.setReg

theorem State.Inv.endSpdBist {s : State} {n bank : Nat} {pass : Bool} (h : s.Inv) : (s.endSpdBist n bank pass).Inv := by
  unfold State.endSpdBist
  exact h.modCore.setReg

theorem State.Inv.doSpdRevokeDone {s : State} {n : Nat} (h : s.Inv) : (s.doSpdRevokeDone n).Inv := by
  unfold State.doSpdRevokeDone
  split
  exacts [h.modCore, h]

/-! ### HBM -/

theorem State.Inv.setInvN {s : State} {v : Word} (h : s.Inv) : (s.setInvN v).Inv := by
  unfold State.setInvN
  exact h.ite h.withHub

theorem State.Inv.doHbmXlatInv {s : State} {v : Word} (h : s.Inv) : (s.doHbmXlatInv v).Inv := by
  unfold State.doHbmXlatInv
  exact h.orReg.ite h.setInvN.invalidate

theorem State.Inv.invalOver {s : State} {i : Inval} (h : s.Inv) : (s.invalOver i).Inv := by
  unfold State.invalOver
  exact (h.foldl fun _ _ h => h.toFill).foldl fun _ _ h => h.kvAnswer

theorem State.Inv.doInvalidationComplete {s : State} (h : s.Inv) : s.doInvalidationComplete.Inv := by
  unfold State.doInvalidationComplete
  split
  exacts [h, h.ite h.withHub.bump.startInval.invalOver]

theorem State.Inv.doHbmFillReq {s : State} {big : Bool} (h : s.Inv) : (s.doHbmFillReq big).Inv := by
  unfold State.doHbmFillReq
  exact h.orReg.ite h.toFill

theorem State.Inv.strikeStack {s : State} {h1 : Nat} {x : Inject} (h : s.Inv) : (s.strikeStack h1 x).Inv := by
  unfold State.strikeStack
  split
  exacts [h.withMem, h.withMem, h]

theorem State.Inv.doPatrolRead {s : State} {h1 : Nat} {inj : Inject} (h : s.Inv) : (s.doPatrolRead h1 inj).Inv := by
  unfold State.doPatrolRead
  split
  · exact h
  · dsimp only
    split
    exacts [(h.strikeStack.withMem.foldl fun _ _ h => h.bump.stackErr).bump.startHbmTest,
        (h.strikeStack.withMem.foldl fun _ _ h => h.bump.stackErr).bump]

theorem State.Inv.doOnDieEccPoll {s : State} {h1 count : Nat} (h : s.Inv) : (s.doOnDieEccPoll h1 count).Inv := by
  unfold State.doOnDieEccPoll
  exact h.bump.ite h

theorem State.Inv.doHbmTest {s : State} {h1 pc : Nat} (h : s.Inv) : (s.doHbmTest h1 pc).Inv := by
  unfold State.doHbmTest
  exact h.setReg.startHbmTest.ite h.setReg

theorem State.Inv.endHbmTest {s : State} {h1 : Nat} {pass : Bool} (h : s.Inv) : (s.endHbmTest h1 pass).Inv := by
  unfold State.endHbmTest
  exact h.setReg.clrReg

theorem State.Inv.doHbmRgnLock {s : State} {v : Word} (h : s.Inv) : (s.doHbmRgnLock v).Inv := by
  unfold State.doHbmRgnLock
  exact h.orReg.ite h

/-! ### The scheduler -/

theorem State.Inv.requestPreempt {s : State} {n : Nat} {i : WorkItem} (h : s.Inv) : (s.requestPreempt n i).Inv := by
  unfold State.requestPreempt
  exact h.withSched.doPreemptRequest

theorem State.Inv.advanceRot {s : State} {ctx c : Nat} (h : s.Inv) : (s.advanceRot ctx c).Inv :=
  h.withRot (mrising_mput _ _ _)

theorem State.Inv.placed {s : State} {i : WorkItem} (h : s.Inv) : (s.placed i).Inv := by
  unfold State.placed
  exact h.withSched.bump

theorem State.Inv.sendDescs {s : State} {b : Batch} {ps : List (Nat × Nat)} {resume : Bool} (h : s.Inv) : (s.sendDescs b ps resume).Inv := by
  unfold State.sendDescs
  exact h.foldl fun _ _ h => h.modCore

theorem State.Inv.preemptFor {s : State} {k : Nat} {i : WorkItem} {ns : List Nat} (h : s.Inv) : (s.preemptFor k i ns).Inv := by
  unfold State.preemptFor
  exact h.foldl fun _ _ h => h.requestPreempt.ite h

theorem State.Inv.placeBatch {s t : State} {b : Batch} (h : s.Inv) (e : s.placeBatch b = some t) : t.Inv := by
  unfold State.placeBatch at e
  split at e
  · cases e
  · extract_lets fresh ns at e
    split at e
    · cases e
    · cases e
      have hsent {f k w l ps r} : (((s.modBatch b.id f).preemptFor k w l).sendDescs b ps r).Inv := h.modBatch.preemptFor.sendDescs
      exact (hsent.advanceRot.ite hsent).placed.syncCores

theorem State.Inv.modDirect {s : State} {ctx : Nat} {f : Direct → Direct} (h : s.Inv) : (s.modDirect ctx f).Inv := by
  unfold State.modDirect
  exact h.withSched

theorem State.Inv.placeDirect {s t : State} {d : Direct} (h : s.Inv) (e : s.placeDirect d = some t) : t.Inv := by
  unfold State.placeDirect at e
  extract_lets ctx w fresh at e
  split at e
  · cases e
  · cases e
    have hgranted {k w l i f c} : State.Inv { (s.preemptFor k w l).modDirect i f with sched := {
        ((s.preemptFor k w l).modDirect i f).sched with grants := c } } :=
      h.preemptFor.modDirect.withSched
    exact (hgranted.advanceRot.ite hgranted).placed.modCent

theorem State.Inv.placeItem {s t : State} {w : WorkItem} (h : s.Inv) (e : s.placeItem w = some t) : t.Inv := by
  cases w with
  | batch id =>
    obtain ⟨_, _, hp⟩ := Option.bind_eq_some_iff.mp e
    exact h.placeBatch hp
  | direct ctx =>
    obtain ⟨_, _, hp⟩ := Option.bind_eq_some_iff.mp e
    exact h.placeDirect hp

theorem State.Inv.doSchedulerPlace {s : State} (h : s.Inv) : s.doSchedulerPlace.Inv := by
  unfold State.doSchedulerPlace
  split
  · refine State.Inv.getD (fun t e => ?_) h
    obtain ⟨_, _, hp⟩ := List.exists_of_findSome?_eq_some e
    exact h.placeItem hp
  · exact h

theorem State.Inv.doLogSchedSubmit {s : State} {ctx : Nat} (h : s.Inv) : (s.doLogSchedSubmit ctx).Inv := by
  unfold State.doLogSchedSubmit
  exact (h.ite h.withSched.enqueueReady).ite h.orReg

theorem State.Inv.grantPop {s : State} (h : s.Inv) : s.grantPop.Inv := by
  unfold State.grantPop
  exact h.withSched

theorem State.Inv.loadDirect {s : State} {n : Nat} {j : Job} {mask : BitVec 32} (h : s.Inv) : (s.loadDirect n j mask).Inv := by
  unfold State.loadDirect
  exact h.setReg.setReg.setReg2.setReg2.setReg2

theorem State.Inv.startGranted {s : State} {n : Nat} (h : s.Inv) : (s.startGranted n).Inv := by
  unfold State.startGranted
  split
  · exact h
  · split
    exacts [h, h.modDirect.ite (h.modDirect.loadDirect.doPreemptResume.syncCores.ite h.modDirect.loadDirect.doCoreStart.syncCores)]

theorem State.Inv.takeGrant {s : State} (h : s.Inv) : s.takeGrant.Inv := by
  unfold State.takeGrant
  split
  exacts [h, h.grantPop.modDirect.foldl fun _ _ h => h.startGranted]

theorem State.Inv.abortStreams {s : State} {job : Nat} (h : s.Inv) : (s.abortStreams job).Inv := by
  unfold State.abortStreams
  exact h.foldl fun _ _ h => h.foldl fun _ _ h => h.abortStream

theorem State.Inv.dropWork {s : State} {ctx : Nat} (h : s.Inv) : (s.dropWork ctx).Inv :=
  (h.withCores (List.length_map _)).withLog.withSched

theorem State.Inv.abortCores {s : State} {ctx : Nat} (h : s.Inv) : (s.abortCores ctx).Inv := by
  unfold State.abortCores
  exact h.foldl fun _ _ h => h.doCoreAbort

theorem State.Inv.startTeardown {s : State} {j : Job} {ok : Bool} {fault core : Nat} (h : s.Inv) : (s.startTeardown j ok fault core).Inv := by
  unfold State.startTeardown
  exact h.ite h.modCent.abortStreams.abortCores.dropWork.withPilot

theorem State.Inv.scrubFrames {s : State} {ctx job : Nat} (h : s.Inv) : (s.scrubFrames ctx job).Inv := by
  unfold State.scrubFrames
  exact h.foldl fun _ _ h => h.fillAfter.withPilot

theorem State.Inv.revokeAll {s : State} {ctx : Nat} (h : s.Inv) : (s.revokeAll ctx).Inv := by
  unfold State.revokeAll
  exact h.foldl fun _ _ h => (h.modCore.ite h.doSpdRevoke).ite h

theorem State.Inv.dropResults {s : State} {job : Nat} (h : s.Inv) : (s.dropResults job).Inv :=
  h.update (streams := mrising_map fun _ => rfl)

theorem State.Inv.releaseStale {s : State} {n : Nat} (h : s.Inv) : (s.releaseStale n).Inv := by
  unfold State.releaseStale
  exact h.releaseCore.ite h

theorem State.Inv.clearContext {s : State} {t : Teardown} (h : s.Inv) : (s.clearContext t).Inv := by
  unfold State.clearContext
  exact (h.foldl fun _ _ h => h.releaseStale).modCent.dropResults.hubPoke.invalidate.scrubFrames.withPilot

theorem State.Inv.unbindKey {s : State} {key : Nat} (h : s.Inv) :
    State.Inv { s.doRhbKeyClear key with pilot := { (s.doRhbKeyClear key).pilot with keyBind := mdel (s.doRhbKeyClear key).pilot.keyBind key } } :=
  h.doRhbKeyClear.withKeyBind (mrising_mdel _ _)

theorem State.Inv.freeContext {s : State} {t : Teardown} (h : s.Inv) : (s.freeContext t).Inv := by
  unfold State.freeContext
  extract_lets j ctx s1 s2 _ s3 s4 s5 s6 s7 s8
  have h3 : s3.Inv := h.modKv.ite h.modKv.unbindKey
  have h6 : s6.Inv := h3.revokeAll.countEnd.pushEvent.ite h3.revokeAll.countEnd.pushEvent
  have h8 : s8.Inv := h6.modCent.modJob
  clear_value s8
  exact ((h8.withCores (List.length_map _)).withRot (mrising_mdel _ _)).withPilot

theorem State.Inv.endTeardowns {s : State} (h : s.Inv) : s.endTeardowns.Inv := by
  unfold State.endTeardowns
  exact (h.foldl fun _ _ h => h.freeContext).ite h

theorem State.Inv.doContextTeardown {s : State} {ctx : Nat} (h : s.Inv) : (s.doContextTeardown ctx).Inv := by
  unfold State.doContextTeardown
  split
  · exact h
  · dsimp only
    split
    · refine State.Inv.endTeardowns ?_
      split
      exacts [h.startTeardown, h]
    · split
      exacts [h.startTeardown.clearContext.endTeardowns.ite h.startTeardown, h.clearContext.endTeardowns.ite h]

theorem State.Inv.unsound {s : State} {n : Nat} (h : s.Inv) : (s.unsound n).Inv := by
  unfold State.unsound
  exact h.withPilot

theorem State.Inv.toService {s : State} {n : Nat} (h : s.Inv) : (s.toService n).Inv := by
  unfold State.toService
  exact h.unsound.withPilot.orReg.recapacity.ite h.unsound.withPilot

theorem State.Inv.startSoundTest {s : State} {n : Nat} {t : SoundTest} (h : s.Inv) : (s.startSoundTest n t).Inv := by
  unfold State.startSoundTest
  split
  exacts [h.doSpdBist, h.doMxBist, h.doVxBist, h.engageBypass.modCore]

theorem State.Inv.soundNext {s : State} {n : Nat} (h : s.Inv) : (s.soundNext n).Inv := by
  unfold State.soundNext
  extract_lets
  split
  · exact h
  · split
    exacts [h.startSoundTest, h.toService, h]

theorem State.Inv.sound {s : State} {n : Nat} {ts : List SoundTest} (h : s.Inv) : (s.sound n ts).Inv := by
  unfold State.sound
  exact h.clrReg.withPilot.ite h.clrReg.withPilot

theorem State.Inv.soundRetire {s : State} {n : Nat} (h : s.Inv) : (s.soundRetire n).Inv := by
  unfold State.soundRetire
  exact h.releaseStale.unsound.retireCore

theorem State.Inv.retireBank {s : State} {n bank : Nat} (h : s.Inv) : (s.retireBank n bank).1.Inv := by
  unfold State.retireBank
  extract_lets v
  exact h.soundRetire.pair.ite_fst h.writeSpare.retireUnit.pair

theorem State.Inv.retireTested {s : State} {n k bank : Nat} (h : s.Inv) : (s.retireTested n k bank).1.Inv := by
  unfold State.retireTested
  exact h.retireBank.ite_fst (h.retireUnit.ite h).soundRetire.pair

theorem State.Inv.soundRest {s : State} {n : Nat} {r : List SoundTest} (h : s.Inv) : (s.soundRest n r).Inv := by
  unfold State.soundRest
  exact h.toService.ite h.withPilot.soundNext

theorem State.Inv.soundDone {s : State} {n kind bank : Nat} {pass : Bool} (h : s.Inv) : (s.soundDone n kind bank pass).Inv := by
  unfold State.soundDone
  split
  · exact h
  · split
    · split
      · exact h
      · split
        · split
          · exact h.soundRest
          · split
            · next heq5 =>
                have h5 := h.notePass.fst heq5
                split
                · exact h5.soundRest
                · split
                  · next heq7 =>
                      have h7 := (h5.soundRetire.pair.ite_fst h5.retireTested).fst heq7
                      exact h7.soundRest.ite h7
        · split
          · next heq4 =>
              have h4 := h.retireTested.fst heq4
              exact h4.soundRest.ite h4
    · exact h.retireBank.ite h

theorem State.Inv.doMxBistDone {s : State} {n : Nat} {pass : Bool} (h : s.Inv) : (s.doMxBistDone n pass).Inv := by
  unfold State.doMxBistDone
  split
  exacts [h.endMxBist.soundDone, h]

theorem State.Inv.doVxBistDone {s : State} {n : Nat} {pass : Bool} (h : s.Inv) : (s.doVxBistDone n pass).Inv := by
  unfold State.doVxBistDone
  split
  exacts [h.endVxBist.soundDone, h]

theorem State.Inv.doSpdBistDone {s : State} {n : Nat} {pass : Bool} (h : s.Inv) : (s.doSpdBistDone n pass).Inv := by
  unfold State.doSpdBistDone
  split
  exacts [h.endSpdBist.soundDone, h]

theorem State.Inv.doChainTestDone {s : State} {n : Nat} {pass : Bool} (h : s.Inv) : (s.doChainTestDone n pass).Inv := by
  unfold State.doChainTestDone
  split
  exacts [h.modCore.soundDone, h]

theorem State.Inv.stopBatches {s : State} {n : Nat} {ids : List Nat} (h : s.Inv) : (s.stopBatches n ids).Inv := by
  unfold State.stopBatches
  exact ((h.foldl fun _ _ h => h.doCoreAbort).withCores (List.length_map _)).withSched.foldl fun _ _ h => h.syncCores

theorem State.Inv.doLogSchedRedispatch {s : State} {n : Nat} (h : s.Inv) : (s.doLogSchedRedispatch n).Inv := by
  unfold State.doLogSchedRedispatch
  exact h.orReg.ite h.doCoreAbort.stopBatches

theorem State.Inv.redispatch1 {s : State} {id : Nat} (h : s.Inv) : (s.redispatch1 id).Inv := by
  unfold State.redispatch1
  split
  exacts [h, h.modBatch.ite h.modBatch.formBatch.bump]

theorem State.Inv.doRedispatchBatch {s : State} (h : s.Inv) : s.doRedispatchBatch.Inv := by
  unfold State.doRedispatchBatch
  split
  exacts [h, h.ite ((((h.withSched.foldl fun _ _ h => h.releaseStale).ite h.withSched).foldl
    fun _ _ h => h.redispatch1).sweepBatches.foldl fun _ _ h => h.dispatchHeld).soundNext]

theorem State.Inv.doRedispatchIdleTimeout {s : State} {n : Nat} (h : s.Inv) : (s.doRedispatchIdleTimeout n).Inv := by
  unfold State.doRedispatchIdleTimeout
  split
  exacts [h, h.askPower.askPower.ite h]

theorem State.Inv.stopCore {s : State} {n : Nat} {hw : Bool} {ids : List Nat} (h : s.Inv) : (s.stopCore n hw ids).Inv := by
  unfold State.stopCore
  exact h.doLogSchedRedispatch.ite h.doCoreAbort.stopBatches

theorem State.Inv.batchFault {s : State} {n id code : Nat} (h : s.Inv) : (s.batchFault n id code).Inv := by
  unfold State.batchFault
  extract_lets
  split
  · exact h.stopCore
  · split
    · split
      · exact h.modBatch.stopCore
      · split
        exacts [h.startTeardown.stopCore, h.stopCore]
    · split
      · exact h.modBatch.stopCore
      · split
        exacts [h.startTeardown.stopCore, h.stopCore]

theorem State.Inv.directFault {s : State} {n ctx code : Nat} {spill : Bool} (h : s.Inv) : (s.directFault n ctx code spill).Inv := by
  unfold State.directFault
  extract_lets
  split
  exacts [h.startTeardown.stopCore, h.stopCore]

theorem State.Inv.workFault {s : State} {n code : Nat} {ran : Option WorkItem} {spill : Bool} (h : s.Inv) : (s.workFault n code ran spill).Inv := by
  unfold State.workFault
  split
  exacts [h.batchFault, h.directFault, h.stopCore]

theorem State.Inv.coreFailure {s : State} {n : Nat} {ran : Option WorkItem} {spill : Bool} (h : s.Inv) : (s.coreFailure n ran spill).Inv := by
  unfold State.coreFailure
  exact h.sound.workFault

theorem State.Inv.doCoreAccessTimeout {s : State} {n : Nat} (h : s.Inv) : (s.doCoreAccessTimeout n).Inv := by
  unfold State.doCoreAccessTimeout
  exact h.withBus.coreFailure.ite h.withBus

theorem State.Inv.handleFault {s : State} {n : Nat} (h : s.Inv) : (s.handleFault n).Inv := by
  unfold State.handleFault
  exact (h.modCore.withSched.sound.ite h.modCore.withSched).workFault

theorem State.Inv.handleFlitError {s : State} {n : Nat} (h : s.Inv) : (s.handleFlitError n).Inv := by
  unfold State.handleFlitError
  exact h.modCore.sound.soundNext.ite h

theorem State.Inv.doFaultHandling {s : State} {n : Nat} (h : s.Inv) : (s.doFaultHandling n).Inv := by
  unfold State.doFaultHandling
  exact h.ite (h.handleFault.ite h.handleFlitError)

/-! ### Power -/

theorem State.Inv.answer {s : State} {ch status : Nat} {job : Word} {ws : List Word} (h : s.Inv) : (s.answer ch status job ws).Inv := by
  unfold State.answer
  exact h.respond

theorem State.Inv.ok {s : State} {ch : Nat} {ws : List Word} (h : s.Inv) : (s.ok ch ws).Inv := by
  unfold State.ok
  exact h.answer

theorem State.Inv.deny {s : State} {ch status : Nat} (h : s.Inv) : (s.deny ch status).Inv := by
  unfold State.deny
  exact h.answer

theorem State.Inv.loseCore {s : State} {n : Nat} (h : s.Inv) : (s.loseCore n).Inv := by
  unfold State.loseCore
  exact h.setCore.resetRegs.withSched

theorem State.Inv.loseStack {s : State} {h' : Nat} (h : s.Inv) : (s.loseStack h').Inv :=
  State.Inv.resetRegs (h.update (mem := cellsWf_filter _ _))

theorem State.Inv.loseFrontEnd {s : State} (h : s.Inv) : s.loseFrontEnd.Inv :=
  State.Inv.resetRegs (h.update (streams := mrising_map fun _ => rfl))

theorem State.Inv.losePort {s : State} {p : Nat} (h : s.Inv) : (s.losePort p).Inv := by
  unfold State.losePort
  exact h.modPort.resetRegs

theorem State.Inv.loseDomain {s : State} {d : Nat} (h : s.Inv) : (s.loseDomain d).Inv := by
  unfold State.loseDomain
  exact h.loseCore.ite (h.modCore.ite (h.loseStack.ite (h.losePort.ite (h.withFe.ite (h.withPilot.ite (h.withPilot.ite (h.loseFrontEnd.ite h)))))))

theorem State.Inv.upCore {s : State} {n : Nat} (h : s.Inv) : (s.upCore n).Inv := by
  unfold State.upCore
  dsimp only
  split
  exacts [h.loseCore.modCore.setReg.doSxShareWrite.orReg.ite h.loseCore.modCore.setReg.doSxShareWrite,
      h.loseCore.modCore.setReg.orReg.ite h.loseCore.modCore.setReg]

theorem State.Inv.upPort {s : State} {p : Nat} (h : s.Inv) : (s.upPort p).Inv := by
  unfold State.upPort
  exact h.losePort.setReg.orReg.setStatus.ite h.losePort.setReg

theorem State.Inv.upFrontEnd {s : State} (h : s.Inv) : s.upFrontEnd.Inv := by
  unfold State.upFrontEnd
  exact h.loseFrontEnd.setReg2.setReg2.setReg

theorem State.Inv.loadMemKeys {s : State} {h1 : Nat} (h : s.Inv) : (s.loadMemKeys h1).Inv := by
  unfold State.loadMemKeys
  exact h.withSecure

theorem State.Inv.upDomain {s : State} {d : Nat} (h : s.Inv) : (s.upDomain d).Inv := by
  unfold State.upDomain
  exact h.upCore.ite (h.modCore.ite (h.loadMemKeys.setReg.ite (h.upPort.ite (h.upFrontEnd.ite h))))

theorem State.Inv.zFill {s : State} {a n : Nat} (h : s.Inv) : (s.zFill a n).Inv :=
  h.update (mem := Mem.cellsWf_fillZ)

theorem State.Inv.loadRegions {s : State} (h : s.Inv) : s.loadRegions.Inv := by
  unfold State.loadRegions
  exact (h.foldl fun _ _ h => h.setReg.setReg).orReg

theorem State.Inv.loadBases {s : State} (h : s.Inv) : s.loadBases.Inv := by
  unfold State.loadBases
  exact h.setReg2.setReg2.setReg2.setReg2.setReg2.setReg2.setReg2.setReg2.setReg

theorem State.Inv.fillContexts {s : State} (h : s.Inv) : s.fillContexts.Inv := by
  unfold State.fillContexts
  exact h.hubPoke.hubPoke

theorem State.Inv.fillHub {s : State} (h : s.Inv) : s.fillHub.Inv := by
  unfold State.fillHub
  exact (h.foldl fun _ _ h => h.zFill).fillContexts

theorem State.Inv.startBringUp {s : State} (h : s.Inv) : s.startBringUp.Inv := by
  unfold State.startBringUp
  exact h.withPilot.askPower

theorem State.Inv.bringUp5 {s : State} (h : s.Inv) : s.bringUp5.Inv := by
  unfold State.bringUp5
  exact ((h.loadRegions.ite h).loadBases.fillHub.setReg.foldl fun _ _ h => h.sound.soundNext).withPilot.askPower

theorem State.Inv.bringUp6 {s : State} (h : s.Inv) : s.bringUp6.Inv := by
  unfold State.bringUp6
  exact h.withPilot.askPower

theorem State.Inv.startCluster {s : State} (h : s.Inv) : s.startCluster.Inv := by
  unfold State.startCluster
  split
  · refine State.Inv.withPilot ?_
    split
    exacts [h.zFill.poke, h]
  · exact h

theorem State.Inv.bringUp7 {s : State} (h : s.Inv) : s.bringUp7.Inv := by
  unfold State.bringUp7
  exact h.withPilot.startCluster.setReg.setReg.setReg.withRst.ite h.withPilot

theorem State.Inv.continueUp {s : State} (h : s.Inv) : s.continueUp.Inv := by
  unfold State.continueUp
  split
  · exact h
  · split
    exacts [h.bringUp5, h.bringUp6.ite h, h.bringUp7, h]

theorem State.Inv.powerAnswer {s : State} (h : s.Inv) : s.powerAnswer.Inv := by
  unfold State.powerAnswer
  split
  exacts [h, h.ite (h.withPilot.ite (h.withPilot.ok.ite h.withPilot.ok))]

theorem State.Inv.afterPower {s : State} (h : s.Inv) : s.afterPower.Inv := by
  unfold State.afterPower
  exact h.placePower.continueUp.powerAnswer

theorem State.Inv.pwrError {s : State} {m : Word} (h : s.Inv) : (s.pwrError m).Inv := by
  unfold State.pwrError
  exact h.orReg.withPwr

theorem State.Inv.pwrRequest {s : State} {on : Bool} {d : Nat} (h : s.Inv) : (s.pwrRequest on d).Inv := by
  unfold State.pwrRequest
  exact h.pwrError.ite (h.pwrError.ite h.withPwr)

theorem State.Inv.doPwrReqTurnOn {s : State} {d : Nat} (h : s.Inv) : (s.doPwrReqTurnOn d).Inv := by
  unfold State.doPwrReqTurnOn
  exact h.pwrRequest

theorem State.Inv.doPwrReqTurnOff {s : State} {d : Nat} (h : s.Inv) : (s.doPwrReqTurnOff d).Inv := by
  unfold State.doPwrReqTurnOff
  exact h.pwrRequest

theorem State.Inv.bankDone {s : State} {r : PwrReq} (h : s.Inv) : (s.bankDone r).Inv := by
  unfold State.bankDone
  exact h.ite h.modCore

theorem State.Inv.bankRefused {s : State} {r : PwrReq} (h : s.Inv) : (s.bankRefused r).Inv := by
  unfold State.bankRefused
  split
  · exact h
  · extract_lets
    split
    exacts [h.bankDone.coreFault, h]

theorem State.Inv.pwrComplete {s : State} (h : s.Inv) : s.pwrComplete.Inv := by
  unfold State.pwrComplete
  exact h.withPwr

theorem State.Inv.doPowerRequestJudged {s : State} (h : s.Inv) : s.doPowerRequestJudged.Inv := by
  unfold State.doPowerRequestJudged
  split
  exacts [h.withPwr.bankDone.pwrComplete.afterPower.ite (h.withPwr.pwrError.bankRefused.afterPower.ite (h.withPwr.withPwr.ite
      (h.withPwr.withPwr.withPwr.engageBypass.ite h.withPwr.withPwr.withPwr))), h]

theorem State.Inv.supplyOff {s : State} {d : Nat} (h : s.Inv) : (s.supplyOff d).Inv := by
  unfold State.supplyOff
  exact h.loseDomain.withPwr

theorem State.Inv.doPowerOffDrained {s : State} (h : s.Inv) : s.doPowerOffDrained.Inv := by
  unfold State.doPowerOffDrained
  split
  exacts [h.supplyOff.withPwr.ite h, h]

theorem State.Inv.doDomainTransitionComplete {s : State} (h : s.Inv) : s.doDomainTransitionComplete.Inv := by
  unfold State.doDomainTransitionComplete
  split
  exacts [h, h.ite ((h.withPwr.upDomain.ite h.withPwr).bankDone.pwrComplete.afterPower.soundNext.ite
      (h.withPwr.upDomain.ite h.withPwr).bankDone.pwrComplete.afterPower)]

theorem State.Inv.afterStackFail {s : State} {h1 : Nat} (h : s.Inv) : (s.afterStackFail h1).Inv := by
  unfold State.afterStackFail
  exact ((h.retireUnit.askPower.foldl fun _ _ h => h.abortStream).foldl fun _ _ h => h.startTeardown).foldl fun _ _ h => h.setCapacity

theorem State.Inv.doHbmFail {s : State} {h1 : Nat} (h : s.Inv) : (s.doHbmFail h1).Inv := by
  unfold State.doHbmFail
  exact h.ite (h.orReg.setReg.afterStackFail.ite h.orReg.setReg)

theorem State.Inv.doStackTimeout {s : State} {h1 : Nat} (h : s.Inv) : (s.doStackTimeout h1).Inv := by
  unfold State.doStackTimeout
  exact h.doHbmFail.ite h

theorem State.Inv.doHbmTestDone {s : State} {h1 badLines : Nat} (h : s.Inv) : (s.doHbmTestDone h1 badLines).Inv := by
  unfold State.doHbmTestDone
  split
  · extract_lets
    split
    · exact h.endHbmTest.doHbmFail
    · split
      · split
        · next heq3 =>
            have h3 := h.endHbmTest.notePass.fst heq3
            exact h3.doHbmFail.ite h3
      · exact h.endHbmTest
  · exact h

theorem State.Inv.dropUpperOn {s : State} {n : Nat} (h : s.Inv) : (s.dropUpperOn n).Inv := by
  unfold State.dropUpperOn
  split
  exacts [h.withPwr.pwrError.bankRefused.afterPower.ite h, h]

theorem State.Inv.coreLost {s : State} {n : Nat} (h : s.Inv) : (s.coreLost n).Inv := by
  unfold State.coreLost
  exact h.dropUpperOn.supplyOff.supplyOff.coreFailure.ite h.dropUpperOn.supplyOff.supplyOff.withPilot

theorem State.Inv.doUnrequestedPowerLoss {s : State} {d : Nat} (h : s.Inv) : (s.doUnrequestedPowerLoss d).Inv := by
  unfold State.doUnrequestedPowerLoss
  exact (h.coreLost.ite (h.supplyOff.doHbmFail.ite h.supplyOff)).ite h

/-! ### The front end -/

theorem State.Inv.ringFill {s : State} {k : Nat} {x : Word} {bs : List Byte} (h : s.Inv) : (s.ringFill k x bs).Inv := by
  unfold State.ringFill
  exact h.foldl fun _ _ h => h.hubPoke

theorem State.Inv.toCluster {s : State} {port : Nat} {bs : List Byte} (h : s.Inv) : (s.toCluster port bs).Inv := by
  unfold State.toCluster
  exact h.bump.bump.ite h.bump.ringFill.hubPokeW

theorem State.Inv.doClusterFrameTransmit {s : State} {port : Nat} (h : s.Inv) : (s.doClusterFrameTransmit port).Inv := by
  unfold State.doClusterFrameTransmit
  exact h.ite (h.foldl fun _ _ h => h.hubNote).hubPokeW.transmit

theorem State.Inv.spend {s : State} {i n : Nat} (h : s.Inv) : (s.spend i n).Inv := by
  unfold State.spend
  exact h.modSctx.modStrm

theorem State.Inv.refuse {s : State} {i : Nat} {seq : Word} {peer : Peer} {status counter : Nat} (h : s.Inv) :
    (s.refuse i seq peer status counter).Inv := by
  unfold State.refuse
  exact h.bump.putSctx.sendAck

theorem State.Inv.acceptWrite {s : State} {i : Nat} {c : Chunk} (h : s.Inv) : (s.acceptWrite i c).Inv := by
  unfold State.acceptWrite
  dsimp only
  split
  · exact h.hubXlate.hubXlate.hubFail
  · next heq =>
    split
    · exact h.hubXlate.hubXlate.hubFail
    · next heq1 => exact ((h.hubXlate.hubXlate.vwrite heq).vwrite heq1).putSctx.bump.modStrm

theorem State.Inv.acceptChunk {s : State} {i : Nat} {c : Chunk} (h : s.Inv) : (s.acceptChunk i c).Inv := by
  unfold State.acceptChunk
  exact h.refuse.ite (h.refuse.ite (h.refuse.ite (h.refuse.ite h.acceptWrite)))

theorem State.Inv.holdChunk {s : State} {i : Nat} {c : Chunk} (h : s.Inv) : (s.holdChunk i c).Inv := by
  unfold State.holdChunk
  exact h.refuse.ite (h.foldl fun _ _ h => h.hubPoke).withFe.bump

theorem State.Inv.arrived {s : State} {i : Nat} {p : Peer} (h : s.Inv) : (s.arrived i p).Inv := by
  unfold State.arrived
  exact h.ite h.modStrm

theorem State.Inv.chunkComplete {s : State} {i : Nat} {c : Chunk} (h : s.Inv) : (s.chunkComplete i c).Inv := by
  unfold State.chunkComplete
  exact h.arrived.refuse.ite (h.arrived.refuse.ite (h.arrived.refuse.ite (h.arrived.spend.acceptChunk.ite h.arrived.holdChunk)))

theorem State.Inv.rtpCloseCheck {s : State} {i : Nat} (h : s.Inv) : (s.rtpCloseCheck i).Inv := by
  unfold State.rtpCloseCheck
  exact h.putStrm.closeSettle.ite h

theorem State.Inv.afterHold {s : State} {i : Nat} (h : s.Inv) : (s.afterHold i).Inv := by
  unfold State.afterHold
  exact h.rtpCloseCheck.closeSettle

theorem State.Inv.doHeldChunkRelease {s : State} {i : Nat} (h : s.Inv) : (s.doHeldChunkRelease i).Inv := by
  unfold State.doHeldChunkRelease
  split
  exacts [h, h.spend.withFe.acceptChunk.afterHold.ite h]

theorem State.Inv.doHoldTimeout {s : State} {i : Nat} (h : s.Inv) : (s.doHoldTimeout i).Inv := by
  unfold State.doHoldTimeout
  split
  exacts [h, ((h.withFe.refuse.foldl fun _ _ h => h.refuse).ite h.withFe.refuse).afterHold.ite h]

theorem State.Inv.doChunkAccepted {s : State} {i : Nat} (h : s.Inv) : (s.doChunkAccepted i).Inv := by
  unfold State.doChunkAccepted
  split
  exacts [h, h.modStrm.sendAck.closeSettle]

theorem State.Inv.rtpCloseOpen {s : State} {i : Nat} (h : s.Inv) : (s.rtpCloseOpen i).Inv := by
  unfold State.rtpCloseOpen
  exact h.putStrm.bump.chunkComplete

theorem State.Inv.rtpDrain {fuel : Nat} {s : State} {k : Nat} (h : s.Inv) : (State.rtpDrain fuel s k).Inv := by
  induction fuel generalizing s k with
  | zero =>
    rw [State.rtpDrain]
    exact h
  | succ m ih =>
    rw [State.rtpDrain]
    exact (ih h.rtpCloseOpen).ite h

theorem State.Inv.rtpPlace {s : State} {i : Nat} {peer : Peer} {p : Rtp} (h : s.Inv) : (s.rtpPlace i peer p).Inv := by
  unfold State.rtpPlace
  exact h.putStrm.bump.ite h.putStrm.rtpDrain

theorem State.Inv.doRtpJitterClose {s : State} {i : Nat} (h : s.Inv) : (s.doRtpJitterClose i).Inv := by
  unfold State.doRtpJitterClose
  extract_lets
  split
  exacts [h.rtpCloseOpen.rtpDrain.ite h, h]

theorem State.Inv.doRtpSilenceClose {s : State} {i : Nat} (h : s.Inv) : (s.doRtpSilenceClose i).Inv := by
  unfold State.doRtpSilenceClose
  extract_lets
  split
  exacts [(h.rtpCloseOpen.ite h).modStrm.ite h, h]

theorem State.Inv.rtpStartClose {s : State} {i : Nat} (h : s.Inv) : (s.rtpStartClose i).Inv := by
  unfold State.rtpStartClose
  exact (h.rtpCloseOpen.ite h).modSctx.modStrm.rtpCloseCheck

theorem State.Inv.refusePast {s : State} {i : Nat} {seq : Word} (h : s.Inv) : (s.refusePast i seq).Inv := by
  unfold State.refusePast
  exact h.withFe.foldl fun _ _ h => h.refuse

theorem State.Inv.beginClose {s : State} {i : Nat} {seq : Word} (h : s.Inv) : (s.beginClose i seq).Inv := by
  unfold State.beginClose
  exact h.rtpStartClose.ite h.refusePast.startClose

theorem State.Inv.doMacFrameReceive {s : State} {p : Nat} {f : NetFrame} (h : s.Inv) : (s.doMacFrameReceive p f).Inv := by
  unfold State.doMacFrameReceive
  exact h.ite (h.bump.ite h.withFe)

theorem State.Inv.pushItem {s : State} {p : Nat} {i : Item} (h : s.Inv) : (s.pushItem p i).Inv := by
  unfold State.pushItem
  exact h.withFe

theorem State.Inv.parseVsf {s : State} {p : Nat} {f : NetFrame} {d : Datagram} (h : s.Inv) : (s.parseVsf p f d).Inv := by
  unfold State.parseVsf
  split
  exacts [h.bump, h.bump.sendAck.ite (h.pushItem.ite h.toCluster)]

theorem State.Inv.parseRtp {s : State} {p : Nat} {f : NetFrame} {d : Datagram} (h : s.Inv) : (s.parseRtp p f d).Inv := by
  unfold State.parseRtp
  split
  exacts [h.toCluster, h.bump.ite (h.pushItem.ite h.toCluster)]

theorem State.Inv.doFeDatagramParse {s : State} {p : Nat} (h : s.Inv) : (s.doFeDatagramParse p).Inv := by
  unfold State.doFeDatagramParse
  split
  · exact h
  · extract_lets
    split
    exacts [h.withFe.toCluster, h.withFe.bump.ite (h.withFe.parseVsf.ite h.withFe.parseRtp)]

theorem State.Inv.takeItem {s : State} {p : Nat} (h : s.Inv) : (s.takeItem p).Inv := by
  unfold State.takeItem
  exact h.withFe

theorem State.Inv.doRtpPacket {s : State} {p : Nat} (h : s.Inv) : (s.doRtpPacket p).Inv := by
  unfold State.doRtpPacket
  split
  · extract_lets
    split
    · exact h.takeItem.parseRtp
    · split
      exacts [h.takeItem.bump, h.takeItem.rtpPlace]
  · exact h

theorem State.Inv.addFragment {s : State} {i : Nat} {peer : Peer} {v : Vsf} (h : s.Inv) : (s.addFragment i peer v).Inv := by
  unfold State.addFragment
  exact h.bump.ite (h.putStrm.ite h.putStrm.chunkComplete)

theorem State.Inv.takeData {s : State} {i : Nat} {peer : Peer} {v : Vsf} (h : s.Inv) : (s.takeData i peer v).Inv := by
  unfold State.takeData
  exact h.bump.ite (h.arrived.refuse.ite (h.arrived.refuse.ite (h.arrived.bump.sendAck.ite (h.arrived.bump.ite
      (h.arrived.refuse.ite h.addFragment)))))

theorem State.Inv.takeRack {s : State} {i : Nat} {v : Vsf} (h : s.Inv) : (s.takeRack i v).Inv := by
  unfold State.takeRack
  exact (h.putStrm.modSctx.ite h.putStrm).closeSettle

theorem State.Inv.takeClose {s : State} {i : Nat} {v : Vsf} (h : s.Inv) : (s.takeClose i v).Inv := by
  unfold State.takeClose
  split
  exacts [h.freeStream, h.bump, h.beginClose]

theorem State.Inv.doVsfData {s : State} {p : Nat} (h : s.Inv) : (s.doVsfData p).Inv := by
  unfold State.doVsfData
  split
  exacts [h, h.takeItem.takeData.ite h.takeItem.bump.sendAck]

theorem State.Inv.doVsfRack {s : State} {p : Nat} (h : s.Inv) : (s.doVsfRack p).Inv := by
  unfold State.doVsfRack
  split
  exacts [h, h.takeItem.bump.sendAck.ite (h.takeItem.takeRack.ite h.takeItem.bump)]

theorem State.Inv.doVsfClose {s : State} {p : Nat} (h : s.Inv) : (s.doVsfClose p).Inv := by
  unfold State.doVsfClose
  split
  exacts [h, h.takeItem.takeClose.ite h.takeItem.bump.sendAck]

theorem State.Inv.takeLocal {s : State} {v : Vsf} (h : s.Inv) : (s.takeLocal v).Inv := by
  unfold State.takeLocal
  exact h.bump.sendAck.ite ((h.takeRack.ite h.bump).ite (h.bump.ite (h.takeData.ite h.takeClose)))

theorem State.Inv.doLocalFrameInject {s : State} (h : s.Inv) : s.doLocalFrameInject.Inv := by
  unfold State.doLocalFrameInject
  split
  · exact h
  · extract_lets
    split
    · exact h.hubNote.hubPokeW.bump
    · split
      exacts [h.hubNote.hubPokeW.bump, h.hubNote.hubPokeW.takeLocal]

theorem State.Inv.doLocalResultRingFree {s : State} {x : Word} (h : s.Inv) : (s.doLocalResultRingFree x).Inv := by
  unfold State.doLocalResultRingFree
  exact h.hubPokeW.drainLocal

/-! ### EPIAN -/

theorem State.Inv.serve {s : State} {ch op : Nat} {f : List Word → State → State} (h : s.Inv) (hf : ∀ q s, s.Inv → (f q s).Inv) :
    (s.serve ch op f).Inv := by
  unfold State.serve
  dsimp only
  split
  · split
    exacts [h.deny, hf _ _ h]
  · exact h

theorem State.Inv.withJob {s : State} {ch : Nat} {q : List Word} {any : Bool} {f : Job → State} (h : s.Inv) (hf : ∀ j, (f j).Inv) :
    (s.withJob ch q any f).Inv := by
  unfold State.withJob
  split
  · exact h.deny
  · exact h.deny.ite (hf _)

theorem State.Inv.withLive {s : State} {ch : Nat} {q : List Word} {f : Job → State} (h : s.Inv) (hf : ∀ j, (f j).Inv) :
    (s.withLive ch q f).Inv :=
  h.withJob fun j => (hf j).ite h.deny

theorem State.Inv.helloBody {ch : Nat} {x : List Word} {s : State} (h : s.Inv) : (State.helloBody ch x s).Inv := by
  unfold State.helloBody
  exact (h.withPilot.ite h).ok.flushMgmt.ite (h.withPilot.ite h).ok

theorem State.Inv.unitmapBody {ch : Nat} {q : List Word} {s : State} (h : s.Inv) : (State.unitmapBody ch q s).Inv := by
  unfold State.unitmapBody
  exact h.ok

theorem State.Inv.countsBody {ch : Nat} {q : List Word} {s : State} (h : s.Inv) : (State.countsBody ch q s).Inv := by
  unfold State.countsBody
  exact h.ok

theorem State.Inv.mapFresh {s t : State} {j : Job} {big w : Bool} {vas : List Nat} (h : s.Inv) (e : s.mapFresh j big w vas = some t) : t.Inv := by
  induction vas generalizing s with
  | nil =>
    cases e
    exact h
  | cons va r ih =>
    simp only [State.mapFresh] at e
    split at e
    · cases e
    · next hf =>
      split at e
      · cases e
      · next hm => exact ih ((h.takeFrame hf).mapPage hm) e

theorem State.Inv.mapFacet {s t : State} {j : Job} {va n : Nat} (h : s.Inv) (e : s.mapFacet j va n = some t) : t.Inv :=
  h.mapFresh e

theorem State.Inv.buildSpace {s t : State} {j : Job} (h : s.Inv) (e : s.buildSpace j = some t) : t.Inv := by
  unfold State.buildSpace at e
  split at e
  · cases e
  · next hf =>
    obtain ⟨_, h2, h3⟩ := Option.bind_eq_some_iff.mp e
    obtain ⟨_, h0, h1⟩ := Option.bind_eq_some_iff.mp h2
    have hprog := (h.takeFrame hf).hubPoke.mapFresh h0
    split at h1
    · exact (hprog.mapFresh h1).mapFresh h3
    · cases h1
      exact hprog.mapFresh h3

theorem State.Inv.jobCreateBody {ch : Nat} {q : List Word} {s : State} (h : s.Inv) : (State.jobCreateBody ch q s).Inv := by
  unfold State.jobCreateBody
  refine h.deny.ite (h.deny.ite (h.deny.ite ?_))
  split
  · exact h.deny
  · extract_lets j
    split
    · exact h.deny
    · next c _ _ t heq =>
      have ht : ((t.putCent c (newEntry j)).countCreate j.client).Inv := (h.buildSpace heq).putCent.countCreate
      refine (ht.update (keyBind := ?_)).revokeAll.answer
      show _ → mrising (if _ then _ else _) = true
      split
      exacts [id, mrising_mput _ _ _]

theorem State.Inv.fillPages {s : State} {ctx size : Nat} {x : List Nat} {x1 : List Byte} (h : s.Inv) : (s.fillPages ctx size x x1).Inv := by
  induction x generalizing s x1 with
  | nil =>
    rw [State.fillPages]
    exact h
  | cons x' l ih =>
    rw [State.fillPages]
    split
    exacts [ih h.poke, h]

theorem State.Inv.jobMapBody {ch : Nat} {q : List Word} {s : State} (h : s.Inv) : (State.jobMapBody ch q s).Inv := by
  unfold State.jobMapBody
  refine h.withLive fun j => ?_
  extract_lets big copy size va n src
  refine h.deny.ite (h.deny.ite (h.deny.ite (h.deny.ite ?_)))
  split
  · exact h.deny
  · next heq =>
    obtain ⟨_, hf, hm⟩ := Option.bind_eq_some_iff.mp heq
    have ht := (h.mapFresh hf).mapFacet hm
    exact (ht.noteRead.fillPages.ite ht).ok

theorem State.Inv.releasePages {s : State} {ctx va n : Nat} {ps : List (Nat × Page)} (h : s.Inv) : (s.releasePages ctx va n ps).Inv := by
  unfold State.releasePages
  refine (h.foldl fun _ _ h => h.unmapPage).invalidate.foldl fun s a h => ?_
  split
  exacts [h.withPilot.fillAfter, h]

theorem State.Inv.jobUnmapBody {ch : Nat} {q : List Word} {s : State} (h : s.Inv) : (State.jobUnmapBody ch q s).Inv := by
  unfold State.jobUnmapBody
  exact h.withLive (fun _ => h.deny.ite (h.deny.ite h.releasePages.ok))

theorem State.Inv.jobDestroyBody {ch : Nat} {q : List Word} {s : State} (h : s.Inv) : (State.jobDestroyBody ch q s).Inv := by
  unfold State.jobDestroyBody
  refine h.withJob fun j => h.deny.ite (State.Inv.ok ?_)
  exact ((h.startTeardown.foldl fun _ _ h => h.abortStream.freeStream).foldl fun _ _ h => h.putMslot).update (slots := mrising_filter _ _)

theorem State.Inv.listPostBody {ch : Nat} {q : List Word} {s : State} (h : s.Inv) : (State.listPostBody ch q s).Inv := by
  unfold State.listPostBody
  exact h.withLive (fun _ => h.deny.ite (h.deny.ite (h.deny.ite h.modJob.doLogSchedSubmit.ok)))

theorem State.Inv.powerFor {s : State} {ch : Nat} {on : Bool} {ds : List Nat} (h : s.Inv) : (s.powerFor ch on ds).Inv := by
  unfold State.powerFor
  exact h.withPilot.askPower.powerAnswer

theorem State.Inv.powerSetBody {ch : Nat} {q : List Word} {s : State} (h : s.Inv) : (State.powerSetBody ch q s).Inv := by
  unfold State.powerSetBody
  exact h.powerFor.ite (h.deny.ite h.powerFor)

theorem State.Inv.powerStandbyBody {ch : Nat} {q : List Word} {s : State} (h : s.Inv) : (State.powerStandbyBody ch q s).Inv := by
  unfold State.powerStandbyBody
  exact (h.deny.ite h.withPilot.powerFor).ite (h.ok.ite h.withPilot.startBringUp.powerAnswer)

theorem State.Inv.partitionQueryBody {ch : Nat} {q : List Word} {s : State} (h : s.Inv) : (State.partitionQueryBody ch q s).Inv := by
  unfold State.partitionQueryBody
  exact h.deny.ite h.ok

theorem State.Inv.partitionSharesBody {ch : Nat} {q : List Word} {s : State} (h : s.Inv) : (State.partitionSharesBody ch q s).Inv := by
  unfold State.partitionSharesBody
  exact h.deny.ite (h.deny.ite (h.deny.ite (h.foldl fun _ _ h => h.doSxShareWrite.ite h).ok))

/-! ### SPDM -/

theorem State.Inv.modSpdm {s : State} {ch : Nat} {f : SpdmConn → SpdmConn} (h : s.Inv) : (s.modSpdm ch f).Inv :=
  h.update (spdm := (List.length_modify f s.pilot.spdm ch).trans)

theorem State.Inv.eraseUnbound {s : State} {ch : Nat} (h : s.Inv) : (s.eraseUnbound ch).Inv :=
  h.foldl fun _ _ h => h.unbindKey

theorem State.Inv.closeSession {s : State} {ch : Nat} (h : s.Inv) : (s.closeSession ch).Inv := by
  unfold State.closeSession
  exact h.ite h.modSpdm.eraseUnbound

theorem State.Inv.doSessionHeartbeatTimeout {s : State} {ch : Nat} (h : s.Inv) : (s.doSessionHeartbeatTimeout ch).Inv := by
  unfold State.doSessionHeartbeatTimeout
  split
  exacts [h.closeSession.ite h, h]

theorem State.Inv.spdmVersion {s : State} {ch : Nat} {m : List Byte} (h : s.Inv) : (s.spdmVersion ch m).1.Inv := by
  unfold State.spdmVersion
  exact h.modSpdm.pair

theorem State.Inv.spdmCapabilities {s : State} {ch : Nat} {m : List Byte} (h : s.Inv) : (s.spdmCapabilities ch m).1.Inv := by
  unfold State.spdmCapabilities
  exact h.pair.ite_fst h.modSpdm.pair

theorem State.Inv.spdmAlgorithms {s : State} {ch : Nat} {m : List Byte} (h : s.Inv) : (s.spdmAlgorithms ch m).1.Inv := by
  unfold State.spdmAlgorithms
  exact h.pair.ite_fst (h.pair.ite_fst h.modSpdm.pair)

theorem State.Inv.spdmNote {s : State} {ch : Nat} {m r : List Byte} (h : s.Inv) : (s.spdmNote ch m r).1.Inv := by
  unfold State.spdmNote
  exact h.modSpdm.pair

theorem State.Inv.spdmDigests {s : State} {ch : Nat} {m : List Byte} (h : s.Inv) : (s.spdmDigests ch m).1.Inv := by
  unfold State.spdmDigests
  exact h.spdmNote

theorem State.Inv.spdmCertificate {s : State} {ch : Nat} {m : List Byte} (h : s.Inv) : (s.spdmCertificate ch m).1.Inv := by
  unfold State.spdmCertificate
  exact h.pair.ite_fst h.spdmNote

theorem State.Inv.spdmChallenge {s : State} {ch : Nat} {m : List Byte} (h : s.Inv) : (s.spdmChallenge ch m).1.Inv := by
  unfold State.spdmChallenge
  exact h.pair.ite_fst h.spdmNote

theorem State.Inv.spdmMeasurements {s : State} {ch : Nat} {m : List Byte} (h : s.Inv) : (s.spdmMeasurements ch m).1.Inv := by
  unfold State.spdmMeasurements
  exact h.pair.ite_fst h.spdmNote

theorem State.Inv.spdmKeyExchange {s : State} {ch : Nat} {m : List Byte} (h : s.Inv) : (s.spdmKeyExchange ch m).1.Inv := by
  unfold State.spdmKeyExchange
  exact h.pair.ite_fst h.closeSession.modSpdm.pair

theorem State.Inv.spdmFinish {s : State} {ch : Nat} {macOk : Bool} (h : s.Inv) : (s.spdmFinish ch macOk).1.Inv := by
  unfold State.spdmFinish
  exact h.pair.ite_fst h.modSpdm.pair

theorem State.Inv.keyLoadMsg {s : State} {ch : Nat} {w : Word} {key : List Word} (h : s.Inv) : (s.keyLoadMsg ch w key).1.Inv := by
  unfold State.keyLoadMsg
  dsimp only
  split_ifs
  · exact h
  · exact h
  · exact h
  · exact h.modRhb (mrising_mput _ _ _) (mrising_mput _ _ _)
  · exact (h.modRhb (mrising_mput _ _ _) (mrising_mput _ _ _)).update (keyBind := mrising_mput _ _ _)

theorem State.Inv.keyClearMsg {s : State} {ch : Nat} {w : Word} (h : s.Inv) : (s.keyClearMsg ch w).1.Inv := by
  unfold State.keyClearMsg
  dsimp only
  split
  · exact h.ite_fst h.doRhbKeyClear
  · split
    · split_ifs
      exacts [h, h, h.unbindKey]
    · exact h

theorem State.Inv.keyTransfer {s : State} {ch : Nat} {m : List Byte} (h : s.Inv) : (s.keyTransfer ch m).1.Inv := by
  unfold State.keyTransfer
  exact h.pair.ite_fst (h.pair.ite_fst (h.keyLoadMsg.ite_fst h.keyClearMsg).pair)

theorem State.Inv.spdmPlain {s : State} {ch : Nat} {inSession macOk : Bool} {m : List Byte} (h : s.Inv) :
    (s.spdmPlain ch inSession macOk m).1.Inv := by
  unfold State.spdmPlain
  exact (h.spdmVersion.ite_fst h.pair).ite_fst (h.pair.ite_fst (h.spdmCapabilities.ite_fst (h.spdmAlgorithms.ite_fst ((h.pair.ite_fst
      (h.spdmDigests.ite_fst (h.spdmCertificate.ite_fst (h.spdmChallenge.ite_fst (h.spdmMeasurements.ite_fst
          (h.pair.ite_fst h.spdmKeyExchange)))))).ite_fst ((h.spdmFinish.ite_fst h.pair).ite_fst ((h.pair.ite_fst h.pair).ite_fst
              ((h.pair.ite_fst h.pair).ite_fst ((h.closeSession.pair.ite_fst h.pair).ite_fst h.pair))))))))

theorem State.Inv.spdmFit {s : State} {ch room : Nat} {r : List Byte} (h : s.Inv) : (s.spdmFit ch room r).1.Inv := by
  unfold State.spdmFit
  exact h.pair.ite_fst h.modSpdm.pair

theorem State.Inv.spdmChunkSend {s : State} {ch : Nat} {inSession macOk : Bool} {m : List Byte} (h : s.Inv) :
    (s.spdmChunkSend ch inSession macOk m).1.Inv := by
  unfold State.spdmChunkSend
  dsimp only
  split
  exacts [h.modSpdm.pair, h.modSpdm.pair.ite_fst (h.modSpdm.pair.ite_fst h.modSpdm.spdmPlain.spdmFit.pair)]

theorem State.Inv.spdmChunkGet {s : State} {ch : Nat} {m : List Byte} (h : s.Inv) : (s.spdmChunkGet ch m).1.Inv := by
  unfold State.spdmChunkGet
  split
  exacts [h.modSpdm.pair.ite_fst h.pair, h.pair]

theorem State.Inv.spdmReply {s : State} {ch : Nat} {inSession macOk : Bool} {m : List Byte} (h : s.Inv) :
    (s.spdmReply ch inSession macOk m).1.Inv := by
  unfold State.spdmReply
  exact h.pair.ite_fst ((h.keyTransfer.ite_fst h.pair).ite_fst (h.spdmChunkSend.ite_fst (h.spdmChunkGet.ite_fst h.spdmPlain.spdmFit)))

theorem State.Inv.spdmBody {macOk : Bool} {ch : Nat} {q : List Word} {s : State} (h : s.Inv) : (State.spdmBody macOk ch q s).Inv := by
  unfold State.spdmBody
  split
  · dsimp only
    split
    · exact h.spdmReply.ok
    · split
      exacts [h.modSpdm.spdmReply.ok.ite h.ok, h.ok]

theorem State.Inv.serveSpdm {s : State} {ch kind : Nat} {macOk : Bool} (h : s.Inv) : (s.serveSpdm ch kind macOk).Inv :=
  (h.serve fun _ _ h => h.spdmBody).ite h

/-! ### Models and adapters -/

theorem State.Inv.loadMap {s : State} {ctx va : Nat} {bs : List Byte} (h : s.Inv) : (s.loadMap ctx va bs).Inv := by
  unfold State.loadMap
  exact h.foldl fun _ _ h => h.ctxPoke.ite h

theorem State.Inv.modelLoadBody {ch : Nat} {q : List Word} {s : State} (h : s.Inv) : (State.modelLoadBody ch q s).Inv := by
  unfold State.modelLoadBody
  refine h.withLive fun j => h.deny.ite ?_
  split
  · exact h.deny
  · extract_lets va
    split
    · exact (h.ctxNote.ite h).deny
    · have hput {c a n x y i bs m ws} : ((((s.ctxNote c a n).loadMap c x y).ctxPoke c i bs).putMslot m ws).Inv := h.ctxNote.loadMap.ctxPoke.putMslot
      exact ((hput.ite hput.ctxPoke).withSlots (mrising_mput _ _ _)).ok

theorem State.Inv.modelUnloadBody {ch : Nat} {q : List Word} {s : State} (h : s.Inv) : (State.modelUnloadBody ch q s).Inv := by
  unfold State.modelUnloadBody
  refine h.withLive fun j => ?_
  dsimp only
  split
  · exact h.deny
  · exact h.deny.ite (h.putMslot.ctxPoke.withSlots (mrising_mdel _ _)).ok

theorem State.Inv.adapterPublishBody {ch : Nat} {q : List Word} {s : State} (h : s.Inv) : (State.adapterPublishBody ch q s).Inv := by
  unfold State.adapterPublishBody
  refine h.withLive fun j => ?_
  dsimp only
  split
  · exact h.deny
  · refine h.deny.ite ?_
    split
    · exact h.deny
    · exact (h.ctxPoke.ctxPoke.withSlots (mrising_mput _ _ _)).ok

theorem State.Inv.doAdapterReclaim {s : State} {m gen : Nat} (h : s.Inv) : (s.doAdapterReclaim m gen).Inv := by
  unfold State.doAdapterReclaim
  split
  · exact h
  · extract_lets ctx s1 s2
    have h1 : s1.Inv := h.foldl fun _ _ h => h.ctxNote.ctxPoke.ite h
    have h2 : s2.Inv := h1.releasePages
    exact h.ite (h2.withSlots (mrising_mput _ _ _))

theorem State.Inv.attachPage {s t : State} {p va pa : Nat} (h : s.Inv) (e : s.attachPage p va pa = some t) : t.Inv := by
  unfold State.attachPage at e
  dsimp only at e
  split at e
  · cases e
  · exact h.setCount.kvMapTo e

theorem State.Inv.attachAll {s t : State} {ctx i p base : Nat} {l : List Nat} (h : s.Inv) (e : s.attachAll ctx i p base l = some t) : t.Inv := by
  induction l generalizing s with
  | nil =>
    cases e
    exact h
  | cons x r ih =>
    simp only [State.attachAll] at e
    split at e
    · cases e
    · next heq =>
      obtain ⟨_, _, ha⟩ := Option.bind_eq_some_iff.mp heq
      exact ih (h.attachPage ha) e

theorem State.Inv.prefixAttachBody {ch : Nat} {q : List Word} {s : State} (h : s.Inv) : (State.prefixAttachBody ch q s).Inv := by
  unfold State.prefixAttachBody
  refine h.withLive (fun j => ?_)
  extract_lets
  split
  · exact h.deny
  · extract_lets
    split
    · exact h.deny
    · split
      · exact h.deny
      · split
        · exact h.deny
        · extract_lets
          split
          · exact h.deny
          · next heq4 => exact ((h.attachAll heq4).foldl fun _ _ h => h.ctxNote.ctxPoke).ok

/-! ### Streams -/

theorem State.Inv.mapPools {s t : State} {j : Job} {m i : Nat} (h : s.Inv) (e : s.mapPools j m i = some t) : t.Inv :=
  h.mapFresh e

theorem State.Inv.openStream {s : State} {i : Nat} {w : List Word} {x : Stream} (h : s.Inv) : (s.openStream i w x).Inv := by
  unfold State.openStream
  exact h.putSctx.putStrm.withLog.withPilot

theorem State.Inv.fillVersions {s : State} {j : Job} {m i : Nat} {img : List Byte} (h : s.Inv) : (s.fillVersions j m i img).Inv := by
  unfold State.fillVersions
  exact h.ctxPoke.ctxPoke

theorem State.Inv.streamAdmitBody {ch : Nat} {q : List Word} {s : State} (h : s.Inv) : (State.streamAdmitBody ch q s).Inv := by
  unfold State.streamAdmitBody
  refine h.withLive (fun j => ?_)
  extract_lets
  split
  · exact h.deny
  · split
    · exact h.deny
    · split
      · exact h.deny
      · split
        · exact h.deny
        · split
          · exact h.deny
          · split
            · exact h.deny
            · split
              · exact h.deny
              · split
                · exact h.deny
                · split
                  · exact h.deny
                  · next heq8 => exact (h.mapPools heq8).fillVersions.openStream.ok

theorem State.Inv.streamReserveBody {ch : Nat} {q : List Word} {s : State} (h : s.Inv) : (State.streamReserveBody ch q s).Inv := by
  unfold State.streamReserveBody
  refine h.withLive fun j => ?_
  extract_lets m
  split
  · exact h.deny
  · split
    · exact h.deny
    · split
      · exact h.deny
      · next heq => exact ((h.mapPools heq).withReserved (mrising_mput _ _ _)).ok

theorem State.Inv.unreserve {s : State} {i : Nat} (h : s.Inv) : (s.unreserve i).Inv :=
  h.withReserved (mrising_mdel _ _)

theorem State.Inv.streamCloseBody {ch : Nat} {q : List Word} {s : State} (h : s.Inv) : (State.streamCloseBody ch q s).Inv := by
  unfold State.streamCloseBody
  refine h.withJob (fun j => ?_)
  split
  · exact h.deny
  · refine State.Inv.ok ?_
    split
    exacts [h.freeStream, h.beginClose, h]

theorem State.Inv.streamAbortBody {ch : Nat} {q : List Word} {s : State} (h : s.Inv) : (State.streamAbortBody ch q s).Inv := by
  unfold State.streamAbortBody
  refine h.withJob (fun j => ?_)
  split
  exacts [h.deny, (h.freeStream.ite h.abortStream).ok]

theorem State.Inv.streamQueryBody {ch : Nat} {q : List Word} {s : State} (h : s.Inv) : (State.streamQueryBody ch q s).Inv := by
  unfold State.streamQueryBody
  refine h.withJob (fun j => ?_)
  split
  exacts [h.deny, h.ok]

theorem State.Inv.streamMigrateBody {ch : Nat} {q : List Word} {s : State} (h : s.Inv) : (State.streamMigrateBody ch q s).Inv := by
  unfold State.streamMigrateBody
  refine h.withLive (fun j => ?_)
  split
  exacts [h.deny, h.deny.ite (h.deny.ite h.modStrm.modRhb.ok)]

theorem State.Inv.sendMig {s : State} {o : MigOut} {block : Nat} {bs : List Byte} (h : s.Inv) : (s.sendMig o block bs).Inv := by
  unfold State.sendMig
  exact h.foldl fun _ _ h => h.pushFlow

theorem State.Inv.doMigrationTransfer {s : State} {i : Nat} (h : s.Inv) : (s.doMigrationTransfer i).Inv := by
  unfold State.doMigrationTransfer
  extract_lets
  split
  · exact h
  · split
    · exact h
    · split
      exacts [h.migFailed, (h.ctxNote.sendMig.foldl fun _ _ h => h.sendMig).modRhb]

theorem State.Inv.migGone {s : State} {i : Nat} (h : s.Inv) : (s.migGone i).Inv := by
  unfold State.migGone
  exact h.modSctx.modStrm.modRhb.closeSettle

theorem State.Inv.doMigack {s : State} {p : Nat} {t : RhbTx} {tagOk : Bool} (h : s.Inv) : (s.doMigack p t tagOk).Inv := by
  unfold State.doMigack
  refine h.receiveTx (fun s h => ?_)
  split
  exacts [h, h.cutFlow.pumpFlow.migEvent.pBump.migGone]

theorem State.Inv.migInEvent {s : State} {r : Reservation} {x : MigIn} {code : Nat} {first : Word} (h : s.Inv) :
    (s.migInEvent r x code first).Inv := by
  unfold State.migInEvent
  exact h.pushEvent

theorem State.Inv.modMigIn {s : State} {h1 : Word} {f : MigIn → MigIn} (h : s.Inv) : (s.modMigIn h1 f).Inv := by
  unfold State.modMigIn
  exact h.modRhb

theorem State.Inv.dropMigIn {s : State} {h1 : Word} (h : s.Inv) : (s.dropMigIn h1).Inv := by
  unfold State.dropMigIn
  exact h.modRhb.unreserve

theorem State.Inv.migAccept {s : State} {r : Reservation} {x : MigIn} (h : s.Inv) : (s.migAccept r x).Inv := by
  unfold State.migAccept
  exact h.ctxPoke.openStream.unreserve.modMigIn.pBump.migInEvent

theorem State.Inv.migBegin {s : State} {t : RhbTx} (h : s.Inv) : (s.migBegin t).1.Inv := by
  unfold State.migBegin
  dsimp only
  split
  exacts [h.modRhb.pair.ite_fst h.dropMigIn.migInEvent.sendNack.pair, h.modRhb.pair.ite_fst h.sendNack.pair]

theorem State.Inv.migPart {s : State} {t : RhbTx} {block : Nat} (h : s.Inv) : (s.migPart t block).1.Inv := by
  unfold State.migPart
  split
  exacts [h.sendNack.pair, h.modMigIn.pair]

theorem State.Inv.sendMigack {s : State} {t : RhbTx} (h : s.Inv) : (s.sendMigack t).Inv := by
  unfold State.sendMigack
  exact h.sendTx

theorem State.Inv.migCommitted {s : State} {t : RhbTx} (h : s.Inv) : (s.migCommitted t).1.Inv := by
  unfold State.migCommitted
  split
  · exact h.sendNack.pair
  · split
    · exact h.sendMigack.pair
    · split
      exacts [h.sendNack.pair, h.migAccept.sendMigack.pair]

theorem State.Inv.doMig {s : State} {p : Nat} {t : RhbTx} {tagOk : Bool} (h : s.Inv) : (s.doMig p t tagOk).Inv := by
  unfold State.doMig
  exact h.receiveTx (fun _ h => h.deliver (fun _ h => h.migBegin.ite_fst (h.migCommitted.ite_fst h.migPart))
      (fun _ h => h.dupTx.sendMigack.ite h.dupTx))

theorem State.Inv.doReservationLapse {s : State} {i : Nat} (h : s.Inv) : (s.doReservationLapse i).Inv := by
  unfold State.doReservationLapse
  split
  · exact h
  · split
    · exact h
    · split
      exacts [h.unreserve, (h.ite h.modMigIn.migInEvent).ite h.dropMigIn.migInEvent]

theorem State.Inv.streamSettleBody {ch : Nat} {q : List Word} {s : State} (h : s.Inv) : (State.streamSettleBody ch q s).Inv := by
  unfold State.streamSettleBody
  extract_lets
  split
  exacts [h.deny.ite (h.deny.ite ((h.migAccept.ok.ite h.deny).ite h.dropMigIn.migInEvent.ok)), h.deny.ite (h.deny.ite (h.ok.ite h.migGone.ok)),
      h.deny.ite (h.deny.ite (h.deny.ite (h.modStrm.modRhb.ok.ite h.migGone.ok)))]

theorem State.Inv.doMgmt {s : State} {p : Nat} {t : RhbTx} {tagOk : Bool} (h : s.Inv) : (s.doMgmt p t tagOk).Inv := by
  unfold State.doMgmt
  extract_lets s1 ws s2
  have h1 : s1.Inv := h.takeRx
  have h2 : s2.Inv := h1.foldl fun _ _ h => h.modChan
  exact h.ite (h1.pBump.ite (h1.sendMgmt.ite h2.withPilot.doMbxSend))

/-! ### The firmware -/

theorem State.Inv.fwWriteBody {ch : Nat} {q : List Word} {s : State} (h : s.Inv) : (State.fwWriteBody ch q s).Inv := by
  unfold State.fwWriteBody
  exact h.deny.ite h.flashWrite.ok

theorem State.Inv.writeHeader {s : State} {slot : Nat} (h : s.Inv) : (s.writeHeader slot).Inv := by
  unfold State.writeHeader
  exact h.flashWrite

theorem State.Inv.restartPilot {s : State} {cause : Nat} {ch : Option Nat} (h : s.Inv) : (s.restartPilot cause ch).Inv := by
  unfold State.restartPilot
  extract_lets t
  have ht : t.Inv := h.foldl fun _ _ h => h.closeSession
  clear_value t
  exact ht.withRst.withPilot

theorem State.Inv.fwActivateBody {sigOk : Bool} {ch : Nat} {x : List Word} {s : State} (h : s.Inv) : (State.fwActivateBody sigOk ch x s).Inv := by
  unfold State.fwActivateBody
  exact h.deny.ite (h.writeHeader.withPilot.ok.ite h.writeHeader.nextFree.withPilot.restartPilot)

theorem State.Inv.doPilotWatchdog {s : State} (h : s.Inv) : s.doPilotWatchdog.Inv := by
  unfold State.doPilotWatchdog
  exact h.restartPilot.ite h

theorem State.Inv.startFirmware {s : State} (h : s.Inv) : s.startFirmware.Inv := by
  unfold State.startFirmware
  exact h.withPilot.withRst.ite h.withPilot.withRst.startBringUp

theorem State.Inv.resumePilot {s : State} {cause : Nat} (h : s.Inv) : (s.resumePilot cause).Inv := by
  unfold State.resumePilot
  exact h.startFirmware.ite (h.withRst.ite ((((h.withRst.withPilot.foldl
    fun _ _ h => h.afterStackFail).foldl fun _ _ h => h.coreFailure).foldl fun _ _ h => h.releaseStale).endTeardowns.foldl fun _ _ h => h.soundNext))

theorem State.Inv.doPilotRestarted {s : State} (h : s.Inv) : s.doPilotRestarted.Inv := by
  unfold State.doPilotRestarted
  split
  · dsimp only
    split
    exacts [((h.withPilot.resumePilot.deny.ite h.withPilot.resumePilot.ok).ite h.withPilot.resumePilot).foldl fun _ _ h => h.pushEvent,
        h.withPilot.resumePilot.foldl fun _ _ h => h.pushEvent]
  · exact h

theorem State.Inv.restartCluster {s : State} {cause : Nat} (h : s.Inv) : (s.restartCluster cause).Inv := by
  unfold State.restartCluster
  exact (h.withPilot.ite h.withPilot.modChan).closeSession.ite (h.withPilot.ite h.withPilot.modChan).closeSession.askPower.askPower

theorem State.Inv.clusterRestartBody {ch : Nat} {x : List Word} {s : State} (h : s.Inv) : (State.clusterRestartBody ch x s).Inv := by
  unfold State.clusterRestartBody
  exact h.ok.restartCluster

theorem State.Inv.doClusterWatchdog {s : State} (h : s.Inv) : s.doClusterWatchdog.Inv := by
  unfold State.doClusterWatchdog
  exact h.restartCluster.ite h

theorem State.Inv.doClusterRestarted {s : State} (h : s.Inv) : s.doClusterRestarted.Inv := by
  unfold State.doClusterRestarted
  split
  exacts [(h.withPilot.startCluster.foldl fun _ _ h => h.pushEvent).ite h, h]

/-- Every server of a request keeps the form. -/
theorem State.Inv.serverOf {checkOk : Bool} {op ch : Nat} {q : List Word} {f : Nat → List Word → State → State} {s : State} (h : s.Inv)
    (e : serverOf checkOk op = some f) : (f ch q s).Inv := by
  unfold Machine.serverOf at e
  split at e <;> cases e
  exacts [h.helloBody, h.unitmapBody, h.countsBody, h.jobCreateBody, h.jobMapBody, h.jobUnmapBody, h.jobDestroyBody, h.listPostBody,
    h.modelLoadBody, h.modelUnloadBody, h.adapterPublishBody, h.prefixAttachBody, h.streamAdmitBody, h.streamCloseBody, h.streamAbortBody,
    h.streamQueryBody, h.streamReserveBody, h.streamMigrateBody, h.streamSettleBody, h.powerSetBody, h.powerStandbyBody,
    h.partitionQueryBody, h.partitionSharesBody, h.fwWriteBody, h.fwActivateBody, h.clusterRestartBody, h.spdmBody]

theorem State.Inv.serveAny {s : State} {checkOk : Bool} {ch : Nat} (h : s.Inv) : (s.serveAny checkOk ch).Inv := by
  unfold State.serveAny
  dsimp only
  split
  · exact h.deny
  · next heq => exact h.serverOf heq
  · exact h.deny

theorem State.Inv.doEpianRequestServe {s : State} {checkOk : Bool} (h : s.Inv) : (s.doEpianRequestServe checkOk).Inv := by
  unfold State.doEpianRequestServe
  split
  · exact h
  · extract_lets
    split
    · exact h.withPilot.serveAny
    · exact h.withPilot.serveAny
    · exact h.withPilot.serveAny
    · split
      exacts [h.withPilot, h.withPilot.withPilot.serveAny]

theorem State.Inv.resetChannel {s : State} {ch : Nat} (h : s.Inv) : (s.resetChannel ch).Inv := by
  unfold State.resetChannel
  exact h.modChan.closeSession.withPilot.foldl fun _ _ h => h.startTeardown

theorem State.Inv.doFunctionLevelReset {s : State} {fn : Nat} (h : s.Inv) : (s.doFunctionLevelReset fn).Inv := by
  unfold State.doFunctionLevelReset
  exact (h.foldl fun _ _ h => h.resetChannel).ite h.resetChannel

theorem State.Inv.doHostLinkChange {s : State} {up : Bool} (h : s.Inv) : (s.doHostLinkChange up).Inv := by
  unfold State.doHostLinkChange
  exact (h.withPilot.foldl fun _ _ h => ((h.signal.ite h).signal.ite (h.signal.ite h)).signal.ite ((h.signal.ite h).signal.ite
      (h.signal.ite h))).ite h.withPilot

theorem State.Inv.relayEvent {s : State} (h : s.Inv) : s.relayEvent.Inv := by
  unfold State.relayEvent
  split
  · exact h
  · extract_lets
    split
    exacts [h.evqPop.pushEvent.withPilot.ite h.evqPop.pushEvent, h.evqPop]

/-! ### Board, clocks and resets -/

theorem State.Inv.fullReset {s : State} {cause : Word} (h : s.Inv) : (s.fullReset cause).Inv := by
  obtain ⟨⟨_, hg, _, _⟩, ⟨_, hf⟩, _⟩ := h
  refine resetHasTheForm.update (gpio := fun _ => (List.length_map _).trans hg) (flash := fun _ => hf) (regs := fun _ => mrising_mputD _ _ _ _ rfl)

theorem State.Inv.secureBoot {s : State} {b : BootIn} (h : s.Inv) : (s.secureBoot b).Inv := by
  unfold State.secureBoot
  exact h.withSecure.withSecure

theorem State.Inv.boot {s : State} {b : BootIn} (h : s.Inv) : (s.boot b).Inv := by
  unfold State.boot
  have ht := h.secureBoot (b := b)
  generalize s.secureBoot b = t at ht
  extract_lets _ slot _ _ u
  have hu : u.Inv := ht.withRst.withPilot
  clear_value u
  exact hu.startFirmware.ite hu

theorem State.Inv.bootIf {s : State} {b : BootIn} (h : s.Inv) : (s.bootIf b).Inv := by
  unfold State.bootIf
  exact h.boot.ite h

theorem State.Inv.doResetNLow {s : State} (h : s.Inv) : s.doResetNLow.Inv := by
  unfold State.doResetNLow
  exact h.withRst.ite h.withRst.fullReset

theorem State.Inv.doResetNRelease {s : State} {b : BootIn} (h : s.Inv) : (s.doResetNRelease b).Inv := by
  unfold State.doResetNRelease
  exact h.withRst.bootIf

theorem State.Inv.doRailUndervoltage {s : State} {rails : Nat} (h : s.Inv) : (s.doRailUndervoltage rails).Inv := by
  unfold State.doRailUndervoltage
  split
  · exact h
  · exact (h.withRst.withRegs (mrising_mdel _ _)).fullReset.ite h.withRst.setReg.fullReset

theorem State.Inv.doRailRestored {s : State} {b : BootIn} (h : s.Inv) : (s.doRailRestored b).Inv := by
  unfold State.doRailRestored
  exact h.withRst.bootIf

theorem State.Inv.setRef {s : State} {k : Nat} {lost : Bool} (h : s.Inv) : (s.setRef k lost).Inv := by
  unfold State.setRef
  exact h.withRst

theorem State.Inv.setEth {s : State} {down : Bool} (h : s.Inv) : (s.setEth down).Inv := by
  unfold State.setEth
  exact h.withFe

theorem State.Inv.doRefclkLoss {s : State} {k : Nat} (h : s.Inv) : (s.doRefclkLoss k).Inv := by
  unfold State.doRefclkLoss
  have hs := h.setRef (k := k) (lost := true)
  exact hs.withRst.fullReset.ite (hs.withPilot.ite (hs.setEth.ite ((hs.linkDown.ite hs).ite hs)))

theorem State.Inv.doRefclkRestored {s : State} {k : Nat} {b : BootIn} (h : s.Inv) : (s.doRefclkRestored k b).Inv := by
  unfold State.doRefclkRestored
  have hs := h.setRef (k := k) (lost := false)
  exact hs.withRst.bootIf.ite (hs.setEth.ite hs)

theorem State.Inv.doPerstN {s : State} {low : Bool} (h : s.Inv) : (s.doPerstN low).Inv := by
  unfold State.doPerstN
  exact h.withRst.withPilot.ite h.withRst

theorem State.Inv.doTemperatureSample {s : State} {readings : List Int} (h : s.Inv) : (s.doTemperatureSample readings).Inv := by
  unfold State.doTemperatureSample
  exact h.ite (h.withTherm.withTherm.withRst.fullReset.ite h.withTherm.withTherm)

theorem State.Inv.doPowerAverage {s : State} {watts : Nat} (h : s.Inv) : (s.doPowerAverage watts).Inv := by
  unfold State.doPowerAverage
  exact h.ite h.withTherm

theorem State.Inv.doGateDutyUpdate {s : State} (h : s.Inv) : s.doGateDutyUpdate.Inv := by
  unfold State.doGateDutyUpdate
  exact h.ite (h.bump.ite h).withTherm

theorem State.Inv.withPin {s : State} {n : Nat} {g : Gpio} (h : s.Inv) : State.Inv { s with gpio := s.gpio.set n g } :=
  h.update (gpio := List.length_set.trans)

theorem State.Inv.doGpioInputChange {s : State} {n : Nat} {level : Bool} (h : s.Inv) : (s.doGpioInputChange n level).Inv := by
  unfold State.doGpioInputChange
  exact h.ite (h.bump.ite h).withPin

theorem State.Inv.doGpioDebounceAccept {s : State} {n : Nat} (h : s.Inv) : (s.doGpioDebounceAccept n).Inv := by
  unfold State.doGpioDebounceAccept
  exact h.ite (h.withPin.orReg.withGpioLine.ite h.withPin)

theorem State.Inv.tapTo {s : State} {ir : Nat} {out : JtagOut} (h : s.Inv) : (s.tapTo ir out).Inv := by
  unfold State.tapTo
  exact h.withJtag

theorem State.Inv.doTapReset {s : State} (h : s.Inv) : s.doTapReset.Inv := by
  unfold State.doTapReset
  exact h.tapTo

theorem State.Inv.doIdcode {s : State} (h : s.Inv) : s.doIdcode.Inv :=
  h.tapTo.withJtag

theorem State.Inv.doSamplePreload {s : State} (h : s.Inv) : s.doSamplePreload.Inv := by
  unfold State.doSamplePreload
  exact h.tapTo

theorem State.Inv.doExtest {s : State} (h : s.Inv) : s.doExtest.Inv := by
  unfold State.doExtest
  exact h.tapTo

theorem State.Inv.doClamp {s : State} (h : s.Inv) : s.doClamp.Inv := by
  unfold State.doClamp
  exact h.tapTo

theorem State.Inv.doHighz {s : State} (h : s.Inv) : s.doHighz.Inv := by
  unfold State.doHighz
  exact h.tapTo

theorem State.Inv.doBypass {s : State} (h : s.Inv) : s.doBypass.Inv := by
  unfold State.doBypass
  exact h.tapTo

/-! ### Register accesses -/

theorem State.Inv.writeCoreCtrl {s : State} {n : Nat} {v : Word} (h : s.Inv) : (s.writeCoreCtrl n v).Inv := by
  unfold State.writeCoreCtrl
  exact h.plainWrite.doCoreStart.ite (h.plainWrite.doCoreAbort.ite h.plainWrite)

theorem State.Inv.writeCorePreempt {s : State} {n : Nat} {v : Word} (h : s.Inv) : (s.writeCorePreempt n v).Inv := by
  unfold State.writeCorePreempt
  exact (h.plainWrite.doPreemptRequest.ite h.plainWrite).doPreemptResume.ite (h.plainWrite.doPreemptRequest.ite h.plainWrite)

theorem State.Inv.writeCore {s : State} {n off : Nat} {v : Word} (h : s.Inv) : (s.writeCore n off v).Inv := by
  unfold State.writeCore
  exact h.writeCoreCtrl.ite (h.writeCorePreempt.ite ((h.doMxBist.ite h).ite ((h.doVxBist.ite h).ite ((h.doSpdBist.ite h.plainWrite).ite
      ((h.doSpdRevoke.ite h).ite (h.writeSpare.ite (h.doSxShareWrite.ite (h.plainWrite.modCore.ite h.plainWrite))))))))

theorem State.Inv.writeHub {s : State} {off : Nat} {v : Word} (h : s.Inv) : (s.writeHub off v).Inv := by
  unfold State.writeHub
  exact h.pwrRequest.ite (h.plainWrite.kvAdmit.ite (h.kvReqWrite.ite ((h.doLogSchedSubmit.ite h).ite
      ((h.doLogSchedRedispatch.ite h).ite h.plainWrite))))

theorem State.Inv.writeHbm {s : State} {h1 off : Nat} {v : Word} (h : s.Inv) : (s.writeHbm h1 off v).Inv := by
  unfold State.writeHbm
  exact (h.doHbmTest.ite h.plainWrite).ite ((h.doHbmXlatInv.ite h.setInvN).ite ((h.doHbmFillReq.ite h).ite ((h.doHbmFail.ite h).ite
      (h.doHbmRgnLock.ite (h.orReg.ite h.plainWrite)))))

theorem State.Inv.writeRhbCtrl {s : State} {p : Nat} {v : Word} (h : s.Inv) : (s.writeRhbCtrl p v).Inv := by
  unfold State.writeRhbCtrl
  exact (h.plainWrite.setStatus.modPort.ite (h.plainWrite.linkDown.ite h.plainWrite)).doRhbRetrain.ite (h.plainWrite.setStatus.modPort.ite
      (h.plainWrite.linkDown.ite h.plainWrite))

theorem State.Inv.writeRhb {s : State} {p off : Nat} {v : Word} (h : s.Inv) : (s.writeRhb p off v).Inv := by
  unfold State.writeRhb
  exact h.writeRhbCtrl.ite ((h.doRhbTest.ite h).ite (h.doRhbDevidWrite.ite (h.modRhb.ite (((h.doRhbKeyLoad.ite h).doRhbKeyClear.ite
      (h.doRhbKeyLoad.ite h)).ite (h.modRhb.ite h.plainWrite)))))

theorem State.Inv.writeMbxCtrl {s : State} {ch : Nat} {v : Word} (h : s.Inv) : (s.writeMbxCtrl ch v).Inv := by
  unfold State.writeMbxCtrl
  exact (h.modChan.signal.ite h.modChan).signal.ite (h.modChan.signal.ite h.modChan)

theorem State.Inv.writeMbx {s : State} {ch off : Nat} {v : Word} (h : s.Inv) : (s.writeMbx ch off v).Inv := by
  unfold State.writeMbx
  exact (h.modChan.ite h).ite ((h.doMbxSend.ite h).ite (h.writeMbxCtrl.ite (h.modChan.ite ((h.popEvent.ite h).ite (h.mbxReq.ite h)))))

theorem State.Inv.writeAt {s : State} {r : RegAt} {v : Word} (h : s.Inv) : (s.writeAt r v).Inv := by
  unfold State.writeAt
  split
  exacts [h.writeMbx, h.writeHub, h.writeRhb, h.writeHbm, h.writeCore]

theorem State.Inv.modBus {s : State} {f : Bus → Bus} (h : s.Inv) : (s.modBus f).Inv := by
  unfold State.modBus
  exact h.withBus

theorem State.Inv.writeReg {s : State} {r : RegAt} {v : Word} (h : s.Inv) : (s.writeReg r v).Inv := by
  unfold State.writeReg
  split
  · exact h.cBump
  · split
    · exact h.modBus
    · split
      · split
        exacts [h.modBus.writeAt.writeAt, h.writeAt]
      · exact h.writeAt

theorem State.Inv.busError {s : State} (h : s.Inv) : s.busError.Inv := by
  unfold State.busError
  exact h.modBus

theorem State.Inv.busOk {s : State} {v : Word} (h : s.Inv) : (s.busOk v).Inv := by
  unfold State.busOk
  exact h.modBus

theorem State.Inv.busRefused {s : State} {ag : Agent} (h : s.Inv) : (s.busRefused ag).Inv := by
  unfold State.busRefused
  exact h.busError.modBus

theorem State.Inv.memWrite {s : State} {m : MemAt} {width : Nat} {v : Word} (h : s.Inv) : (s.memWrite m width v).Inv := by
  unfold State.memWrite
  extract_lets
  split
  · exact (h.poke.busOk.ite h.poke.busError).ite h.busError
  · split
    · extract_lets
      split
      · next heq1 => exact (h.hubXlate.vwrite heq1).busOk
      · exact h.hubXlate.busError
    · exact h.busError

theorem State.Inv.memRead {s : State} {m : MemAt} {width : Nat} (h : s.Inv) : (s.memRead m width).Inv := by
  unfold State.memRead
  split
  · split
    · split
      exacts [h.noteRead.busOk, h.noteRead.busError]
    · exact h.busError
  · split
    · split
      exacts [h.ctxNote.busOk, h.ctxNote.busError]
    · exact h.busError

theorem State.Inv.busWrite {s : State} {ag : Agent} {addr width : Nat} {v : Word} (h : s.Inv) : (s.busWrite ag addr width v).Inv := by
  unfold State.busWrite
  split
  · exact h.busError
  · split
    · exact h.memWrite
    · split
      · exact h.busRefused
      · split
        exacts [h.busError, h.writeReg.busOk]

theorem State.Inv.readEffect {s : State} {ag : Agent} {r : RegAt} (h : s.Inv) : (s.readEffect ag r).Inv := by
  unfold State.readEffect
  exact (h.relayEvent.ite h.evqPop).ite ((h.takeGrant.ite h.grantPop).ite h)

theorem State.Inv.busRead {s : State} {ag : Agent} {addr width : Nat} (h : s.Inv) : (s.busRead ag addr width).Inv := by
  unfold State.busRead
  split
  · exact h.busError
  · split
    · exact h.memRead
    · split
      · exact h.busRefused
      · split
        exacts [h.busError, (h.readEffect.modBus.modBus.ite h.readEffect.modBus).busOk]

theorem State.Inv.doLogEvqPop {s : State} {ag : Agent} (h : s.Inv) : (s.doLogEvqPop ag).Inv := by
  unfold State.doLogEvqPop
  exact h.ite h.busRead

theorem State.Inv.doGrantPop {s : State} {ag : Agent} (h : s.Inv) : (s.doGrantPop ag).Inv := by
  unfold State.doGrantPop
  exact h.ite h.busRead

theorem State.Inv.doRegAccess {s : State} {dr : Nat} (h : s.Inv) : (s.doRegAccess dr).Inv := by
  unfold State.doRegAccess
  exact h.tapTo.withJtag.withJtag.ite (h.tapTo.withJtag.busWrite.ite h.tapTo.withJtag.busRead).withJtag

theorem State.Inv.smbusAck {s : State} {ok : Bool} (h : s.Inv) : (s.smbusAck ok).Inv := by
  unfold State.smbusAck
  exact h.withSmbus

theorem State.Inv.doSmbusBlockWrite {s : State} {off : Nat} {v : Word} {count : Nat} {pecOk : Bool} (h : s.Inv) :
    (s.doSmbusBlockWrite off v count pecOk).Inv := by
  unfold State.doSmbusBlockWrite
  exact h.smbusAck.ite h.busWrite.smbusAck

theorem State.Inv.doSmbusSetPointer {s : State} {off : Nat} {pecOk : Bool} (h : s.Inv) : (s.doSmbusSetPointer off pecOk).Inv := by
  unfold State.doSmbusSetPointer
  exact h.smbusAck.ite h.withSmbus.smbusAck

theorem State.Inv.doSmbusBlockRead {s : State} {count : Nat} (h : s.Inv) : (s.doSmbusBlockRead count).Inv := by
  unfold State.doSmbusBlockRead
  exact h.smbusAck.ite h.withSmbus.smbusAck

theorem State.Inv.doAlertResponse {s : State} (h : s.Inv) : s.doAlertResponse.Inv := by
  unfold State.doAlertResponse
  exact h.withSmbus.smbusAck.ite h.withSmbus.smbusAck

theorem State.Inv.doSmbusTimeout {s : State} (h : s.Inv) : s.doSmbusTimeout.Inv := by
  unfold State.doSmbusTimeout
  exact h.withSmbus

/-! ### Time without a command -/

theorem State.Inv.coreMicro {s : State} {n : Nat} (h : s.Inv) : (s.coreMicro n).Inv := by
  unfold State.coreMicro
  exact (h.refillBuckets.drainTakeQ.modCore.ite h.refillBuckets.drainTakeQ).startGranted.ite h

theorem State.Inv.idleTick {s : State} (h : s.Inv) : s.idleTick.Inv := by
  unfold State.idleTick
  exact h.withNow.foldl fun _ _ h => h.coreMicro

/-! ### Every command, and every step -/

/-- Every command answers a next state of the form: its effect is one of the operations above, on the unit that it addresses. -/
theorem State.Inv.exec {s : State} (h : s.Inv) (c : Instr) : ∃ t, exec c s = .next t ∧ t.Inv := by
  cases c with
  | registerWrite => exact ⟨_, rfl, h.busWrite⟩
  | lowWordReadCapture => exact ⟨_, rfl, h.busRead⟩
  | pwrReqTurnOn => exact ⟨_, rfl, h.ite h.doPwrReqTurnOn⟩
  | pwrReqTurnOff => exact ⟨_, rfl, h.ite h.doPwrReqTurnOff⟩
  | powerRequestJudged => exact ⟨_, rfl, h.ite h.doPowerRequestJudged⟩
  | powerOffDrained => exact ⟨_, rfl, h.ite h.doPowerOffDrained⟩
  | domainTransitionComplete => exact ⟨_, rfl, h.ite h.doDomainTransitionComplete⟩
  | macFrameReceive => exact ⟨_, rfl, (h.doMacFrameReceive.ite h).ite h⟩
  | feDatagramParse => exact ⟨_, rfl, (h.doFeDatagramParse.ite h).ite h⟩
  | rtpPacket => exact ⟨_, rfl, (h.doRtpPacket.ite h).ite h⟩
  | rtpJitterClose => exact ⟨_, rfl, h.doRtpJitterClose.ite h⟩
  | rtpSilenceClose => exact ⟨_, rfl, h.doRtpSilenceClose.ite h⟩
  | vsfData => exact ⟨_, rfl, (h.doVsfData.ite h).ite h⟩
  | vsfRack => exact ⟨_, rfl, (h.doVsfRack.ite h).ite h⟩
  | vsfClose => exact ⟨_, rfl, (h.doVsfClose.ite h).ite h⟩
  | localFrameInject => exact ⟨_, rfl, h.doLocalFrameInject.ite h⟩
  | heldChunkRelease => exact ⟨_, rfl, h.doHeldChunkRelease.ite h⟩
  | holdTimeout => exact ⟨_, rfl, h.doHoldTimeout.ite h⟩
  | chunkAccepted => exact ⟨_, rfl, h.doChunkAccepted.ite h⟩
  | tick => exact ⟨_, rfl, h.ite h.doTick⟩
  | heldBatchDispatch => exact ⟨_, rfl, h.ite h.doHeldBatchDispatch⟩
  | sliceCompletion => exact ⟨_, rfl, h.ite h.doSliceCompletion⟩
  | resultRelease => exact ⟨_, rfl, h.ite h.doResultRelease⟩
  | resultRetransmit => exact ⟨_, rfl, h.doResultRetransmit.ite h⟩
  | logEvqPop => exact ⟨_, rfl, h.doLogEvqPop⟩
  | coreStart => exact ⟨_, rfl, h.doCoreStart.ite h⟩
  | coreAbort => exact ⟨_, rfl, h.doCoreAbort.ite h⟩
  | coreBatchStart => exact ⟨_, rfl, h.doCoreBatchStart.ite h⟩
  | listFetchData => exact ⟨_, rfl, h.doListFetchData.ite h⟩
  | commandRetire => exact ⟨_, rfl, h.doCommandRetire.ite h⟩
  | nop => exact ⟨_, rfl, h.doNop.ite h⟩
  | fence => exact ⟨_, rfl, h.doFence.ite h⟩
  | fenceDrainComplete => exact ⟨_, rfl, h.doFenceDrainComplete.ite h⟩
  | barrierOpen => exact ⟨_, rfl, h.doBarrierOpen.ite h⟩
  | endList => exact ⟨_, rfl, h.doEnd.ite h⟩
  | endComplete => exact ⟨_, rfl, h.doEndComplete.ite h⟩
  | loop => exact ⟨_, rfl, h.doLoop.ite h⟩
  | endloop => exact ⟨_, rfl, h.doEndloop.ite h⟩
  | bankPower => exact ⟨_, rfl, h.doBankPower.ite h⟩
  | complete => exact ⟨_, rfl, h.doComplete.ite h⟩
  | loadw => exact ⟨_, rfl, h.doLoadw.ite h⟩
  | gemm => exact ⟨_, rfl, h.doGemm.ite h⟩
  | vop => exact ⟨_, rfl, h.doVop.ite h⟩
  | dmaIn => exact ⟨_, rfl, h.doDmaIn.ite h⟩
  | dmaOut => exact ⟨_, rfl, h.doDmaOut.ite h⟩
  | sync => exact ⟨_, rfl, h.doSync.ite h⟩
  | stepEnd => exact ⟨_, rfl, h.doStepEnd.ite h⟩
  | mxLoad => exact ⟨_, rfl, h.doMxLoad.ite h⟩
  | mxMatmul => exact ⟨_, rfl, h.doMxMatmul.ite h⟩
  | tilePush => exact ⟨_, rfl, h.doTilePush.ite h⟩
  | mxBist => exact ⟨_, rfl, h.doMxBist.ite h⟩
  | mxBistDone => exact ⟨_, rfl, h.doMxBistDone.continueUp.ite h⟩
  | mxAttn => exact ⟨_, rfl, h.doMxAttn.ite h⟩
  | vxChain => exact ⟨_, rfl, h.doVxChain.ite h⟩
  | vxReduce => exact ⟨_, rfl, h.doVxReduce.ite h⟩
  | vxScan => exact ⟨_, rfl, h.doVxScan.ite h⟩
  | vxLoad => exact ⟨_, rfl, h.doVxLoad.ite h⟩
  | vxStore => exact ⟨_, rfl, h.doVxStore.ite h⟩
  | vxAttn => exact ⟨_, rfl, h.doVxAttn.ite h⟩
  | vxBist => exact ⟨_, rfl, h.doVxBist.ite h⟩
  | vxBistDone => exact ⟨_, rfl, h.doVxBistDone.continueUp.ite h⟩
  | spdRevoke => exact ⟨_, rfl, h.doSpdRevoke.ite h⟩
  | spdRevokeDone => exact ⟨_, rfl, h.doSpdRevokeDone.ite h⟩
  | spdBist => exact ⟨_, rfl, h.doSpdBist.ite h⟩
  | spdBistDone => exact ⟨_, rfl, h.doSpdBistDone.continueUp.ite h⟩
  | sxArm => exact ⟨_, rfl, h.doSxArm.ite h⟩
  | transferEnter => exact ⟨_, rfl, h.doTransferEnter.ite h⟩
  | transferComplete => exact ⟨_, rfl, h.doTransferComplete.ite h⟩
  | generationStart => exact ⟨_, rfl, h.doGenerationStart.ite h⟩
  | sxWait => exact ⟨_, rfl, h.doSxWait.ite h⟩
  | sxShareWrite => exact ⟨_, rfl, h.doSxShareWrite.ite h⟩
  | sxNklSource => exact ⟨_, rfl, h.doSxNklSource.ite h⟩
  | sxNklTake => exact ⟨_, rfl, h.doSxNklTake.ite h⟩
  | flitArrive => exact ⟨_, rfl, h.doFlitArrive.ite h⟩
  | takeFirstTimeout => exact ⟨_, rfl, h.doTakeFirstTimeout.ite h⟩
  | takeGapTimeout => exact ⟨_, rfl, h.doTakeGapTimeout.ite h⟩
  | sxFacetEnc => exact ⟨_, rfl, h.doSxFacetEnc.ite h⟩
  | loupeBlockDecode => exact ⟨_, rfl, h.doLoupeBlockDecode.ite h⟩
  | pin => exact ⟨_, rfl, h.ite h.doPin⟩
  | unpin => exact ⟨_, rfl, h.ite h.doUnpin⟩
  | mapFresh => exact ⟨_, rfl, h.ite h.doMapFresh⟩
  | cow => exact ⟨_, rfl, h.ite h.doCow⟩
  | cowCompletion => exact ⟨_, rfl, h.ite h.doCowCompletion⟩
  | attach => exact ⟨_, rfl, h.ite h.doAttach⟩
  | unmap => exact ⟨_, rfl, h.ite h.doUnmap⟩
  | releaseCore => exact ⟨_, rfl, h.ite h.doReleaseCore⟩
  | poolLoad => exact ⟨_, rfl, h.ite h.doPoolLoad⟩
  | frameScrubbed => exact ⟨_, rfl, h.ite h.doFrameScrubbed⟩
  | schedulerPlace => exact ⟨_, rfl, h.ite h.doSchedulerPlace⟩
  | logSchedSubmit => exact ⟨_, rfl, h.ite h.doLogSchedSubmit⟩
  | grantPop => exact ⟨_, rfl, h.doGrantPop⟩
  | preemptRequest => exact ⟨_, rfl, h.doPreemptRequest.ite h⟩
  | preemptBoundary => exact ⟨_, rfl, h.doPreemptBoundary.ite h⟩
  | spillComplete => exact ⟨_, rfl, h.doSpillComplete.ite h⟩
  | preemptResume => exact ⟨_, rfl, h.doPreemptResume.ite h⟩
  | refillComplete => exact ⟨_, rfl, h.doRefillComplete.ite h⟩
  | sxWaitRemote => exact ⟨_, rfl, h.doSxWaitRemote.ite h⟩
  | watchdog => exact ⟨_, rfl, h.doWatchdog.ite h⟩
  | faultHandling => exact ⟨_, rfl, h.doFaultHandling.ite h⟩
  | coreAccessTimeout => exact ⟨_, rfl, h.doCoreAccessTimeout.ite h⟩
  | unrequestedPowerLoss => exact ⟨_, rfl, h.doUnrequestedPowerLoss⟩
  | logSchedRedispatch => exact ⟨_, rfl, h.ite h.doLogSchedRedispatch⟩
  | redispatchIdleTimeout => exact ⟨_, rfl, h.doRedispatchIdleTimeout.ite h⟩
  | redispatchBatch => exact ⟨_, rfl, h.doRedispatchBatch⟩
  | contextTeardown => exact ⟨_, rfl, h.doContextTeardown⟩
  | hbmXlatInv => exact ⟨_, rfl, h.ite h.doHbmXlatInv⟩
  | invalidationComplete => exact ⟨_, rfl, h.ite h.doInvalidationComplete.endTeardowns⟩
  | hbmFillReq => exact ⟨_, rfl, h.ite h.doHbmFillReq⟩
  | fillComplete => exact ⟨_, rfl, h.ite h.doFillComplete⟩
  | walkComplete => exact ⟨_, rfl, h.doWalkComplete.ite h⟩
  | patrolRead => exact ⟨_, rfl, h.doPatrolRead.ite h⟩
  | onDieEccPoll => exact ⟨_, rfl, h.doOnDieEccPoll.ite h⟩
  | hbmTest => exact ⟨_, rfl, h.doHbmTest.ite h⟩
  | hbmTestDone => exact ⟨_, rfl, h.doHbmTestDone.ite h⟩
  | stackTimeout => exact ⟨_, rfl, h.doStackTimeout.ite h⟩
  | hbmFail => exact ⟨_, rfl, h.ite (h.doHbmFail.ite h)⟩
  | hbmRgnLock => exact ⟨_, rfl, h.ite h.doHbmRgnLock⟩
  | rhumbFlitReceive => exact ⟨_, rfl, h.doRhumbFlitReceive.ite h⟩
  | laneTestDone => exact ⟨_, rfl, h.doLaneTestDone.ite h⟩
  | rhbTest => exact ⟨_, rfl, h.doRhbTest.ite h⟩
  | rhbRetrain => exact ⟨_, rfl, h.doRhbRetrain.ite h⟩
  | linkUpChange => exact ⟨_, rfl, h.doLinkUpChange.ite h⟩
  | portFail => exact ⟨_, rfl, h.doPortFail.ite h⟩
  | portRetryTraining => exact ⟨_, rfl, h.doPortRetryTraining.ite h⟩
  | put => exact ⟨_, rfl, h.doPut.ite h⟩
  | get => exact ⟨_, rfl, h.doGet.ite h⟩
  | getdata => exact ⟨_, rfl, h.doGetdata.ite h⟩
  | ack => exact ⟨_, rfl, h.doAck.ite h⟩
  | nack => exact ⟨_, rfl, h.doNack.ite h⟩
  | mig => exact ⟨_, rfl, h.doMig.ite h⟩
  | migack => exact ⟨_, rfl, h.doMigack.ite h⟩
  | mgmt => exact ⟨_, rfl, h.doMgmt.ite h⟩
  | transitForward => exact ⟨_, rfl, h.doTransitForward.ite h⟩
  | flowTimeout => exact ⟨_, rfl, h.doFlowTimeout⟩
  | ackTimer => exact ⟨_, rfl, h.doAckTimer⟩
  | migrationTransfer => exact ⟨_, rfl, h.doMigrationTransfer⟩
  | rhbDevidWrite => exact ⟨_, rfl, h.ite h.doRhbDevidWrite⟩
  | rhbKeyLoad => exact ⟨_, rfl, h.ite h.doRhbKeyLoad⟩
  | rhbKeyClear => exact ⟨_, rfl, h.ite h.doRhbKeyClear⟩
  | mbxSend => exact ⟨_, rfl, h.ite (h.doMbxSend.ite h)⟩
  | mbxEvtPop => exact ⟨_, rfl, h.ite (h.popEvent.ite h)⟩
  | epianRequestServe => exact ⟨_, rfl, h.doEpianRequestServe⟩
  | hello => exact ⟨_, rfl, h.serve fun _ _ => State.Inv.helloBody⟩
  | unitmapRead => exact ⟨_, rfl, h.serve fun _ _ => State.Inv.unitmapBody⟩
  | countsRead => exact ⟨_, rfl, h.serve fun _ _ => State.Inv.countsBody⟩
  | jobCreate => exact ⟨_, rfl, h.serve fun _ _ => State.Inv.jobCreateBody⟩
  | jobMap => exact ⟨_, rfl, h.serve fun _ _ => State.Inv.jobMapBody⟩
  | jobUnmap => exact ⟨_, rfl, h.serve fun _ _ => State.Inv.jobUnmapBody⟩
  | jobDestroy => exact ⟨_, rfl, h.serve fun _ _ => State.Inv.jobDestroyBody⟩
  | listPost => exact ⟨_, rfl, h.serve fun _ _ => State.Inv.listPostBody⟩
  | modelLoad => exact ⟨_, rfl, h.serve fun _ _ => State.Inv.modelLoadBody⟩
  | modelUnload => exact ⟨_, rfl, h.serve fun _ _ => State.Inv.modelUnloadBody⟩
  | adapterPublish => exact ⟨_, rfl, h.serve fun _ _ => State.Inv.adapterPublishBody⟩
  | adapterReclaim => exact ⟨_, rfl, h.doAdapterReclaim⟩
  | prefixAttach => exact ⟨_, rfl, h.serve fun _ _ => State.Inv.prefixAttachBody⟩
  | streamAdmit => exact ⟨_, rfl, h.serve fun _ _ => State.Inv.streamAdmitBody⟩
  | streamClose => exact ⟨_, rfl, h.serve fun _ _ => State.Inv.streamCloseBody⟩
  | streamAbort => exact ⟨_, rfl, h.serve fun _ _ => State.Inv.streamAbortBody⟩
  | streamQuery => exact ⟨_, rfl, h.serve fun _ _ => State.Inv.streamQueryBody⟩
  | streamReserve => exact ⟨_, rfl, h.serve fun _ _ => State.Inv.streamReserveBody⟩
  | reservationLapse => exact ⟨_, rfl, h.doReservationLapse⟩
  | streamMigrate => exact ⟨_, rfl, h.serve fun _ _ => State.Inv.streamMigrateBody⟩
  | streamSettle => exact ⟨_, rfl, h.serve fun _ _ => State.Inv.streamSettleBody⟩
  | powerSet => exact ⟨_, rfl, h.serve fun _ _ => State.Inv.powerSetBody⟩
  | powerStandby => exact ⟨_, rfl, h.serve fun _ _ => State.Inv.powerStandbyBody⟩
  | partitionQuery => exact ⟨_, rfl, h.serve fun _ _ => State.Inv.partitionQueryBody⟩
  | partitionShares => exact ⟨_, rfl, h.serve fun _ _ => State.Inv.partitionSharesBody⟩
  | fwWrite => exact ⟨_, rfl, h.serve fun _ _ => State.Inv.fwWriteBody⟩
  | fwActivate => exact ⟨_, rfl, h.serve fun _ _ => State.Inv.fwActivateBody⟩
  | clusterRestart => exact ⟨_, rfl, h.serve fun _ _ => State.Inv.clusterRestartBody⟩
  | clusterWatchdog => exact ⟨_, rfl, h.doClusterWatchdog⟩
  | clusterRestarted => exact ⟨_, rfl, h.doClusterRestarted⟩
  | clusterFrameTransmit => exact ⟨_, rfl, (h.doClusterFrameTransmit.ite h).ite h⟩
  | pilotWatchdog => exact ⟨_, rfl, h.doPilotWatchdog⟩
  | pilotRestarted => exact ⟨_, rfl, h.doPilotRestarted⟩
  | spdm => exact ⟨_, rfl, h.serve fun _ _ => State.Inv.spdmBody⟩
  | getVersion => exact ⟨_, rfl, h.serveSpdm⟩
  | getCapabilities => exact ⟨_, rfl, h.serveSpdm⟩
  | negotiateAlgorithms => exact ⟨_, rfl, h.serveSpdm⟩
  | getDigests => exact ⟨_, rfl, h.serveSpdm⟩
  | getCertificate => exact ⟨_, rfl, h.serveSpdm⟩
  | challenge => exact ⟨_, rfl, h.serveSpdm⟩
  | getMeasurements => exact ⟨_, rfl, h.serveSpdm⟩
  | keyExchange => exact ⟨_, rfl, h.serveSpdm⟩
  | finish => exact ⟨_, rfl, h.serveSpdm⟩
  | heartbeat => exact ⟨_, rfl, h.serveSpdm⟩
  | keyUpdate => exact ⟨_, rfl, h.serveSpdm⟩
  | endSession => exact ⟨_, rfl, h.serveSpdm⟩
  | chunkSend => exact ⟨_, rfl, h.serveSpdm⟩
  | chunkGet => exact ⟨_, rfl, h.serveSpdm⟩
  | sessionHeartbeatTimeout => exact ⟨_, rfl, h.doSessionHeartbeatTimeout⟩
  | keyLoad => exact ⟨_, rfl, h.serveSpdm⟩
  | keyClear => exact ⟨_, rfl, h.serveSpdm⟩
  | keyStatus => exact ⟨_, rfl, h.serveSpdm⟩
  | smbusBlockWrite => exact ⟨_, rfl, h.doSmbusBlockWrite⟩
  | smbusSetPointer => exact ⟨_, rfl, h.doSmbusSetPointer⟩
  | smbusBlockRead => exact ⟨_, rfl, h.doSmbusBlockRead⟩
  | alertResponse => exact ⟨_, rfl, h.doAlertResponse⟩
  | smbusTimeout => exact ⟨_, rfl, h.doSmbusTimeout⟩
  | functionLevelReset => exact ⟨_, rfl, h.doFunctionLevelReset.ite h⟩
  | perstN => exact ⟨_, rfl, h.doPerstN⟩
  | resetNLow => exact ⟨_, rfl, h.doResetNLow⟩
  | resetNRelease => exact ⟨_, rfl, h.doResetNRelease⟩
  | railUndervoltage => exact ⟨_, rfl, h.doRailUndervoltage⟩
  | refclkLoss => exact ⟨_, rfl, h.doRefclkLoss⟩
  | temperatureSample => exact ⟨_, rfl, h.doTemperatureSample⟩
  | powerAverage => exact ⟨_, rfl, h.doPowerAverage⟩
  | gateDutyUpdate => exact ⟨_, rfl, h.doGateDutyUpdate⟩
  | gpioInputChange => exact ⟨_, rfl, h.doGpioInputChange⟩
  | gpioDebounceAccept => exact ⟨_, rfl, h.doGpioDebounceAccept⟩
  | tapReset => exact ⟨_, rfl, h.doTapReset⟩
  | idcode => exact ⟨_, rfl, h.doIdcode⟩
  | samplePreload => exact ⟨_, rfl, h.doSamplePreload⟩
  | extest => exact ⟨_, rfl, h.doExtest⟩
  | clamp => exact ⟨_, rfl, h.doClamp⟩
  | highz => exact ⟨_, rfl, h.doHighz⟩
  | bypass => exact ⟨_, rfl, h.doBypass⟩
  | regAccess => exact ⟨_, rfl, h.doRegAccess⟩
  | localResultRingFree => exact ⟨_, rfl, h.doLocalResultRingFree.ite h⟩
  | hostLinkChange => exact ⟨_, rfl, h.doHostLinkChange⟩
  | railRestored => exact ⟨_, rfl, h.doRailRestored⟩
  | refclkRestored => exact ⟨_, rfl, h.doRefclkRestored⟩
  | chainTestDone => exact ⟨_, rfl, h.doChainTestDone.continueUp.ite h⟩

/-- Settles O60: the command at the front keeps the form, and so does 1 µs without a command. -/
theorem everyStepKeepsTheForm : Obligations.EveryStepKeepsTheForm := by
  intro s t h e
  unfold step at e
  split at e
  · next c rest _ =>
    obtain ⟨u, hu, hi⟩ := (h.withPending (x := rest)).exec c
    cases hu.symm.trans e
    exact hi
  · cases e
    exact h.idleTick

end Sys2Proof.Machine
end

section
/-! 1 µs without a command on a dark device (O2). -/

namespace Sys2Proof.Machine

theorem State.coreMicro_dark {s : State} {n : Nat} (h : s.domOn n = false) : s.coreMicro n = s := by
  rw [State.coreMicro, h]
  rfl

/-- The core's share of an idle µs does nothing for cores that are all dark. -/
theorem State.foldl_coreMicro_dark {s : State} {ns : List Nat} (h : ∀ n ∈ ns, s.domOn n = false) : ns.foldl State.coreMicro s = s := by
  induction ns with
  | nil => rfl
  | cons n ns ih =>
    rw [List.foldl_cons, State.coreMicro_dark (h n (by simp))]
    exact ih fun m hm => h m (by simp [hm])

/-- Settles O2: the cores that an idle µs runs through are all dark. -/
theorem stepIdleAdvancesTime : Obligations.StepIdleAdvancesTime := by
  intro s hp hdark
  have htick : s.idleTick = { s with now := s.now + 1 } := State.foldl_coreMicro_dark fun n hn => hdark n (List.mem_range.mp hn)
  simp only [step, hp, htick]

end Sys2Proof.Machine
end

section
/-! The arbiters (O8). -/

namespace Sys2Proof.Machine

/-! ### One grant -/

theorem arbitrate_eq_none_iff {order : List Nat} {req : Nat → Bool} : arbitrate order req = none ↔ ∀ r ∈ order, req r = false := by
  simp [arbitrate]

/-- The first requester wins and goes to the end. -/
theorem arbitrate_append {pre post : List Nat} {w : Nat} {req : Nat → Bool} (hpre : ∀ r ∈ pre, req r = false) (hw : req w = true)
    (hnd : (pre ++ w :: post).Nodup) : arbitrate (pre ++ w :: post) req = some (w, pre ++ post ++ [w]) := by
  have hfind : (pre ++ w :: post).find? req = some w := by
    rw [List.find?_append, List.find?_eq_none.mpr (by simpa using hpre), Option.none_or, List.find?_cons, hw]
  obtain ⟨-, hpost, hdisj⟩ := List.nodup_append.mp hnd
  have hkeep : ∀ l : List Nat, w ∉ l → l.filter (· ≠ w) = l := fun l hl =>
    List.filter_eq_self.mpr fun x hx => by
      simpa using fun e : x = w => hl (e ▸ hx)
  have hfilter : (pre ++ w :: post).filter (· ≠ w) = pre ++ post := by
    rw [List.filter_append, hkeep pre fun h => hdisj w h w (by simp) rfl, List.filter_cons, if_neg (by simp),
      hkeep post (List.nodup_cons.mp hpost).1]
  rw [arbitrate, hfind, Option.map_some, hfilter]

/-! ### Successive grants -/

/-- One more grant: the order after it, and the winners so far. -/
def grantNext (x : List Nat × List Nat) (q : Nat → Bool) : List Nat × List Nat :=
  match arbitrate x.1 q with
  | some (w, o) => (o, x.2 ++ [w])
  | none => x

theorem mem_winners_grantNext {x : List Nat × List Nat} {r : Nat} (q : Nat → Bool) (h : r ∈ x.2) : r ∈ (grantNext x q).2 := by
  unfold grantNext
  split
  · exact List.mem_append_left _ h
  · exact h

theorem mem_winners_foldl {r : Nat} (reqs : List (Nat → Bool)) {x : List Nat × List Nat} (h : r ∈ x.2) : r ∈ (reqs.foldl grantNext x).2 := by
  induction reqs generalizing x with
  | nil => exact h
  | cons q reqs ih => exact ih (mem_winners_grantNext q h)

/-- A party that requests wins, or moves one place up. -/
theorem grantNext_requester {pre post ws : List Nat} {r : Nat} {q : Nat → Bool} (hnd : (pre ++ r :: post).Nodup) (hq : q r = true) :
    r ∈ (grantNext (pre ++ r :: post, ws) q).2 ∨
    ∃ pre' post' ws', grantNext (pre ++ r :: post, ws) q = (pre' ++ r :: post', ws') ∧ pre'.length + 1 = pre.length ∧
      (pre' ++ r :: post').length = (pre ++ r :: post).length ∧ (pre' ++ r :: post').Nodup := by
  cases hfind : pre.find? q with
  | none =>
    have hpre : ∀ x ∈ pre, q x = false := by simpa using hfind
    left
    simp [grantNext, arbitrate_append hpre hq hnd]
  | some w =>
    obtain ⟨hw, a, b, rfl, ha⟩ := List.find?_eq_some_iff_append.mp hfind
    rw [List.append_assoc, List.cons_append] at hnd ⊢
    have hwin := arbitrate_append (by simpa using ha) hw hnd
    have hperm : (a ++ w :: (b ++ r :: post)).Perm (a ++ b ++ r :: (post ++ [w])) := by
      refine List.perm_middle.trans ?_
      have := List.perm_append_singleton w (a ++ (b ++ r :: post))
      simpa using this.symm
    refine .inr ⟨a ++ b, post ++ [w], ws ++ [w], ?_, by simp; omega, hperm.length_eq.symm, hperm.nodup_iff.mp hnd⟩
    simp [grantNext, hwin]

/-- A party that keeps requesting wins one of as many grants as its place in the order. -/
theorem requester_wins {r : Nat} (reqs : List (Nat → Bool)) (hq : ∀ q ∈ reqs, q r = true) {pre post ws : List Nat}
    (hnd : (pre ++ r :: post).Nodup) (hlen : pre.length < reqs.length) : r ∈ (reqs.foldl grantNext (pre ++ r :: post, ws)).2 := by
  induction reqs generalizing pre post ws with
  | nil => exact absurd hlen (Nat.not_lt_zero _)
  | cons q reqs ih =>
    rw [List.foldl_cons]
    obtain hwon | ⟨pre', post', ws', he, hup, -, hnd'⟩ := grantNext_requester (ws := ws) hnd (hq q (by simp))
    · exact mem_winners_foldl reqs hwon
    · rw [he]
      exact ih (fun q' hq' => hq q' (by simp [hq'])) hnd' (by rw [List.length_cons] at hlen; omega)

/-! ### A core that powers on -/

@[simp] theorem State.doSxShareWrite_cores (s : State) (n : Nat) (v : Word) : (s.doSxShareWrite n v).cores = s.cores := by
  unfold State.doSxShareWrite
  split
  · exact orReg_cores _ _ _
  · exact plainWrite_cores _ _ _

/-- What the firmware sets of a core that powers on are registers. -/
theorem State.cores_upCore (s : State) (n : Nat) : (s.upCore n).cores = ((s.loseCore n).modCore n fun c =>
    { c with bypass := false, buckets := List.replicate 3 ((s.loseCore n).bucketCap n) }).cores := by
  simp only [State.upCore]
  split <;> split <;> simp

theorem State.core_loseCore (s : State) {n : Nat} (h : n < s.cores.length) : (s.loseCore n).core n = { cpl := (s.core n).cpl } := by
  simp [State.loseCore, State.resetRegs, State.setCore, State.core, h]

/-- The Loupe of a core that powers on serves its requesters in ascending order. -/
theorem State.loupeOrder_upDomain (s : State) {n : Nat} (hn : n < 32) (hlen : s.cores.length = 32) :
    ((s.upDomain n).core n).loupeOrder = List.range 3 := by
  have hc : n < s.cores.length := hlen ▸ hn
  have hl : n < (s.loseCore n).cores.length := by simpa [State.loseCore, State.setCore] using hc
  rw [State.upDomain, if_pos hn, State.core, s.cores_upCore n, ← State.core, State.core_modCore_same _ _ hl, s.core_loseCore hc]
  rfl

/-! ### The statement -/

/-- Settles O8: the orders after reset and power-on, one grant by `arbitrate_append`, successive ones by `requester_wins`. -/
theorem arbitersRotate : Obligations.ArbitersRotate := by
  refine ⟨⟨rfl, rfl, fun c hc => ?_, fun s n hn hlen => s.loupeOrder_upDomain hn hlen⟩, fun order req => ⟨arbitrate_eq_none_iff, ?_⟩, ?_⟩
  · rw [List.eq_of_mem_replicate hc]
    rfl
  · rintro pre w post rfl hpre hw hnd
    exact arbitrate_append hpre hw hnd
  · intro order r reqs hnd hr hlen hq
    obtain ⟨pre, post, rfl⟩ := List.append_of_mem hr
    exact requester_wins reqs hq hnd (by rw [hlen]; simp)

end Sys2Proof.Machine
end

section
/-! Power requests (O7). -/

namespace Sys2Proof.Machine

/-- Outside full reset a command to the hub has its effect. -/
theorem exec_hub {c : Instr} {s t : State} {f : State → State} (he : exec c s = s.onHub f) (hup : s.rst.mode ≠ .held) (hf : f s = t) :
    exec c s = .next t := by
  rw [he, State.onHub, if_neg hup, hf]

/-! ### The bits of the domains -/

theorem getLsbD_ofNat_two_pow {w i d : Nat} (hi : i < w) : (BitVec.ofNat w (2 ^ d)).getLsbD i = decide (d = i) := by
  rw [BitVec.getLsbD_ofNat, Nat.testBit_two_pow, decide_eq_true hi, Bool.true_and]

/-! ### The write of PWR_REQ -/

/-- A refused request is told by a bit of PWR_ERR and the error line. -/
theorem State.pwrError_spec (s : State) (m : Word) : (s.pwrError m).regs = (s.orReg Reg.pwrErr m).regs ∧
    (s.pwrError m).pwr = { s.pwr with errorLine := true } := ⟨rfl, rfl⟩

theorem exec_pwrRequest (s : State) {d : Nat} (on : Bool) (hup : s.rst.mode ≠ .held) (hd : d < 128) :
    exec (if on then .pwrReqTurnOn d else .pwrReqTurnOff d) s = .next (s.pwrRequest on d) := by
  have hmod : d % 128 = d := Nat.mod_eq_of_lt hd
  cases on
  · exact exec_hub (f := fun s => s.doPwrReqTurnOff d) rfl hup (congrArg (s.pwrRequest false) hmod)
  · exact exec_hub (f := fun s => s.doPwrReqTurnOn d) rfl hup (congrArg (s.pwrRequest true) hmod)

theorem State.pwrRequest_reserved (s : State) (on : Bool) {d : Nat} (h : 80 ≤ d) : s.pwrRequest on d = s.pwrError 2 := if_pos h

theorem State.pwrRequest_full (s : State) (on : Bool) {d : Nat} (h : d < 80) (hq : 8 ≤ s.pwr.queue.length) :
    s.pwrRequest on d = s.pwrError 4 := by
  rw [State.pwrRequest, if_neg (by omega), if_pos hq]

theorem State.pwrRequest_queued (s : State) (on : Bool) {d : Nat} (h : d < 80) (hq : s.pwr.queue.length < 8) : s.pwrRequest on d =
    { s with pwr := { s.pwr with queue := s.pwr.queue ++ [{ on := on, domain := d, src := 0 }] } } := by
  rw [State.pwrRequest, if_neg (by omega), if_neg (by omega)]

/-! ### After a request -/

/-- Nothing follows a request of the Pilot while the firmware does not run and has no request of its own. -/
structure State.NothingFollows (s : State) : Prop where
  down : s.firmwareRuns = false
  wants : s.pilot.wantPower = []
  asks : s.pilot.powerAsk = none

theorem State.NothingFollows.congr {s t : State} (h : s.NothingFollows) (hr : t.rst = s.rst) (hp : t.pilot = s.pilot) : t.NothingFollows :=
  ⟨(State.firmwareRuns_congr hr).trans h.down, hp ▸ h.wants, hp ▸ h.asks⟩

theorem State.NothingFollows.afterPower_eq {s : State} (h : s.NothingFollows) : s.afterPower = s := by
  have hplace : State.placePower 80 s = s := by rw [State.placePower, h.wants]
  rw [State.afterPower, hplace, s.continueUp_down h.down, State.powerAnswer, h.asks]

theorem State.bankDone_pilot (s : State) {r : PwrReq} (h : r.src = 0) : s.bankDone r = s := if_pos h

theorem State.bankRefused_pilot (s : State) {r : PwrReq} (h : r.src = 0) : s.bankRefused r = s := if_pos h

/-! ### What a transition leaves of the power controller and of memory -/

/-- The parts of the state that a hop which engages its bypass leaves. -/
theorem State.sendFlit_keeps (s : State) (n : Nat) (f : Flit) : (s.sendFlit n f).pwr = s.pwr ∧ (s.sendFlit n f).mem = s.mem := by
  unfold State.sendFlit
  split <;> exact ⟨rfl, rfl⟩

theorem State.flushHop_keeps (s : State) (n k : Nat) : (s.flushHop n k).pwr = s.pwr ∧ (s.flushHop n k).mem = s.mem := by
  induction k generalizing s with
  | zero => exact ⟨rfl, rfl⟩
  | succ k ih =>
    rw [State.flushHop]
    split
    · exact ⟨rfl, rfl⟩
    · next f r _ =>
      split
      · obtain ⟨hp, hm⟩ := ih (((s.modCore n fun c => { c with inbox := r }).sendFlit n f).cBump n Reg.nklCntFwd)
        obtain ⟨hp', hm'⟩ := (s.modCore n fun c => { c with inbox := r }).sendFlit_keeps n f
        rw [hp, hm, cBump_pwr, cBump_mem, hp', hm']
        exact ⟨rfl, rfl⟩
      · exact ⟨rfl, rfl⟩

theorem State.engageBypass_keeps (s : State) (n : Nat) : (s.engageBypass n).pwr = s.pwr ∧ (s.engageBypass n).mem = s.mem := by
  have h := s.flushHop_keeps n (s.core n).inbox.length
  unfold State.engageBypass
  dsimp only
  split <;> exact h

/-- What a domain holds is no part of the power controller. -/
theorem State.loseDomain_pwr (s : State) (d : Nat) : (s.loseDomain d).pwr = s.pwr := by
  unfold State.loseDomain
  repeat' split
  all_goals rfl

/-- A supply that goes takes one domain off. -/
theorem State.domOn_supplyOff (s : State) {d e : Nat} (he : e < 80) : (s.supplyOff d).domOn e = (s.domOn e && decide (d ≠ e)) := by
  have hon : (s.supplyOff d).pwr.on = s.pwr.on &&& ~~~ (BitVec.ofNat 80 (2 ^ d)) := by
    rw [State.supplyOff]
    exact congrArg (fun p : Pwr => p.on &&& ~~~ (BitVec.ofNat 80 (2 ^ d))) (s.loseDomain_pwr d)
  rw [State.domOn, hon, BitVec.getLsbD_and, BitVec.getLsbD_not, getLsbD_ofNat_two_pow he]
  simp [he, State.domOn]

/-! ### The judgement -/

/-- The head of the power queue leaves it. -/
def State.popPower (s : State) (q : List PwrReq) : State := { s with pwr := { s.pwr with queue := q } }

/-- The transition of a request starts. -/
def State.startPower (s : State) (r : PwrReq) : State := { s with pwr := { s.pwr with cur := some r, drained := false } }

/-- The domain of a request is fenced. -/
def State.fenceDomain (s : State) (r : PwrReq) : State := { s with pwr := { s.pwr with fenced := s.pwr.fenced ||| BitVec.ofNat 80 (2 ^ r.domain) } }

/-- What follows for a request that has left the queue. -/
def State.judge (s : State) (r : PwrReq) : State :=
  if s.domOn r.domain = r.on then (s.bankDone r).pwrComplete.afterPower
  else if !(s.pwrAllowed r) then ((s.pwrError 1).bankRefused r).afterPower
  else if r.on then s.startPower r
  else if r.domain < 32 then ((s.startPower r).fenceDomain r).engageBypass r.domain
  else (s.startPower r).fenceDomain r

/-- With no transition in progress the head of the queue leaves it and is judged. -/
theorem State.doPowerRequestJudged_eq {s : State} {r : PwrReq} {q : List PwrReq} (hcur : s.pwr.cur = none) (hq : s.pwr.queue = r :: q) :
    s.doPowerRequestJudged = (s.popPower q).judge r := by
  unfold State.doPowerRequestJudged
  split
  · next _ _ _ hq' =>
    obtain ⟨rfl, rfl⟩ := List.cons.inj (hq.symm.trans hq')
    rfl
  · next hno => exact absurd hq (hno r q hcur)

theorem State.judge_powerOn {s : State} {r : PwrReq} (hoff : s.domOn r.domain = false) (hon : r.on = true) (hallow : s.pwrAllowed r = true) :
    s.judge r = s.startPower r := by
  simp [State.judge, hoff, hon, hallow]

theorem State.judge_powerOff {s : State} {r : PwrReq} (hison : s.domOn r.domain = true) (hoff : r.on = false)
    (hallow : s.pwrAllowed r = true) : s.judge r =
      if r.domain < 32 then ((s.startPower r).fenceDomain r).engageBypass r.domain else (s.startPower r).fenceDomain r := by
  simp [State.judge, hison, hoff, hallow]

theorem State.judge_noChange {s : State} {r : PwrReq} (hsame : s.domOn r.domain = r.on) (hsrc : r.src = 0) (hn : s.NothingFollows) :
    s.judge r = s.pwrComplete := by
  rw [State.judge, if_pos hsame, s.bankDone_pilot hsrc, (hn.congr rfl rfl : s.pwrComplete.NothingFollows).afterPower_eq]

theorem State.judge_refused {s : State} {r : PwrReq} (hdiff : s.domOn r.domain ≠ r.on) (hallow : s.pwrAllowed r = false) (hsrc : r.src = 0)
    (hn : s.NothingFollows) : s.judge r = s.pwrError 1 := by
  rw [State.judge, if_neg hdiff, hallow, Bool.not_false, if_pos rfl, State.bankRefused_pilot _ hsrc, (hn.congr rfl rfl : (s.pwrError 1).NothingFollows).afterPower_eq]

/-- A fence that is raised refuses new accesses to the domain, which stays on with memory as it was. -/
theorem State.fence_spec {s : State} {r : PwrReq} {t : State} (hd : r.domain < 80) (hison : s.domOn r.domain = true)
    (ht : t.pwr = ((s.startPower r).fenceDomain r).pwr ∧ t.mem = s.mem) : t.pwr.cur = some r ∧ t.pwr.queue = s.pwr.queue ∧
      t.domOpen r.domain = false ∧ t.domOn r.domain = true ∧ t.mem = s.mem := by
  obtain ⟨hp, hm⟩ := ht
  have hbit : t.pwr.fenced.getLsbD r.domain = true := by
    rw [hp]
    exact (BitVec.getLsbD_or ..).trans (by rw [getLsbD_ofNat_two_pow hd, decide_eq_true rfl, Bool.or_true])
  refine ⟨by rw [hp]; rfl, by rw [hp]; rfl, ?_, by rw [State.domOn, hp]; exact hison, hm⟩
  rw [State.domOpen, hbit, Bool.not_true, Bool.and_false]

/-! ### The end of a transition -/

theorem State.doPowerOffDrained_eq {s : State} {r : PwrReq} (hcur : s.pwr.cur = some r) (hoff : r.on = false)
    (hdr : s.pwr.drained = false) (hquiet : s.domDrained r.domain = true) : s.doPowerOffDrained =
      { s.supplyOff r.domain with pwr := { (s.supplyOff r.domain).pwr with drained := true } } := by
  simp [State.doPowerOffDrained, hcur, hoff, hdr, hquiet]

/-- Domains 76 to 78 have nothing to set up at power-on. -/
theorem State.upDomain_76_78 (s : State) {d : Nat} (hlo : 76 ≤ d) (hhi : d < 79) : s.upDomain d = s := by
  rw [State.upDomain, if_neg (by omega), if_neg (by omega), if_neg (by omega), if_neg (by omega), if_neg (by omega)]

/-- The power controller after the transition of `r`. -/
def Pwr.transited (p : Pwr) (r : PwrReq) : Pwr := { p with
  cur := none, drained := false, on := if r.on then p.on ||| BitVec.ofNat 80 (2 ^ r.domain) else p.on
  fenced := p.fenced &&& ~~~ (BitVec.ofNat 80 (2 ^ r.domain)) }

theorem State.doDomainTransitionComplete_eq {s : State} {r : PwrReq} (hcur : s.pwr.cur = some r) (hgo : r.on = true ∨ s.pwr.drained = true)
    (hlo : 76 ≤ r.domain) (hhi : r.domain < 79) (hsrc : r.src = 0) (hn : s.NothingFollows) :
    s.doDomainTransitionComplete = State.pwrComplete { s with pwr := s.pwr.transited r } := by
  have hgo' : ¬ (!(r.on || s.pwr.drained)) = true := by obtain h | h := hgo <;> simp [h]
  have hn' : (State.pwrComplete { s with pwr := s.pwr.transited r }).NothingFollows := hn.congr rfl rfl
  unfold State.doDomainTransitionComplete
  split
  · next hnone => cases hnone.symm.trans hcur
  · next r' hr' =>
    obtain rfl := Option.some.inj (hcur.symm.trans hr')
    rw [if_neg hgo']
    dsimp only
    rw [State.upDomain_76_78 _ hlo hhi, ite_self, State.bankDone_pilot _ hsrc, if_neg (by omega)]
    exact hn'.afterPower_eq

/-! ### The statement -/

/-- Settles O7: the write by `State.pwrRequest`, the judgement by its four cases, and the end of the transition. -/
theorem powerRequests : Obligations.PowerRequests := by
  refine ⟨fun s d on hup hd => ⟨fun h hq => ?_, fun h hq => ?_, fun h => ?_⟩, fun s r q hup => ⟨fun hcur hq hd => ?_,
    fun hcur hoff hdr hquiet hd => ?_, fun hcur hgo hlo hhi hsrc hf hw ha => ?_⟩⟩
  · rw [exec_pwrRequest s on hup hd, s.pwrRequest_queued on h hq]
  · exact ⟨_, (exec_pwrRequest s on hup hd).trans (congrArg _ (s.pwrRequest_full on h hq)), rfl, rfl, rfl, rfl⟩
  · exact ⟨_, (exec_pwrRequest s on hup hd).trans (congrArg _ (s.pwrRequest_reserved on h)), rfl, rfl, rfl, rfl⟩
  · have hjudge : exec .powerRequestJudged s = .next ((s.popPower q).judge r) :=
      exec_hub (f := fun s => s.doPowerRequestJudged) rfl hup (State.doPowerRequestJudged_eq hcur hq)
    refine ⟨fun hoff hon hallow => ?_, fun hison hoff hallow => ?_, fun hsame hsrc hf hw ha => ?_, fun hdiff hallow hsrc hf hw ha => ?_⟩
    · exact hjudge.trans (congrArg _ (State.judge_powerOn (s := s.popPower q) hoff hon hallow))
    · refine ⟨_, hjudge.trans (congrArg _ (State.judge_powerOff (s := s.popPower q) hison hoff hallow)), ?_⟩
      refine State.fence_spec (s := s.popPower q) hd hison ?_
      split
      · exact State.engageBypass_keeps _ _
      · exact ⟨rfl, rfl⟩
    · exact hjudge.trans (congrArg _ (State.judge_noChange (s := s.popPower q) hsame hsrc ⟨hf, hw, ha⟩))
    · exact ⟨_, hjudge.trans (congrArg _ (State.judge_refused (s := s.popPower q) hdiff hallow hsrc ⟨hf, hw, ha⟩)), rfl, rfl, rfl, rfl, rfl⟩
  · refine ⟨_, exec_hub (f := fun s => s.doPowerOffDrained) rfl hup (State.doPowerOffDrained_eq hcur hoff hdr hquiet), ?_, rfl, fun e he hlt => ?_⟩
    · exact (s.domOn_supplyOff hd).trans (by simp)
    · exact (s.domOn_supplyOff hlt).trans (by simp [he.symm])
  · exact exec_hub (f := fun s => s.doDomainTransitionComplete) rfl hup (State.doDomainTransitionComplete_eq hcur hgo hlo hhi hsrc ⟨hf, hw, ha⟩)

end Sys2Proof.Machine
end

section
/-! The watchdog, fault handling, lost accesses and lost power (O40). -/

namespace Sys2Proof.Machine

/-! ### The watchdog -/

theorem State.doWatchdog_faults {s : State} {n : Nat} (hrun : s.wdogRuns n = true) (hlim : s.wdogLimit n ≤ (s.core n).wdog)
    (hb : s.boundaryNow n = false) : s.doWatchdog n = s.coreFault n codeWatchdog (s.core n).curSl.pc := by
  rw [State.doWatchdog, hrun, decide_eq_true hlim, hb]
  rfl

theorem State.doWatchdog_quiet {s : State} {n : Nat}
    (h : s.wdogRuns n = false ∨ (s.core n).wdog < s.wdogLimit n ∨ s.boundaryNow n = true) : s.doWatchdog n = s := by
  have hno : (s.wdogRuns n && decide (s.wdogLimit n ≤ (s.core n).wdog) && !(s.boundaryNow n)) = false := by
    obtain h | h | h := h
    · rw [h]; rfl
    · rw [decide_eq_false (not_le.mpr h), Bool.and_false, Bool.false_and]
    · rw [h, Bool.not_true, Bool.and_false]
  rw [State.doWatchdog, hno]
  rfl

/-! ### Fault handling -/

theorem exec_faultHandling {s : State} {n : Nat} (hn : n < 32) : exec (.faultHandling n) s = .next (s.doFaultHandling n) :=
  congrArg Host.Outcome.next (if_pos hn)

theorem State.doFaultHandling_down {s : State} {n : Nat} (h : s.firmwareRuns = false) : s.doFaultHandling n = s := by
  rw [State.doFaultHandling, h]
  rfl

theorem State.doFaultHandling_line {s : State} {n : Nat} (h : s.firmwareRuns = true) (hl : (s.core n).faultLine = true) :
    s.doFaultHandling n = s.handleFault n := by
  rw [State.doFaultHandling, h, hl]
  rfl

/-- `t` is `s` but for the cores and the scheduler, and the fault line of core `n` is as it was. -/
structure State.StopsOnly (n : Nat) (s t : State) : Prop where
  rest : { t with cores := s.cores, sched := s.sched } = s
  line : (t.core n).faultLine = (s.core n).faultLine

theorem State.StopsOnly.trans {n : Nat} {s t u : State} (h : State.StopsOnly n s t) (h' : State.StopsOnly n t u) : State.StopsOnly n s u := by
  refine ⟨?_, h'.line.trans h.line⟩
  have hu : { u with cores := s.cores, sched := s.sched } = { t with cores := s.cores, sched := s.sched } := by rw [← h'.rest]
  exact hu.trans h.rest

/-- A change of every core that leaves fault lines alone leaves that of one core. -/
theorem faultLine_getD_map {f : Core → Core} (hf : ∀ c, (f c).faultLine = c.faultLine) (cs : List Core) (n : Nat) :
    ((cs.map f).getD n {}).faultLine = (cs.getD n {}).faultLine := by
  rw [List.getD_eq_getElem?_getD, List.getD_eq_getElem?_getD, List.getElem?_map]
  cases cs[n]? with
  | none => rfl
  | some c => exact hf c

theorem State.faultLine_modCore (s : State) (n k : Nat) {f : Core → Core} (hf : ∀ c, (f c).faultLine = c.faultLine) :
    ((s.modCore k f).core n).faultLine = (s.core n).faultLine := by
  by_cases hk : n = k
  · subst hk
    by_cases hn : n < s.cores.length
    · rw [s.core_modCore_same f hn, hf]
    · have hset : (s.modCore n f).cores = s.cores := List.set_eq_of_length_le (not_lt.mp hn)
      rw [State.core, hset, State.core]
  · rw [s.core_modCore_ne f hk]

theorem State.stopsOnly_doCoreAbort (s : State) (n k : Nat) : State.StopsOnly n s (s.doCoreAbort k) := by
  refine ⟨rfl, Eq.trans (faultLine_getD_map ?_ _ n) (s.faultLine_modCore n k ?_)⟩ <;> exact fun _ => rfl

theorem State.stopsOnly_foldl_doCoreAbort (n : Nat) (ks : List Nat) (s : State) : State.StopsOnly n s (ks.foldl State.doCoreAbort s) := by
  induction ks generalizing s with
  | nil => exact ⟨rfl, rfl⟩
  | cons k ks ih => exact (s.stopsOnly_doCoreAbort n k).trans (ih _)

/-- Where no batch is to stop, no core is synchronised. -/
theorem State.stopsOnly_stopBatches (s : State) (n k : Nat) : State.StopsOnly n s (s.stopBatches k []) := by
  refine (State.stopsOnly_foldl_doCoreAbort n _ s).trans ⟨rfl, ?_⟩
  refine faultLine_getD_map ?_ _ n
  exact fun _ => rfl

/-- The firmware has taken the fault of core `n`. -/
def State.faultTaken (s : State) (n : Nat) : State :=
  { s.modCore n (fun c => { c with faultLine := false }) with
    sched := { s.sched with victims := s.sched.victims.filter (fun v => v.1 != n) } }

/-- After a program fault of a core with nothing on it, that core alone stops. -/
theorem State.handleFault_idle {s : State} {n : Nat} (hidle : (s.core n).run = .idle) (hsoft : hardwareCode (s.core n).faultCode = false) :
    s.handleFault n = ((s.faultTaken n).doCoreAbort n).stopBatches n [] := by
  have hwork : s.workOn n = none := by rw [State.workOn, hidle]
  unfold State.handleFault
  dsimp only
  rw [hwork, hsoft, State.workFault, State.stopCore, hsoft]
  rfl

/-- That fault takes back the fault line, and changes nothing but the cores and the scheduler. -/
theorem State.handleFault_idle_spec {s : State} {n : Nat} (hn : n < s.cores.length) (hidle : (s.core n).run = .idle)
    (hsoft : hardwareCode (s.core n).faultCode = false) :
    { s.handleFault n with cores := s.cores, sched := s.sched } = s ∧ ((s.handleFault n).core n).faultLine = false := by
  obtain ⟨hrest, hline⟩ := ((s.faultTaken n).stopsOnly_doCoreAbort n n).trans (State.stopsOnly_stopBatches _ n n)
  rw [State.handleFault_idle hidle hsoft]
  refine ⟨congrArg (fun t : State => { t with cores := s.cores, sched := s.sched }) hrest, hline.trans ?_⟩
  exact congrArg Core.faultLine (s.core_modCore_same (fun c => { c with faultLine := false }) hn)

/-! ### Lost accesses -/

theorem exec_coreAccessTimeout {s : State} {n : Nat} (hn : n < 32) : exec (.coreAccessTimeout n) s = .next (s.doCoreAccessTimeout n) :=
  congrArg Host.Outcome.next (if_pos hn)

/-- The error response to an access. -/
def State.errorResponse (s : State) : State := { s with bus := { s.bus with err := true } }

theorem State.doCoreAccessTimeout_quiet {s : State} {n : Nat} (h : s.firmwareRuns = false ∨ s.domOn n = false) :
    s.doCoreAccessTimeout n = s.errorResponse := by
  have hno : (s.errorResponse.firmwareRuns && s.errorResponse.domOn n) = false := by
    have : (s.firmwareRuns && s.domOn n) = false := by obtain h | h := h <;> simp [h]
    exact this
  exact if_neg (Bool.eq_false_iff.mp hno)

theorem State.doCoreAccessTimeout_fails {s : State} {n : Nat} (hf : s.firmwareRuns = true) (hd : s.domOn n = true) :
    s.doCoreAccessTimeout n = s.errorResponse.coreFailure n (s.workOn n) ((s.core n).inSpill || (s.core n).preempt == 2) := by
  have hyes : (s.errorResponse.firmwareRuns && s.errorResponse.domOn n) = true := by
    have : (s.firmwareRuns && s.domOn n) = true := by rw [hf, hd]; rfl
    exact this
  exact if_pos hyes

/-! ### Lost power -/

theorem State.doUnrequestedPowerLoss_dark {s : State} {d : Nat} (h : s.domOn d = false ∨ 80 ≤ d) : s.doUnrequestedPowerLoss d = s := by
  have hno : (s.domOn d && s.pwr.cur.all (fun r => r.domain != d) && decide (d < 80)) = false := by
    obtain h | h := h
    · simp [h]
    · simp [not_lt.mpr h]
  rw [State.doUnrequestedPowerLoss, hno]
  rfl

/-- What falls with a domain that is on and has no request in transition. -/
theorem State.doUnrequestedPowerLoss_eq {s : State} {d : Nat} (hd : d < 80) (hon : s.domOn d = true)
    (hcur : s.pwr.cur.all (fun r => r.domain != d) = true) : s.doUnrequestedPowerLoss d =
      if d < 32 then s.coreLost d else if 64 ≤ d ∧ d < 72 then (s.supplyOff d).doHbmFail (d - 64) else s.supplyOff d := by
  rw [State.doUnrequestedPowerLoss, hon, hcur, decide_eq_true hd]
  rfl

theorem State.dropUpperOn_other {s : State} {n : Nat} (h : s.pwr.cur.all (fun r => r.domain != 32 + n) = true) : s.dropUpperOn n = s := by
  unfold State.dropUpperOn
  split
  · next r hr =>
    rw [hr, Option.all_some, bne_iff_ne] at h
    rw [beq_eq_false_iff_ne.mpr h, Bool.and_false]
    rfl
  · rfl

/-! ### The statement -/

/-- Settles O40: each command by the cases of its operation. -/
theorem watchdogFaultsAndPowerLoss : Obligations.WatchdogFaultsAndPowerLoss := by
  intro s n hn hlen hr
  refine ⟨fun hd => ⟨fun hrun hlim hb => ?_, fun h => ?_⟩, fun hf => ?_, fun hf hl => ⟨?_, fun hidle hsoft => ?_⟩, fun h => ?_, fun hf hd => ?_,
    fun d h => ?_, fun hd hcur => ⟨State.dropUpperOn_other, fun hu => ?_, fun hu => ?_⟩, fun d hd hlo hhi hon hcur => ?_, fun h hh hon hcur => ?_⟩
  · exact exec_core (f := fun s => s.doWatchdog n) rfl hn hd (State.doWatchdog_faults hrun hlim hb)
  · exact exec_core (f := fun s => s.doWatchdog n) rfl hn hd (State.doWatchdog_quiet h)
  · rw [exec_faultHandling hn, State.doFaultHandling_down hf]
  · rw [exec_faultHandling hn, State.doFaultHandling_line hf hl]
  · obtain ⟨hrest, hline⟩ := State.handleFault_idle_spec (hlen ▸ hn) hidle hsoft
    refine ⟨_, (exec_faultHandling hn).trans (congrArg _ (State.doFaultHandling_line hf hl)), hline, (congrArg State.mem hrest :),
      (congrArg State.pilot hrest :), (congrArg State.log hrest :),
      fun k => (congrArg (fun t : State => t.reg k) hrest :)⟩
  · rw [exec_coreAccessTimeout hn, State.doCoreAccessTimeout_quiet h]
    rfl
  · rw [exec_coreAccessTimeout hn, State.doCoreAccessTimeout_fails hf hd]
    rfl
  · exact congrArg Host.Outcome.next (State.doUnrequestedPowerLoss_dark h)
  · refine congrArg Host.Outcome.next ((State.doUnrequestedPowerLoss_eq (by omega) hd hcur).trans ((if_pos hn).trans ?_))
    rw [State.coreLost]
    exact if_neg (Bool.eq_false_iff.mp hu)
  · refine congrArg Host.Outcome.next ((State.doUnrequestedPowerLoss_eq (by omega) hd hcur).trans ((if_pos hn).trans ?_))
    rw [State.coreLost]
    exact if_pos hu
  · refine congrArg Host.Outcome.next ((State.doUnrequestedPowerLoss_eq hd hon hcur).trans ?_)
    rw [if_neg (by omega), if_neg (by omega)]
  · refine congrArg Host.Outcome.next ((State.doUnrequestedPowerLoss_eq (by omega) hon hcur).trans ?_)
    rw [if_neg (by omega), if_pos (by omega), Nat.add_sub_cancel_left]

end Sys2Proof.Machine
end

section
/-! Transfers enter the memory port and complete (O29). -/

namespace Sys2Proof.Machine

/-! ### Arbitration and the oldest transfers -/

theorem req_of_arbitrate {order o : List Nat} {req : Nat → Bool} {w : Nat} (h : arbitrate order req = some (w, o)) : req w = true := by
  obtain ⟨x, hx, he⟩ := Option.map_eq_some_iff.mp h
  obtain ⟨rfl, -⟩ := Prod.mk.inj he
  exact List.find?_some hx

theorem Core.cls_of_nextXfer {c : Core} {cls : Nat} {x : Xfer} (h : c.nextXfer cls = some x) : x.cls = cls := by
  have hx := List.find?_some h
  simp only [Bool.and_eq_true, beq_iff_eq] at hx
  exact hx.1

theorem Core.classReady_none {c : Core} {cls : Nat} (hf : c.wantsFetch = false) (h : c.nextXfer cls = none) : c.classReady cls = false := by
  rw [Core.classReady, Core.fetchReady, hf, h, Bool.false_and, Bool.and_false, Bool.false_or]

/-- With no list words to fetch a class is ready when the port takes its oldest transfer and that is translated. -/
theorem Core.classReady_some {c : Core} {cls : Nat} {x : Xfer} (hf : c.wantsFetch = false) (h : c.nextXfer cls = some x) :
    c.classReady cls = (c.mayEnter x && (x.cls == 2 || (c.pageOf x).isSome)) := by
  rw [Core.classReady, Core.fetchReady, hf, h, Bool.false_and, Bool.and_false, Bool.false_or]

theorem Core.mayEnter_iff {c : Core} {x : Xfer} :
    c.mayEnter x = true ↔ c.outs.length < 512 ∧ c.portQ < 64 ∧ 576 * x.lines ≤ c.buckets.getD x.cls 0 := by
  simp [Core.mayEnter, and_assoc]

/-! ### The stages of an entry -/

theorem State.armsGo_none {s : State} {n : Nat} (h : (s.core n).arms = []) : s.armsGo n = s := by
  rw [State.armsGo, h]
  rfl

/-- The class whose turn it is sends its oldest transfer, if that class is `cls`. -/
def State.takeTurn (s : State) (n cls : Nat) : State :=
  match arbitrate (s.core n).portOrder (s.core n).classReady with
  | some (w, order) => if w = cls then (s.modCore n (fun c => { c with portOrder := order })).grantClass n cls else s
  | none => s

/-- The walk starts of the transfer that now comes first in the class. -/
def State.walkNext (s : State) (n cls : Nat) : State :=
  match (s.core n).nextXfer cls with
  | some x => if (s.core n).mayEnter x && x.cls != 2 && ((s.core n).pageOf x).isNone then s.startWalk n x.ctx x.va else s
  | none => s

/-- On a core with no command issuing elements, TRANSFER_ENTER is the turn of the class and the walk of its next transfer. -/
theorem State.doTransferEnter_eq {s t : State} {n cls : Nat} (ha : (s.core n).arms = []) (ht : (s.takeTurn n cls).walkNext n cls = t)
    (hta : cls = 0 → (t.core n).arms = []) : s.doTransferEnter n cls = t := by
  have hs : (if cls = 0 then s.armsGo n else s) = s := by rw [State.armsGo_none ha, ite_self]
  have hlast : s.doTransferEnter n cls = if cls = 0 then ((s.takeTurn n cls).walkNext n cls).armsGo n else (s.takeTurn n cls).walkNext n cls := by
    rw [State.doTransferEnter, hs]
    rfl
  rw [hlast, ht]
  split
  · next h0 => exact State.armsGo_none (hta h0)
  · rfl

theorem State.takeTurn_other {s : State} {n cls : Nat}
    (h : ∀ o, arbitrate (s.core n).portOrder (s.core n).classReady ≠ some (cls, o)) : s.takeTurn n cls = s := by
  unfold State.takeTurn
  split
  · next w order harb => exact if_neg fun hw : w = cls => h order (hw ▸ harb)
  · rfl

theorem State.takeTurn_unready {s : State} {n cls : Nat} (h : (s.core n).classReady cls = false) : s.takeTurn n cls = s :=
  State.takeTurn_other fun _ harb => Bool.false_ne_true (h.symm.trans (req_of_arbitrate harb))

theorem State.walkNext_none {s : State} {n cls : Nat} (h : (s.core n).nextXfer cls = none) : s.walkNext n cls = s := by
  rw [State.walkNext, h]

theorem State.walkNext_some {s : State} {n cls : Nat} {x : Xfer} (h : (s.core n).nextXfer cls = some x) : s.walkNext n cls =
    if (s.core n).mayEnter x && x.cls != 2 && ((s.core n).pageOf x).isNone then s.startWalk n x.ctx x.va else s := by
  rw [State.walkNext, h]

/-- A remote transfer needs no walk. -/
theorem State.walkNext_remote (s : State) (n : Nat) : s.walkNext n 2 = s := by
  cases h : (s.core n).nextXfer 2 with
  | none => exact State.walkNext_none h
  | some x => exact (State.walkNext_some h).trans (if_neg (by simp [Core.cls_of_nextXfer h]))

/-! ### What a walk changes -/

/-- `t` is `s` but for the walks of core `n` and registers, as far as entries can tell. -/
structure State.WalksOnly (n : Nat) (s t : State) : Prop where
  own : ∃ w, t.core n = { s.core n with walks := w }
  others : ∀ m, m ≠ n → t.core m = s.core m
  mem : t.mem = s.mem

@[simp] theorem State.core_cBump (s : State) (n off k m : Nat) : (s.cBump n off k).core m = s.core m := s.core_bump _ _ _

theorem State.walksOnly_startWalk {s : State} {n : Nat} (ctx va : Nat) (hn : n < s.cores.length) :
    State.WalksOnly n s (s.startWalk n ctx va) := by
  unfold State.startWalk
  dsimp only
  split
  · exact ⟨⟨_, rfl⟩, fun _ _ => rfl, rfl⟩
  · exact ⟨⟨_, (State.core_cBump ..).trans (s.core_modCore_same _ hn)⟩, fun m hm => (State.core_cBump ..).trans (s.core_modCore_ne _ hm),
      (State.cBump_mem ..).trans (s.modCore_mem ..)⟩

theorem State.walksOnly_walkNext {s : State} {n : Nat} (cls : Nat) (hn : n < s.cores.length) : State.WalksOnly n s (s.walkNext n cls) := by
  unfold State.walkNext
  split
  · split
    · exact State.walksOnly_startWalk _ _ hn
    · exact ⟨⟨_, rfl⟩, fun _ _ => rfl, rfl⟩
  · exact ⟨⟨_, rfl⟩, fun _ _ => rfl, rfl⟩

/-! ### Entries that wait -/

section Waits
variable {s : State} {n cls : Nat} {x : Xfer} (ha : (s.core n).arms = []) (hf : (s.core n).wantsFetch = false)
include ha hf

theorem State.transferEnter_none (h : (s.core n).nextXfer cls = none) : s.doTransferEnter n cls = s := by
  refine State.doTransferEnter_eq ha ?_ fun _ => ha
  rw [State.takeTurn_unready (Core.classReady_none hf h), State.walkNext_none h]

theorem State.transferEnter_blocked (h : (s.core n).nextXfer cls = some x) (hm : (s.core n).mayEnter x = false) :
    s.doTransferEnter n cls = s := by
  refine State.doTransferEnter_eq ha ?_ fun _ => ha
  rw [State.takeTurn_unready (by rw [Core.classReady_some hf h, hm, Bool.false_and]), State.walkNext_some h, hm]
  exact if_neg Bool.false_ne_true

theorem State.transferEnter_untranslated (hn : n < s.cores.length) (h : (s.core n).nextXfer cls = some x) (hm : (s.core n).mayEnter x = true)
    (hc : cls ≠ 2) (hp : (s.core n).pageOf x = none) : s.doTransferEnter n cls = s.startWalk n x.ctx x.va := by
  have hx : (x.cls == 2) = false := beq_eq_false_iff_ne.mpr (Core.cls_of_nextXfer h ▸ hc)
  refine State.doTransferEnter_eq ha ?_ fun _ => ?_
  · rw [State.takeTurn_unready (by rw [Core.classReady_some hf h, hp, hx, hm]; rfl), State.walkNext_some h, hm, hp, bne, hx]
    exact if_pos rfl
  · obtain ⟨w, hw⟩ := (State.walksOnly_startWalk x.ctx x.va hn).own
    rw [hw]
    exact ha

omit hf in
theorem State.transferEnter_notItsTurn (h : (s.core n).nextXfer cls = some x) (hp : cls = 2 ∨ (s.core n).pageOf x ≠ none)
    (harb : ∀ o, arbitrate (s.core n).portOrder (s.core n).classReady ≠ some (cls, o)) : s.doTransferEnter n cls = s := by
  refine State.doTransferEnter_eq ha ?_ fun _ => ha
  rw [State.takeTurn_other harb]
  obtain rfl | hp := hp
  · exact s.walkNext_remote n
  · rw [State.walkNext_some h, Option.isNone_eq_false_iff.mpr (Option.isSome_iff_ne_none.mpr hp), Bool.and_false]
    exact if_neg Bool.false_ne_true

end Waits

/-! ### Entries -/

/-- The rotating order of the classes of core `n` is now `order`. -/
def State.withTurn (s : State) (n : Nat) (order : List Nat) : State := s.modCore n fun c => { c with portOrder := order }

theorem State.core_withTurn (s : State) {n : Nat} (order : List Nat) (hn : n < s.cores.length) :
    (s.withTurn n order).core n = { s.core n with portOrder := order } := s.core_modCore_same _ hn

section Enters
variable {s : State} {n cls : Nat} {x : Xfer} {order : List Nat} (hn : n < s.cores.length) (ha : (s.core n).arms = [])
  (hf : (s.core n).wantsFetch = false) (h : (s.core n).nextXfer cls = some x) (hm : (s.core n).mayEnter x = true)
  (harb : arbitrate (s.core n).portOrder (s.core n).classReady = some (cls, order))
include hn hf h hm harb

/-- In its turn the oldest transfer of the class enters, and the class comes last. -/
theorem State.takeTurn_enters : s.takeTurn n cls = (s.withTurn n order).enterXfer n x := by
  have hfetch : (s.core n).fetchReady = false := by rw [Core.fetchReady, hf, Bool.false_and]
  have hf' : Core.fetchReady { s.core n with portOrder := order } = false := hfetch
  have h' : Core.nextXfer { s.core n with portOrder := order } cls = some x := h
  have hm' : Core.mayEnter { s.core n with portOrder := order } x = true := hm
  rw [State.takeTurn, harb]
  dsimp only
  rw [if_pos rfl, ← State.withTurn, State.grantClass, s.core_withTurn order hn, hf', if_neg (by simp), h']
  dsimp only
  rw [if_pos hm']

theorem State.transferEnter_remote (hc : cls = 2) (ha : (s.core n).arms = []) :
    s.doTransferEnter n cls = (s.withTurn n order).enterRemote n x := by
  have hx : x.cls = 2 := (Core.cls_of_nextXfer h).trans hc
  refine State.doTransferEnter_eq ha ?_ fun h0 => absurd (hc.symm.trans h0) (by decide)
  rw [State.takeTurn_enters hn hf h hm harb, State.enterXfer, if_pos hx, hc, State.walkNext_remote]

theorem State.takeTurn_local (hc : cls ≠ 2) : s.takeTurn n cls = (s.withTurn n order).enterLocal n x := by
  rw [State.takeTurn_enters hn hf h hm harb, State.enterXfer, if_neg (Core.cls_of_nextXfer h ▸ hc)]

end Enters

/-! ### Entry of a transfer to or from HBM -/

theorem State.enterLocal_noPermission {u : State} {n : Nat} {x : Xfer} {p : Page} (hp : (u.core n).pageOf x = some p) (hx : x.cls = 1)
    (hw : p.w = false) : u.enterLocal n x =
      (u.modCore n (fun c => c.dropWaiting x)).xlatFault n ⟨codeTranslation, 2, if p.big then 2 else 3⟩ x.va ((u.core n).sxVa x.seq) := by
  rw [State.enterLocal, hp]
  exact if_pos ⟨hx, by rw [hw]; rfl⟩

/-- A transfer that may enter takes its data along. -/
theorem State.enterLocal_enters {u v : State} {n : Nat} {x : Xfer} {p : Page} {bs : List Byte} (hp : (u.core n).pageOf x = some p)
    (hw : x.cls = 1 → p.w = true) (hr : u.reachable (p.addr x.va) (64 * x.lines) = true) (hd : u.xferData n 6 x = (v, .ok bs)) :
    u.enterLocal n x = v.modCore n (fun c => c.enter x { x with pa := p.addr x.va, data := bs }) := by
  have hw' : ¬ (x.cls = 1 ∧ (!p.w) = true) := fun ⟨hx, hno⟩ => by rw [hw hx] at hno; cases hno
  rw [State.enterLocal, hp]
  dsimp only
  rw [if_neg hw', hr, if_neg (by decide), hd]

/-! ### What follows an entry -/

theorem State.core_dropRemote (s : State) (ctx : Nat) {n : Nat} (hn : n < s.cores.length) : (s.dropRemote ctx).core n =
    { s.core n with
      outs := (s.core n).outs.filter (fun x => !(x.cls == 2 && x.ctx == ctx))
      waiting := (s.core n).waiting.filter (fun x => !(x.cls == 2 && x.ctx == ctx)) } := by
  simp [State.dropRemote, State.core, hn]

/-- A fault leaves no transfer waiting. -/
theorem State.waiting_coreFault (s : State) {n : Nat} (code va : Nat) (hn : n < s.cores.length) :
    ((s.coreFault n code va).core n).waiting = [] := by
  have hstop : ∀ (t : State) (ctx : Nat) (f : Core → Core), n < t.cores.length → (∀ c, (f c).waiting = []) →
      (((t.modCore n f).dropRemote ctx).core n).waiting = [] := fun t ctx f ht hf => by
    rw [State.core_dropRemote _ _ (by rwa [State.modCore_length]), t.core_modCore_same f ht]
    dsimp only
    rw [hf, List.filter_nil]
  refine hstop _ _ _ ?_ fun _ => rfl
  split
  · rwa [State.cBump_cores]
  · rwa [State.setReg2_cores, State.setReg_cores]

theorem State.waiting_xlatFault (s : State) {n : Nat} (e : XErr) (va cmdVa : Nat) (hn : n < s.cores.length) :
    ((s.xlatFault n e va cmdVa).core n).waiting = [] :=
  State.waiting_coreFault _ _ _ (by rwa [State.xlatInfo, State.setReg2_cores, State.setReg_cores])

theorem State.walkNext_noneWaiting {s : State} {n : Nat} (cls : Nat) (h : (s.core n).waiting = []) : s.walkNext n cls = s :=
  State.walkNext_none (by rw [Core.nextXfer, h, List.find?_nil])

/-- The transfer has entered, and what follows is a walk at most. -/
theorem State.entered_walkNext {v : State} {n : Nat} (cls : Nat) (x y : Xfer) (hn : n < v.cores.length) :
    let t := (v.modCore n fun c => c.enter x y).walkNext n cls
    (t.core n).outs = (v.core n).outs ++ [y] ∧ (t.core n).waiting = (v.core n).waiting.erase x ∧ (t.core n).portQ = (v.core n).portQ + 1 ∧
      (t.core n).buckets = lmod (v.core n).buckets x.cls (fun b => b - 576 * x.lines) ∧ (t.core n).portOrder = (v.core n).portOrder ∧
      (t.core n).spad = (v.core n).spad ∧ t.mem = v.mem ∧ (∀ m, m ≠ n → t.core m = v.core m) ∧ (t.core n).arms = (v.core n).arms := by
  obtain ⟨⟨w, hown⟩, hothers, hmem⟩ := State.walksOnly_walkNext (s := v.modCore n fun c => c.enter x y) cls (by rwa [State.modCore_length])
  rw [v.core_modCore_same _ hn] at hown
  dsimp only
  rw [hown, hmem]
  exact ⟨rfl, rfl, rfl, rfl, rfl, rfl, rfl, fun m hm => (hothers m hm).trans (v.core_modCore_ne _ hm), rfl⟩

/-! ### Reads of an engine keep the number of cores -/

theorem State.cores_length_foldl {α : Type} {f : State → α → State} (hf : ∀ s a, (f s a).cores.length = s.cores.length) (l : List α)
    (s : State) : (l.foldl f s).cores.length = s.cores.length := by
  induction l generalizing s with
  | nil => rfl
  | cons a l ih => rw [List.foldl_cons, ih, hf]

theorem State.cores_spadEvent (s : State) (n port bit line : Nat) : (s.spadEvent n port bit line).cores = s.cores := by
  unfold State.spadEvent
  dsimp only
  split
  · exact s.setReg_cores _ _
  · exact (State.setReg_cores ..).trans (s.setReg_cores _ _)

theorem State.cores_length_spadCe (s : State) (n u : Nat) : (s.spadCe n u).cores.length = s.cores.length := by
  rw [State.spadCe, State.cBump_cores, State.modCore_length, State.setReg_cores]

theorem State.cores_length_grant (s : State) (n l : Nat) : (s.grant n l).cores.length = s.cores.length := by
  unfold State.grant
  dsimp only
  split
  · rfl
  · rw [State.cBump_cores, State.modCore_length]

theorem State.cores_length_readLine (s : State) (n port l : Nat) : (s.readLine n port l).1.cores.length = s.cores.length := by
  have hce := State.cores_length_foldl (fun (s : State) (u : Nat) => s.cores_length_spadCe n u)
    (((List.range 8).map (8 * l + ·)).filter (s.core n).spadSoft.contains) s
  unfold State.readLine
  dsimp only
  split
  · rw [State.cBump_cores]
  · split
    · exact hce
    · dsimp only
      rw [State.cBump_cores, State.cores_spadEvent]
      exact hce

theorem State.cores_length_readLines (s : State) (n port : Nat) (ls : List Nat) : (s.readLines n port ls).1.cores.length = s.cores.length := by
  induction ls generalizing s with
  | nil => rfl
  | cons l ls ih =>
    rw [State.readLines]
    dsimp only
    split
    · rw [ih, State.cores_length_readLine]
    · rw [State.setReg_cores, ih, State.cores_length_readLine]

theorem State.cores_length_readReq (s : State) (n port : Nat) (req : List (Nat × Nat)) : (s.readReq n port req).1.cores.length = s.cores.length := by
  unfold State.readReq
  dsimp only
  split
  · rw [State.cBump_cores, State.cores_spadEvent]
  · rw [State.cores_length_readLines, State.cores_length_foldl fun s l => s.cores_length_grant n l]

theorem State.cores_length_engReads (s : State) (n port : Nat) (rs : List (Nat × Nat)) (qs : List (List (Nat × Nat))) :
    (s.engReads n port rs qs).1.cores.length = s.cores.length := by
  induction qs generalizing s with
  | nil => rfl
  | cons q qs ih =>
    rw [State.engReads]
    split
    · have hreq := s.cores_length_readReq n port q
      split
      · next e => rwa [e] at hreq
      · next e =>
        rw [e] at hreq
        rw [ih, hreq]
    · rfl

theorem State.cores_length_engRead {s v : State} {n port a len : Nat} {rs : List (Nat × Nat)} {r : Except Nat (List Byte)}
    (h : s.engRead n port rs a len = (v, r)) : v.cores.length = s.cores.length := by
  have hreads := s.cores_length_engReads n port rs (linReqs a len)
  unfold State.engRead at h
  split at h <;> next e => rw [e] at hreads; obtain ⟨rfl, -⟩ := Prod.mk.inj h; exact hreads

/-! ### The end of a transfer -/

theorem State.doTransferComplete_none {s : State} {n idx : Nat} (inj : Inject) (h : (s.core n).outs.length ≤ idx) :
    s.doTransferComplete n idx inj = s := by
  rw [State.doTransferComplete, List.getElem?_eq_none h]

section Completes
variable {s : State} {n idx : Nat} {x : Xfer} (inj : Inject) (h : (s.core n).outs[idx]? = some x)
include h

theorem State.doTransferComplete_remote (hx : x.cls = 2) : s.doTransferComplete n idx inj = s := by
  rw [State.doTransferComplete, h]
  exact if_pos hx

theorem State.doTransferComplete_read {u : State} {bs : List Byte} (hx : x.cls = 0) (hk : x.kind = .read)
    (hd : ((s.modCore n fun c => c.dropOut x).strikeMem inj).xferPeek n x = (u, some bs)) : s.doTransferComplete n idx inj =
      (((u.cBump n Reg.sxCntRdlines x.lines).land n 4 x.seq (64 * x.spLine) bs).modCore n Core.settleGens).armsGo n := by
  have hfinish : u.finishRead n x bs = (u.cBump n Reg.sxCntRdlines x.lines).land n 4 x.seq (64 * x.spLine) bs := by
    rw [State.finishRead, hk, hx, classCounter, if_pos rfl]
  rw [State.doTransferComplete, h]
  dsimp only
  rw [if_neg (by rw [hx]; decide), if_neg (by rw [hx]; decide), hd, ← hfinish]

theorem State.doTransferComplete_write (hx : x.cls = 1) (hk : x.kind = .write)
    (hw : ((s.modCore n fun c => c.dropOut x).cBump n Reg.sxCntWrlines x.lines).writable x.pa x.data.length true = true) :
    s.doTransferComplete n idx inj = ((((((s.modCore n fun c => c.dropOut x).cBump n Reg.sxCntWrlines x.lines).poke x.ctx x.pa x.data true).modCore
      n (fun c => c.releaseMaps x.seq)).modCore n Core.settleGens).armsGo n) := by
  have hfinish : ∀ t : State, (t.cBump n Reg.sxCntWrlines x.lines).writable x.pa x.data.length true = true → t.finishWrite n x =
      ((t.cBump n Reg.sxCntWrlines x.lines).poke x.ctx x.pa x.data true).modCore n (fun c => c.releaseMaps x.seq) := fun t ht => by
    rw [State.finishWrite, hk, hx, classCounter, if_neg (by decide), if_pos rfl]
    dsimp only
    rw [State.xferPoke, if_pos ht]
  rw [State.doTransferComplete, h]
  dsimp only
  rw [if_neg (by rw [hx]; decide), if_pos hx, hfinish _ hw]

end Completes

/-! ### The statement -/

/-- Settles O29: the entries that wait, those in their turn, and the completions. -/
theorem transfersEnterAndComplete : Obligations.TransfersEnterAndComplete := by
  intro s n x hn hd hlen
  have hc : n < s.cores.length := hlen ▸ hn
  have henter : ∀ {cls : Nat} {t : State}, s.doTransferEnter n cls = t → exec (.transferEnter n cls) s = .next t :=
    fun {cls _} h => exec_core (f := fun s => s.doTransferEnter n cls) rfl hn hd h
  have hcomplete : ∀ {idx : Nat} {inj : Inject} {t : State}, s.doTransferComplete n idx inj = t → exec (.transferComplete n idx inj) s = .next t :=
    fun {idx inj _} h => exec_core (f := fun s => s.doTransferComplete n idx inj) rfl hn hd h
  refine ⟨fun cls ha hf => ⟨fun hx => henter (State.transferEnter_none ha hf hx), fun hx => ⟨fun hno => ?_, fun ho hq hb => ?_⟩⟩, fun idx inj hidx =>
    hcomplete (State.doTransferComplete_none inj hidx), fun idx hidx => ⟨?_, fun h2 inj => hcomplete (State.doTransferComplete_remote inj hidx h2),
    fun u bs inj h0 hk hpeek => hcomplete (State.doTransferComplete_read inj hidx h0 hk hpeek),
    fun inj h1 hk hw => hcomplete (State.doTransferComplete_write inj hidx h1 hk hw)⟩⟩
  · refine henter (State.transferEnter_blocked ha hf hx (Bool.eq_false_iff.mpr fun hm => ?_))
    obtain ⟨ho, hq, hb⟩ := Core.mayEnter_iff.mp hm
    omega
  · have hm : (s.core n).mayEnter x = true := Core.mayEnter_iff.mpr ⟨ho, hq, hb⟩
    refine ⟨fun h2 hp => henter (State.transferEnter_untranslated ha hf hc hx hm h2 hp),
      fun hp harb => henter (State.transferEnter_notItsTurn ha hx hp harb), fun order harb => ?_⟩
    have hcls : x.cls = cls := Core.cls_of_nextXfer hx
    have hu := s.core_withTurn order hc
    have hul : n < (s.withTurn n order).cores.length := by rwa [State.withTurn, State.modCore_length]
    refine ⟨fun h2 => henter (State.transferEnter_remote hc hf hx hm harb h2 ha), fun p h2 hp => ?_⟩
    have hpage : ((s.withTurn n order).core n).pageOf x = some p := by rw [hu]; exact hp
    have hturn := State.takeTurn_local hc hf hx hm harb h2
    refine ⟨fun h1 hw => ?_, fun h0 hk hr => ?_, fun v bs h1 hw hk hr hread => ?_⟩
    · have hfault := State.enterLocal_noPermission hpage (hcls.trans h1) hw
      refine henter (State.doTransferEnter_eq ha ?_ fun h0 => absurd (h1.symm.trans h0) (by decide))
      rw [hturn, hfault, State.walkNext_noneWaiting cls (State.waiting_xlatFault _ _ _ _ (by rwa [State.modCore_length])), hu]
      rfl
    · have hdata : (s.withTurn n order).xferData n 6 x = (s.withTurn n order, .ok []) := by rw [State.xferData, hk]
      have hin := State.enterLocal_enters hpage (fun h1 => absurd ((hcls.trans h0).symm.trans h1) (by decide)) hr hdata
      obtain ⟨houts, hwait, hq', hb', hord, hspad, hmem, hother, harms⟩ := State.entered_walkNext cls x { x with pa := p.addr x.va, data := [] } hul
      refine ⟨_, henter (State.doTransferEnter_eq ha (by rw [hturn, hin]) fun _ => harms.trans ?_), houts, hwait, hq', hb', hord, hspad, hmem, hother⟩
      rw [hu]
      exact ha
    · have hdata : (s.withTurn n order).xferData n 6 x = (v, .ok bs) := by
        rw [State.xferData, hk, hu]
        exact hread
      have hin := State.enterLocal_enters hpage (fun _ => hw) hr hdata
      have hv : n < v.cores.length := by rwa [State.cores_length_engRead hread]
      obtain ⟨houts, hwait, hq', hb', hord, hspad, hmem, hother, -⟩ := State.entered_walkNext cls x { x with pa := p.addr x.va, data := bs } hv
      exact ⟨_, henter (State.doTransferEnter_eq ha (by rw [hturn, hin]) fun h0 => absurd (h1.symm.trans h0) (by decide)), houts, hwait, hq', hb',
        hord, hspad, hmem, hother⟩
  · exact congrArg Core.outs (s.core_modCore_same (fun c => c.dropOut x) hc)

end Sys2Proof.Machine
end

section
/-! HBM by physical address (O42). -/

namespace Sys2Proof.Machine

/-- A running device with one unmirrored region on stack 0 that the hub may reach. The data of line 5 went with its stack's supply, and in the table
of identities line 3 stands behind line 5: the keys of that table do not rise. -/
def lostLineDevice : State := { State.reset with
  rst := { State.reset.rst with mode := .running }
  pwr := { State.reset.pwr with on := BitVec.allOnes 80 }
  regs := [(hbmKey 0 0x800, 0xA0000200), (hbmKey 0 0x804, 0x2000)]
  mem := { State.reset.mem with ident := [(5, hubIdent), (3, hubIdent)], lost := [10] } }

/-- The device meets what the statement asks of a state. -/
theorem lostLineDevice_form :
    lostLineDevice.rst.mode ≠ .held ∧ cellsWf lostLineDevice.mem.bytes = true ∧ mrising lostLineDevice.regs = true := by decide +kernel

/-- A write of the Pilot to line 5 is let through and carried out. -/
theorem lostLineDevice_writable :
    lostLineDevice.memAt .pilot 0x140 = some (.phys .hub 0x140 none) ∧ memWidth 0x140 4 = true ∧
      lostLineDevice.memLets .hub 0x140 none = true ∧ lostLineDevice.writable 0x140 4 = true := by decide +kernel

/-- The write takes line 5 out of the table of identities, and the lookup of line 3, which line 5 stopped, then finds its entry. -/
theorem lostLineDevice_line3 : mget lostLineDevice.mem.ident (0xC0 / 64) = none ∧
    mget (lostLineDevice.busWrite .pilot 0x140 4 0).mem.ident (0xC0 / 64) = some hubIdent := by decide +kernel

/-- Refutes O42: the statement asks that the bytes and the registers are canonical, and not that the table of identities is. Where the keys of that
table do not rise, a write to a line whose data is destroyed (R19) changes what another line's identity reads as. -/
theorem not_hbmAccessesOfAgents : ¬ Obligations.HbmAccessesOfAgents := by
  intro h
  obtain ⟨hup, hbytes, hregs⟩ := lostLineDevice_form
  obtain ⟨hat, hwidth, hlets, hwritable⟩ := lostLineDevice_writable
  obtain ⟨hbefore, hafter⟩ := lostLineDevice_line3
  obtain ⟨hphys, -⟩ := h lostLineDevice .pilot 0x140 4 0 hup hbytes hregs
  obtain ⟨-, -, -, -, hgo⟩ := hphys .hub 0x140 none hat
  obtain ⟨-, -, hwrite, -⟩ := hgo hwidth hlets
  obtain ⟨t, hexec, -, -, hother, -⟩ := hwrite hwritable
  obtain rfl : lostLineDevice.busWrite .pilot 0x140 4 0 = t := Host.Outcome.next.inj hexec
  obtain ⟨-, hident⟩ := hother 0xC0 (by decide)
  rw [hbefore, hafter] at hident
  cases hident

end Sys2Proof.Machine
end

section
/-! What leaves the mailboxes and the tables of the firmware alone: an operation of the units, unless it sends events or answers. A lemma for each
operation that a request of Epian about jobs, power or firmware reaches. -/

namespace Sys2Proof.Machine

/-- The mailboxes and the firmware's tables of `t` are those of `s`. -/
structure State.KeepsFirmware (s t : State) : Prop where
  mbx : t.mbx = s.mbx
  pilot : t.pilot = s.pilot

namespace State.KeepsFirmware

theorem refl (s : State) : s.KeepsFirmware s := ⟨rfl, rfl⟩

theorem trans {s t u : State} (h : s.KeepsFirmware t) (h' : t.KeepsFirmware u) : s.KeepsFirmware u := ⟨h'.mbx.trans h.mbx, h'.pilot.trans h.pilot⟩

variable {s t u : State} (h : s.KeepsFirmware t)
include h

theorem update (hm : u.mbx = t.mbx := by rfl) (hp : u.pilot = t.pilot := by rfl) : s.KeepsFirmware u := ⟨hm.trans h.mbx, hp.trans h.pilot⟩

theorem ite {c : Prop} {_ : Decidable c} (h' : s.KeepsFirmware u) : s.KeepsFirmware (if c then t else u) := by
  split <;> assumption

theorem foldl {α : Type} {f : State → α → State} (hf : ∀ u a, s.KeepsFirmware u → s.KeepsFirmware (f u a)) (l : List α) :
    s.KeepsFirmware (l.foldl f t) := by
  induction l generalizing t with
  | nil => exact h
  | cons a l ih => exact ih (hf t a h)

/-! ### Registers, cores and memory -/

theorem setReg (k : Nat) (v : Word) : s.KeepsFirmware (t.setReg k v) := h.update

theorem bump (k n : Nat) : s.KeepsFirmware (t.bump k n) := h.setReg _ _

theorem orReg (k : Nat) (m : Word) : s.KeepsFirmware (t.orReg k m) := h.setReg _ _

theorem clrReg (k : Nat) (m : Word) : s.KeepsFirmware (t.clrReg k m) := h.setReg _ _

theorem setReg2 (lo v : Nat) : s.KeepsFirmware (t.setReg2 lo v) := (h.setReg _ _).setReg _ _

theorem plainWrite (k : Nat) (v : Word) : s.KeepsFirmware (t.plainWrite k v) := by
  unfold State.plainWrite
  split
  · exact h.setReg _ _
  · exact h

theorem cBump (n off k : Nat) : s.KeepsFirmware (t.cBump n off k) := h.bump _ _

theorem modCore (n : Nat) (f : Core → Core) : s.KeepsFirmware (t.modCore n f) := h.update

theorem nextFree : s.KeepsFirmware t.nextFree := h.update

theorem withMem (m : Mem) : s.KeepsFirmware { t with mem := m } := h.update

theorem stackErr (n bit a : Nat) : s.KeepsFirmware (t.stackErr n bit a) := h.setReg _ _

theorem startHbmTest (n pc : Nat) : s.KeepsFirmware (t.startHbmTest n pc) := h.ite ((h.setReg _ _).orReg _ _)

theorem noteLine (l : Nat) (late : Bool) : s.KeepsFirmware (t.noteLine l late) := by
  unfold State.noteLine
  dsimp only
  split
  · exact h
  · next c _ _ =>
    have hread := h.bump (hbmKey c.2.stack Reg.hbmCntRdlines) 1
    split
    · split
      · exact (((hread.withMem _).bump _ _).stackErr _ _ _).bump _ _
      · exact (((hread.bump _ _).stackErr _ _ _).startHbmTest _ _).setReg2 _ _
    · split
      · exact ((hread.withMem _).bump _ _).stackErr _ _ _
      · exact hread

theorem noteRead (a n : Nat) (late : Bool) : s.KeepsFirmware (t.noteRead a n late) := h.foldl (fun _ l h => h.noteLine l late) _

theorem poke (ident a : Nat) (bs : List Byte) (late : Bool) : s.KeepsFirmware (t.poke ident a bs late) := by
  have hold := h.foldl (fun _ l h => h.noteLine l late) (partLines a bs.length)
  unfold State.poke
  dsimp only
  split
  · exact (hold.foldl (fun u l h => h.foldl (fun _ c h => h.bump _ _) _) _).withMem _
  · exact hold.ite h

theorem hubPoke (a : Nat) (bs : List Byte) : s.KeepsFirmware (t.hubPoke a bs) := (h.poke _ _ _ _).ite h

theorem dropRemote (ctx : Nat) : s.KeepsFirmware (t.dropRemote ctx) := h.update

theorem doCoreAbort (n : Nat) : s.KeepsFirmware (t.doCoreAbort n) := (h.modCore _ _).dropRemote _

theorem doSpdRevoke (n ctx : Nat) (idle : Bool) : s.KeepsFirmware (t.doSpdRevoke n ctx idle) := h.ite ((h.orReg _ _).ite (h.modCore _ _))

theorem revokeAll (ctx : Nat) : s.KeepsFirmware (t.revokeAll ctx) :=
  h.foldl (fun _ n h => ((h.modCore n _).ite (h.doSpdRevoke n ctx _)).ite h) _

/-! ### Contexts, streams and model slots in HBM -/

theorem putCent (c : Nat) (ws : List Word) : s.KeepsFirmware (t.putCent c ws) := h.hubPoke _ _

theorem modCent (c : Nat) (f : List Word → List Word) : s.KeepsFirmware (t.modCent c f) := h.putCent _ _

theorem putSctx (i : Nat) (ws : List Word) : s.KeepsFirmware (t.putSctx i ws) := (h.hubPoke _ _).hubPoke _ _

theorem putMslot (m : Nat) (ws : List Word) : s.KeepsFirmware (t.putMslot m ws) := h.hubPoke _ _

theorem modStrm (i : Nat) (f : Stream → Stream) : s.KeepsFirmware (t.modStrm i f) := h.update

theorem logEvent (typ : Nat) (x seq : Word) : s.KeepsFirmware (t.logEvent typ x seq) := by
  unfold State.logEvent
  split
  · exact h.update
  · exact (h.bump _ _).orReg _ _

theorem logEventFree (typ : Nat) (x : Word) : s.KeepsFirmware (t.logEventFree typ x) := (h.logEvent _ _ _).nextFree

theorem abortStream (i : Nat) : s.KeepsFirmware (t.abortStream i) := by
  unfold State.abortStream
  dsimp only
  split
  · exact h
  · have hctx := (h.putSctx i (putFld (putFld (t.sctx i) 0 15 12 3) 0 6 6 0)).modStrm i (fun x => { x with cur := none, rtp := {} })
    exact (hctx.update).logEventFree _ _

theorem abortStreams (job : Nat) : s.KeepsFirmware (t.abortStreams job) := h.foldl (fun _ _ h => h.foldl (fun _ i h => h.abortStream i) _) _

theorem abortCores (ctx : Nat) : s.KeepsFirmware (t.abortCores ctx) := h.foldl (fun _ n h => h.doCoreAbort n) _

theorem dropWork (ctx : Nat) : s.KeepsFirmware (t.dropWork ctx) := h.update

theorem setOvc (i : Nat) (v : Bool) : s.KeepsFirmware (t.setOvc i v) := (h.putSctx _ _).logEventFree _ _

theorem foldl_fst {α β : Type} {f : State × β → α → State × β} (hf : ∀ p a, s.KeepsFirmware p.1 → s.KeepsFirmware (f p a).1) (l : List α) (b : β) :
    s.KeepsFirmware (l.foldl f (t, b)).1 := by
  suffices hp : ∀ p : State × β, s.KeepsFirmware p.1 → s.KeepsFirmware (l.foldl f p).1 from hp (t, b) h
  intro p hp
  induction l generalizing p with
  | nil => exact hp
  | cons a l ih => exact ih (f p a) (hf p a hp)

theorem balance (m : Nat) : s.KeepsFirmware (t.balance m) := by
  unfold State.balance
  refine (h.foldl (fun _ i h => (h.setOvc i true).ite h) _).foldl_fst (fun p i hp => ?_) _ _
  dsimp only
  split
  · split
    · exact hp.setOvc i false
    · exact hp
  · exact hp

theorem setCapacity (m cap : Nat) : s.KeepsFirmware (t.setCapacity m cap) := (h.putMslot _ _).balance m

theorem recapacity (n : Nat) : s.KeepsFirmware (t.recapacity n) := by
  refine h.foldl (fun u e hu => ?_) _
  split
  · exact (hu.setCapacity _ _).ite hu
  · exact hu

/-! ### Invalidations, fills and pages -/

theorem lastInval {ctx : Nat} {f : Inval → Inval} (he : t.lastInval ctx f = some u) : s.KeepsFirmware u := by
  unfold State.lastInval at he
  dsimp only at he
  split at he
  · cases he
    exact h.update
  · obtain ⟨l, -, rfl⟩ := Option.map_eq_some_iff.mp he
    exact h.update

theorem toFill (f : Fill) : s.KeepsFirmware (t.toFill f) := by
  unfold State.toFill
  split <;> exact h.update

theorem fillAfter (ctx : Nat) (f : Fill) : s.KeepsFirmware (t.fillAfter ctx f) := by
  unfold State.fillAfter
  cases he : t.lastInval ctx (fun i => { i with fills := i.fills ++ [f] }) with
  | none => exact h.toFill f
  | some u => exact h.lastInval he

theorem lowerCount (p f k : Nat) : s.KeepsFirmware (t.lowerCount p f k) := by
  have hset : s.KeepsFirmware (t.setCount p f (t.count p f - k)) := h.hubPoke _ _
  exact (hset.fillAfter _ _).ite hset

theorem lowerFrame (ctx pa k : Nat) : s.KeepsFirmware (t.lowerFrame ctx pa k) := by
  unfold State.lowerFrame
  split
  · exact h.lowerCount _ _ _
  · exact h

theorem unmapFrom (va fuel level tab : Nat) : s.KeepsFirmware (t.unmapFrom va fuel level tab) := by
  induction fuel generalizing level tab with
  | zero => exact h
  | succ fuel ih =>
    rw [State.unmapFrom]
    exact h.ite ((ih _ _).ite (h.hubPoke _ _))

theorem unmapPage (ctx va : Nat) : s.KeepsFirmware (t.unmapPage ctx va) := h.unmapFrom _ _ _ _

theorem dropTlbs (i : Inval) : s.KeepsFirmware (t.dropTlbs i) := by
  unfold State.dropTlbs
  exact KeepsFirmware.foldl h.update (fun _ n h => h.ite (h.cBump _ _ _)) _

theorem startInval : s.KeepsFirmware t.startInval := by
  unfold State.startInval
  split
  · exact KeepsFirmware.dropTlbs h.update _
  · exact h

theorem invalidate (i : Inval) : s.KeepsFirmware (t.invalidate i) := by
  unfold State.invalidate
  split
  · exact h.update
  · have hq : s.KeepsFirmware { t with hub := { t.hub with invQueue := t.hub.invQueue ++ [i] } } := h.update
    exact hq.startInval.ite hq

theorem kvUnmap (ctx va : Nat) : s.KeepsFirmware (t.kvUnmap ctx va) := (h.unmapPage _ _).invalidate _

theorem dropKv (i : Nat) : s.KeepsFirmware (t.dropKv i) := by
  unfold State.dropKv
  dsimp only
  split
  · exact h
  · refine h.foldl (fun u x hu => ?_) _
    split
    · exact (hu.kvUnmap _ _).lowerFrame _ _ _
    · exact hu

theorem freeStream (i : Nat) : s.KeepsFirmware (t.freeStream i) := by
  unfold State.freeStream
  exact KeepsFirmware.logEventFree (((h.dropKv i).putSctx _ _).update) _ _

/-! ### The scheduler and the page-table unit -/

theorem syncCores (ctx : Nat) : s.KeepsFirmware (t.syncCores ctx) := h.ite (h.modCent _ _)

theorem stopBatches (n : Nat) (ids : List Nat) : s.KeepsFirmware (t.stopBatches n ids) := by
  unfold State.stopBatches
  exact KeepsFirmware.foldl (h.foldl (fun _ k h => h.doCoreAbort k) _).update (fun _ c h => h.syncCores c) _

theorem doLogSchedRedispatch (n : Nat) : s.KeepsFirmware (t.doLogSchedRedispatch n) :=
  (h.orReg _ _).ite ((h.doCoreAbort n).stopBatches _ _)

theorem stopCore (n : Nat) (hw : Bool) (ids : List Nat) : s.KeepsFirmware (t.stopCore n hw ids) :=
  (h.doLogSchedRedispatch n).ite ((h.doCoreAbort n).stopBatches _ _)

theorem modBatch (id : Nat) (f : Batch → Batch) : s.KeepsFirmware (t.modBatch id f) := h.update

theorem modKv (f : Kv → Kv) : s.KeepsFirmware (t.modKv f) := h.update

theorem releasePins (n : Nat) : s.KeepsFirmware (t.releasePins n) := by
  refine (h.modKv _).foldl (fun u p hu => ?_) _
  split
  · exact hu.lowerCount _ _ _
  · exact hu

theorem releaseStale (n : Nat) : s.KeepsFirmware (t.releaseStale n) := ((h.modKv _).releasePins n).ite h

/-! ### Tests of a core -/

theorem doSpdBist (n bank : Nat) : s.KeepsFirmware (t.doSpdBist n bank) :=
  KeepsFirmware.ite (((h.setReg _ _).modCore _ _).clrReg _ _) (h.setReg _ _)

theorem doMxBist (n : Nat) : s.KeepsFirmware (t.doMxBist n) := ((h.modCore _ _).clrReg _ _).ite h

theorem doVxBist (n : Nat) : s.KeepsFirmware (t.doVxBist n) := ((h.modCore _ _).clrReg _ _).ite h

theorem sendFlit (n : Nat) (f : Flit) : s.KeepsFirmware (t.sendFlit n f) := by
  unfold State.sendFlit
  split
  · exact h.modCore _ _
  · exact h

theorem flushHop (n k : Nat) : s.KeepsFirmware (t.flushHop n k) := by
  induction k generalizing t with
  | zero => exact h
  | succ k ih =>
    rw [State.flushHop]
    split
    · exact h
    · exact (ih (((h.modCore _ _).sendFlit _ _).cBump _ _ _)).ite h

theorem engageBypass (n : Nat) : s.KeepsFirmware (t.engageBypass n) := ((h.flushHop _ _).modCore _ _).ite (h.flushHop _ _)

theorem startSoundTest (n : Nat) (x : SoundTest) : s.KeepsFirmware (t.startSoundTest n x) := by
  unfold State.startSoundTest
  split
  · exact h.doSpdBist _ _
  · exact h.doMxBist _
  · exact h.doVxBist _
  · exact (h.engageBypass _).modCore _ _

/-! ### Sending on Rhumb -/

theorem modRhb (f : Rhumb → Rhumb) : s.KeepsFirmware (t.modRhb f) := h.update

theorem pBump (p off n : Nat) : s.KeepsFirmware (t.pBump p off n) := h.bump _ _

theorem drainPort (p : Nat) : s.KeepsFirmware (t.drainPort p) := h.ite ((h.modRhb _).pBump _ _ _)

theorem routeTx (x : RhbTx) : s.KeepsFirmware (t.routeTx x) := by
  unfold State.routeTx
  split
  · exact (h.modRhb _).drainPort _
  · exact h.pBump _ _ _

theorem sendTx (x : RhbTx) : s.KeepsFirmware (t.sendTx x) := ((h.modRhb _).routeTx _).ite h

theorem sendMgmt (dev : Nat) (ws : List Word) : s.KeepsFirmware (t.sendMgmt dev ws) := (h.sendTx _).ite (((h.modRhb _).sendTx _).modRhb _)

end State.KeepsFirmware

end Sys2Proof.Machine
end

section
/-! What leaves the requests under service as they are: the events, tests, teardowns and failures that the firmware takes up after a restart answer no
request, and give up none. -/

namespace Sys2Proof.Machine

/-- What the partner of a channel sees of its request: whether it waits, and the response. -/
def Channel.answered (c : Channel) : Bool × Bool × NatMap Word := (c.busy, c.rspReady, c.rsp)

/-- From `s` to `t` no request is answered, taken or given up. -/
structure State.Undisturbed (s t : State) : Prop where
  serving : t.pilot.serving = s.pilot.serving
  answered : t.mbx.map Channel.answered = s.mbx.map Channel.answered

theorem map_lmod_of_eq {α β : Type} (l : List α) (i : Nat) {f : α → α} {g : α → β} (h : ∀ x, g (f x) = g x) : (lmod l i f).map g = l.map g := by
  unfold lmod
  induction l generalizing i with
  | nil => rw [List.modify_nil]
  | cons x xs ih =>
    cases i with
    | zero => exact congrArg (· :: xs.map g) (h x)
    | succ i => exact congrArg (g x :: ·) (ih i)

theorem State.KeepsFirmware.undisturbed {s t : State} (h : s.KeepsFirmware t) : s.Undisturbed t :=
  ⟨congrArg Pilot.serving h.pilot, congrArg (List.map Channel.answered) h.mbx⟩

/-- The key of a job that ends goes, where it has one. -/
def State.eraseJobKey (s : State) (k : Nat) : State :=
  if k = 0 then s else { s.doRhbKeyClear k with pilot := { s.pilot with keyBind := mdel s.pilot.keyBind k } }

/-- The records of a teardown that has ended: its job has ended, and its context ID may be used again. -/
def State.closeTeardown (s : State) (x : Teardown) : State :=
  let s := s.modJob x.job.id (fun j => { j with ended := true, posted := false })
  { s with
    cores := s.cores.map (fun c => if c.lastCtx = some x.job.ctxId then { c with lastCtx := none } else c)
    sched := { s.sched with rot := mdel s.sched.rot x.job.ctxId }
    pilot := { s.pilot with teardowns := s.pilot.teardowns.filter (fun y => y.job.ctxId != x.job.ctxId) } }

namespace State.Undisturbed

theorem refl (s : State) : s.Undisturbed s := ⟨rfl, rfl⟩

theorem trans {s t u : State} (h : s.Undisturbed t) (h' : t.Undisturbed u) : s.Undisturbed u :=
  ⟨h'.serving.trans h.serving, h'.answered.trans h.answered⟩

variable {s t u : State} (h : s.Undisturbed t)
include h

theorem length : t.mbx.length = s.mbx.length := by
  have hl := congrArg List.length h.answered
  rwa [List.length_map, List.length_map] at hl

theorem chan (ch : Nat) : (t.chan ch).answered = (s.chan ch).answered := by
  unfold State.chan
  rw [List.getD_eq_getElem?_getD, List.getD_eq_getElem?_getD, ← Option.getD_map Channel.answered, ← Option.getD_map Channel.answered,
    ← List.getElem?_map, ← List.getElem?_map, h.answered]

theorem busy (ch : Nat) : (t.chan ch).busy = (s.chan ch).busy := congrArg Prod.fst (h.chan ch)

theorem rspReady (ch : Nat) : (t.chan ch).rspReady = (s.chan ch).rspReady := congrArg (fun a => a.2.1) (h.chan ch)

theorem rsp (ch : Nat) : (t.chan ch).rsp = (s.chan ch).rsp := congrArg (fun a => a.2.2) (h.chan ch)

theorem update (hs : u.pilot.serving = t.pilot.serving := by rfl) (hm : u.mbx = t.mbx := by rfl) : s.Undisturbed u :=
  ⟨hs.trans h.serving, (congrArg _ hm).trans h.answered⟩

theorem keeps (h' : t.KeepsFirmware u) : s.Undisturbed u := h.trans h'.undisturbed

theorem ite {c : Prop} [Decidable c] (h' : s.Undisturbed u) : s.Undisturbed (if c then t else u) := by
  split <;> assumption

theorem foldl {α : Type} {f : State → α → State} (hf : ∀ u a, s.Undisturbed u → s.Undisturbed (f u a)) (l : List α) :
    s.Undisturbed (l.foldl f t) := by
  induction l generalizing t with
  | nil => exact h
  | cons a l ih => exact ih (hf t a h)

/-! ### Events -/

theorem modChan (ch : Nat) {f : Channel → Channel} (hf : ∀ c, (f c).answered = c.answered := by intro; rfl) : s.Undisturbed (t.modChan ch f) :=
  ⟨h.serving, (map_lmod_of_eq t.mbx ch hf).trans h.answered⟩

theorem signal (ch vector : Nat) : s.Undisturbed (t.signal ch vector) := (h.modChan ch).ite h

theorem flushMgmt (fuel : Nat) : s.Undisturbed (t.flushMgmt fuel) := by
  induction fuel generalizing t with
  | zero => exact h
  | succ fuel ih =>
    rw [State.flushMgmt]
    split
    · next d e r _ _ =>
      have hsent := (h.modChan 18 (f := fun c => { c with events := r })).keeps ((KeepsFirmware.refl _).sendMgmt d e)
      exact ih (hsent.ite (hsent.modChan 18))
    · exact h

theorem pushEvent (ch code job : Nat) (w : List Word) : s.Undisturbed (t.pushEvent ch code job w) := by
  have hq := h.modChan ch (f := fun c => c.queueEvent code job w)
  have hsig := (hq.signal ch 1).ite hq (c := flag (t.chan ch).ctrl 1 = true)
  exact ((hsig.flushMgmt 64).ite hsig).ite (h.modChan ch)

theorem pushEvents (chs : List Nat) (code : Nat) (w : State → List Word) : s.Undisturbed (chs.foldl (fun u ch => u.pushEvent ch code 0 (w u)) t) :=
  h.foldl (fun _ ch hu => hu.pushEvent ch code 0 _) chs

/-! ### Power, retirement and teardown -/

theorem placePower (fuel : Nat) : s.Undisturbed (t.placePower fuel) := by
  induction fuel generalizing t with
  | zero => exact h
  | succ fuel ih =>
    rw [State.placePower]
    split
    · exact h
    · exact (ih h.update).ite h

theorem askPower (on : Bool) (ds : List Nat) : s.Undisturbed (t.askPower on ds) := by
  unfold State.askPower State.wantPower
  exact placePower h.update 80

theorem flashWrite (a : Nat) (bs : List Byte) : s.Undisturbed (t.flashWrite a bs) := h.update

theorem logRetire (e : Word) : s.Undisturbed (t.logRetire e) := by
  unfold State.logRetire
  dsimp only
  split
  · exact h.flashWrite _ _
  · exact (h.flashWrite _ _).flashWrite _ _

theorem enterUnit (kind unit sub : Nat) : s.Undisturbed (t.enterUnit kind unit sub) := by
  unfold State.enterUnit
  exact logRetire h.update _

theorem retireUnit (kind unit sub : Nat) : s.Undisturbed (t.retireUnit kind unit sub) := (h.enterUnit _ _ _).pushEvent _ _ _ _

theorem startTeardown (j : Job) (ok : Bool) (fault core : Nat) : s.Undisturbed (t.startTeardown j ok fault core) := by
  unfold State.startTeardown
  have hk := (((((KeepsFirmware.refl t).modCent j.ctxId (fun w =>
    putFld (putFld (putFld w 0 31 28 3) 3 15 8 fault) 3 4 0 core)).abortStreams j.id).abortCores j.ctxId).dropWork j.ctxId)
  exact h.ite (h.keeps hk).update

theorem afterStackFail (k : Nat) : s.Undisturbed (t.afterStackFail k) := by
  have hasked := (h.retireUnit 4 k 0).askPower false [64 + k]
  have habort := fun l => hasked.foldl (fun _ i hu => hu.keeps ((KeepsFirmware.refl _).abortStream i)) l
  have htear := fun l m => (habort l).foldl (fun _ j hu => hu.startTeardown j false codeMemStack 0) m
  exact (htear _ _).foldl (fun _ _ hu => hu.keeps ((KeepsFirmware.refl _).setCapacity _ _)) _

/-! ### Core failure -/

theorem sound (n : Nat) (ts : List SoundTest) : s.Undisturbed (t.sound n ts) := by
  have hclr := h.keeps ((KeepsFirmware.refl t).clrReg Reg.logSchedUsable (w32 (2 ^ n)))
  exact hclr.update.ite hclr.update

theorem stopCore (n : Nat) (hw : Bool) (ids : List Nat) : s.Undisturbed (t.stopCore n hw ids) := h.keeps ((KeepsFirmware.refl t).stopCore n hw ids)

theorem batchFault (n id code : Nat) : s.Undisturbed (t.batchFault n id code) := by
  unfold State.batchFault
  dsimp only
  split
  · exact h.stopCore _ _ _
  · refine ((h.keeps ((KeepsFirmware.refl t).modBatch _ _)).stopCore _ _ _).ite ?_
    split
    · exact (h.startTeardown _ _ _ _).stopCore _ _ _
    · exact h.stopCore _ _ _

theorem directFault (n ctx code : Nat) (spill : Bool) : s.Undisturbed (t.directFault n ctx code spill) := by
  unfold State.directFault
  dsimp only
  split
  · exact (h.startTeardown _ _ _ _).stopCore _ _ _
  · exact h.stopCore _ _ _

theorem workFault (n code : Nat) (ran : Option WorkItem) (spill : Bool) : s.Undisturbed (t.workFault n code ran spill) := by
  unfold State.workFault
  split
  · exact h.batchFault _ _ _
  · exact h.directFault _ _ _ _
  · exact h.stopCore _ _ _

theorem coreFailure (n : Nat) (ran : Option WorkItem) (spill : Bool) : s.Undisturbed (t.coreFailure n ran spill) :=
  (h.sound n fullTest).workFault _ _ _ _

/-! ### The end of a teardown, and Sounding -/

theorem eraseJobKey (k : Nat) : s.Undisturbed (t.eraseJobKey k) := h.ite h.update

theorem countEnd (client : Nat) (ok : Bool) : s.Undisturbed (t.countEnd client ok) := h.update

theorem closeTeardown (x : Teardown) : s.Undisturbed (t.closeTeardown x) := h.update

theorem freeContext (x : Teardown) : s.Undisturbed (t.freeContext x) := by
  have hkv := h.keeps ((KeepsFirmware.refl t).modKv (fun k => { k with pools := k.pools.filter (fun e => decide (poolCtx e.2 ≠ x.job.ctxId)) }))
  have hcount := ((hkv.eraseJobKey x.job.key).keeps ((KeepsFirmware.refl _).revokeAll x.job.ctxId)).countEnd x.job.client x.ok
  have hevent := (hcount.pushEvent x.job.ch 0x11 x.job.id [w32 x.job.id, w32 x.job.client]).ite (c := x.ok = true)
    (hcount.pushEvent x.job.ch 0x12 x.job.id [w32 x.job.id, w32 x.job.client, w32 x.fault, w32 x.core])
  exact (hevent.keeps ((KeepsFirmware.refl _).modCent x.job.ctxId (fun w => (putFld w 0 31 28 0).set 1 0))).closeTeardown x

theorem endTeardowns : s.Undisturbed t.endTeardowns := (h.foldl (fun _ x hu => hu.freeContext x) _).ite h

theorem toService (n : Nat) : s.Undisturbed (t.toService n) := by
  unfold State.toService State.unsound
  dsimp only
  have hheld := h.update (u := { t with pilot := { t.pilot with
    sounding := t.pilot.sounding.filter (fun x => x.core != n), held := t.pilot.held &&& ~~~ (bit32 n) } })
  exact (hheld.keeps (((KeepsFirmware.refl _).orReg _ _).recapacity n)).ite hheld

theorem soundNext (n : Nat) : s.Undisturbed (t.soundNext n) := by
  unfold State.soundNext
  dsimp only
  refine h.ite ?_
  split
  · exact h.keeps ((KeepsFirmware.refl t).startSoundTest _ _)
  · exact h.toService _
  · exact h

/-- The firmware goes on after a restart without answering a request. -/
theorem resumePilot {cause : Nat} (hc : cause ≠ 2) : s.Undisturbed (t.resumePilot cause) := by
  unfold State.resumePilot
  rw [if_neg hc]
  refine h.update.ite ?_
  dsimp only
  have hstart := h.update (u := { t with rst := { t.rst with mode := .running }, pilot := { t.pilot with coresUnseen := [] } })
  have hstacks := hstart.foldl (fun _ k hu => hu.afterStackFail k) (State.stacksUnseen { t with rst := { t.rst with mode := .running } })
  have hcores := hstacks.foldl (fun _ x hu => hu.coreFailure x.1 x.2.1 x.2.2) t.pilot.coresUnseen
  have hstale := hcores.foldl (fun _ n hu => hu.keeps ((KeepsFirmware.refl _).releaseStale n)) (List.range 32)
  exact hstale.endTeardowns.foldl (fun _ n hu => hu.soundNext n) _

end State.Undisturbed

end Sys2Proof.Machine
end

section
/-! How a request is taken, refused and answered: the checks of the job it names, and what its channel holds afterwards. -/

namespace Sys2Proof.Machine

/-! ### The answer of a channel (R379, R385) -/

/-- The words of a response as its channel keeps them. -/
def responseMap (ws : List Word) : NatMap Word := (ws.zipIdx.filter (fun e => e.1 ≠ 0)).map (fun e => (e.2, e.1))

theorem mgetD_cons {α : Type} (m : NatMap α) (n k : Nat) (v d : α) :
    mgetD ((n, v) :: m) k d = if k = n then v else if k < n then d else mgetD m k d := by
  unfold mgetD
  rw [mget]
  split_ifs <;> rfl

/-- Words numbered from `n` on, the zero ones left out, are read back as they were. -/
theorem mgetD_zipIdx (ws : List Word) (n k : Nat) :
    mgetD (((ws.zipIdx n).filter (fun e => e.1 ≠ 0)).map (fun e => (e.2, e.1))) k 0 = if n ≤ k then wd ws (k - n) else 0 := by
  induction ws generalizing n with
  | nil => exact (ite_self 0).symm
  | cons w ws ih =>
    have hrest : n < k → wd (w :: ws) (k - n) = wd ws (k - (n + 1)) := fun h => by
      rw [show k - n = k - (n + 1) + 1 by omega]; rfl
    rw [List.zipIdx_cons]
    by_cases hw : w = 0
    · rw [List.filter_cons_of_neg (by simpa using hw), ih]
      rcases Nat.lt_trichotomy k n with hk | rfl | hk
      · rw [if_neg (by omega), if_neg (by omega)]
      · rw [if_neg (by omega), if_pos (Nat.le_refl k), Nat.sub_self]
        exact hw.symm
      · rw [if_pos (Nat.succ_le_of_lt hk), if_pos hk.le, hrest hk]
    · rw [List.filter_cons_of_pos (by simpa using hw), List.map_cons, mgetD_cons, ih]
      rcases Nat.lt_trichotomy k n with hk | rfl | hk
      · rw [if_neg (by omega), if_pos hk, if_neg (by omega)]
      · rw [if_pos rfl, if_pos (Nat.le_refl k), Nat.sub_self]
        rfl
      · rw [if_neg (by omega), if_neg (by omega), if_pos (Nat.succ_le_of_lt hk), if_pos hk.le, hrest hk]

theorem mgetD_responseMap (ws : List Word) (k : Nat) : mgetD (responseMap ws) k 0 = wd ws k := by
  simpa [responseMap] using mgetD_zipIdx ws 0 k

/-- A channel whose request is answered with words. -/
def Channel.respond (ws : List Word) (c : Channel) : Channel := { c with rsp := responseMap ws, rspReady := true, busy := false }

/-- A state in which a channel holds its response, and its partner has been told. -/
def State.responded (s : State) (ch : Nat) (ws : List Word) : State :=
  let s := s.modChan ch (Channel.respond ws)
  if flag (s.chan ch).ctrl 0 then s.signal ch 0 else s

theorem State.responded_keeps_respond (s : State) (ch : Nat) (ws : List Word) : (s.responded ch ws).KeepsFirmware (s.respond ch ws) :=
  ((KeepsFirmware.refl (s.responded ch ws)).sendMgmt (s.responded ch ws).pilot.mgmtReq ws).ite (.refl _)

theorem State.responded_eq (s : State) (ch : Nat) (ws : List Word) : ∃ m, s.responded ch ws = { s with mbx := m } := by
  unfold responded signal
  dsimp only
  split_ifs <;> exact ⟨_, rfl⟩

/-- Outside mailbox 2 an answer changes nothing but the mailboxes. -/
theorem State.respond_eq (s : State) {ch : Nat} (ws : List Word) (h : ch ≠ 18) : ∃ m, s.respond ch ws = { s with mbx := m } := by
  obtain ⟨m, hm⟩ := s.responded_eq ch ws
  exact ⟨m, (if_neg h).trans hm⟩

theorem State.responded_pilot (s : State) (ch : Nat) (ws : List Word) : (s.responded ch ws).pilot = s.pilot := by
  obtain ⟨m, hm⟩ := s.responded_eq ch ws
  rw [hm]

@[simp] theorem State.respond_pilot (s : State) (ch : Nat) (ws : List Word) : (s.respond ch ws).pilot = s.pilot :=
  (s.responded_keeps_respond ch ws).pilot.trans (s.responded_pilot ch ws)

theorem State.respond_undisturbed (s : State) (ch : Nat) (ws : List Word) : (s.modChan ch (Channel.respond ws)).Undisturbed (s.respond ch ws) :=
  (((Undisturbed.refl _).signal ch 0).ite (.refl _)).keeps (s.responded_keeps_respond ch ws)

theorem State.respond_answered {s : State} {ch : Nat} (ws : List Word) (h : ch < s.mbx.length) :
    ((s.respond ch ws).chan ch).answered = (false, true, responseMap ws) := by
  rw [(s.respond_undisturbed ch ws).chan ch, s.chan_modChan_same _ h]
  rfl

theorem State.signal_mbx_congr {s t : State} (ch vector : Nat) (hm : t.mbx = s.mbx) (hl : t.pilot.hostLink = s.pilot.hostLink) :
    (t.signal ch vector).mbx = (s.signal ch vector).mbx := by
  unfold signal
  by_cases hs : mailboxOf ch = 1 ∧ s.pilot.hostLink
  · rw [if_pos hs, if_pos (hl ▸ hs)]
    exact congrArg (fun m => lmod m ch _) hm
  · rw [if_neg hs, if_neg (hl ▸ hs)]
    exact hm

/-- What the mailboxes hold after an answer depends on the mailboxes and on the host link alone. -/
theorem State.respond_mbx_congr {s t : State} (ch : Nat) (ws : List Word) (hm : t.mbx = s.mbx) (hl : t.pilot.hostLink = s.pilot.hostLink) :
    (t.respond ch ws).mbx = (s.respond ch ws).mbx := by
  have hput : (t.modChan ch (Channel.respond ws)).mbx = (s.modChan ch (Channel.respond ws)).mbx := congrArg (fun m => lmod m ch _) hm
  rw [(t.responded_keeps_respond ch ws).mbx, (s.responded_keeps_respond ch ws).mbx]
  unfold responded State.chan
  dsimp only
  rw [hput]
  split
  · exact signal_mbx_congr ch 0 hput hl
  · exact hput

section
variable (s : State) {ch : Nat} (status : Nat) (job : Word) (ws : List Word)

@[simp] theorem State.answer_pilot : (s.answer ch status job ws).pilot = s.pilot := s.respond_pilot ch _

theorem State.answer_eq (h : ch ≠ 18) : ∃ m, s.answer ch status job ws = { s with mbx := m } := s.respond_eq _ h

variable {s}

theorem State.answer_mbx_congr {t : State} (hm : t.mbx = s.mbx) (hl : t.pilot.hostLink = s.pilot.hostLink) :
    (t.answer ch status job ws).mbx = (s.answer ch status job ws).mbx := by
  unfold answer State.chan
  rw [hm]
  exact respond_mbx_congr ch _ hm hl

theorem State.answer_chan_congr {t : State} (hm : t.mbx = s.mbx) (hl : t.pilot.hostLink = s.pilot.hostLink) (c : Nat) :
    (t.answer ch status job ws).chan c = (s.answer ch status job ws).chan c :=
  congrArg (fun m : List Channel => m.getD c {}) (answer_mbx_congr status job ws hm hl)

variable (h : ch < s.mbx.length)
include h

theorem State.answer_busy : ((s.answer ch status job ws).chan ch).busy = false := congrArg Prod.fst (s.respond_answered _ h)

theorem State.answer_rspReady : ((s.answer ch status job ws).chan ch).rspReady = true := congrArg (fun a => a.2.1) (s.respond_answered _ h)

theorem State.answer_word (k : Nat) : mgetD ((s.answer ch status job ws).chan ch).rsp (4 + k) 0 = wd ws k := by
  rw [show ((s.answer ch status job ws).chan ch).rsp = responseMap _ from congrArg (fun a => a.2.2) (s.respond_answered _ h), mgetD_responseMap,
    Nat.add_comm 4 k]
  rfl

theorem State.answer_status (hs : status < 256) : fld (mgetD ((s.answer ch status job ws).chan ch).rsp 1 0) 15 8 = status := by
  rw [show ((s.answer ch status job ws).chan ch).rsp = responseMap _ from congrArg (fun a => a.2.2) (s.respond_answered _ h), mgetD_responseMap]
  show fld (w32 (fld (wd (s.chan ch).words 1) 31 16 * 65536 + status * 256)) 15 8 = status
  simp only [fld, bits, w32, BitVec.toNat_ofNat]
  omega

end

/-! ### Taking a request (R384-R387) -/

theorem State.serve_accepted {s : State} {ch op : Nat} (f : List Word → State → State) (hs : s.serves ch = true)
    (ho : reqOp (s.chan ch).words = op) (he : s.reqError ch (s.chan ch).words = none) : s.serve ch op f = f (s.chan ch).words s := by
  simp [State.serve, hs, ho, he]

section
variable {s : State} {ch : Nat} {q : List Word} {any : Bool} {f : Job → State} {j : Job}

theorem State.withJob_unknown (hj : s.job (reqJob q) = none) : s.withJob ch q any f = s.deny ch 5 := by
  simp only [State.withJob, hj]

theorem State.withJob_own (hj : s.job (reqJob q) = some j) (ho : j.ch = ch ∨ (any = true ∧ mailboxOf ch = 3)) : s.withJob ch q any f = f j := by
  simp only [State.withJob, hj]
  exact if_neg (by simpa using fun h => ho.resolve_left h)

theorem State.withJob_other (hj : s.job (reqJob q) = some j) (ho : j.ch ≠ ch) (hm : any = false ∨ mailboxOf ch ≠ 3) :
    s.withJob ch q any f = s.deny ch 4 := by
  simp only [State.withJob, hj]
  exact if_pos ⟨ho, by rcases hm with h | h <;> simp [h]⟩

theorem State.withLive_unknown (hj : s.job (reqJob q) = none) : s.withLive ch q f = s.deny ch 5 := s.withJob_unknown hj

theorem State.withLive_other (hj : s.job (reqJob q) = some j) (ho : j.ch ≠ ch) : s.withLive ch q f = s.deny ch 4 :=
  s.withJob_other hj ho (.inl rfl)

theorem State.withLive_dead (hj : s.job (reqJob q) = some j) (ho : j.ch = ch) (hl : s.jobLive j = false) : s.withLive ch q f = s.deny ch 6 :=
  (s.withJob_own hj (.inl ho)).trans (if_neg (by simp [hl]))

theorem State.withLive_own (hj : s.job (reqJob q) = some j) (ho : j.ch = ch) (hl : s.jobLive j = true) : s.withLive ch q f = f j :=
  (s.withJob_own hj (.inl ho)).trans (if_pos hl)

end

theorem mailboxOf_eq_three {ch : Nat} (h : ch < 20) : mailboxOf ch = 3 ↔ ch = 19 := by
  unfold mailboxOf
  split_ifs <;> simp <;> omega

/-- Only mailboxes that an operation allows may ask for it. -/
theorem State.mailbox_of_accepted {s : State} {ch : Nat} {q : List Word} {boxes : List Nat} {n : Nat} (he : s.reqError ch q = none)
    (hrow : opRow (reqOp q) = some (reqOp q, n, boxes)) : mailboxOf ch ∈ boxes := by
  by_contra hmem
  revert he
  simp only [State.reqError, hrow]
  split_ifs <;> simp_all

end Sys2Proof.Machine
end

section
/-! Jobs: what JOB_CREATE builds and records, the checks of JOB_MAP, JOB_UNMAP and LIST_POST, and what JOB_DESTROY leaves (R387, R389, R445). -/

namespace Sys2Proof.Machine

/-! ### Building a job's space takes frames, and leaves the jobs and the mailboxes alone -/

/-- The mailboxes, the jobs and the host link of `t` are those of `s`. -/
structure State.KeepsJobs (s t : State) : Prop where
  mbx : t.mbx = s.mbx
  jobs : t.pilot.jobs = s.pilot.jobs
  nextJob : t.pilot.nextJob = s.pilot.nextJob
  hostLink : t.pilot.hostLink = s.pilot.hostLink

theorem State.KeepsFirmware.keepsJobs {s t : State} (h : s.KeepsFirmware t) : s.KeepsJobs t :=
  ⟨h.mbx, congrArg Pilot.jobs h.pilot, congrArg Pilot.nextJob h.pilot, congrArg Pilot.hostLink h.pilot⟩

namespace State.KeepsJobs

theorem refl (s : State) : s.KeepsJobs s := ⟨rfl, rfl, rfl, rfl⟩

variable {s t u : State} (h : s.KeepsJobs t)
include h

theorem trans (h' : t.KeepsJobs u) : s.KeepsJobs u :=
  ⟨h'.mbx.trans h.mbx, h'.jobs.trans h.jobs, h'.nextJob.trans h.nextJob, h'.hostLink.trans h.hostLink⟩

theorem keeps (h' : t.KeepsFirmware u) : s.KeepsJobs u := h.trans h'.keepsJobs

theorem takeFrame {j : Job} {big : Bool} {pa : Nat} (he : t.takeFrame j big = some (pa, u)) : s.KeepsJobs u := by
  unfold State.takeFrame at he
  split at he
  · cases he
  · cases he
    exact h.trans ⟨rfl, rfl, rfl, rfl⟩

theorem mapFrom {j : Job} {va pa fuel level tab : Nat} {big w : Bool} (he : t.mapFrom j va pa big w fuel level tab = some u) : s.KeepsJobs u := by
  induction fuel generalizing t level tab with
  | zero => cases he
  | succ fuel ih =>
    unfold State.mapFrom at he
    extract_lets idx a e at he
    split at he
    · cases he
      exact h.keeps ((KeepsFirmware.refl t).hubPoke _ _)
    · split at he
      · exact ih h he
      · split at he
        · cases he
        · next hf => exact ih ((h.takeFrame hf).keeps ((KeepsFirmware.refl _).hubPoke _ _)) he

theorem mapFresh {j : Job} {big w : Bool} {vas : List Nat} (he : t.mapFresh j big w vas = some u) : s.KeepsJobs u := by
  induction vas generalizing t with
  | nil =>
    cases he
    exact h
  | cons va vas ih =>
    simp only [State.mapFresh] at he
    split at he
    · cases he
    · next hf =>
      split at he
      · cases he
      · next hm => exact ih ((h.takeFrame hf).mapFrom hm) he

theorem buildSpace {j : Job} (he : t.buildSpace j = some u) : s.KeepsJobs u := by
  unfold State.buildSpace at he
  split at he
  · cases he
  · next hf =>
    obtain ⟨saved, hsave, hland⟩ := Option.bind_eq_some_iff.mp he
    obtain ⟨prog, hprog, hs⟩ := Option.bind_eq_some_iff.mp hsave
    have hp := ((h.takeFrame hf).keeps ((KeepsFirmware.refl _).hubPoke _ _)).mapFresh hprog
    split at hs
    · exact (hp.mapFresh hs).mapFresh hland
    · cases hs
      exact hp.mapFresh hland

theorem countCreate (client : Nat) : s.KeepsJobs (t.countCreate client) := h.trans ⟨rfl, rfl, rfl, rfl⟩

end State.KeepsJobs

/-! ### JOB_CREATE -/

/-- The job that a JOB_CREATE asks for, in context `c`. -/
def State.askedJob (s : State) (ch : Nat) (q : List Word) (c : Nat) : Job :=
  { id := s.pilot.nextJob, ch := ch, ctxId := c, direct := flag (wd q 4) 31, cls := fld (wd q 4) 30 29, mirror := flag (wd q 4) 28
    part := fld (wd q 4) 27 24, ncores := fld (wd q 4) 21 16, client := fld (wd q 4) 7 0, seed := BitVec.ofNat 64 (wd2 q 5)
    key := fld (wd q 7) 7 0, save := flag (wd q 8) 0, landing := (wd q 9).toNat }

/-- Records a job and binds its key to it. -/
def State.addJob (s : State) (ch : Nat) (j : Job) : State :=
  { s with pilot := { s.pilot with
    jobs := s.pilot.jobs ++ [j], nextJob := j.id + 1, keyBind := if j.key = 0 then s.pilot.keyBind else mput s.pilot.keyBind j.key (ch, j.id) } }

/-- A job whose space is built: its context's entry, its count, its record, and no granule left of the context's last use. -/
def State.enterJob (s : State) (ch : Nat) (j : Job) : State :=
  (((s.putCent j.ctxId (newEntry j)).countCreate j.client).addJob ch j).revokeAll j.ctxId

theorem State.addJob_spec (s : State) (ch : Nat) (j : Job) : (s.addJob ch j).mbx = s.mbx ∧ (s.addJob ch j).pilot.jobs = s.pilot.jobs ++ [j] ∧
    (s.addJob ch j).pilot.nextJob = j.id + 1 ∧ (s.addJob ch j).pilot.hostLink = s.pilot.hostLink := ⟨rfl, rfl, rfl, rfl⟩

theorem State.KeepsJobs.enterJob {s t : State} (h : s.KeepsJobs t) (ch : Nat) (j : Job) :
    (t.enterJob ch j).mbx = s.mbx ∧ (t.enterJob ch j).pilot.jobs = s.pilot.jobs ++ [j] ∧ (t.enterJob ch j).pilot.nextJob = j.id + 1 ∧
    (t.enterJob ch j).pilot.hostLink = s.pilot.hostLink := by
  unfold State.enterJob
  have hcount := (h.keeps ((KeepsFirmware.refl t).putCent j.ctxId (newEntry j))).countCreate j.client
  generalize (t.putCent j.ctxId (newEntry j)).countCreate j.client = u at hcount ⊢
  have hrevoke := ((KeepsFirmware.refl (u.addJob ch j)).revokeAll j.ctxId).keepsJobs
  obtain ⟨hm, hj, hn, hl⟩ := u.addJob_spec ch j
  exact ⟨hrevoke.mbx.trans (hm.trans hcount.mbx), hrevoke.jobs.trans (hj.trans (congrArg (· ++ [j]) hcount.jobs)), hrevoke.nextJob.trans hn,
    hrevoke.hostLink.trans (hl.trans hcount.hostLink)⟩

section
variable {s : State} {ch : Nat} {q : List Word}

/-- A JOB_CREATE that asks for no cores, for too many, or for a landing zone that is too small. -/
def createMalformed (q : List Word) : Prop :=
  fld (wd q 4) 21 16 = 0 ∨ 32 < fld (wd q 4) 21 16 ∨ ((wd q 9).toNat ≠ 0 ∧ (wd q 9).toNat < 24576)

/-- The channel is granted the partition and the class that a JOB_CREATE names. -/
def State.createGranted (s : State) (ch : Nat) (q : List Word) : Prop :=
  flag (s.grants ch) (fld (wd q 4) 27 24) = true ∧ flag (s.grants ch) (16 + fld (wd q 4) 30 29) = true

/-- The key that a JOB_CREATE names is none, or one loaded for the channel and for no job. -/
def State.createKeyed (s : State) (ch : Nat) (q : List Word) : Prop :=
  fld (wd q 7) 7 0 = 0 ∨ (s.keyLoaded (fld (wd q 7) 7 0) = true ∧ mget s.pilot.keyBind (fld (wd q 7) 7 0) = some (ch, 0))

/-- The outcome of a JOB_CREATE that passes its checks, by the context that is free. -/
def State.createIn (s : State) (ch : Nat) (q : List Word) : Option Nat → State
  | none => s.deny ch 7
  | some c =>
    match s.buildSpace (s.askedJob ch q c) with
    | none => s.deny ch 9
    | some t => (t.enterJob ch (s.askedJob ch q c)).answer ch 0 (w32 s.pilot.nextJob) [w32 c]

theorem State.jobCreateBody_malformed (h : createMalformed q) : State.jobCreateBody ch q s = s.deny ch 1 := by
  unfold State.jobCreateBody
  exact if_pos h

theorem State.jobCreateBody_notGranted (h : ¬createMalformed q) (hg : ¬s.createGranted ch q) : State.jobCreateBody ch q s = s.deny ch 3 := by
  unfold State.jobCreateBody
  refine (if_neg h).trans (if_pos ?_)
  rw [Bool.not_eq_true', ← Bool.not_eq_true, Bool.and_eq_true]
  exact hg

variable (h : ¬createMalformed q) (hg : s.createGranted ch q)
include h hg

theorem State.jobCreateBody_notKeyed (hk : ¬s.createKeyed ch q) : State.jobCreateBody ch q s = s.deny ch 0x0F := by
  unfold State.jobCreateBody
  refine (if_neg h).trans ((if_neg ?_).trans (if_pos ?_))
  · rw [Bool.not_eq_true', ← Bool.not_eq_true, Bool.and_eq_true]
    exact not_not.mpr hg
  · rw [Bool.not_eq_true', ← Bool.not_eq_true, Bool.and_eq_true, beq_iff_eq]
    exact not_or.mp hk

variable (hk : s.createKeyed ch q)
include hk

/-- A JOB_CREATE that is well formed, granted and keyed takes the lowest free context. -/
theorem State.jobCreateBody_accepted : State.jobCreateBody ch q s = s.createIn ch q s.freeCtx := by
  unfold State.jobCreateBody
  refine (if_neg h).trans ((if_neg ?_).trans ((if_neg ?_).trans ?_))
  · rw [Bool.not_eq_true', ← Bool.not_eq_true, Bool.and_eq_true]
    exact not_not.mpr hg
  · rw [Bool.not_eq_true', ← Bool.not_eq_true, Bool.and_eq_true, beq_iff_eq]
    exact not_and_or.mpr (hk.imp_left not_not.mpr |>.imp_right not_not.mpr)
  · cases s.freeCtx with
    | none => rfl
    | some c =>
      dsimp only [State.createIn]
      cases hb : s.buildSpace (s.askedJob ch q c) with
      | none =>
        simp only [State.askedJob] at hb
        simp only [hb]
      | some t =>
        simp only [State.askedJob] at hb
        simp only [hb]
        rfl

omit h hg hk in
theorem State.createIn_noFrames {c : Nat} (hb : s.buildSpace (s.askedJob ch q c) = none) : s.createIn ch q (some c) = s.deny ch 9 := by
  simp only [State.createIn, hb]

omit h hg hk in
/-- A job that is created is the last of the jobs, and its channel is told its number and its context. -/
theorem State.createIn_created {c : Nat} (hb : s.buildSpace (s.askedJob ch q c) ≠ none) :
    (s.createIn ch q (some c)).pilot.jobs = s.pilot.jobs ++ [s.askedJob ch q c] ∧
    (s.createIn ch q (some c)).pilot.nextJob = s.pilot.nextJob + 1 ∧
    (s.createIn ch q (some c)).chan ch = (s.answer ch 0 (w32 s.pilot.nextJob) [w32 c]).chan ch := by
  obtain ⟨t, ht⟩ := Option.ne_none_iff_exists'.mp hb
  obtain ⟨hm, hj, hn, hl⟩ := ((KeepsJobs.refl s).buildSpace ht).enterJob ch (s.askedJob ch q c)
  simp only [State.createIn, ht]
  refine ⟨?_, ?_, answer_chan_congr 0 _ _ hm hl ch⟩
  · rw [answer_pilot, hj]
  · rw [answer_pilot, hn]
    rfl

end

/-! ### Requests about a job's space and lists -/

section
variable {s : State} {ch : Nat} {q : List Word} {j : Job} (hj : s.job (reqJob q) = some j) (ho : j.ch = ch) (hl : s.jobLive j = true)
include hj ho hl

/-- The size of the pages that a JOB_MAP asks for. -/
def mapSize (q : List Word) : Nat := if flag (wd q 4) 31 then 2 ^ 21 else 2 ^ 16

/-- A JOB_MAP of no bytes, of parts of pages, of addresses past the space, or with a source that it does not use. -/
def mapMalformed (q : List Word) : Prop :=
  (wd q 7).toNat = 0 ∨ va48 q 5 % mapSize q ≠ 0 ∨ (wd q 7).toNat % mapSize q ≠ 0 ∨ 2 ^ 48 < va48 q 5 + (wd q 7).toNat ∨
    (flag (wd q 4) 29 = false ∧ wd2 q 8 ≠ 0)

/-- Whether a page of the range of a JOB_MAP is mapped already. -/
def State.mapTaken (s : State) (j : Job) (q : List Word) : Bool := (pagesOf (va48 q 5) (wd q 7).toNat (2 ^ 16)).any (s.mapped j.ctxId)

/-- The state with the pages of a JOB_MAP mapped, when frames suffice. -/
def State.mapRange (s : State) (j : Job) (q : List Word) : Option State :=
  (s.mapFresh j (flag (wd q 4) 31) (flag (wd q 4) 30) (pagesOf (va48 q 5) (wd q 7).toNat (mapSize q))).bind
    (fun u => u.mapFacet j (va48 q 5) (wd q 7).toNat)

/-- The pages of a JOB_MAP filled from its source. -/
def State.copyRange (s t : State) (j : Job) (q : List Word) : State :=
  (t.noteRead (wd2 q 8) (wd q 7).toNat).fillPages j.ctxId (mapSize q) (pagesOf (va48 q 5) (wd q 7).toNat (mapSize q))
    (s.readAs hubIdent (wd2 q 8) (wd q 7).toNat)

theorem State.jobMapBody_malformed (hb : mapMalformed q) : State.jobMapBody ch q s = s.deny ch 1 :=
  (s.withLive_own hj ho hl).trans (if_pos (by simpa [mapMalformed, mapSize] using hb))

theorem State.jobMapBody_notGranted (hb : ¬mapMalformed q) (hc : flag (wd q 4) 29 = true) (hp : s.partnerMay ch (wd2 q 8) (wd q 7).toNat = false) :
    State.jobMapBody ch q s = s.deny ch 3 :=
  (s.withLive_own hj ho hl).trans ((if_neg (by simpa [mapMalformed, mapSize] using hb)).trans (if_pos (by simp [hc, hp])))

section
variable (hb : ¬mapMalformed q) (hc : flag (wd q 4) 29 = false ∨ s.partnerMay ch (wd2 q 8) (wd q 7).toNat = true)
include hb hc

theorem State.jobMapBody_checked : State.jobMapBody ch q s =
    if s.mapTaken j q then s.deny ch 6
    else if flag (wd q 4) 29 && !(s.readable (wd2 q 8) (wd q 7).toNat) then s.deny ch 6
    else match s.mapRange j q with
      | none => s.deny ch 9
      | some t => (if flag (wd q 4) 29 then s.copyRange t j q else t).ok ch [] := by
  refine (s.withLive_own hj ho hl).trans ((if_neg (by simpa [mapMalformed, mapSize] using hb)).trans ((if_neg ?_).trans ?_))
  · rcases hc with hc | hc <;> simp [hc]
  · rfl

theorem State.jobMapBody_taken (ht : s.mapTaken j q = true) : State.jobMapBody ch q s = s.deny ch 6 := by
  rw [jobMapBody_checked hj ho hl hb hc, if_pos ht]

variable (ht : s.mapTaken j q = false)
include ht

theorem State.jobMapBody_unreadable (hf : flag (wd q 4) 29 = true) (hr : s.readable (wd2 q 8) (wd q 7).toNat = false) :
    State.jobMapBody ch q s = s.deny ch 6 := by
  rw [jobMapBody_checked hj ho hl hb hc, if_neg (by simp [ht]), if_pos (by simp [hf, hr])]

variable (hr : flag (wd q 4) 29 = false ∨ s.readable (wd2 q 8) (wd q 7).toNat = true)
include hr

theorem State.jobMapBody_noFrames (hm : s.mapRange j q = none) : State.jobMapBody ch q s = s.deny ch 9 := by
  rw [jobMapBody_checked hj ho hl hb hc, if_neg (by simp [ht]), if_neg (by rcases hr with hr | hr <;> simp [hr]), hm]

theorem State.jobMapBody_mapped {t : State} (hm : s.mapRange j q = some t) :
    State.jobMapBody ch q s = (if flag (wd q 4) 29 then s.copyRange t j q else t).ok ch [] := by
  rw [jobMapBody_checked hj ho hl hb hc, if_neg (by simp [ht]), if_neg (by rcases hr with hr | hr <;> simp [hr]), hm]

end

/-- A JOB_UNMAP of no bytes or of parts of pages. -/
def unmapMalformed (q : List Word) : Prop := (wd q 7).toNat = 0 ∨ va48 q 5 % 2 ^ 16 ≠ 0 ∨ (wd q 7).toNat % 2 ^ 16 ≠ 0

/-- Whether the range of a JOB_UNMAP cuts a page of 2 MiB. -/
def State.unmapCuts (s : State) (j : Job) (q : List Word) : Bool :=
  (s.pagesIn j.ctxId (va48 q 5) (wd q 7).toNat).any (fun p =>
    p.2.big && (decide (p.1 < va48 q 5) || decide (va48 q 5 + (wd q 7).toNat < p.1 + 2 ^ 21)))

theorem State.jobUnmapBody_malformed (hb : unmapMalformed q ∨ s.unmapCuts j q = true) : State.jobUnmapBody ch q s = s.deny ch 1 := by
  refine (s.withLive_own hj ho hl).trans ?_
  by_cases hm : unmapMalformed q
  · exact if_pos hm
  · exact (if_neg hm).trans (if_pos (hb.resolve_left hm))

theorem State.jobUnmapBody_unmapped (hb : ¬unmapMalformed q) (hc : s.unmapCuts j q = false) : State.jobUnmapBody ch q s =
    (s.releasePages j.ctxId (va48 q 5) (wd q 7).toNat (s.pagesIn j.ctxId (va48 q 5) (wd q 7).toNat)).ok ch [] :=
  (s.withLive_own hj ho hl).trans ((if_neg hb).trans (if_neg (Bool.not_eq_true _ ▸ hc)))

/-- A job that takes no list, or has one already. -/
def Job.listRefused (j : Job) : Prop := j.direct = false ∨ j.posted = true

theorem State.listPostBody_refused (hb : j.listRefused) : State.listPostBody ch q s = s.deny ch 6 :=
  (s.withLive_own hj ho hl).trans (if_pos (by rcases hb with hb | hb <;> simp [hb]))

section
variable (hb : ¬j.listRefused)
include hb

theorem State.listPostBody_locked (hk : flag (wd q 4) 31 = true ∧ flag s.features 0 = false) : State.listPostBody ch q s = s.deny ch 3 :=
  (s.withLive_own hj ho hl).trans ((if_neg (by simpa [Job.listRefused] using hb)).trans (if_pos (by simp [hk])))

variable (hk : ¬(flag (wd q 4) 31 = true ∧ flag s.features 0 = false))
include hk

theorem State.listPostBody_misaligned (ha : va48 q 5 % 32 ≠ 0) : State.listPostBody ch q s = s.deny ch 1 :=
  (s.withLive_own hj ho hl).trans ((if_neg (by simpa [Job.listRefused] using hb)).trans ((if_neg (by simpa using hk)).trans (if_pos ha)))

theorem State.listPostBody_posted (ha : va48 q 5 % 32 = 0) : State.listPostBody ch q s =
    ((s.modJob j.id (fun x => { x with posted := true, listVa := va48 q 5, compat := flag (wd q 4) 31 })).doLogSchedSubmit j.ctxId).ok ch [] :=
  (s.withLive_own hj ho hl).trans ((if_neg (by simpa [Job.listRefused] using hb)).trans ((if_neg (by simpa using hk)).trans (if_neg (not_not.mpr ha))))

end

end

/-! ### JOB_DESTROY -/

/-- A job that goes: its teardown begins, its streams are freed, and its model slots are cleared. -/
def State.tearJob (s : State) (j : Job) : State :=
  let s := s.startTeardown j true 0 0
  let s := (s.jobStreams j.id).foldl (fun s i => (s.abortStream i).freeStream i) s
  (s.slotsOf j.id).foldl (fun s m => s.putMslot m ((s.mslot m).set 14 0)) s

/-- The firmware forgets a job and its slots. -/
def State.forgetJob (s : State) (id : Nat) : State :=
  { s with pilot := { s.pilot with slots := s.pilot.slots.filter (fun e => e.2.job != id), jobs := s.pilot.jobs.filter (fun x => x.id != id) } }

theorem State.tearJob_length (s : State) (j : Job) : (s.tearJob j).mbx.length = s.mbx.length := by
  have htear := (Undisturbed.refl s).startTeardown j true 0 0
  have hfree := htear.foldl (fun _ i hu => hu.keeps (((KeepsFirmware.refl _).abortStream i).freeStream i))
    ((s.startTeardown j true 0 0).jobStreams j.id)
  exact (hfree.foldl (fun _ m hu => hu.keeps ((KeepsFirmware.refl _).putMslot m _)) _).length

section
variable {s : State} {ch : Nat} {q : List Word} {j : Job} (hj : s.job (reqJob q) = some j) (ho : j.ch = ch ∨ ch = 19)
include hj ho

theorem State.jobDestroyBody_live (hf : flag (wd q 4) 0 = false) (hs : (s.jobStreams j.id).any (fun i => cxLive (s.sctx i)) = true) :
    State.jobDestroyBody ch q s = s.deny ch 6 :=
  (s.withJob_own hj (ho.imp_right (fun h => ⟨rfl, h ▸ rfl⟩))).trans (if_pos (by simp [hf, hs]))

theorem State.jobDestroyBody_destroyed (hs : flag (wd q 4) 0 = true ∨ (s.jobStreams j.id).any (fun i => cxLive (s.sctx i)) = false) :
    State.jobDestroyBody ch q s = ((s.tearJob j).forgetJob j.id).ok ch [] := by
  unfold State.jobDestroyBody tearJob forgetJob
  rw [s.withJob_own hj (ho.imp_right (fun h => ⟨rfl, h ▸ rfl⟩)), if_neg (by rcases hs with hs | hs <;> simp [hs])]

end

theorem State.job_forgetJob (s : State) (id : Nat) : (s.forgetJob id).job id = none := by
  simp [forgetJob, State.job]

theorem State.slots_forgetJob (s : State) {id m : Nat} {r : SlotRec} (h : (m, r) ∈ (s.forgetJob id).pilot.slots) : r.job ≠ id := by
  simpa [forgetJob] using (List.mem_filter.mp h).2


end Sys2Proof.Machine
end

section
/-! Power requests, partitions, sessions and restarts: what askPower, the writes of SX_SHARE, the end of a session and a restart of the firmware or of
the cluster leave as it is (R22, R390, R394, R395, R412). -/

namespace Sys2Proof.Machine

/-! ### Power and events -/

theorem State.placePower_eq (s : State) (fuel : Nat) :
    ∃ p w, s.placePower fuel = { s with pwr := p, pilot := { s.pilot with wantPower := w } } := by
  induction fuel generalizing s with
  | zero => exact ⟨_, _, rfl⟩
  | succ fuel ih =>
    rw [State.placePower]
    split
    · exact ⟨_, _, rfl⟩
    · split
      · obtain ⟨p, w, h⟩ := ih _
        exact ⟨p, w, h⟩
      · exact ⟨_, _, rfl⟩

/-- To ask for power transitions changes the power controller's queue and the firmware's list of them. -/
theorem State.askPower_eq (s : State) (on : Bool) (ds : List Nat) :
    ∃ p w, s.askPower on ds = { s with pwr := p, pilot := { s.pilot with wantPower := w } } := by
  obtain ⟨p, w, h⟩ := (s.wantPower on ds).placePower_eq 80
  exact ⟨p, w, h⟩

theorem State.powerAnswer_standby (s : State) : s.powerAnswer.pilot.standby = s.pilot.standby := by
  have hok : ∀ (u : State) (ch : Nat) (ws : List Word), (u.ok ch ws).pilot.standby = u.pilot.standby := fun u ch ws =>
    congrArg Pilot.standby (u.answer_pilot 0 _ ws)
  unfold State.powerAnswer
  split
  · rfl
  · split
    · rfl
    · dsimp only
      split
      · rfl
      · split
        · exact hok _ _ _
        · exact hok _ _ _

theorem State.powerFor_standby (s : State) (ch : Nat) (on : Bool) (ds : List Nat) : (s.powerFor ch on ds).pilot.standby = s.pilot.standby := by
  obtain ⟨p, w, h⟩ := ({ s with pilot := { s.pilot with serving := some ch, powerAsk := some ch } } : State).askPower_eq on ds
  rw [State.powerFor, powerAnswer_standby, h]

@[simp] theorem State.signal_pilot (s : State) (ch vector : Nat) : (s.signal ch vector).pilot = s.pilot := by
  unfold State.signal
  split <;> rfl

@[simp] theorem State.flushMgmt_pilot (s : State) (fuel : Nat) : (s.flushMgmt fuel).pilot = s.pilot := by
  induction fuel generalizing s with
  | zero => rfl
  | succ fuel ih =>
    rw [State.flushMgmt]
    split
    · have hsent := fun (u : State) d e => ((KeepsFirmware.refl u).sendMgmt d e).pilot
      rw [ih]
      split
      · exact hsent _ _ _
      · exact hsent _ _ _
    · rfl

@[simp] theorem State.pushEvent_pilot (s : State) (ch code job : Nat) (w : List Word) : (s.pushEvent ch code job w).pilot = s.pilot := by
  unfold State.pushEvent
  dsimp only
  split
  · have hsig : ∀ (c : Bool) (u : State), (if c then u.signal ch 1 else u).pilot = u.pilot := fun c u => by
      cases c
      · rfl
      · exact u.signal_pilot ch 1
    split
    · rw [flushMgmt_pilot, hsig]
      rfl
    · exact hsig _ _
  · rfl

theorem State.pushEvents_pilot (s : State) (chs : List Nat) (code : Nat) (w : State → List Word) :
    (chs.foldl (fun u ch => u.pushEvent ch code 0 (w u)) s).pilot = s.pilot := by
  induction chs generalizing s with
  | nil => rfl
  | cons ch chs ih => exact (ih _).trans (s.pushEvent_pilot ch code 0 _)

/-! ### Partitions -/

theorem mem_setBits {n x i : Nat} : i ∈ setBits n x ↔ i < n ∧ x.testBit i = true := by
  rw [setBits, List.mem_filter, List.mem_range]

theorem flag_bit32 {n i : Nat} (hi : i < 32) : flag (bit32 n) i = decide (n = i) := getLsbD_ofNat_two_pow hi

/-- A mask gathered bit by bit has the bits that were gathered. -/
theorem flag_foldl_bit32 (l : List Nat) (m : Word) {i : Nat} (hi : i < 32) :
    flag (l.foldl (fun (m : Word) n => m ||| bit32 n) m) i = (flag m i || decide (i ∈ l)) := by
  induction l generalizing m with
  | nil => simp
  | cons n l ih =>
    have hor : flag (m ||| bit32 n) i = (flag m i || decide (n = i)) := by rw [← flag_bit32 hi]; exact BitVec.getLsbD_or
    rw [List.foldl_cons, ih, hor, Bool.or_assoc, Bool.eq_iff_iff, Bool.or_eq_true, Bool.or_eq_true, Bool.or_eq_true, decide_eq_true_iff,
      decide_eq_true_iff, decide_eq_true_iff, List.mem_cons, eq_comm (a := n)]

theorem State.flag_usable (s : State) (p : Nat) {i : Nat} (hi : i < 32) :
    flag ((s.usableCores p).foldl (fun (m : Word) n => m ||| bit32 n) 0) i = s.usable p i := by
  rw [flag_foldl_bit32 _ _ hi]
  simp [State.usableCores, hi, flag]

theorem fld_eq_zero_iff (x : Word) {hi lo : Nat} (h : lo ≤ hi) : fld x hi lo = 0 ↔ ∀ i, lo ≤ i → i ≤ hi → flag x i = false := by
  constructor
  · intro h0 i hli hih
    have hbit := congrArg (fun n => n.testBit (i - lo)) h0
    simp only [fld, bits, Nat.testBit_mod_two_pow, Nat.testBit_div_two_pow, Nat.zero_testBit] at hbit
    rw [show i - lo + lo = i by omega, decide_eq_true (by omega : i - lo < hi - lo + 1), Bool.true_and] at hbit
    rw [flag, ← BitVec.testBit_toNat, hbit]
  · intro hf
    rw [fld_congr (y := 0) h (fun i hli hih => by rw [hf i hli hih]; exact BitVec.getLsbD_zero.symm)]
    simp [fld, bits]

/-- The bits that no field of SX_SHARE takes. -/
theorem shareSpare_iff (v : Word) : v &&& 0xFFE0E0E0#32 = 0#32 ↔ fld v 31 21 = 0 ∧ fld v 15 13 = 0 ∧ fld v 7 5 = 0 := by
  have hmask : ∀ i, i < 32 → (0xFFE0E0E0#32).getLsbD i = decide (21 ≤ i ∨ (13 ≤ i ∧ i ≤ 15) ∨ (5 ≤ i ∧ i ≤ 7)) := by decide
  rw [fld_eq_zero_iff v (by omega), fld_eq_zero_iff v (by omega), fld_eq_zero_iff v (by omega)]
  constructor
  · intro h
    have hbit : ∀ i, i < 32 → (21 ≤ i ∨ (13 ≤ i ∧ i ≤ 15) ∨ (5 ≤ i ∧ i ≤ 7)) → flag v i = false := fun i hi hm => by
      have hb := congrArg (fun x => BitVec.getLsbD x i) h
      simpa [hmask i hi, hm, flag] using hb
    exact ⟨fun i h1 h2 => hbit i (by omega) (by omega), fun i h1 h2 => hbit i (by omega) (by omega), fun i h1 h2 => hbit i (by omega) (by omega)⟩
  · rintro ⟨hhigh, hmid, hlow⟩
    refine BitVec.eq_of_getLsbD_eq fun i hi => ?_
    rw [BitVec.getLsbD_and, hmask i hi, BitVec.getLsbD_zero]
    by_cases hm : 21 ≤ i ∨ (13 ≤ i ∧ i ≤ 15) ∨ (5 ≤ i ∧ i ≤ 7)
    · have hv : v.getLsbD i = false := by
        rcases hm with hm | ⟨h1, h2⟩ | ⟨h1, h2⟩
        · exact hhigh i hm (by omega)
        · exact hmid i h1 h2
        · exact hlow i h1 h2
      rw [hv, Bool.false_and]
    · rw [decide_eq_false hm, Bool.and_false]

theorem specOf_sxShare {n : Nat} (h : n < 32) : specOf (coreKey n Reg.sxShare) = some ⟨0x30004, 0x1F1F1F, 0x0, 0xA0402, []⟩ := by
  have hmod : (coreKey n Reg.sxShare - 0x1000000) % 0x100000 = 0x30004 := by
    unfold coreKey
    show (_ + _ + 0x30004 - _) % _ = _
    omega
  have hlo : ∀ b, b ≤ 0x1000000 → ¬coreKey n Reg.sxShare < b := fun b hb => by unfold coreKey; omega
  have hhi : coreKey n Reg.sxShare < 0x3000000 := by unfold coreKey; show _ + 0x30004 < _; omega
  unfold specOf
  rw [if_neg (hlo _ (by norm_num)), if_neg (hlo _ (by norm_num)), if_neg (hlo _ (by norm_num)), if_neg (hlo _ (by norm_num)),
    if_neg (hlo _ (by norm_num)), if_neg (hlo _ (by norm_num)), if_pos hhi, hmod]
  decide

section
variable {s : State} {v : Word} (hr : mrising s.regs = true) (hv : ¬16 < fld v 20 16 + fld v 12 8 + fld v 4 0)
include hr hv

theorem State.cReg_doSxShareWrite_same {n : Nat} (hn : n < 32) : fld ((s.doSxShareWrite n v).cReg n Reg.sxShare) 4 0 = fld v 4 0 := by
  have hrw : ∀ i, i ≤ 4 → flag (0x1F1F1F : Word) i = true := by decide
  unfold State.doSxShareWrite State.cReg
  rw [if_neg hv, s.plainWrite_spec v (specOf_sxShare hn), s.reg_setReg_same _ _ hr]
  refine fld_congr (by omega) fun i _ hi => ?_
  rw [flag_writtenValue _ _ _ (by omega), hrw i hi]
  simp [keptBits, flag]

theorem State.cReg_doSxShareWrite_ne {n m : Nat} (h : m ≠ n) : (s.doSxShareWrite n v).cReg m Reg.sxShare = s.cReg m Reg.sxShare := by
  unfold State.doSxShareWrite State.cReg
  rw [if_neg hv, s.reg_plainWrite_ne v hr (by unfold coreKey; omega)]

end

/-- SX_SHARE written on the cores of a list that are on. -/
def State.writeShares (s : State) (v : Word) (ns : List Nat) : State := ns.foldl (fun s n => if s.domOn n then s.doSxShareWrite n v else s) s

theorem State.KeepsFirmware.doSxShareWrite {s t : State} (h : s.KeepsFirmware t) (n : Nat) (v : Word) : s.KeepsFirmware (t.doSxShareWrite n v) :=
  (h.orReg _ _).ite (h.plainWrite _ _)

theorem State.writeShares_keeps (s : State) (v : Word) (ns : List Nat) : s.KeepsFirmware (s.writeShares v ns) :=
  (KeepsFirmware.refl s).foldl (fun _ n h => (h.doSxShareWrite n v).ite h) ns

theorem State.doSxShareWrite_pwr (s : State) (n : Nat) (v : Word) : (s.doSxShareWrite n v).pwr = s.pwr := by
  rw [State.doSxShareWrite, apply_ite State.pwr, State.orReg_pwr, State.plainWrite_pwr, ite_self]

theorem State.doSxShareWrite_rising {s : State} (n : Nat) (v : Word) (hr : mrising s.regs = true) : mrising (s.doSxShareWrite n v).regs = true := by
  unfold State.doSxShareWrite
  rw [apply_ite State.regs, apply_ite (fun m => mrising m), State.orReg, s.setReg_rising _ _ hr, s.plainWrite_rising _ _ hr, ite_self]

theorem State.cReg_writeShares {s : State} {v : Word} {ns : List Nat} (hr : mrising s.regs = true)
    (hv : ¬16 < fld v 20 16 + fld v 12 8 + fld v 4 0) {n : Nat} (hn : n < 32) :
    fld ((s.writeShares v ns).cReg n Reg.sxShare) 4 0 =
      if n ∈ ns ∧ s.domOn n = true then fld v 4 0 else fld (s.cReg n Reg.sxShare) 4 0 := by
  induction ns generalizing s with
  | nil => simp [State.writeShares]
  | cons m ns ih =>
    have hstep : s.writeShares v (m :: ns) = (if s.domOn m then s.doSxShareWrite m v else s).writeShares v ns := rfl
    rw [hstep]
    by_cases hm : s.domOn m = true
    · have hon : (s.doSxShareWrite m v).domOn n = s.domOn n := congrArg (fun p : Pwr => p.on.getLsbD n) (s.doSxShareWrite_pwr m v)
      rw [if_pos hm, ih (doSxShareWrite_rising m v hr), hon]
      by_cases hnm : n = m
      · subst hnm
        simp [hm, cReg_doSxShareWrite_same hr hv hn]
      · rw [cReg_doSxShareWrite_ne hr hv hnm]
        simp [hnm]
    · rw [if_neg hm, ih hr]
      by_cases hnm : n = m
      · subst hnm
        simp [hm]
      · simp [hnm]

/-! ### The end of sessions (R412) -/

/-- From `s` to `t` sessions end: only keys and what the responder keeps of the channels change, and no session begins. -/
structure State.ClosesSessions (s t : State) : Prop where
  frame : ∃ r k p, t = { s with rhb := r, pilot := { s.pilot with keyBind := k, spdm := p } }
  none_of_none : ∀ c, (s.spdmOf c).session = none → (t.spdmOf c).session = none

namespace State.ClosesSessions

theorem refl (s : State) : s.ClosesSessions s := ⟨⟨_, _, _, rfl⟩, fun _ h => h⟩

theorem trans {s t u : State} (h : s.ClosesSessions t) (h' : t.ClosesSessions u) : s.ClosesSessions u := by
  refine ⟨?_, fun c hc => h'.none_of_none c (h.none_of_none c hc)⟩
  obtain ⟨r, k, p, rfl⟩ := h.frame
  obtain ⟨r', k', p', rfl⟩ := h'.frame
  exact ⟨r', k', p', rfl⟩

theorem foldl {α : Type} {f : State → α → State} (hf : ∀ (u : State) a, u.ClosesSessions (f u a)) (s : State) (l : List α) :
    s.ClosesSessions (l.foldl f s) := by
  induction l generalizing s with
  | nil => exact .refl s
  | cons a l ih => exact (hf s a).trans (ih _)

end State.ClosesSessions

theorem State.spdmOf_modSpdm_none (s : State) (ch c : Nat) (h : c = ch ∨ (s.spdmOf c).session = none) :
    ((s.modSpdm ch (fun x => { x with session := none })).spdmOf c).session = none := by
  simp only [State.modSpdm, State.spdmOf, lmod, List.getD_eq_getElem?_getD, List.getElem?_modify] at h ⊢
  cases hx : s.pilot.spdm[c]? with
  | none => rfl
  | some x =>
    by_cases hc : ch = c
    · simp [hc]
    · simpa [hc, Ne.symm hc, hx] using h

theorem State.eraseUnbound_closes (s : State) (ch : Nat) : s.ClosesSessions (s.eraseUnbound ch) := by
  unfold State.eraseUnbound
  refine ClosesSessions.foldl (fun u k => ?_) s _
  exact ⟨⟨_, _, _, rfl⟩, fun _ h => h⟩

theorem State.closeSession_closes (s : State) (ch : Nat) : s.ClosesSessions (s.closeSession ch) := by
  have hmod : s.ClosesSessions (s.modSpdm ch (fun x => { x with session := none })) :=
    ⟨⟨_, _, _, rfl⟩, fun c h => s.spdmOf_modSpdm_none ch c (.inr h)⟩
  unfold State.closeSession
  split
  · exact .refl s
  · exact hmod.trans (eraseUnbound_closes _ ch)

theorem State.spdmOf_closeSession (s : State) (ch : Nat) : ((s.closeSession ch).spdmOf ch).session = none := by
  unfold State.closeSession
  split
  · next h => exact Option.isNone_iff_eq_none.mp h
  · exact (eraseUnbound_closes _ ch).none_of_none ch (s.spdmOf_modSpdm_none ch ch (.inl rfl))

theorem State.spdmOf_closeSessions (s : State) {l : List Nat} {c : Nat} (h : c ∈ l) : ((l.foldl closeSession s).spdmOf c).session = none := by
  induction l generalizing s with
  | nil => cases h
  | cons ch l ih =>
    rcases List.mem_cons.mp h with rfl | hl
    · exact (ClosesSessions.foldl closeSession_closes _ l).none_of_none c (s.spdmOf_closeSession c)
    · exact ih _ hl

/-! ### Restarts (R394, R395) -/

/-- A restart of the firmware ends every session and leaves the jobs, the cores and the mailboxes. -/
theorem State.restartPilot_spec (s : State) (cause : Nat) (ch : Option Nat) :
    let t := s.restartPilot cause ch
    t.rst.mode = .restarting cause ∧ t.pilot.serving = ch ∧ t.pilot.jobs = s.pilot.jobs ∧ t.cores = s.cores ∧ t.mbx = s.mbx ∧
    t.pilot.activeSlot = s.pilot.activeSlot ∧ ∀ c, c < 20 → (t.spdmOf c).session = none := by
  have hclosed := ClosesSessions.foldl closeSession_closes s (List.range 20)
  have hnone := fun c (hc : c < 20) => s.spdmOf_closeSessions (List.mem_range.mpr hc)
  obtain ⟨r, k, p, hframe⟩ := hclosed.frame
  unfold State.restartPilot
  rw [hframe] at hnone ⊢
  exact ⟨rfl, rfl, rfl, rfl, rfl, rfl, hnone⟩

/-- The cluster is down, and restarts for a cause. -/
def State.clusterDown (s : State) (cause : Nat) : State :=
  { s with pilot := { s.pilot with clusterUp := false, clusterRestart := some cause } }

/-- A request of mailbox 0 that is not under service is given up. -/
def State.dropRequest (s : State) : State := if s.pilot.serving = some 0 then s else s.modChan 0 (fun c => { c with busy := false })

theorem State.dropRequest_spec (s : State) :
    s.dropRequest.pilot = s.pilot ∧ ∀ c, (s.chan c).busy = false → (s.dropRequest.chan c).busy = false := by
  unfold State.dropRequest
  split
  · exact ⟨rfl, fun _ h => h⟩
  · refine ⟨rfl, fun c h => ?_⟩
    by_cases hc : c = 0
    · subst hc
      by_cases hl : 0 < s.mbx.length
      · rw [s.chan_modChan_same _ hl]
      · rw [State.chan, List.getD_eq_default _ _ (by simpa using hl)]
    · rw [s.chan_modChan_ne _ hc, h]

/-- A restart of the cluster asks for its power transitions after the end of its session. -/
theorem State.restartCluster_eq (s : State) (cause : Nat) : ∃ r k p w q, s.restartCluster cause =
    { (s.clusterDown cause).dropRequest with
      rhb := r, pwr := q, pilot := { (s.clusterDown cause).dropRequest.pilot with keyBind := k, spdm := p, wantPower := w } } := by
  obtain ⟨r, k, p, hclosed⟩ := ((s.clusterDown cause).dropRequest.closeSession_closes 0).frame
  obtain ⟨q, w, hoff⟩ := ((s.clusterDown cause).dropRequest.closeSession 0).askPower_eq false [78]
  obtain ⟨q', w', hon⟩ := (((s.clusterDown cause).dropRequest.closeSession 0).askPower false [78]).askPower_eq true [78]
  have hcases : s.restartCluster cause = if (s.clusterDown cause).dropRequest.pilot.standby then (s.clusterDown cause).dropRequest.closeSession 0
      else (((s.clusterDown cause).dropRequest.closeSession 0).askPower false [78]).askPower true [78] := rfl
  rw [hcases]
  split
  · exact ⟨_, _, _, _, _, hclosed⟩
  · rw [hon, hoff, hclosed]
    exact ⟨_, _, _, _, _, rfl⟩

/-- A restart of the cluster begins no request. -/
theorem State.restartCluster_spec (s : State) (cause : Nat) :
    (s.restartCluster cause).pilot.clusterUp = false ∧ (s.restartCluster cause).pilot.clusterRestart = some cause ∧
    ∀ c, (s.chan c).busy = false → ((s.restartCluster cause).chan c).busy = false := by
  obtain ⟨r, k, p, w, q, heq⟩ := s.restartCluster_eq cause
  obtain ⟨hpilot, hbusy⟩ := (s.clusterDown cause).dropRequest_spec
  rw [heq]
  exact ⟨congrArg Pilot.clusterUp hpilot, congrArg Pilot.clusterRestart hpilot, hbusy⟩

/-- The start of the cluster leaves the wait for its restart as it is. -/
theorem State.startCluster_clusterRestart (s : State) : s.startCluster.pilot.clusterRestart = s.pilot.clusterRestart := by
  have hfill : ∀ r : Nat × Nat, ((s.zFill r.1 r.2).poke hubIdent r.1 s.pilot.loader).pilot = s.pilot := fun r =>
    ((KeepsFirmware.update (u := s.zFill r.1 r.2) (.refl s)).poke hubIdent r.1 s.pilot.loader false).pilot
  unfold State.startCluster
  split
  · split
    · next r _ =>
      have hrestart := congrArg Pilot.clusterRestart (hfill r)
      exact hrestart
    · rfl
  · rfl

/-- The firmware goes on after a restart, no channel under service. -/
def State.resumed (s : State) : State := State.resumePilot { s with pilot := { s.pilot with serving := none } } 0

theorem State.doPilotRestarted_eq {s : State} {ch : Nat} (hm : s.rst.mode = .restarting 0) (hs : s.pilot.serving = some ch)
    (hb : (s.resumed.chan ch).busy = true) : s.doPilotRestarted =
      (List.range 20).foldl (fun u ch => u.pushEvent ch 0x30 0 [u.pilot.version, w32 (min 0 1)]) (s.resumed.deny ch 0x0D) := by
  unfold State.resumed at hb ⊢
  simp only [State.doPilotRestarted, hm, hs, hb, if_true]

/-- A request that was under service when the firmware restarted is answered RESTARTED (R394). -/
theorem State.doPilotRestarted_spec {s : State} {ch : Nat} (hm : s.rst.mode = .restarting 0) (hs : s.pilot.serving = some ch)
    (hb : (s.chan ch).busy = true) (hlen : ch < s.mbx.length) :
    s.doPilotRestarted.pilot.serving = none ∧ (s.doPilotRestarted.chan ch).busy = false ∧ (s.doPilotRestarted.chan ch).rspReady = true ∧
    fld (mgetD (s.doPilotRestarted.chan ch).rsp 1 0) 15 8 = 0x0D := by
  have hres : State.Undisturbed { s with pilot := { s.pilot with serving := none } } s.resumed := (Undisturbed.refl _).resumePilot (by omega)
  have hpush := (Undisturbed.refl (s.resumed.deny ch 0x0D)).pushEvents (List.range 20) 0x30 (fun u => [u.pilot.version, w32 (min 0 1)])
  have hpilot := s.resumed.answer_pilot (ch := ch) 0x0D (wd (s.resumed.chan ch).words 2) []
  have hlen' : ch < s.resumed.mbx.length := hres.length ▸ hlen
  rw [s.doPilotRestarted_eq hm hs ((hres.busy ch).trans hb)]
  refine ⟨?_, ?_, ?_, ?_⟩
  · exact hpush.serving.trans ((congrArg Pilot.serving hpilot).trans hres.serving)
  · exact (hpush.busy ch).trans (State.answer_busy _ _ _ hlen')
  · exact (hpush.rspReady ch).trans (State.answer_rspReady _ _ _ hlen')
  · rw [hpush.rsp ch]
    exact State.answer_status _ _ _ hlen' (by omega)

end Sys2Proof.Machine
end

section
/-! O50, the requests about the device, jobs, power, partitions and firmware: the outcome of each, and the statement assembled from them. -/

namespace Sys2Proof.Machine

/-! ### HELLO, power and partitions -/

theorem State.helloBody_eq {ch : Nat} (q : List Word) (s : State) (h : ch ≠ 18) : State.helloBody ch q s =
    s.ok ch [s.pilot.version, w32 (fld (s.declWord 0x00C) 7 0 * 256 + 1), s.reg (rhbKey 0 Reg.rhbDevid), s.pilot.change] := by
  unfold State.helloBody
  rw [if_neg h, if_neg h]

/-- The device that sent the request of mailbox 2 receives the events from now on. -/
def State.eventsToSender (s : State) : State := { s with pilot := { s.pilot with mgmtSrc := some s.pilot.mgmtReq } }

theorem State.helloBody_mgmt {ch : Nat} (q : List Word) (s : State) (h : ch = 18) :
    ∃ ws, State.helloBody ch q s = (s.eventsToSender.ok ch ws).flushMgmt 64 := by
  unfold State.helloBody
  rw [if_pos h, if_pos h]
  exact ⟨_, rfl⟩

theorem State.helloBody_mgmt_spec {ch : Nat} (q : List Word) {s : State} (h : ch = 18) (hlen : ch < s.mbx.length) :
    (State.helloBody ch q s).pilot.mgmtSrc = some s.pilot.mgmtReq ∧ ((State.helloBody ch q s).chan ch).busy = false := by
  obtain ⟨ws, hbody⟩ := State.helloBody_mgmt q s h
  rw [hbody, State.flushMgmt_pilot, ((Undisturbed.refl (s.eventsToSender.ok ch ws)).flushMgmt 64).busy ch]
  exact ⟨congrArg Pilot.mgmtSrc (s.eventsToSender.answer_pilot _ _ _), State.answer_busy _ _ _ hlen⟩

/-- The domains that a POWER_SET names. -/
def powerDomains (q : List Word) : List Nat := setBits 80 ((wd q 5).toNat + 2 ^ 32 * (wd q 6).toNat + 2 ^ 64 * fld (wd q 7) 15 0)

section
variable {s : State} {ch : Nat} {q : List Word}

theorem State.powerSetBody_on (h : flag (wd q 4) 31 = true) : State.powerSetBody ch q s = s.powerFor ch true (powerDomains q) := if_pos h

section
variable (h : flag (wd q 4) 31 = false)
include h

theorem State.powerSetBody_used (hu : (powerDomains q).any s.domUsed = true) : State.powerSetBody ch q s = s.deny ch 0x0A :=
  (if_neg (by simp [h])).trans (if_pos hu)

theorem State.powerSetBody_off (hu : (powerDomains q).any s.domUsed = false) :
    State.powerSetBody ch q s = s.powerFor ch false (powerDomains q).reverse :=
  (if_neg (by simp [h])).trans (if_neg (Bool.not_eq_true _ ▸ hu))

theorem State.powerStandbyBody_left (hs : s.pilot.standby = false) : State.powerStandbyBody ch q s = s.ok ch [] :=
  (if_neg (by simp [h])).trans (if_pos (by simp [hs]))

end

theorem State.powerStandbyBody_jobs (h : flag (wd q 4) 31 = true) (hj : s.pilot.jobs ≠ []) : State.powerStandbyBody ch q s = s.deny ch 6 :=
  (if_pos h).trans (if_pos (by simpa using hj))

theorem State.powerStandbyBody_standby (h : flag (wd q 4) 31 = true) (hj : s.pilot.jobs = []) :
    (State.powerStandbyBody ch q s).pilot.standby = true := by
  have hbody : State.powerStandbyBody ch q s =
      ({ s with pilot := { s.pilot with standby := true, clusterRestart := none } } : State).powerFor ch false (List.range 80).reverse :=
    (if_pos h).trans (if_neg (by simp [hj]))
  rw [hbody, State.powerFor_standby]

theorem State.partitionQueryBody_malformed (h : 16 ≤ (wd q 4).toNat) : State.partitionQueryBody ch q s = s.deny ch 1 := if_pos h

theorem State.partitionQueryBody_spec (h : (wd q 4).toNat < 16) (hlen : ch < s.mbx.length) :
    ((State.partitionQueryBody ch q s).chan ch).busy = false ∧
    mgetD ((State.partitionQueryBody ch q s).chan ch).rsp 4 0 = s.partCores (wd q 4).toNat ∧
    ∀ n, n < 32 → flag (mgetD ((State.partitionQueryBody ch q s).chan ch).rsp 5 0) n = s.usable (wd q 4).toNat n := by
  have hbody : ∃ share, State.partitionQueryBody ch q s = s.ok ch [s.partCores (wd q 4).toNat,
      (s.usableCores (wd q 4).toNat).foldl (fun (m : Word) n => m ||| bit32 n) 0, share] := ⟨_, if_neg (by omega)⟩
  obtain ⟨share, hbody⟩ := hbody
  rw [hbody]
  refine ⟨State.answer_busy _ _ _ hlen, State.answer_word _ _ _ hlen 0, fun n hn => ?_⟩
  rw [← s.flag_usable _ hn]
  exact congrArg (fun x => flag x n) (State.answer_word _ _ _ hlen 1)

/-- A PARTITION_SHARES whose shares exceed 16 or whose image has a bit outside the fields of SX_SHARE. -/
def sharesMalformed (q : List Word) : Prop :=
  16 < fld (wd q 5) 4 0 + fld (wd q 5) 12 8 + fld (wd q 5) 20 16 ∨ wd q 5 &&& 0xFFE0E0E0#32 ≠ 0#32

theorem State.partitionSharesBody_unknown (h : 16 ≤ (wd q 4).toNat) : State.partitionSharesBody ch q s = s.deny ch 1 := if_pos h

section
variable (h : (wd q 4).toNat < 16)
include h

theorem State.partitionSharesBody_denied (hf : flag s.features 2 = true) : State.partitionSharesBody ch q s = s.deny ch 3 :=
  (if_neg (by omega)).trans (if_pos hf)

variable (hf : flag s.features 2 = false)
include hf

theorem State.partitionSharesBody_malformed (hb : sharesMalformed q) : State.partitionSharesBody ch q s = s.deny ch 1 := by
  refine (if_neg (by omega)).trans ((if_neg (by simp [hf])).trans (if_pos ?_))
  rw [sharesMalformed, ne_eq, shareSpare_iff, not_and_or, not_and_or] at hb
  exact hb

theorem State.partitionSharesBody_eq (hb : ¬sharesMalformed q) : State.partitionSharesBody ch q s =
    (s.writeShares (wd q 5) (setBits 32 (s.partCores (wd q 4).toNat).toNat)).ok ch [] := by
  refine (if_neg (by omega)).trans ((if_neg (by simp [hf])).trans (if_neg ?_))
  rw [sharesMalformed, ne_eq, shareSpare_iff, not_and_or, not_and_or] at hb
  exact hb

theorem State.partitionSharesBody_spec (hb : ¬sharesMalformed q) (hr : mrising s.regs = true) (hlen : ch < s.mbx.length) (hch : ch ≠ 18) :
    ((State.partitionSharesBody ch q s).chan ch).busy = false ∧
    ∀ n, n < 32 → fld ((State.partitionSharesBody ch q s).cReg n Reg.sxShare) 4 0 =
      if flag (s.partCores (wd q 4).toNat) n = true ∧ s.domOn n = true then fld (wd q 5) 4 0 else fld (s.cReg n Reg.sxShare) 4 0 := by
  have hkeep := s.writeShares_keeps (wd q 5) (setBits 32 (s.partCores (wd q 4).toNat).toNat)
  rw [State.partitionSharesBody_eq h hf hb]
  refine ⟨State.answer_busy _ _ _ (hkeep.mbx ▸ hlen), fun n hn => ?_⟩
  obtain ⟨m, hm⟩ := (s.writeShares (wd q 5) (setBits 32 (s.partCores (wd q 4).toNat).toNat)).answer_eq 0
    (wd (State.chan (s.writeShares (wd q 5) (setBits 32 (s.partCores (wd q 4).toNat).toNat)) ch).words 2) [] hch
  have hreg := congrArg (fun u : State => fld (u.cReg n Reg.sxShare) 4 0) hm
  have hsum : ¬16 < fld (wd q 5) 20 16 + fld (wd q 5) 12 8 + fld (wd q 5) 4 0 := fun hs => hb (.inl (by omega))
  have hmem : n ∈ setBits 32 (s.partCores (wd q 4).toNat).toNat ↔ flag (s.partCores (wd q 4).toNat) n = true := by
    rw [mem_setBits, BitVec.testBit_toNat, flag]
    exact and_iff_right hn
  refine hreg.trans ((State.cReg_writeShares hr hsum hn).trans ?_)
  simp only [hmem]

end

/-! ### Firmware -/

theorem State.fwWriteBody_malformed (h : 0x100000 < (wd q 4).toNat + (wd q 5).toNat) : State.fwWriteBody ch q s = s.deny ch 1 := if_pos h

theorem State.fwWriteBody_written (h : (wd q 4).toNat + (wd q 5).toNat ≤ 0x100000) : State.fwWriteBody ch q s =
    (s.flashWrite (slotBase (1 - s.pilot.activeSlot) + (wd q 4).toNat) ((bytesOf (q.drop 6)).take (wd q 5).toNat)).ok ch [] :=
  if_neg (by omega)

theorem State.fwActivateBody_badImage : State.fwActivateBody false ch q s = s.deny ch 0x0C := rfl

/-- The boot header names the inactive slot. -/
def State.headerSwitched (s : State) : State := s.writeHeader (1 - s.pilot.activeSlot)

theorem State.headerSwitched_spec (s : State) : s.headerSwitched.rst = s.rst ∧ s.headerSwitched.mbx = s.mbx ∧ s.headerSwitched.secure = s.secure :=
  ⟨rfl, rfl, rfl⟩

/-- The inactive slot becomes the active one, with the version that its firmware gives itself. -/
def State.slotSwitched (s : State) : State :=
  let t := s.headerSwitched.nextFree
  { t with pilot := { t.pilot with activeSlot := 1 - s.pilot.activeSlot, version := Config.freeValue (t.freeCtr - 1) } }

theorem State.slotSwitched_spec (s : State) : s.slotSwitched.mbx = s.mbx ∧ s.slotSwitched.pilot.activeSlot = 1 - s.pilot.activeSlot := ⟨rfl, rfl⟩

theorem State.fwActivateBody_restart (h : s.rst.mode ≠ .rom ∨ s.secure.keys ≠ none) : State.fwActivateBody true ch q s =
    s.slotSwitched.restartPilot (if s.rst.mode = .rom then 2 else 1) (some ch) := by
  have hstay : ¬(s.headerSwitched.rst.mode = .rom ∧ s.headerSwitched.secure.keys = none) := by
    obtain ⟨hrst, -, hkeys⟩ := s.headerSwitched_spec
    rw [hrst, hkeys]
    exact not_and_or.mpr h
  unfold State.fwActivateBody State.slotSwitched
  exact (if_neg (by decide)).trans (if_neg hstay)

theorem State.fwActivateBody_stays (h : s.rst.mode = .rom) (hk : s.secure.keys = none) : State.fwActivateBody true ch q s =
    State.ok { s.headerSwitched with pilot := { s.headerSwitched.pilot with activeSlot := 1 - s.pilot.activeSlot } } ch [] := by
  have hstay : s.headerSwitched.rst.mode = .rom ∧ s.headerSwitched.secure.keys = none := by
    obtain ⟨hrst, -, hkeys⟩ := s.headerSwitched_spec
    rw [hrst, hkeys]
    exact ⟨h, hk⟩
  unfold State.fwActivateBody
  exact (if_neg (by decide)).trans (if_pos hstay)

end

section
variable {s : State} {ch : Nat} (q : List Word)

theorem State.busy_of_serves (h : s.serves ch = true) : (s.chan ch).busy = true := by
  simp only [State.serves, Bool.and_eq_true] at h
  exact h.1.1.2

theorem State.channel_of_serves_rom (h : s.serves ch = true) (hm : s.rst.mode = .rom) : ch = 19 := by
  simp only [State.serves, Bool.and_eq_true, hm] at h
  simpa using h.2

theorem State.fwActivateBody_restart_spec (hs : s.serves ch = true) (h : s.rst.mode ≠ .rom ∨ s.secure.keys ≠ none) :
    let t := State.fwActivateBody true ch q s
    t.pilot.activeSlot = 1 - s.pilot.activeSlot ∧ t.rst.mode = .restarting (if s.rst.mode = .rom then 2 else 1) ∧
    t.pilot.serving = some ch ∧ (t.chan ch).busy = true ∧ ∀ c, c < 20 → (t.spdmOf c).session = none := by
  obtain ⟨hmbx, hslot⟩ := s.slotSwitched_spec
  obtain ⟨hmode, hserving, -, -, hm, hact, hnone⟩ := s.slotSwitched.restartPilot_spec (if s.rst.mode = .rom then 2 else 1) (some ch)
  dsimp only
  rw [State.fwActivateBody_restart h]
  refine ⟨hact.trans hslot, hmode, hserving, ?_, hnone⟩
  rw [State.chan, hm, hmbx]
  exact busy_of_serves hs

theorem State.fwActivateBody_stays_spec (hs : s.serves ch = true) (h : s.rst.mode = .rom) (hk : s.secure.keys = none) (hlen : ch < s.mbx.length) :
    let t := State.fwActivateBody true ch q s
    t.pilot.activeSlot = 1 - s.pilot.activeSlot ∧ t.rst = s.rst ∧ (t.chan ch).busy = false := by
  obtain ⟨hrst, hmbx, -⟩ := s.headerSwitched_spec
  have hch : ch ≠ 18 := by
    rw [channel_of_serves_rom hs h]
    decide
  dsimp only
  rw [State.fwActivateBody_stays h hk]
  generalize s.headerSwitched = u at hrst hmbx ⊢
  obtain ⟨m, hm⟩ := State.answer_eq { u with pilot := { u.pilot with activeSlot := 1 - s.pilot.activeSlot } } 0
    (wd (State.chan { u with pilot := { u.pilot with activeSlot := 1 - s.pilot.activeSlot } } ch).words 2) [] hch
  refine ⟨congrArg Pilot.activeSlot (State.answer_pilot _ _ _ _), (congrArg State.rst hm).trans hrst, State.answer_busy _ _ _ (hmbx ▸ hlen)⟩

theorem State.clusterRestartBody_spec (hlen : ch < s.mbx.length) :
    let t := State.clusterRestartBody ch q s
    t.pilot.clusterUp = false ∧ t.pilot.clusterRestart = some 0 ∧ (t.chan ch).busy = false := by
  obtain ⟨hup, hcause, hbusy⟩ := (s.ok ch []).restartCluster_spec 0
  exact ⟨hup, hcause, hbusy ch (State.answer_busy _ _ _ hlen)⟩

theorem State.job_congr {s t : State} (h : t.pilot = s.pilot) (id : Nat) : t.job id = s.job id := by
  unfold State.job
  rw [h]

/-- JOB_DESTROY leaves no job of that number, and no model slot of it. -/
theorem State.destroyed_spec (j : Job) (hlen : ch < s.mbx.length) :
    let t := ((s.tearJob j).forgetJob j.id).ok ch []
    t.job j.id = none ∧ (t.chan ch).busy = false ∧ ∀ m r, (m, r) ∈ t.pilot.slots → r.job ≠ j.id := by
  have hl : ch < ((s.tearJob j).forgetJob j.id).mbx.length := (s.tearJob_length j).symm ▸ hlen
  have hp := ((s.tearJob j).forgetJob j.id).answer_pilot (ch := ch) 0 (wd (((s.tearJob j).forgetJob j.id).chan ch).words 2) []
  refine ⟨?_, State.answer_busy _ _ _ hl, fun m r hr => (s.tearJob j).slots_forgetJob (m := m) ?_⟩
  · exact (State.job_congr hp j.id).trans ((s.tearJob j).job_forgetJob j.id)
  · exact hp ▸ hr

end

/-! ### The watchdogs and the restarts that they begin -/

section
variable {s : State}

theorem State.doClusterWatchdog_restart (hu : s.pilot.clusterUp = true) (hm : s.rst.mode = .running) : s.doClusterWatchdog = s.restartCluster 1 :=
  if_pos (by simp [hu, hm])

theorem State.doClusterWatchdog_idle (h : s.pilot.clusterUp = false ∨ s.rst.mode ≠ .running) : s.doClusterWatchdog = s :=
  if_neg (by rcases h with h | h <;> simp [h])

theorem State.doClusterRestarted_idle (h : s.pilot.clusterRestart = none) : s.doClusterRestarted = s := by
  simp only [State.doClusterRestarted, h]

theorem State.doClusterRestarted_waits {cause : Nat} (h : s.pilot.clusterRestart = some cause)
    (hw : s.rst.mode ≠ .running ∨ s.domOpen 78 = false ∨ s.powerSettled = false) : s.doClusterRestarted = s := by
  simp only [State.doClusterRestarted, h]
  exact if_neg (by rcases hw with hw | hw | hw <;> simp [hw])

theorem State.doClusterRestarted_done {cause : Nat} (h : s.pilot.clusterRestart = some cause) (hm : s.rst.mode = .running)
    (hd : s.domOpen 78 = true) (hp : s.powerSettled = true) : s.doClusterRestarted.pilot.clusterRestart = none := by
  have hstart := State.startCluster_clusterRestart { s with pilot := { s.pilot with clusterRestart := none } }
  simp only [State.doClusterRestarted, h]
  rw [if_pos (by simp [hm, hd, hp]), State.pushEvents_pilot _ [0, 1, 19] 0x31 (fun _ => [w32 cause])]
  exact hstart

theorem State.doPilotRestarted_idle (h : ∀ cause, s.rst.mode ≠ .restarting cause) : s.doPilotRestarted = s := by
  unfold State.doPilotRestarted
  split
  · next cause hm => exact absurd hm (h cause)
  · rfl

end

/-! ### The statement -/

/-- Mailbox 2 may not ask for PARTITION_SHARES. -/
theorem State.channel_of_partitionShares {s : State} {ch : Nat} {q : List Word} (ho : reqOp q = 0x43) (he : s.reqError ch q = none) : ch ≠ 18 := by
  have hbox := State.mailbox_of_accepted he (n := 6) (boxes := [1, 3]) (by rw [ho]; rfl)
  rintro rfl
  exact absurd hbox (by decide)

/-- Settles O50: each clause is the outcome of one request's body. -/
theorem requestsAboutDeviceJobsAndPower : Obligations.RequestsAboutDeviceJobsAndPower := by
  intro s ch hlen hch hr q go does gives w own
  have hin : ch < s.mbx.length := hlen ▸ hch
  have serves {op : Nat} {i : Instr} {f : List Word → State → State} (hg : go op) (he : exec i s = .next (s.serve ch op f)) :
      does i (f q s) := he.trans (congrArg _ (State.serve_accepted f hg.1 hg.2.1 hg.2.2))
  have answers {op : Nat} {i : Instr} {f : List Word → State → State} {t : State} (hg : go op) (he : exec i s = .next (s.serve ch op f))
      (ht : f q s = t) : does i t := ht ▸ serves hg he
  have yields {op : Nat} {i : Instr} {f : List Word → State → State} {p : State → Prop} (hg : go op) (he : exec i s = .next (s.serve ch op f))
      (hp : p (f q s)) : gives i p := ⟨_, serves hg he, hp⟩
  have refusals {op : Nat} {i : Instr} {f : List Word → State → State} {g : Job → State} (he : exec i s = .next (s.serve ch op f))
      (hf : f q s = s.withLive ch q g) : own i op false := fun hg =>
    ⟨fun hj => answers hg he (hf.trans (s.withLive_unknown hj)), fun _ hj =>
      ⟨fun ho _ => answers hg he (hf.trans (s.withLive_other hj ho)), fun ho _ hl => answers hg he (hf.trans (s.withLive_dead hj ho hl))⟩⟩
  refine ⟨fun hg hne => answers hg rfl (State.helloBody_eq q s hne), ?mgmt, fun hg => answers hg rfl rfl, fun hg => answers hg rfl rfl, refusals rfl rfl, refusals rfl rfl, refusals rfl rfl,
    ?destroyRefused, ?create, ?space, ?destroy, ?power, ?standby, ?query, ?shares, ?write, ?activate, ?restart, ?watchdog, ?noWatchdog,
    ?restarted, ?notAsked, ?pilotWatchdog, ?pilotHeld, ?pilotIdle, ?pilotRestarted⟩
  case mgmt =>
    intro hg heq
    obtain ⟨hsrc, hbusy⟩ := State.helloBody_mgmt_spec q heq hin
    exact yields hg rfl ⟨hsrc, (congrArg (fun c => (State.chan (State.helloBody ch q s) c).busy) heq.symm).trans hbusy⟩
  case destroyRefused =>
    intro hg
    refine ⟨fun hj => answers hg rfl (s.withJob_unknown hj), fun j hj => ⟨fun ho hm => answers hg rfl (s.withJob_other hj ho (.inr ?_)), ?_⟩⟩
    · exact mt (mailboxOf_eq_three hch).mp (hm.resolve_left (by decide))
    · exact fun _ hany => absurd hany (by decide)
  case create =>
    intro hg
    refine ⟨fun hb => answers hg rfl (State.jobCreateBody_malformed hb), fun hb hn => answers hg rfl (State.jobCreateBody_notGranted hb hn),
      fun hb hn hk => answers hg rfl (State.jobCreateBody_notKeyed hb hn hk),
      fun hb hn hk hc => answers hg rfl ((State.jobCreateBody_accepted hb hn hk).trans (hc ▸ rfl)), fun c hb hn hk hc => ?_⟩
    have hbody : State.jobCreateBody ch q s = s.createIn ch q (some c) := hc ▸ State.jobCreateBody_accepted hb hn hk
    exact ⟨fun hs => answers hg rfl (hbody.trans (State.createIn_noFrames hs)), fun hs => yields hg rfl (hbody ▸ State.createIn_created hs)⟩
  case space =>
    intro j hj ho hl
    refine ⟨fun hg => ⟨?_, ?_, ?_, ?_, ?_, ?_⟩, fun hg => ⟨?_, ?_⟩, fun hg => ⟨?_, ?_, ?_, ?_⟩⟩
    · exact fun hb => answers hg rfl (State.jobMapBody_malformed hj ho hl hb)
    · exact fun hb hc hp => answers hg rfl (State.jobMapBody_notGranted hj ho hl hb hc hp)
    · exact fun hb hc ht => answers hg rfl (State.jobMapBody_taken hj ho hl hb (.inl hc) ht)
    · exact fun hb hc ht hm => answers hg rfl (State.jobMapBody_noFrames hj ho hl hb (.inl hc) ht (.inl hc) hm)
    · exact fun t hb hc ht hm => answers hg rfl ((State.jobMapBody_mapped hj ho hl hb (.inl hc) ht (.inl hc) hm).trans (by rw [hc]; rfl))
    · intro hb hc hp
      refine ⟨fun hbad => answers hg rfl ?_, fun ht hread => ⟨fun hm => ?_, fun t hm => ?_⟩⟩
      · rcases Bool.eq_false_or_eq_true (s.mapTaken j q) with ht | ht
        · exact State.jobMapBody_taken hj ho hl hb (.inr hp) ht
        · exact State.jobMapBody_unreadable hj ho hl hb (.inr hp) ht hc (hbad.resolve_left (Bool.eq_false_iff.mp ht))
      · exact answers hg rfl (State.jobMapBody_noFrames hj ho hl hb (.inr hp) ht (.inr hread) hm)
      · exact answers hg rfl ((State.jobMapBody_mapped hj ho hl hb (.inr hp) ht (.inr hread) hm).trans (by rw [hc]; rfl))
    · exact fun hb => answers hg rfl (State.jobUnmapBody_malformed hj ho hl hb)
    · exact fun hb hc => answers hg rfl (State.jobUnmapBody_unmapped hj ho hl hb hc)
    · exact fun hb => answers hg rfl (State.listPostBody_refused hj ho hl hb)
    · exact fun hb hk => answers hg rfl (State.listPostBody_locked hj ho hl hb hk)
    · exact fun hb hk ha => answers hg rfl (State.listPostBody_misaligned hj ho hl hb hk ha)
    · exact fun hb hk ha => answers hg rfl (State.listPostBody_posted hj ho hl hb hk ha)
  case destroy =>
    intro j hj ho hg
    exact ⟨fun hf hs => answers hg rfl (State.jobDestroyBody_live hj ho hf hs), fun hs =>
      yields hg rfl ((State.jobDestroyBody_destroyed hj ho hs).symm ▸ State.destroyed_spec j hin)⟩
  case power =>
    intro hg
    exact ⟨fun h => answers hg rfl (State.powerSetBody_on h), fun h hu => answers hg rfl (State.powerSetBody_used h hu),
      fun h hu => answers hg rfl (State.powerSetBody_off h hu)⟩
  case standby =>
    intro hg
    exact ⟨fun h hj => answers hg rfl (State.powerStandbyBody_jobs h hj), fun h hj => yields hg rfl (State.powerStandbyBody_standby h hj),
      fun h hs => answers hg rfl (State.powerStandbyBody_left h hs)⟩
  case query =>
    intro hg
    exact ⟨fun h => answers hg rfl (State.partitionQueryBody_malformed h), fun h => yields hg rfl (State.partitionQueryBody_spec h hin)⟩
  case shares =>
    intro hg
    exact ⟨fun h => answers hg rfl (State.partitionSharesBody_unknown h), fun h hf => answers hg rfl (State.partitionSharesBody_denied h hf),
      fun h hf hb => answers hg rfl (State.partitionSharesBody_malformed h hf hb), fun h hf hb =>
      yields hg rfl (State.partitionSharesBody_spec h hf hb hr hin (State.channel_of_partitionShares hg.2.1 hg.2.2))⟩
  case write =>
    intro hg
    exact ⟨fun h => answers hg rfl (State.fwWriteBody_malformed h), fun h => answers hg rfl (State.fwWriteBody_written h)⟩
  case activate =>
    intro hg
    exact ⟨answers hg rfl State.fwActivateBody_badImage, fun h => yields hg rfl (State.fwActivateBody_restart_spec q hg.1 h),
      fun h hk => yields hg rfl (State.fwActivateBody_stays_spec q hg.1 h hk hin)⟩
  case restart => exact fun hg => yields hg rfl (State.clusterRestartBody_spec q hin)
  case watchdog =>
    intro hu hm
    obtain ⟨hup, hcause, -⟩ := s.restartCluster_spec 1
    exact ⟨_, congrArg Host.Outcome.next (State.doClusterWatchdog_restart hu hm), hup, hcause⟩
  case noWatchdog => exact fun h => congrArg Host.Outcome.next (State.doClusterWatchdog_idle h)
  case restarted =>
    exact fun cause hc => ⟨fun hm hd hp => ⟨_, rfl, State.doClusterRestarted_done hc hm hd hp⟩,
      fun hw => congrArg Host.Outcome.next (State.doClusterRestarted_waits hc hw)⟩
  case notAsked => exact fun h => congrArg Host.Outcome.next (State.doClusterRestarted_idle h)
  case pilotWatchdog =>
    intro hup
    obtain ⟨hmode, hserving, hjobs, hcores, -⟩ := s.restartPilot_spec 0 s.pilot.serving
    exact ⟨_, congrArg Host.Outcome.next (if_pos hup : s.doPilotWatchdog = _), hmode, hserving, hjobs, hcores⟩
  case pilotHeld => exact fun hup => congrArg Host.Outcome.next (if_neg (Bool.not_eq_true _ ▸ hup) : s.doPilotWatchdog = s)
  case pilotIdle => exact fun h => congrArg Host.Outcome.next (State.doPilotRestarted_idle h)
  case pilotRestarted => exact fun hm hs hb _ => ⟨_, rfl, State.doPilotRestarted_spec hm hs hb hin⟩

end Sys2Proof.Machine
end

section
/-! Accesses to memory: what is left by the reads, writes and translations of the hub, and by the mapping of fresh pages. -/

namespace Sys2Proof.Machine

/-- `t` is `s` but for registers, memory and the hub's caches. -/
structure State.AccessesOnly (s t : State) : Prop where
  rest : { t with regs := s.regs, mem := s.mem, hub := s.hub } = s

namespace State.AccessesOnly

theorem refl (s : State) : s.AccessesOnly s := ⟨rfl⟩

variable {s t u : State} (h : s.AccessesOnly t)
include h

theorem trans (h' : t.AccessesOnly u) : s.AccessesOnly u := by
  have hu : { u with regs := s.regs, mem := s.mem, hub := s.hub } = { t with regs := s.regs, mem := s.mem, hub := s.hub } := by rw [← h'.rest]
  exact ⟨hu.trans h.rest⟩

theorem now : t.now = s.now := (congrArg State.now h.rest :)

theorem fe : t.fe = s.fe := (congrArg State.fe h.rest :)

theorem log : t.log = s.log := (congrArg State.log h.rest :)

theorem sched : t.sched = s.sched := (congrArg State.sched h.rest :)

theorem keepsFirmware : s.KeepsFirmware t := ⟨(congrArg State.mbx h.rest :), (congrArg State.pilot h.rest :)⟩

/-! ### Lists of accesses -/

theorem ite {c : Prop} {_ : Decidable c} (h' : s.AccessesOnly u) : s.AccessesOnly (if c then t else u) := by
  split <;> assumption

theorem foldl {α : Type} {f : State → α → State} (hf : ∀ u a, s.AccessesOnly u → s.AccessesOnly (f u a)) (l : List α) :
    s.AccessesOnly (l.foldl f t) := by
  induction l generalizing t with
  | nil => exact h
  | cons a l ih => exact ih (hf t a h)

/-! ### Physical addresses -/

theorem setReg (k : Nat) (v : Word) : s.AccessesOnly (t.setReg k v) := h.trans ⟨rfl⟩

theorem bump (k n : Nat) : s.AccessesOnly (t.bump k n) := h.setReg _ _

theorem orReg (k : Nat) (m : Word) : s.AccessesOnly (t.orReg k m) := h.setReg _ _

theorem setReg2 (lo v : Nat) : s.AccessesOnly (t.setReg2 lo v) := (h.setReg _ _).setReg _ _

theorem withMem (m : Mem) : s.AccessesOnly { t with mem := m } := h.trans ⟨rfl⟩

theorem stackErr (n bit a : Nat) : s.AccessesOnly (t.stackErr n bit a) := h.setReg _ _

theorem startHbmTest (n pc : Nat) : s.AccessesOnly (t.startHbmTest n pc) := h.ite ((h.setReg _ _).orReg _ _)

theorem noteLine (l : Nat) (late : Bool) : s.AccessesOnly (t.noteLine l late) := by
  unfold State.noteLine
  dsimp only
  split
  · exact h
  · next c _ _ =>
    have hread := h.bump (hbmKey c.2.stack Reg.hbmCntRdlines) 1
    split
    · split
      · exact (((hread.withMem _).bump _ _).stackErr _ _ _).bump _ _
      · exact (((hread.bump _ _).stackErr _ _ _).startHbmTest _ _).setReg2 _ _
    · split
      · exact ((hread.withMem _).bump _ _).stackErr _ _ _
      · exact hread

theorem noteRead (a n : Nat) (late : Bool) : s.AccessesOnly (t.noteRead a n late) := h.foldl (fun _ l h => h.noteLine l late) _

theorem poke (ident a : Nat) (bs : List Byte) (late : Bool) : s.AccessesOnly (t.poke ident a bs late) := by
  have hold := h.foldl (fun _ l h => h.noteLine l late) (partLines a bs.length)
  unfold State.poke
  dsimp only
  split
  · exact (hold.foldl (fun u l h => h.foldl (fun _ c h => h.bump _ _) _) _).withMem _
  · exact hold.ite h

theorem hubPoke (a : Nat) (bs : List Byte) : s.AccessesOnly (t.hubPoke a bs) := (h.poke _ _ _ _).ite h

theorem modSctx (i : Nat) (f : List Word → List Word) : s.AccessesOnly (t.modSctx i f) := (h.hubPoke _ _).hubPoke _ _

theorem putMslot (m : Nat) (ws : List Word) : s.AccessesOnly (t.putMslot m ws) := h.hubPoke _ _

/-! ### The space of a context -/

theorem noteWalk (ctx va lo : Nat) : s.AccessesOnly (t.noteWalk ctx va lo) :=
  foldl ((h.noteRead _ _ _).ite h) (fun _ l h => h.noteLine l.2 false) _

theorem hubXlate (ctx va n : Nat) : s.AccessesOnly (t.hubXlate ctx va n) := by
  refine h.foldl (fun u p hu => ?_) _
  have hwalk := hu.noteWalk ctx p.1 0
  dsimp only
  split
  · exact hu
  · split
    · exact hwalk.trans ⟨rfl⟩
    · exact hwalk

theorem vnote (tlb : List Tlb) (ctx va n : Nat) : s.AccessesOnly (t.vnote tlb ctx va n) := by
  unfold State.vnote
  split
  · exact h
  · exact h.foldl (fun _ p h => h.noteRead p.1 p.2 false) _

theorem ctxNote (ctx va n : Nat) : s.AccessesOnly (t.ctxNote ctx va n) := (h.hubXlate ctx va n).vnote _ ctx va n

theorem pokeParts (ctx : Nat) (ps : List (Nat × Nat)) (bs : List Byte) :
    s.AccessesOnly (ps.foldl (fun (x : State × List Byte) p => (x.1.poke ctx p.1 (x.2.take p.2), x.2.drop p.2)) (t, bs)).1 := by
  induction ps generalizing t bs with
  | nil => exact h
  | cons p ps ih => exact ih (h.poke ctx p.1 (bs.take p.2) false) (bs.drop p.2)

theorem vwrite {tlb : List Tlb} {ctx va : Nat} {bs : List Byte} (he : t.vwrite tlb ctx va bs = .ok u) : s.AccessesOnly u := by
  unfold State.vwrite at he
  split at he
  · cases he
  · split at he
    · cases he
    · cases he
      exact h.pokeParts ctx _ bs

theorem ctxPoke (ctx va : Nat) (bs : List Byte) : s.AccessesOnly (t.ctxPoke ctx va bs) := by
  have hx := h.hubXlate ctx va bs.length
  unfold State.ctxPoke
  dsimp only
  split
  · next he => exact hx.vwrite he
  · exact hx

end State.AccessesOnly

/-! ### Fresh pages -/

/-- `t` is `s` but for registers, memory, the hub's caches and the firmware's tables. -/
structure State.MapsOnly (s t : State) : Prop where
  rest : { t with regs := s.regs, mem := s.mem, hub := s.hub, pilot := s.pilot } = s

namespace State.MapsOnly

theorem refl (s : State) : s.MapsOnly s := ⟨rfl⟩

variable {s t u : State} (h : s.MapsOnly t)
include h

theorem now : t.now = s.now := (congrArg State.now h.rest :)

theorem fe : t.fe = s.fe := (congrArg State.fe h.rest :)

theorem log : t.log = s.log := (congrArg State.log h.rest :)

theorem mbx : t.mbx = s.mbx := (congrArg State.mbx h.rest :)

theorem trans (h' : t.MapsOnly u) : s.MapsOnly u := by
  have hu : { u with regs := s.regs, mem := s.mem, hub := s.hub, pilot := s.pilot } =
      { t with regs := s.regs, mem := s.mem, hub := s.hub, pilot := s.pilot } := by rw [← h'.rest]
  exact ⟨hu.trans h.rest⟩

theorem accesses (h' : t.AccessesOnly u) : s.MapsOnly u :=
  h.trans ⟨congrArg (fun x : State => { x with pilot := t.pilot }) h'.rest⟩

theorem takeFrame {j : Job} {big : Bool} {pa : Nat} (he : t.takeFrame j big = some (pa, u)) : s.MapsOnly u := by
  unfold State.takeFrame at he
  split at he
  · cases he
  · cases he
    exact h.trans ⟨rfl⟩

theorem mapFrom {j : Job} {va pa fuel level tab : Nat} {big w : Bool} (he : t.mapFrom j va pa big w fuel level tab = some u) : s.MapsOnly u := by
  induction fuel generalizing t level tab with
  | zero => cases he
  | succ fuel ih =>
    unfold State.mapFrom at he
    extract_lets idx a e at he
    split at he
    · cases he
      exact h.accesses ((AccessesOnly.refl t).hubPoke _ _)
    · split at he
      · exact ih h he
      · split at he
        · cases he
        · next hf => exact ih ((h.takeFrame hf).accesses ((AccessesOnly.refl _).hubPoke _ _)) he

theorem mapFresh {j : Job} {big w : Bool} {vas : List Nat} (he : t.mapFresh j big w vas = some u) : s.MapsOnly u := by
  induction vas generalizing t with
  | nil =>
    cases he
    exact h
  | cons va vas ih =>
    simp only [State.mapFresh] at he
    split at he
    · cases he
    · next hf =>
      split at he
      · cases he
      · next hm => exact ih ((h.takeFrame hf).mapFrom hm) he

end State.MapsOnly

end Sys2Proof.Machine
end

section
/-! The cluster's rings and the event queue (O16). -/

namespace Sys2Proof.Machine

/-- A running device with one unmirrored region on stack 0 that the hub may reach, and a frame of length 0 in the transmit ring of port 0. In the table
of registers FE_LOCAL_BASE_LO stands behind HBM_CNT_RDLINES of stack 0, which is one read short of wrapping: the keys of that table do not rise. -/
def wrappingDevice : State := { State.reset with
  rst := { State.reset.rst with mode := .running }
  pwr := { State.reset.pwr with on := BitVec.allOnes 80 }
  regs := [(hbmKey 0 Reg.hbmCntRdlines, 0xFFFFFFFF), (Reg.feLocalBaseLo, 0x10000), (hbmKey 0 0x800, 0xA0000200), (hbmKey 0 0x804, 0x2000)]
  mem := { State.reset.mem with bytes := [(0x5000000, 1)], ident := [(0x5000000 / 64, hubIdent)] } }

/-- Entries that the frame at the consumer index of a ring takes. -/
def State.ringNeed (s : State) (k : Nat) : Nat := ceilDiv (fld (s.hubWord (s.ringEntry k (s.ringCons k))) 15 0 + 8) 2048

/-- The state once the frame has been read, with its consumer index written at the base that the ring had before the read. -/
def State.ringPassed (s : State) (k : Nat) : State :=
  ((List.range (s.ringNeed k)).foldl (fun t j => t.hubNote (t.ringEntry k (s.ringCons k + w32 j)) 2048) s).hubPokeW (s.ringBase k + 4)
    (s.ringCons k + w32 (s.ringNeed k))

/-- The device meets what the first clause asks of a state: the frame stands whole in the ring. -/
theorem wrappingDevice_form :
    wrappingDevice.domOn 79 = true ∧ wrappingDevice.ringNeed 5 ≤ wrappingDevice.ringUsed 5 ∧ wrappingDevice.ringUsed 5 ≤ 4096 := by decide +kernel

/-- The read of the frame takes the wrapped counter out of the table of registers, and the lookup of the base, which the counter stopped, then finds
its entry: the consumer index is written above the new base and not above the one that the frame was read from. -/
theorem wrappingDevice_consumer :
    mget (wrappingDevice.doClusterFrameTransmit 0).mem.bytes 0x5010004 = some 1 ∧ mget (wrappingDevice.ringPassed 5).mem.bytes 0x5010004 = none := by
  decide +kernel

/-- Refutes O16: the statement does not ask that the registers are canonical. Where their keys do not rise, the read of a frame, which counts lines at
HBM, can change what the base of the rings reads as, and the front end writes the consumer index above the base after the read (R396). -/
theorem not_localRingsAndEventQueue : ¬ Obligations.LocalRingsAndEventQueue := by
  intro h
  obtain ⟨hon, hneed, hmax⟩ := wrappingDevice_form
  obtain ⟨htaken, hsaid⟩ := wrappingDevice_consumer
  obtain ⟨hport, -, -⟩ := h wrappingDevice
  generalize wrappingDevice = s at *
  obtain ⟨hsends, -⟩ := hport 0 (by decide) hon
  have hexec : exec (.clusterFrameTransmit 0) s = .next (s.doClusterFrameTransmit 0) := congrArg _ (if_pos hon)
  have hmem : (s.doClusterFrameTransmit 0).mem = (s.ringPassed 5).mem :=
    (congrArg State.mem (Host.Outcome.next.inj (hexec.symm.trans (hsends hneed hmax))) :)
  rw [hmem, hsaid] at htaken
  cases htaken

end Sys2Proof.Machine
end

section
/-! Held chunks (O12): the tokens that end a hold, its timeout, acceptance, and the acknowledgement. -/

namespace Sys2Proof.Machine

/-! ### Commands to the front end -/

theorem exec_frontEnd {c : Instr} {s t : State} {f : State → State} (he : exec c s = s.onFrontEnd f) (hd : s.domOn 79 = true) (hf : f s = t) :
    exec c s = .next t := by
  rw [he, State.onFrontEnd, State.onDomain, if_pos hd, hf]

/-! ### The hold (R47) -/

/-- One chunk period of a stream, µs. -/
abbrev State.periodOf (s : State) (i : Nat) : Nat := msPeriod (s.mslot (cxModel (s.sctx i)))

section
variable {s : State} {i : Nat} {h : Held} {rest : List Held} (hh : s.heldOf i = h :: rest)
include hh

theorem State.doHeldChunkRelease_paid (hp : s.periodOf i ≤ (s.tokensAt i (min s.now (h.start + 4 * s.periodOf i))).1) :
    s.doHeldChunkRelease i = (({ s.spend i (s.periodOf i) with
      fe := { (s.spend i (s.periodOf i)).fe with hold := dropHeld i (s.spend i (s.periodOf i)).fe.hold } } : State).acceptChunk i h.chunk).afterHold i := by
  simp only [State.doHeldChunkRelease, hh]
  exact if_pos hp

theorem State.doHeldChunkRelease_waits (hp : (s.tokensAt i (min s.now (h.start + 4 * s.periodOf i))).1 < s.periodOf i) : s.doHeldChunkRelease i = s := by
  simp only [State.doHeldChunkRelease, hh]
  exact if_neg (not_le.mpr hp)

theorem State.doHoldTimeout_early (ht : s.now < h.start + 4 * s.periodOf i) : s.doHoldTimeout i = s := by
  simp only [State.doHoldTimeout, hh]
  exact if_neg (fun hlate => absurd hlate.1 (not_le.mpr ht))

section
variable (hlate : h.start + 4 * s.periodOf i ≤ s.now) (hp : (s.tokensAt i (h.start + 4 * s.periodOf i)).1 < s.periodOf i)
include hlate hp

/-- Of an RTP stream the oldest held chunk alone is refused. -/
theorem State.doHoldTimeout_rtp (hsrc : cxSrc (s.sctx i) = 0) : s.doHoldTimeout i =
    (({ s with fe := { s.fe with hold := dropHeld i s.fe.hold } } : State).refuse i h.chunk.seq h.chunk.peer 1 Reg.feCntRefusedRate).afterHold i := by
  have hvsf : (cxSrc (s.sctx i) != 0) = false := by simp [hsrc]
  simp only [State.doHoldTimeout, hh, hvsf]
  exact if_pos ⟨hlate, hp⟩

/-- Of a VSF stream the held chunks behind it are refused too. -/
theorem State.doHoldTimeout_vsf (hsrc : cxSrc (s.sctx i) ≠ 0) : s.doHoldTimeout i =
    (rest.foldl (fun s h => s.refuse i h.chunk.seq h.chunk.peer 2 Reg.feCntRefusedGap)
      (({ s with fe := { s.fe with hold := s.fe.hold.filter (fun h => decide (h.ctx ≠ i)) } } : State).refuse i h.chunk.seq h.chunk.peer 1
        Reg.feCntRefusedRate)).afterHold i := by
  have hvsf : (cxSrc (s.sctx i) != 0) = true := by simp [hsrc]
  simp only [State.doHoldTimeout, hh, hvsf]
  exact if_pos ⟨hlate, hp⟩

end

end

/-! ### Acceptance of a VSF chunk (R50, R52) -/

section
variable {s : State} {i : Nat} {c : Chunk} (hst : cxState (s.sctx i) ≠ 3) (hclose : s.pastClose i c.seq = false)
include hst hclose

theorem State.acceptChunk_gap (hsrc : cxSrc (s.sctx i) ≠ 0) (hseq : c.seq ≠ cxAccept (s.sctx i)) : s.acceptChunk i c = s.refuse i c.seq c.peer 2 Reg.feCntRefusedGap := by
  unfold State.acceptChunk
  dsimp only
  rw [if_neg hst, if_neg (by simp [hclose]), if_pos ⟨hsrc, hseq⟩]

theorem State.acceptChunk_inSequence (hseq : c.seq = cxAccept (s.sctx i)) : s.acceptChunk i c =
    if s.acceptShut i || cxAccept (s.sctx i) - cxCommit (s.sctx i) == 8 then s.refuse i c.seq c.peer 3 Reg.feCntRefusedFull else s.acceptWrite i c := by
  unfold State.acceptChunk
  dsimp only
  rw [if_neg hst, if_neg (by simp [hclose]), if_neg (fun hgap => hgap.2 hseq)]

end

/-! ### The acknowledgement (R49) -/

theorem State.doChunkAccepted_sends {s : State} {i : Nat} {a : Word × Peer} {r : List (Word × Peer)} (ha : (s.strm i).acks = a :: r) :
    s.doChunkAccepted i = ((s.modStrm i (fun x => { x with acks := r })).sendAck a.2 (cxHandle (s.sctx i) i) a.1 0).closeSettle i := by
  simp only [State.doChunkAccepted, ha]

/-- Settles O12: a hold ends by its tokens or by its timeout, and acceptance asks for the sequence before it asks for room. -/
theorem heldChunks : Obligations.HeldChunks := by
  intro s i h rest hd
  have release {t : State} : s.doHeldChunkRelease i = t → exec (.heldChunkRelease i) s = .next t :=
    exec_frontEnd (f := fun s => s.doHeldChunkRelease i) rfl hd
  have timeout {t : State} : s.doHoldTimeout i = t → exec (.holdTimeout i) s = .next t := exec_frontEnd (f := fun s => s.doHoldTimeout i) rfl hd
  refine ⟨fun hh => ⟨?paid, ?waits, ?timeout, ?early⟩, ?accept, ?ack⟩
  case paid => exact fun hp => release (State.doHeldChunkRelease_paid hh hp)
  case waits => exact fun hp => release (State.doHeldChunkRelease_waits hh hp)
  case timeout =>
    intro hlate hp
    exact ⟨fun hsrc => timeout (State.doHoldTimeout_rtp hh hlate hp hsrc), fun hsrc => timeout (State.doHoldTimeout_vsf hh hlate hp hsrc)⟩
  case early => exact fun ht => timeout (State.doHoldTimeout_early hh ht)
  case accept =>
    intro c hst hsrc hclose
    refine ⟨State.acceptChunk_gap hst hclose hsrc, fun hseq hfull => ?_, fun hseq hopen hroom => ?_⟩
    · rw [State.acceptChunk_inSequence hst hclose hseq, if_pos (by simpa using hfull)]
    · rw [State.acceptChunk_inSequence hst hclose hseq, if_neg (by simpa [hopen] using hroom)]
  case ack => exact fun a r ha => exec_frontEnd (f := fun s => s.doChunkAccepted i) rfl hd (State.doChunkAccepted_sends ha)

end Sys2Proof.Machine
end

section
/-! The tick and the dispatch of held batches (O13). -/

namespace Sys2Proof.Machine

/-! ### The tick (R54, R55) -/

theorem State.doTick_off {s : State} (h : flag (s.reg Reg.logCtrl) 0 = false ∨ s.logTime.toNat % 1000 ≠ 0) : s.doTick = s := by
  unfold State.doTick
  refine if_neg ?_
  rcases h with h | h
  · simp [h]
  · simpa [State.logTime, w32] using fun _ => h

/-- The journals of the due streams are read. -/
def State.journalsRead (s : State) : State := (s.openCtxs.filter s.due).foldl State.journalNote s

/-- The due streams whose journal cannot be read are aborted. -/
def State.journalsFailed (s : State) : State := (s.openCtxs.filter (fun i => s.due i && (s.journal i).isNone)).foldl State.journalFail s

/-- The batches of every model slot with a due stream are formed. -/
def State.batchesFormed (s : State) : State := (List.range 256).foldl (fun s m => if (s.slotStreams m).any s.due then s.tickModel m else s) s

/-- As many batches are dispatched as are held, while slots are free. -/
def State.heldDispatched (s : State) : State :=
  (List.range (s.log.batches.filter (fun b => !b.queued && !b.dead)).length).foldl (fun s _ => s.dispatchHeld) s

theorem State.doTick_on {s : State} (h : flag (s.reg Reg.logCtrl) 0 = true) (ht : s.logTime.toNat % 1000 = 0) :
    s.doTick = s.journalsRead.journalsFailed.sweepBatches.batchesFormed.heldDispatched := by
  have hon : (flag (s.reg Reg.logCtrl) 0 && s.now % 2 ^ 32 % 1000 == 0) = true := by simpa [h, State.logTime, w32] using ht
  simp only [State.doTick, hon, if_true, State.heldDispatched, State.batchesFormed, State.journalsFailed, State.journalsRead]

/-! ### Forming a batch (R55, R57) -/

/-- A list of one entry is cut into itself. -/
theorem cutList_single {α : Type} (k n : Nat) (a : α) : cutList k (n + 2) [a] = [[a]] := by
  obtain ⟨m, hm⟩ : ∃ m, max 1 k = m + 1 := ⟨max 1 k - 1, by omega⟩
  simp [cutList, hm]

theorem State.tickModel_single {s : State} {m i : Nat} {j : List Word} (hdue : (s.slotStreams m).filter s.due = [i]) (hj : s.journal i = some j) :
    s.tickModel m = (s.formBatch m s.now [s.stepEntry i j] 0 0).1 := by
  simp only [State.tickModel, hdue, hj, List.filterMap_cons, List.filterMap_nil, Option.map_some, List.foldr_cons, List.foldr_nil, State.insertEntry,
    List.takeWhile_nil, List.dropWhile_nil, List.nil_append, List.length_singleton, cutList_single, List.foldl_cons, List.foldl_nil]

/-- The streams of the entries of a batch become in flight in it. -/
def State.inFlight (s : State) (es : List BEntry) (id : Nat) : State :=
  es.foldl (fun s e => s.modSctx (hIndex e.handle) (fun w => putFld (putFld w 0 6 6 1) 6 31 16 id)) s

theorem State.inFlight_log (s : State) (es : List BEntry) (id : Nat) : (s.inFlight es id).log = s.log :=
  ((AccessesOnly.refl s).foldl (fun _ _ h => h.modSctx _ _) es).log

/-- The batch that `formBatch` forms. -/
def State.newBatch (s : State) (m tick : Nat) (es : List BEntry) (hw prog : Nat) : Batch :=
  { id := s.newBatchId 65536 s.log.nextBatch, model := m, ctxId := s.slotCtx m, cls := ceClass (s.cent (s.slotCtx m)), entries := es, tick := tick
    hwFaults := hw, progFaults := prog }

theorem State.formBatch_eq (s : State) (m tick : Nat) (es : List BEntry) (hw prog : Nat) :
    s.formBatch m tick es hw prog = ({ s.inFlight es (s.newBatch m tick es hw prog).id with log := { s.log with
      batches := s.log.batches ++ [s.newBatch m tick es hw prog], nextBatch := (s.newBatch m tick es hw prog).id + 1 } },
      (s.newBatch m tick es hw prog).id) := by
  rw [← s.inFlight_log es (s.newBatch m tick es hw prog).id]
  rfl
theorem State.due_iff (s : State) (i : Nat) : s.due i = true ↔ cxLive (s.sctx i) = true ∧
    precedes (cxCommit (s.sctx i)) (cxAccept (s.sctx i)) = true ∧ cxInflight (s.sctx i) = false ∧ cxEstall (s.sctx i) = false ∧
    s.slotFree i (cxCommit (s.sctx i)) = true := by
  simp [State.due, and_assoc]

/-! ### The dispatch (R77, R302) -/

theorem State.mem_enqueueReady (s : State) (i x : WorkItem) : x ∈ (s.enqueueReady i).sched.ready ↔ x = i ∨ x ∈ s.sched.ready := by
  unfold State.enqueueReady
  split
  · next hin => 
    have hmem : i ∈ s.sched.ready := by simpa using hin
    exact ⟨.inr, fun h => h.elim (fun hx => hx ▸ hmem) id⟩
  · have hmem : x ∈ s.sched.ready ↔ x ∈ s.sched.ready.takeWhile (fun y => !(s.itemBefore i y)) ∨ x ∈ s.sched.ready.dropWhile (fun y =>
        !(s.itemBefore i y)) := by rw [← List.mem_append, List.takeWhile_append_dropWhile]
    rw [hmem, List.mem_append, List.mem_cons]
    exact or_left_comm

/-- A held batch takes a slot: its list stands there, and it enters the ready queue. -/
def State.dispatched (s : State) (b : Batch) (k : Nat) : State :=
  ((s.hubPoke (s.wlAddr k) (bytesOf b.listWords)).modBatch b.id (fun b => { b with slot := some k, queued := true })).enqueueReady (.batch b.id)

theorem State.dispatchHeld_some {s : State} {b : Batch} {k : Nat} (hb : s.nextHeld = some b) (hk : s.freeSlot = some k) :
    s.dispatchHeld = s.dispatched b k := by
  simp only [State.dispatchHeld, hb, hk, State.dispatched]

theorem State.dispatchHeld_none {s : State} (h : s.nextHeld = none ∨ s.freeSlot = none) : s.dispatchHeld = s := by
  unfold State.dispatchHeld
  split
  · next hb hk => simp [hb, hk] at h
  · rfl

theorem State.enqueueReady_rest (s : State) (i : WorkItem) : { s.enqueueReady i with sched := s.sched } = s := by
  unfold State.enqueueReady
  split <;> rfl

theorem State.dispatched_spec (s : State) (b : Batch) (k : Nat) :
    (s.dispatched b k).log.batches = s.log.batches.map (fun x => if x.id = b.id then { x with slot := some k, queued := true } else x) ∧
    (s.dispatched b k).mem = (s.hubPoke (s.wlAddr k) (bytesOf b.listWords)).mem ∧
    (∀ x, x ∈ (s.dispatched b k).sched.ready ↔ x = .batch b.id ∨ x ∈ s.sched.ready) ∧
    (s.dispatched b k).regs = (s.hubPoke (s.wlAddr k) (bytesOf b.listWords)).regs := by
  have hpoke := (AccessesOnly.refl s).hubPoke (s.wlAddr k) (bytesOf b.listWords)
  have hrest := ((s.hubPoke (s.wlAddr k) (bytesOf b.listWords)).modBatch b.id (fun b => { b with slot := some k, queued := true })).enqueueReady_rest
    (.batch b.id)
  refine ⟨?_, (congrArg State.mem hrest :), fun x => ?_, (congrArg State.regs hrest :)⟩
  · rw [← hpoke.log]
    exact (congrArg (fun u : State => u.log.batches) hrest :)
  · rw [← hpoke.sched]
    exact State.mem_enqueueReady _ _ x

/-- Settles O13: the tick by its stages, a batch by `State.formBatch_eq`, a dispatch by `State.dispatched_spec`. -/
theorem tickFormsBatches : Obligations.TickFormsBatches := by
  intro s hup
  have tick {t : State} : s.doTick = t → exec .tick s = .next t := exec_hub (f := State.doTick) rfl hup
  have dispatch {t : State} : s.doHeldBatchDispatch = t → exec .heldBatchDispatch s = .next t := exec_hub (f := State.doHeldBatchDispatch) rfl hup
  refine ⟨fun hoff => tick (State.doTick_off hoff), fun hon ht => tick ?_, fun m i j hdue hj => ⟨State.tickModel_single hdue hj, rfl, rfl, rfl⟩, fun m t es => ?_,
    s.due_iff, fun b k hb hk => ?_, fun hnone => dispatch (State.dispatchHeld_none hnone)⟩
  · simp only [State.doTick_on hon ht, State.heldDispatched, State.batchesFormed, State.journalsFailed, State.journalsRead]
  · rw [State.formBatch_eq]
    exact ⟨s.newBatch m t es 0 0, rfl, rfl, rfl, rfl, rfl, rfl, rfl, rfl, rfl⟩
  · obtain ⟨hbatches, hmem, hready, hregs⟩ := s.sweepBatches.dispatched_spec b k
    exact ⟨_, dispatch (State.dispatchHeld_some hb hk), hbatches, hmem, (hready _).mpr (.inl rfl), fun x hx => (hready x).mpr (.inr hx), hregs⟩

end Sys2Proof.Machine
end

section
/-! The release of results and their resending (O15). -/

namespace Sys2Proof.Machine

/-! ### Release (R66) -/

/-- The execution context whose pools hold the results of a stream. -/
abbrev State.resultCtx (s : State) (i : Nat) : Nat := s.slotCtx (cxModel (s.sctx i))

/-- Where the result slot of chunk `q` of a stream lies. -/
abbrev State.resultVa (s : State) (i : Nat) (q : Word) : Nat := resultAddr (s.mslot (cxModel (s.sctx i))) i q

/-- The length of a result slot of a stream. -/
abbrev State.resultLen (s : State) (i : Nat) : Nat := (wd (s.mslot (cxModel (s.sctx i))) 4).toNat

/-- The result slot of chunk `q` has been read, and `rest` is what is left of the release queue. -/
abbrev State.slotTaken (s : State) (i : Nat) (q : Word) (rest : List Release) : State :=
  (s.ctxNote (s.resultCtx i) (s.resultVa i q) (s.resultLen i)).modStrm i (fun x => { x with releases := rest })

/-- The segments of a result slot are released in order. -/
abbrev State.segsReleased (s : State) (i : Nat) (r : Release) (segs : List (Nat × List Byte)) : State :=
  segs.zipIdx.foldl (fun s e => s.releaseSeg i r e.2 e.1.1 e.1.2 (e.2 + 1 == segs.length)) s

section
variable {s : State} {i : Nat} {x : Stream} (hx : mget s.fe.streams i = some x)
include hx

section
variable {r : Release} {rest : List Release} (hr : x.releases = r :: rest)
include hr

theorem State.doResultRelease_unreadable (hp : s.ctxPeek (s.resultCtx i) (s.resultVa i r.seq) (s.resultLen i) = none) :
    s.doResultRelease i = (s.slotTaken i r.seq rest).hubFail i (s.resultCtx i) (s.resultVa i r.seq) (s.resultLen i) false := by
  simp only [State.doResultRelease, hx, Option.map_some, hr, hp]

theorem State.doResultRelease_read {bs : List Byte} (hp : s.ctxPeek (s.resultCtx i) (s.resultVa i r.seq) (s.resultLen i) = some bs) :
    s.doResultRelease i =
      (if (slotSegments bs (leNat (bs.take 2)) 4).2
        then ((s.slotTaken i r.seq rest).segsReleased i r (slotSegments bs (leNat (bs.take 2)) 4).1).bump Reg.logCntBadslot
        else (s.slotTaken i r.seq rest).segsReleased i r (slotSegments bs (leNat (bs.take 2)) 4).1).closeSettle i := by
  simp only [State.doResultRelease, hx, Option.map_some, hr, hp]

end

/-! ### Resending (R69) -/

/-- Whether the RTO of an unacknowledged result has passed. -/
abbrev State.overdue (s : State) (r : ResultFrame) : Bool := decide (r.last + 1000 * fld (s.reg Reg.feRetx) 31 16 ≤ s.now)

theorem State.doResultRetransmit_none (hk : x.unacked.findIdx? s.overdue = none) : s.doResultRetransmit i = s := by
  simp only [State.doResultRetransmit, hx, hk]

/-- Result `k` of a stream is sent again, and counted. -/
abbrev State.resent (s : State) (i : Nat) (x : Stream) (k : Nat) : State :=
  ((s.putStrm i { x with unacked := x.unacked.set k { x.unacked.getD k default with rtx := (x.unacked.getD k default).rtx + 1, last := s.now } }).bump
    Reg.feCntRtx).sendResult i (x.unacked.getD k default).bytes

section
variable {k : Nat} (hk : x.unacked.findIdx? s.overdue = some k)
include hk

theorem State.doResultRetransmit_below (hn : (x.unacked.getD k default).rtx + 1 ≠ fld ((s.resent i x k).reg Reg.feRetx) 7 0) :
    s.doResultRetransmit i = (s.resent i x k).closeSettle i := by
  simp only [State.doResultRetransmit, hx, hk]
  rw [if_neg hn]

theorem State.doResultRetransmit_limit (hn : (x.unacked.getD k default).rtx + 1 = fld ((s.resent i x k).reg Reg.feRetx) 7 0) :
    s.doResultRetransmit i = (((s.resent i x k).modSctx i (fun w => putFld w 0 0 0 1)).logEvent evStall (cxHandle ((s.resent i x k).sctx i) i)
      (x.unacked.getD k default).seq).closeSettle i := by
  simp only [State.doResultRetransmit, hx, hk]
  rw [if_pos hn]

end

end

/-- Settles O15: the release by whether the slot can be read, the resending by whether the limit is reached. -/
theorem resultsAreReleasedAndResent : Obligations.ResultsAreReleasedAndResent := by
  intro s i x hx
  have release {t : State} (hup : s.rst.mode ≠ .held) : s.doResultRelease i = t → exec (.resultRelease i) s = .next t :=
    exec_hub (f := fun s => s.doResultRelease i) rfl hup
  have resend {t : State} (hd : s.domOn 79 = true) : s.doResultRetransmit i = t → exec (.resultRetransmit i) s = .next t :=
    exec_frontEnd (f := fun s => s.doResultRetransmit i) rfl hd
  refine ⟨fun r rest hup hr => ⟨fun bs hp => ?_, fun hp => ?_⟩, fun k hd hk => ⟨fun hn => ?_, fun hn => ?_⟩, fun hd hk => ?_⟩
  · exact release hup (State.doResultRelease_read hx hr hp)
  · exact release hup (State.doResultRelease_unreadable hx hr hp)
  · exact resend hd (State.doResultRetransmit_below hx hk hn)
  · exact resend hd (State.doResultRetransmit_limit hx hk hn)
  · exact resend hd (State.doResultRetransmit_none hx hk)

end Sys2Proof.Machine
end

section
/-! RTP (O10): the place of a packet's samples in the timeline, the closes of the open chunk, and the hold of a chunk without tokens. -/

namespace Sys2Proof.Machine

/-! ### What is kept of a stream -/

@[simp] theorem State.strm_putStrm_same (s : State) (i : Nat) (x : Stream) : (s.putStrm i x).strm i = x := by
  simp [State.strm, State.putStrm, mgetD, mget_mput_same]

@[simp] theorem State.strm_modStrm_same (s : State) (i : Nat) (f : Stream → Stream) : (s.modStrm i f).strm i = f (s.strm i) := s.strm_putStrm_same i _

theorem exec_port {c : Instr} {s t : State} {f : State → State} {p : Nat} (he : exec c s = s.onFrontEnd (fun s => if p < 2 then f s else s))
    (hd : s.domOn 79 = true) (hp : p < 2) (hf : f s = t) : exec c s = .next t :=
  exec_frontEnd he hd ((if_pos hp).trans hf)

/-! ### Samples in the timeline (R46) -/

/-- The timeline after one sample of a packet at position `pos`, with its number in the packet. -/
def placeSample (start : Nat) (pos : Int) (m : NatMap Int) (v : Int × Nat) : NatMap Int :=
  if pos + v.2 < start ∨ (mget m (pos + v.2).toNat).isSome then m else mput m (pos + v.2).toNat v.1

theorem RtpLine.place_samples (r : RtpLine) (pos : Int) (xs : List Int) (dev : Option (List Byte)) (n now : Nat) :
    (r.place pos xs dev n now).samples = xs.zipIdx.foldl (placeSample r.start pos) r.samples := rfl

/-- A sample at or after the start of the open chunk, where none is present yet. -/
theorem placeSample_free {start a k : Nat} {m : NatMap Int} (v : Int) (ha : start ≤ a) (hm : mget m (a + k) = none) :
    placeSample start a m (v, k) = mput m (a + k) v := by
  have hpos : ((a : Int) + (k : Nat)).toNat = a + k := by omega
  simp only [placeSample, hpos, hm]
  exact if_neg (by simp; omega)

theorem countP_mput {α : Type} (m : NatMap α) (k : Nat) (v : α) (p : Nat × α → Bool) : (mput m k v).countP p ≤ m.countP p + 1 := by
  induction m with
  | nil => exact List.countP_le_length (p := p) (l := [(k, v)])
  | cons a r ih =>
    simp only [mput]
    split_ifs <;> simp only [List.countP_cons] <;> split_ifs <;> omega

/-- What the timeline `m'` holds once the samples `xs`, numbered from `n` on, stand at `a` in the timeline `m`. -/
structure Placed (a n : Nat) (xs : List Int) (m m' : NatMap Int) : Prop where
  at_ : ∀ j < xs.length, mget m' (a + n + j) = some (xs.getD j 0)
  off : ∀ e, e < a + n ∨ a + n + xs.length ≤ e → mget m' e = mget m e
  count : ∀ p : Nat × Int → Bool, m'.countP p ≤ m.countP p + xs.length

theorem placed_foldl {start a : Nat} (ha : start ≤ a) (xs : List Int) (n : Nat) {m : NatMap Int} (hm : mrising m = true)
    (hfree : ∀ j < xs.length, mget m (a + n + j) = none) : Placed a n xs m ((xs.zipIdx n).foldl (placeSample start a) m) := by
  induction xs generalizing n m with
  | nil => exact ⟨fun _ h => absurd h (Nat.not_lt_zero _), fun _ _ => rfl, fun _ => Nat.le_refl _⟩
  | cons x xs ih =>
    have hx : mget m (a + n) = none := hfree 0 (Nat.zero_lt_succ _)
    have hnext : ∀ j < xs.length, mget (mput m (a + n) x) (a + (n + 1) + j) = none := fun j hj => by
      rw [mget_mput_ne m x hm (by omega), show a + (n + 1) + j = a + n + (j + 1) by omega]
      exact hfree (j + 1) (Nat.succ_lt_succ hj)
    obtain ⟨hat, hoff, hcount⟩ := ih (n + 1) (mrising_mput m (a + n) x hm) hnext
    rw [List.zipIdx_cons, List.foldl_cons, placeSample_free x ha hx]
    refine ⟨fun j hj => ?_, fun e he => ?_, fun p => ?_⟩
    · cases j with
      | zero => rw [hoff _ (.inl (by omega)), Nat.add_zero, mget_mput_same, List.getD_cons_zero]
      | succ j => rw [show a + n + (j + 1) = a + (n + 1) + j by omega, hat j (Nat.lt_of_succ_lt_succ hj), List.getD_cons_succ]
    · rw [List.length_cons] at he
      rw [hoff e (by omega), mget_mput_ne m x hm (by omega)]
    · have h1 := hcount p
      have h2 := countP_mput m (a + n) x p
      rw [List.length_cons]
      omega

/-! ### A packet (R41, R46) -/

section
variable (r : RtpLine) (q : Nat)

/-- The count of lost packets changes nothing else of the timeline. -/
theorem RtpLine.count_rest : { r.count q with lastSeq := r.lastSeq, lost := r.lost } = r := by
  unfold RtpLine.count
  split
  · rfl
  · dsimp only
    split <;> rfl

@[simp] theorem RtpLine.count_start : (r.count q).start = r.start := (congrArg RtpLine.start (r.count_rest q) :)

@[simp] theorem RtpLine.count_base : (r.count q).base = r.base := (congrArg RtpLine.base (r.count_rest q) :)

@[simp] theorem RtpLine.count_samples : (r.count q).samples = r.samples := (congrArg RtpLine.samples (r.count_rest q) :)

@[simp] theorem RtpLine.count_silent : (r.count q).silent = r.silent := (congrArg RtpLine.silent (r.count_rest q) :)

end

/-- The samples of a packet. -/
abbrev Rtp.samples (k : Rtp) : List Int := samplesOf true (if k.pt = 0 then 1 else if k.pt = 8 then 2 else 0) k.payload

/-- The position of a packet in the timeline of its stream. -/
abbrev RtpLine.posOf (r : RtpLine) (k : Rtp) : Int := r.start + tsDiff k.ts (r.base.getD k.ts + w32 r.start)

section
variable {s : State} {i : Nat} (peer : Peer) {k : Rtp}

theorem State.rtpPlace_late (hxs : k.samples ≠ []) (hlate : (s.strm i).rtp.posOf k + k.samples.length ≤ (s.strm i).rtp.start) :
    s.rtpPlace i peer k =
      (s.putStrm i { s.strm i with rtp := { (s.strm i).rtp.count k.seqNo with last := some s.now } }).bump Reg.feCntLatepkt := by
  unfold State.rtpPlace
  dsimp only
  rw [RtpLine.count_start, RtpLine.count_base, if_pos ⟨hxs, hlate⟩]

/-- The timeline of a stream with a packet placed in its open chunk. -/
def State.linePlaced (s : State) (i : Nat) (peer : Peer) (k : Rtp) : RtpLine :=
  ({ (s.strm i).rtp.count k.seqNo with
    base := some ((s.strm i).rtp.base.getD k.ts), peer := peer, last := some s.now, silent := false, start := (s.strm i).rtp.start } : RtpLine).place
    ((s.strm i).rtp.posOf k) k.samples (k.device (s.strm i).bind.extId) (s.chunkLen i (s.strm i).bind.hz) s.now

theorem State.rtpPlace_inside (hxs : k.samples ≠ []) (hsil : (s.strm i).rtp.silent = false) (hpos : (s.strm i).rtp.start ≤ (s.strm i).rtp.posOf k) :
    s.rtpPlace i peer k = State.rtpDrain ((s.linePlaced i peer k).samples.length + 1) (s.putStrm i { s.strm i with rtp := s.linePlaced i peer k }) i := by
  have hlen : 0 < k.samples.length := List.length_pos_of_ne_nil hxs
  have hinside : ¬(k.samples ≠ [] ∧ (s.strm i).rtp.posOf k + k.samples.length ≤ (s.strm i).rtp.start) := by omega
  unfold State.rtpPlace State.linePlaced
  dsimp only
  rw [RtpLine.count_start, RtpLine.count_base, if_neg hinside, RtpLine.count_silent, if_neg (by simp [hsil])]

end

/-! ### The closes of the open chunk (R46) -/

section
variable {s : State} {i : Nat}

theorem State.rtpDrain_full (fuel : Nat) (h : s.rtpFull i = true) : State.rtpDrain (fuel + 1) s i = State.rtpDrain fuel (s.rtpCloseOpen i) i := if_pos h

theorem State.rtpDrain_notFull (fuel : Nat) (h : s.rtpFull i = false) : State.rtpDrain fuel s i = s := by
  cases fuel with
  | zero => rfl
  | succ fuel => exact if_neg (by simp [h])

theorem State.rtpFull_incomplete
    (h : (s.strm i).rtp.samples.countP (fun e => decide (e.1 < (s.strm i).rtp.start + s.chunkLen i (s.strm i).bind.hz)) <
      s.chunkLen i (s.strm i).bind.hz) : s.rtpFull i = false := by
  unfold State.rtpFull
  rw [List.countP_eq_length_filter] at h
  simp [Nat.ne_of_lt h]

end

theorem State.doRtpJitterClose_due {s : State} {i : Nat} {e : Nat × Nat}
    (he : (s.strm i).rtp.ends.find? (fun q => decide ((s.strm i).rtp.start + s.chunkLen i (s.strm i).bind.hz < q.1)) = some e)
    (ht : e.2 + fld (s.reg Reg.feJitter) 15 0 ≤ s.now) :
    s.doRtpJitterClose i = State.rtpDrain ((s.strm i).rtp.samples.length + 1) (s.rtpCloseOpen i) i := by
  simp only [State.doRtpJitterClose, he]
  exact if_pos ht

theorem State.doRtpJitterClose_early {s : State} {i : Nat} {e : Nat × Nat}
    (he : (s.strm i).rtp.ends.find? (fun q => decide ((s.strm i).rtp.start + s.chunkLen i (s.strm i).bind.hz < q.1)) = some e)
    (ht : s.now < e.2 + fld (s.reg Reg.feJitter) 15 0) : s.doRtpJitterClose i = s := by
  simp only [State.doRtpJitterClose, he]
  exact if_neg (not_le.mpr ht)

/-- Whether a sample of the open chunk of an RTP stream is present. -/
abbrev State.rtpBegun (s : State) (i : Nat) : Bool :=
  (s.strm i).rtp.samples.any (fun q => decide (q.1 < (s.strm i).rtp.start + s.chunkLen i (s.strm i).bind.hz))

/-- When the silence of an RTP stream closes its open chunk, after a packet at `t`. -/
abbrev State.silenceDue (s : State) (i t : Nat) : Nat := t + s.periodOf i + fld (s.reg Reg.feJitter) 15 0

section
variable {s : State} {i t : Nat} (hl : (s.strm i).rtp.last = some t)
include hl

theorem State.doRtpSilenceClose_due (hsil : (s.strm i).rtp.silent = false) (ht : s.silenceDue i t ≤ s.now) : s.doRtpSilenceClose i =
    (if s.rtpBegun i then s.rtpCloseOpen i else s).modStrm i (fun x => { x with rtp := { x.rtp with silent := x.rtp.samples.isEmpty } }) := by
  simp only [State.doRtpSilenceClose, hl]
  exact if_pos ⟨ht, by simp [hsil]⟩

theorem State.doRtpSilenceClose_early (ht : s.now < s.silenceDue i t) : s.doRtpSilenceClose i = s := by
  simp only [State.doRtpSilenceClose, hl]
  exact if_neg (fun h => absurd h.1 (not_le.mpr ht))

end

/-! ### The hold of a chunk (R47) -/

section
variable (s : State) (i : Nat) (p : Peer)

theorem State.arrived_rest : { s.arrived i p with fe := { (s.arrived i p).fe with streams := s.fe.streams } } = s := by
  unfold State.arrived
  split <;> rfl

/-- The arrival of a chunk records a port, and nothing else of its stream. -/
theorem State.strm_arrived : ∃ e, (s.arrived i p).strm i = { s.strm i with eport := e } := by
  unfold State.arrived
  split
  · exact ⟨_, rfl⟩
  · exact ⟨_, s.strm_modStrm_same i _⟩

@[simp] theorem State.arrived_sctx : (s.arrived i p).sctx i = s.sctx i := (congrArg (fun u : State => u.sctx i) (s.arrived_rest i p) :)

@[simp] theorem State.arrived_mslot (m : Nat) : (s.arrived i p).mslot m = s.mslot m := (congrArg (fun u : State => u.mslot m) (s.arrived_rest i p) :)

@[simp] theorem State.arrived_now : (s.arrived i p).now = s.now := (congrArg State.now (s.arrived_rest i p) :)

@[simp] theorem State.arrived_hold : (s.arrived i p).fe.hold = s.fe.hold := (congrArg (fun u : State => u.fe.hold) (s.arrived_rest i p) :)

@[simp] theorem State.arrived_freeHold : (s.arrived i p).freeHold = s.freeHold := (congrArg State.freeHold (s.arrived_rest i p) :)

@[simp] theorem State.arrived_reg (k : Nat) : (s.arrived i p).reg k = s.reg k := (congrArg (fun u : State => u.reg k) (s.arrived_rest i p) :)

@[simp] theorem State.arrived_pastClose (q : Word) : (s.arrived i p).pastClose i q = s.pastClose i q := by
  obtain ⟨e, he⟩ := s.strm_arrived i p
  simp only [State.pastClose, he, s.arrived_sctx]

@[simp] theorem State.arrived_acceptShut : (s.arrived i p).acceptShut i = s.acceptShut i := by
  obtain ⟨e, he⟩ := s.strm_arrived i p
  simp only [State.acceptShut, he, s.arrived_reg]

@[simp] theorem State.arrived_tokensAt (t : Nat) : (s.arrived i p).tokensAt i t = s.tokensAt i t := by
  obtain ⟨e, he⟩ := s.strm_arrived i p
  simp only [State.tokensAt, he, s.arrived_sctx, s.arrived_mslot]

end

section
variable {s : State} {i : Nat} {c : Chunk}

/-- A chunk that acceptance would take, and whose tokens do not suffice. -/
theorem State.chunkComplete_unpaid (hst : cxState (s.sctx i) ≠ 3) (hclose : s.pastClose i c.seq = false) (hopen : s.acceptShut i = false)
    (ht : (s.tokensAt i s.now).1 < s.periodOf i) : s.chunkComplete i c = (s.arrived i c.peer).holdChunk i c := by
  unfold State.chunkComplete
  dsimp only
  rw [State.arrived_sctx, State.arrived_pastClose, State.arrived_acceptShut, State.arrived_mslot, State.arrived_tokensAt, State.arrived_now, if_neg hst,
    if_neg (by simp [hclose]), if_neg (by simp [hopen]), if_neg (by simp [not_le.mpr ht])]

/-- The slots of the hold pool that a chunk of a stream takes. -/
abbrev State.holdNeed (s : State) (i : Nat) : Nat := ceilDiv (wd (s.mslot (cxModel (s.sctx i))) 3).toNat 4096

theorem State.holdChunk_hold (hfree : s.holdNeed i ≤ s.freeHold.length) :
    (s.holdChunk i c).fe.hold = s.fe.hold ++ [⟨i, c, s.freeHold.take (s.holdNeed i), s.now⟩] := by
  have hkept := (AccessesOnly.refl s).foldl
    (f := fun (u : State) (p : Nat × List Byte) => u.hubPoke (u.reg2 Reg.feHoldBaseLo + 4096 * p.1) p.2) (fun _ p h => h.hubPoke _ _)
    ((s.freeHold.take (s.holdNeed i)).zip (cutList 4096 (s.holdNeed i) (pcmBytes c.samples)))
  unfold State.holdChunk
  dsimp only
  rw [if_neg (not_lt.mpr hfree), State.bump_fe]
  dsimp only
  rw [hkept.fe, hkept.now]

end

/-! ### The packet at the head of a port's queue -/

section
variable {s : State} {p i : Nat} {f : NetFrame} {d : Datagram} {q : List Item} (hq : s.fe.items.getD p [] = .rtp i f d :: q)
include hq

theorem State.doRtpPacket_unmatched (hm : (s.takeItem p).rtpMatch p d ≠ some i) : s.doRtpPacket p = (s.takeItem p).parseRtp p f d := by
  simp only [State.doRtpPacket, hq]
  exact if_pos hm

theorem State.doRtpPacket_malformed (hm : (s.takeItem p).rtpMatch p d = some i) (hr : rtpOf d.payload = none) :
    s.doRtpPacket p = (s.takeItem p).bump Reg.feCntUnbound := by
  simp only [State.doRtpPacket, hq, hr]
  exact if_neg (not_not.mpr hm)

theorem State.doRtpPacket_placed {k : Rtp} (hm : (s.takeItem p).rtpMatch p d = some i) (hr : rtpOf d.payload = some k) :
    s.doRtpPacket p = (s.takeItem p).rtpPlace i (peerOf p d) k := by
  simp only [State.doRtpPacket, hq, hr]
  exact if_neg (not_not.mpr hm)

end

/-- A packet within the open chunk, on free positions, that leaves the chunk incomplete: the timeline takes its samples, and nothing else changes. -/
theorem State.rtpPlace_incomplete {s : State} {i : Nat} (peer : Peer) {k : Rtp} (hxs : k.samples ≠ []) (hsil : (s.strm i).rtp.silent = false)
    (hm : mrising (s.strm i).rtp.samples = true) (hpos : (s.strm i).rtp.start ≤ (s.strm i).rtp.posOf k)
    (hfree : ∀ j < k.samples.length, mget (s.strm i).rtp.samples (((s.strm i).rtp.posOf k).toNat + j) = none)
    (hn : ((s.strm i).rtp.samples.filter (fun e => decide (e.1 < (s.strm i).rtp.start + s.chunkLen i (s.strm i).bind.hz))).length + k.samples.length <
      s.chunkLen i (s.strm i).bind.hz) :
    s.rtpPlace i peer k = s.putStrm i { s.strm i with rtp := s.linePlaced i peer k } ∧
      Placed ((s.strm i).rtp.posOf k).toNat 0 k.samples (s.strm i).rtp.samples (s.linePlaced i peer k).samples := by
  have hplaced : Placed ((s.strm i).rtp.posOf k).toNat 0 k.samples (s.strm i).rtp.samples (s.linePlaced i peer k).samples := by
    have hcast : ((((s.strm i).rtp.posOf k).toNat : Nat) : Int) = (s.strm i).rtp.posOf k := Int.toNat_of_nonneg (by omega)
    unfold State.linePlaced
    rw [RtpLine.place_samples, RtpLine.count_samples, ← hcast]
    exact placed_foldl (show (s.strm i).rtp.start ≤ _ by omega) _ 0 hm hfree
  refine ⟨(State.rtpPlace_inside peer hxs hsil hpos).trans (State.rtpDrain_notFull _ (State.rtpFull_incomplete ?_)), hplaced⟩
  rw [State.strm_putStrm_same]
  rw [← List.countP_eq_length_filter] at hn
  exact Nat.lt_of_le_of_lt (hplaced.count _) hn

/-- Settles O10: the packet by where its samples lie, the closes by their times, the closed chunk from `State.rtpCloseOpen`, and its hold. -/
theorem rtpPacketsAndChunkClose : Obligations.RtpPacketsAndChunkClose := by
  intro s hd
  refine ⟨fun p i f d q hp hq => ?packet, fun i fuel hfull => State.rtpDrain_full fuel hfull, fun i e he => ⟨fun ht => ⟨?jitter, fun hfull => ?one⟩,
    fun ht => ?soon⟩, fun i t hl hsil => ⟨fun ht hmine => ?silence, fun ht hmine => ?empty, fun ht => ?talk⟩, fun i => ⟨_, _, rfl, rfl, rfl, rfl, rfl, rfl⟩,
    fun i c hst hclose hopen ht hfree => ?held⟩
  case packet =>
    have packet {t : State} : s.doRtpPacket p = t → exec (.rtpPacket p) s = .next t := exec_port (f := fun s => s.doRtpPacket p) rfl hd hp
    refine ⟨fun hm => packet (State.doRtpPacket_unmatched hq hm), fun hm hr => packet (State.doRtpPacket_malformed hq hm hr), fun k hm hr => ?_⟩
    have hplace := packet (State.doRtpPacket_placed hq hm hr)
    refine ⟨fun hxs hlate => ⟨_, hplace, ?_⟩, fun hxs hsil hrise hpos hin hfree hn => ⟨_, hplace, ?_⟩, hplace⟩
    · rw [State.rtpPlace_late (peerOf p d) hxs hlate]
      refine ⟨?_, ?_, rfl, rfl⟩
      · exact (congrArg (fun x : Stream => x.rtp.samples) ((s.takeItem p).strm_putStrm_same i _)).trans (RtpLine.count_samples _ _)
      · exact (congrArg (fun x : Stream => x.rtp.last) ((s.takeItem p).strm_putStrm_same i _) :)
    · obtain ⟨heq, hat, hoff, -⟩ := State.rtpPlace_incomplete (peerOf p d) hxs hsil hrise hpos hfree hn
      rw [heq, State.strm_putStrm_same]
      exact ⟨hat, hoff, rfl, rfl, rfl, rfl⟩
  case jitter => exact exec_frontEnd (f := fun s => s.doRtpJitterClose i) rfl hd (State.doRtpJitterClose_due he ht)
  case one =>
    exact exec_frontEnd (f := fun s => s.doRtpJitterClose i) rfl hd ((State.doRtpJitterClose_due he ht).trans (State.rtpDrain_notFull _ hfull))
  case soon => exact exec_frontEnd (f := fun s => s.doRtpJitterClose i) rfl hd (State.doRtpJitterClose_early he ht)
  case silence =>
    exact exec_frontEnd (f := fun s => s.doRtpSilenceClose i) rfl hd ((State.doRtpSilenceClose_due hl hsil ht).trans (by rw [if_pos hmine]))
  case empty =>
    exact exec_frontEnd (f := fun s => s.doRtpSilenceClose i) rfl hd ((State.doRtpSilenceClose_due hl hsil ht).trans (by
      rw [if_neg (Bool.not_eq_true _ ▸ hmine)]))
  case talk => exact exec_frontEnd (f := fun s => s.doRtpSilenceClose i) rfl hd (State.doRtpSilenceClose_early hl ht)
  case held =>
    rw [State.chunkComplete_unpaid hst hclose hopen ht, State.holdChunk_hold] <;>
      simp only [State.holdNeed, State.arrived_sctx, State.arrived_mslot, State.arrived_freeHold, State.arrived_hold, State.arrived_now]
    exact hfree

end Sys2Proof.Machine
end

section
/-! VSF frames of a stream (O11): DATA, RACK and CLOSE from the network, and a frame of the local injection ring. -/

namespace Sys2Proof.Machine

theorem exec_into {c : Instr} {s t : State} {d : Nat} {f : State → State} (he : exec c s = s.intoDomain d f) (hd : s.domOpen d = true)
    (hf : f s = t) : exec c s = .next t := by
  rw [he, State.intoDomain, if_pos hd, hf]

/-! ### DATA (R43, R52) -/

section
variable {s : State} {i : Nat} {v : Vsf} {peer : Peer}

/-- A stream that is OPEN has no close sequence in force. -/
theorem State.pastClose_open (h : cxState (s.sctx i) = 1) (q : Word) : s.pastClose i q = false := by
  simp [State.pastClose, h]

section
variable (hfit : s.vsfMisfit i v = false) (hst : cxState (s.sctx i) = 1)
include hfit hst

/-- A DATA frame that fits an OPEN stream is judged by its sequence. -/
theorem State.takeData_open : s.takeData i peer v =
    if precedes v.seq (cxAccept (s.sctx i)) then ((s.arrived i peer).bump Reg.feCntDup).sendAck peer v.handle v.seq 0
    else if (s.heldOf i).any (fun h => h.chunk.seq == v.seq) then (s.arrived i peer).bump Reg.feCntDup
    else if v.seq ≠ s.nextExpected i then (s.arrived i peer).refuse i v.seq peer 2 Reg.feCntRefusedGap
    else s.addFragment i peer v := by
  unfold State.takeData
  dsimp only
  rw [if_neg (by simp [hfit]), if_neg (by omega), if_neg (by simp [State.pastClose_open hst])]

theorem State.takeData_duplicate (hseq : precedes v.seq (cxAccept (s.sctx i)) = true) :
    s.takeData i peer v = ((s.arrived i peer).bump Reg.feCntDup).sendAck peer v.handle v.seq 0 := by
  rw [State.takeData_open hfit hst, if_pos hseq]

variable (hseq : precedes v.seq (cxAccept (s.sctx i)) = false) (hheld : (s.heldOf i).any (fun h => h.chunk.seq == v.seq) = false)
include hseq hheld

theorem State.takeData_gap (hnext : v.seq ≠ s.nextExpected i) : s.takeData i peer v = (s.arrived i peer).refuse i v.seq peer 2 Reg.feCntRefusedGap := by
  rw [State.takeData_open hfit hst, if_neg (by simp [hseq]), if_neg (by simp [hheld]), if_pos hnext]

theorem State.takeData_next (hnext : v.seq = s.nextExpected i) : s.takeData i peer v = s.addFragment i peer v := by
  rw [State.takeData_open hfit hst, if_neg (by simp [hseq]), if_neg (by simp [hheld]), if_neg (not_not.mpr hnext)]

end

/-! ### The first fragment of a chunk (R43, R45) -/

/-- The samples of a DATA frame. -/
abbrev Vsf.samples (v : Vsf) : List Int := samplesOf false (fld v.w3 31 30) v.payload

/-- The source rate of a DATA frame in Hz. -/
abbrev Vsf.hz (v : Vsf) : Nat := rateHz (fld v.w3 29 28)

/-- The open chunk that holds a fragment alone. -/
def Vsf.opens (v : Vsf) (peer : Peer) : OpenChunk :=
  { seq := v.seq, format := fld v.w3 31 30, rate := fld v.w3 29 28, samples := v.samples.zipIdx.map (fun p => (v.w4.toNat + p.2, p.1))
    marks := if flag v.w3 24 then [fld v.w3 23 16] else [], prio := if flag v.w3 27 then some (fld v.w3 26 25) else none, peer := peer }

theorem Vsf.opens_samples (v : Vsf) (peer : Peer) : (v.opens peer).samples.map Prod.snd = v.samples := by
  simp [Vsf.opens, Function.comp_def]

section
variable (hcur : (s.strm i).cur = none)
include hcur

theorem State.addFragment_partial (hn : v.samples.length < s.chunkLen i v.hz) :
    s.addFragment i peer v = s.putStrm i { s.strm i with cur := some (v.opens peer) } := by
  unfold State.addFragment
  simp only [hcur, List.any_nil, List.filter_nil, List.nil_append, List.append_nil, List.length_map, List.length_zipIdx, if_pos hn]
  rfl

/-- The stream after its chunk has been converted to the rate of its model, with no chunk open, and the chunk. -/
def State.wholeChunk (s : State) (i : Nat) (v : Vsf) (peer : Peer) : Stream × Chunk :=
  let r := (s.strm i).convertChunk v.hz (rateHz (msRate (s.mslot (cxModel (s.sctx i))))) v.samples
  ({ r.2 with cur := none }, { seq := v.seq, samples := r.1, marks := (v.opens peer).marks, prio := (v.opens peer).prio, concealed := 0, peer := peer })

theorem State.addFragment_whole (hn : s.chunkLen i v.hz ≤ v.samples.length) :
    s.addFragment i peer v = (s.putStrm i (s.wholeChunk i v peer).1).chunkComplete i (s.wholeChunk i v peer).2 := by
  have hxs := v.opens_samples peer
  unfold State.addFragment State.wholeChunk
  unfold Vsf.opens at hxs ⊢
  dsimp only at hxs
  simp only [hcur, List.any_nil, List.filter_nil, List.nil_append, List.append_nil, List.length_map, List.length_zipIdx, if_neg (not_lt.mpr hn), hxs]
  rfl

end

/-! ### RACK and CLOSE (R69, R70) -/

section
variable (hst : cxState (s.sctx i) = 1)
include hst

theorem State.closeSettle_open : s.closeSettle i = s := if_neg (by simp [State.closeOver, hst])

/-- The results of a stream that a RACK leaves unacknowledged. -/
abbrev Stream.uncovered (x : Stream) (v : Vsf) : List ResultFrame :=
  x.unacked.filter (fun r => !(precedes r.seq v.seq || (r.seq == v.seq && decide (r.segment ≤ fld v.w3 31 16))))

/-- Where no result is at the limit, none stalls the stream. -/
theorem State.takeRack_open (hall : (s.strm i).unacked.all (fun r => decide (r.rtx < fld (s.reg Reg.feRetx) 7 0)) = true) :
    s.takeRack i v = s.putStrm i { s.strm i with unacked := (s.strm i).uncovered v } := by
  have hcalm : (s.strm i).unacked.any (fun r => (precedes r.seq v.seq || (r.seq == v.seq && decide (r.segment ≤ fld v.w3 31 16))) &&
      decide (fld (s.reg Reg.feRetx) 7 0 ≤ r.rtx)) = false := by
    rw [List.any_eq_false]
    intro r hr
    have hlt := of_decide_eq_true (List.all_eq_true.mp hall r hr)
    simp [not_le.mpr hlt]
  unfold State.takeRack
  dsimp only
  rw [hcalm, Bool.false_and, if_neg Bool.false_ne_true]
  exact State.closeSettle_open (s := s.putStrm i { s.strm i with unacked := (s.strm i).uncovered v }) hst

theorem State.takeClose_vsf (hsrc : cxSrc (s.sctx i) ≠ 0) : s.takeClose i v = (s.refusePast i v.seq).startClose i v.seq := by
  unfold State.takeClose
  rw [hst]
  exact if_neg hsrc

end
end

/-! ### The frame at the head of a port's queue (R40) -/

section
variable {s : State} {p : Nat} {d : Datagram} {q : List Item} {v : Vsf} (hq : s.fe.items.getD p [] = .vsf d :: q) (hv : vsfOf d.payload = some v)
include hq hv

theorem State.vsfItem_head {typ : Nat} (ht : v.typ = typ) : s.vsfItem p typ = some (d, v) := by
  simp only [State.vsfItem, hq, hv]
  exact if_pos ht

/-- The refusal of a frame whose handle has died since its parse. -/
abbrev State.staleFrame (s : State) (p : Nat) (d : Datagram) (v : Vsf) : State := (s.bump Reg.feCntStale).sendAck (peerOf p d) v.handle v.seq 4

theorem State.doVsfData_head (ht : v.typ = 1) : s.doVsfData p =
    if (s.takeItem p).vsfAlive v then (s.takeItem p).takeData (hIndex v.handle) (peerOf p d) v else (s.takeItem p).staleFrame p d v := by
  simp only [State.doVsfData, State.vsfItem_head hq hv ht]

theorem State.doVsfClose_head (ht : v.typ = 5) : s.doVsfClose p =
    if (s.takeItem p).vsfAlive v then (s.takeItem p).takeClose (hIndex v.handle) v else (s.takeItem p).staleFrame p d v := by
  simp only [State.doVsfClose, State.vsfItem_head hq hv ht]

section
variable (ht : v.typ = 4)
include ht

theorem State.doVsfRack_stale (ha : (s.takeItem p).vsfAlive v = false) : s.doVsfRack p = (s.takeItem p).staleFrame p d v := by
  simp only [State.doVsfRack, State.vsfItem_head hq hv ht]
  exact if_pos (by simp [ha])

theorem State.doVsfRack_peer (ha : (s.takeItem p).vsfAlive v = true) (hl : ((s.takeItem p).resultPeer (hIndex v.handle)).loc = false)
    (h6 : ((s.takeItem p).resultPeer (hIndex v.handle)).ipv6 = d.ipv6) (haddr : ((s.takeItem p).resultPeer (hIndex v.handle)).addr = d.srcAddr) :
    s.doVsfRack p = (s.takeItem p).takeRack (hIndex v.handle) v := by
  simp only [State.doVsfRack, State.vsfItem_head hq hv ht]
  exact (if_neg (by simp [ha])).trans (if_pos (by simp [hl, h6, haddr]))

end
end

/-! ### The local injection ring (R44) -/

/-- The length of the frame at the consumer index of ring 0. -/
abbrev State.injectLen (s : State) : Nat := fld (s.hubWord (s.ringEntry 0 (s.ringCons 0))) 15 0

theorem State.doLocalFrameInject_frame {s : State} {v : Vsf} (hen : flag (s.reg Reg.feCtrl) 3 = true) (hused : s.ringUsed 0 ≠ 0) (hlen : s.injectLen ≤ 2040)
    (h0 : fld (s.hubWord (s.ringEntry 0 (s.ringCons 0))) 31 16 = 0) (h1 : s.hubWord (s.ringEntry 0 (s.ringCons 0) + 4) = 0)
    (hv : vsfOf ((s.hubPeek (s.ringEntry 0 (s.ringCons 0) + 8) s.injectLen).getD []) = some v) :
    s.doLocalFrameInject = ((s.hubNote (s.ringEntry 0 (s.ringCons 0)) (8 + s.injectLen)).hubPokeW (s.ringBase 0 + 4) (s.ringCons 0 + 1)).takeLocal v := by
  unfold State.doLocalFrameInject
  dsimp only
  rw [if_neg (by simp [hen, hused]), Nat.min_eq_left hlen, if_neg (by simp [h0, h1, hlen]), hv]

/-- Settles O11: DATA by its sequence and by what it completes, RACK and CLOSE of an OPEN stream, dead handles, and the local ring. -/
theorem vsfFramesOfAStream : Obligations.VsfFramesOfAStream := by
  intro s p d q v hd
  refine ⟨fun hp hq hv => ?net, fun hopen hen hused hlen h0 h1 hv => ?ring⟩
  case ring =>
    exact exec_into (f := State.doLocalFrameInject) rfl hopen (State.doLocalFrameInject_frame hen hused hlen h0 h1 hv)
  case net =>
    have data {t : State} : s.doVsfData p = t → exec (.vsfData p) s = .next t := exec_port (f := fun s => s.doVsfData p) rfl hd hp
    have rack {t : State} : s.doVsfRack p = t → exec (.vsfRack p) s = .next t := exec_port (f := fun s => s.doVsfRack p) rfl hd hp
    have close {t : State} : s.doVsfClose p = t → exec (.vsfClose p) s = .next t := exec_port (f := fun s => s.doVsfClose p) rfl hd hp
    refine ⟨fun ha => ⟨fun ht hfit hst => ?data, fun ht hl h6 haddr hst hall => ?rack, fun ht hst hsrc => ?close⟩, fun ha => ?stale⟩
    case data =>
      have alive {t : State} (h : (s.takeItem p).takeData (hIndex v.handle) (peerOf p d) v = t) : exec (.vsfData p) s = .next t :=
        data ((State.doVsfData_head hq hv ht).trans ((if_pos ha).trans h))
      refine ⟨fun hseq => alive (State.takeData_duplicate hfit hst hseq), fun hseq hheld hnext => alive (State.takeData_gap hfit hst hseq hheld hnext),
        fun hseq hheld hnext hcur _ hn => ?_, fun hseq hheld hnext hcur hn => ?_⟩
      · refine ⟨_, v.opens (peerOf p d), alive ((State.takeData_next hfit hst hseq hheld hnext).trans (State.addFragment_partial hcur hn)), ?_, rfl, rfl, rfl,
          v.opens_samples _, rfl, rfl⟩
        rw [State.strm_putStrm_same]
      · exact ⟨_, _, alive ((State.takeData_next hfit hst hseq hheld hnext).trans (State.addFragment_whole hcur hn)), rfl, rfl, rfl, rfl⟩
    case rack => exact rack ((State.doVsfRack_peer hq hv ht ha hl h6 haddr).trans (State.takeRack_open hst hall))
    case close => exact close ((State.doVsfClose_head hq hv ht).trans ((if_pos ha).trans (State.takeClose_vsf hst hsrc)))
    case stale =>
      have hdead : ¬(s.takeItem p).vsfAlive v = true := by simp [ha]
      exact ⟨fun ht => data ((State.doVsfData_head hq hv ht).trans (if_neg hdead)), fun ht => rack (State.doVsfRack_stale hq hv ht ha), fun ht =>
        close ((State.doVsfClose_head hq hv ht).trans (if_neg hdead))⟩

end Sys2Proof.Machine
end

section
/-! Requests about models, adapters and prefixes (R257-R259, R387, R392): the outcome of each. -/

namespace Sys2Proof.Machine

/-! ### Slots -/

theorem State.settleSlot_lowest {s : State} {m : Nat} (hm : m = 255) (h : ∀ x, x < 256 → msValid (s.mslot x) = true) : s.settleSlot m = .error 7 := by
  have hnone : (List.range 256).find? (fun m => !(msValid (s.mslot m))) = none := by
    rw [List.find?_eq_none]
    intro x hx
    simp [h x (List.mem_range.mp hx)]
  simp only [State.settleSlot, if_pos hm, hnone]

theorem State.settleSlot_taken {s : State} {m : Nat} (hm : m ≠ 255) (h : msValid (s.mslot m) = true) : s.settleSlot m = .error 6 := by
  rw [State.settleSlot, if_neg hm, if_pos h]

theorem State.AccessesOnly.loadMap {s t : State} (h : s.AccessesOnly t) (ctx va : Nat) (bs : List Byte) : s.AccessesOnly (t.loadMap ctx va bs) :=
  h.foldl (fun _ _ hu => (hu.ctxPoke _ _ _).ite hu) _

/-- The image check under a name that does not unfold: to compare two matches on it, the kernel would evaluate it. -/
theorem State.image_name (s : State) : ∃ image, image = s.image := exists_eq

/-- The records of the model slots replaced. -/
def State.withSlots (s : State) (m : NatMap SlotRec) : State := { s with pilot := { s.pilot with slots := m } }

/-- Whether a stream that is not FREE is bound to a slot. -/
abbrev State.slotUsed (s : State) (m : Nat) : Bool := (mkeys s.fe.streams).any (fun i => cxState (s.sctx i) != 0 && cxModel (s.sctx i) == m)

/-- The slot that a request about a model names. -/
abbrev reqSlot (q : List Word) : Nat := fld (wd q 4) 7 0

/-! ### Pages shared from a pool -/

namespace State.KeepsJobs

variable {t u v : State} (h : t.KeepsJobs u)
include h

theorem kvMapTo {ctx va pa : Nat} (he : u.kvMapTo ctx va pa = some v) : t.KeepsJobs v := by
  unfold State.kvMapTo at he
  split at he
  · cases he
  · obtain ⟨x, hm, rfl⟩ := Option.map_eq_some_iff.mp he
    exact (h.mapFrom hm).keeps ((KeepsFirmware.refl x).invalidate _)

theorem attachPage {p va pa : Nat} (he : u.attachPage p va pa = some v) : t.KeepsJobs v := by
  unfold State.attachPage at he
  extract_lets e f at he
  split at he
  · cases he
  · exact (h.keeps ((KeepsFirmware.refl u).hubPoke _ _)).kvMapTo he

theorem attachAll {ctx i p base : Nat} {xs : List Nat} (he : u.attachAll ctx i p base xs = some v) : t.KeepsJobs v := by
  induction xs generalizing u with
  | nil =>
    cases he
    exact h
  | cons x xs ih =>
    simp only [State.attachAll] at he
    split at he
    · cases he
    · next ha =>
      obtain ⟨pa, -, hp⟩ := Option.bind_eq_some_iff.mp ha
      exact ih (h.attachPage hp) he

end State.KeepsJobs

section
variable {s : State} {ch : Nat} {q : List Word} {j : Job} (hj : s.job (reqJob q) = some j) (ho : j.ch = ch) (hl : s.jobLive j = true)
include hj ho hl

/-! ### MODEL_LOAD and MODEL_UNLOAD (R392) -/

theorem State.modelLoadBody_direct (hd : j.direct = true) : State.modelLoadBody ch q s = s.deny ch 6 :=
  (s.withLive_own hj ho hl).trans (if_pos hd)

section
variable (hd : j.direct = false)
include hd

theorem State.modelLoadBody_refused {e : Nat} (he : s.settleSlot (reqSlot q) = .error e) : State.modelLoadBody ch q s = s.deny ch e := by
  rw [State.modelLoadBody, State.withLive_own hj ho hl]
  simp only [hd, he, Bool.false_eq_true, if_false]

variable {x : Nat} (hx : s.settleSlot (reqSlot q) = .ok x)
include hx

theorem State.modelLoadBody_badImage (hi : s.image j.ctxId (va48 q 5) (wd q 7).toNat = none) : State.modelLoadBody ch q s =
    (if s.rangeMapped j.ctxId (va48 q 5) (wd q 7).toNat false then s.ctxNote j.ctxId (va48 q 5) (wd q 7).toNat else s).deny ch 0x0C := by
  obtain ⟨image, himage⟩ := s.image_name
  rw [State.modelLoadBody, State.withLive_own hj ho hl, ← himage]
  rw [← himage] at hi
  simp only [hd, hx, hi, Bool.false_eq_true, if_false]

theorem State.modelLoadBody_loaded {bs : List Byte} (hi : s.image j.ctxId (va48 q 5) (wd q 7).toNat = some bs) :
    ∃ u m, s.AccessesOnly u ∧ State.modelLoadBody ch q s =
      (u.withSlots m).ok ch [w32 x, w32 ((wd (imgHdr bs) 7).toNat * (s.usableCores j.part).length / 32)] := by
  obtain ⟨image, himage⟩ := s.image_name
  rw [State.modelLoadBody, State.withLive_own hj ho hl, ← himage]
  rw [← himage] at hi
  simp only [hd, hx, hi, Bool.false_eq_true, if_false]
  have hslot := ((((AccessesOnly.refl s).ctxNote j.ctxId (va48 q 5) bs.length).loadMap j.ctxId (va48 q 5) bs).ctxPoke j.ctxId (progVa + 256 * x)
    ((bs.drop (wd (imgHdr bs) 18).toNat).take 256)).putMslot x (slotWords (imgHdr bs) ((wd (imgHdr bs) 7).toNat * (s.usableCores j.part).length / 32))
  refine ⟨_, _, ?_, rfl⟩
  exact hslot.ite (hslot.ctxPoke _ _ _)

end

theorem State.modelUnloadBody_unknown (hs : s.jobSlot j (reqSlot q) = none) : State.modelUnloadBody ch q s = s.deny ch 5 := by
  rw [State.modelUnloadBody, State.withLive_own hj ho hl]
  simp only [hs]

section
variable {r : SlotRec} (hs : s.jobSlot j (reqSlot q) = some r)
include hs

theorem State.modelUnloadBody_used (hu : s.slotUsed (reqSlot q) = true) : State.modelUnloadBody ch q s = s.deny ch 6 := by
  rw [State.modelUnloadBody, State.withLive_own hj ho hl]
  simp only [hs]
  exact if_pos hu

theorem State.modelUnloadBody_unloaded (hu : s.slotUsed (reqSlot q) = false) :
    ∃ u, s.AccessesOnly u ∧ State.modelUnloadBody ch q s = (u.withSlots (mdel u.pilot.slots (reqSlot q))).ok ch [] := by
  rw [State.modelUnloadBody, State.withLive_own hj ho hl]
  simp only [hs, hu, Bool.false_eq_true, if_false]
  refine ⟨_, ?_, rfl⟩
  exact ((AccessesOnly.refl s).putMslot _ _).ctxPoke _ _ _

end

/-! ### ADAPTER_PUBLISH (R257, R259) -/

theorem State.adapterPublishBody_unknown (hs : s.jobSlot j (reqSlot q) = none) : State.adapterPublishBody ch q s = s.deny ch 5 := by
  rw [State.adapterPublishBody, State.withLive_own hj ho hl]
  simp only [hs]

section
variable {r : SlotRec} (hs : s.jobSlot j (reqSlot q) = some r)
include hs

theorem State.adapterPublishBody_noDirectory (hdir : r.adpDir = 0) : State.adapterPublishBody ch q s = s.deny ch 6 := by
  rw [State.adapterPublishBody, State.withLive_own hj ho hl]
  simp only [hs]
  exact if_pos hdir

variable (hdir : r.adpDir ≠ 0)
include hdir

theorem State.adapterPublishBody_full (hfull : ∀ e, e < 4 → s.adpValid j.ctxId r.adpDir e = true) : State.adapterPublishBody ch q s = s.deny ch 0x0B := by
  have hnone : (List.range 4).find? (fun e => !(s.adpValid j.ctxId r.adpDir e)) = none := by
    rw [List.find?_eq_none]
    intro e he
    simp [hfull e (List.mem_range.mp he)]
  rw [State.adapterPublishBody, State.withLive_own hj ho hl]
  simp only [hs, if_neg hdir, hnone]

/-- The generation that follows those of a slot. -/
def SlotRec.nextGen (r : SlotRec) : Nat :=
  if (r.adapters.getLast?.map AdapterRec.gen).getD 0 = 65535 then 1 else (r.adapters.getLast?.map AdapterRec.gen).getD 0 + 1

theorem State.adapterPublishBody_published (hfree : ∃ e, e < 4 ∧ s.adpValid j.ctxId r.adpDir e = false) :
    ∃ u r', s.AccessesOnly u ∧ r'.adapters.map AdapterRec.gen = r.adapters.map AdapterRec.gen ++ [r.nextGen] ∧
      State.adapterPublishBody ch q s = (u.withSlots (mput u.pilot.slots (reqSlot q) r')).ok ch [w32 r.nextGen] := by
  obtain ⟨e, he⟩ : ∃ e, (List.range 4).find? (fun e => !(s.adpValid j.ctxId r.adpDir e)) = some e := by
    obtain ⟨e, he, hv⟩ := hfree
    exact Option.isSome_iff_exists.mp (List.find?_isSome.mpr ⟨e, List.mem_range.mpr he, by simp [hv]⟩)
  rw [State.adapterPublishBody, State.withLive_own hj ho hl]
  simp only [hs, if_neg hdir, he]
  refine ⟨_, _, ?_, ?_, rfl⟩
  · exact ((AccessesOnly.refl s).ctxPoke _ _ _).ctxPoke _ _ _
  · rw [List.map_append, List.map_map]
    congr 1
    refine List.map_congr_left (fun a _ => ?_)
    dsimp only [Function.comp]
    split <;> rfl

end

/-! ### PREFIX_ATTACH (R258) -/

/-- The pages that PREFIX_ATTACH shares, for each of `n` caches. -/
abbrev prefixPages (q : List Word) (n : Nat) : List Nat :=
  (List.range n).flatMap (fun k => (List.range (fld (wd q 5) 15 8)).map (fun p => 64 * k + p))

/-- A PREFIX_ATTACH of no pages or too many, not aligned, or whose tokens are not those of its pages. -/
abbrev prefixMalformed (q : List Word) : Prop :=
  fld (wd q 5) 15 8 = 0 ∨ 64 < fld (wd q 5) 15 8 ∨ va48 q 6 % 2 ^ 22 ≠ 0 ∨ (wd q 8).toNat < 256 * (fld (wd q 5) 15 8 - 1) + 1 ∨
    256 * fld (wd q 5) 15 8 < (wd q 8).toNat

/-- A stream that takes no shared pages any more, or none from this pool. -/
abbrev State.prefixLate (s : State) (q : List Word) (j : Job) (i : Nat) (r : SlotRec) : Prop :=
  r.kvRecCount = 0 ∨ cxAccept (s.sctx i) ≠ 0 ∨ cxLive (s.sctx i) = false ∨ s.poolOf (fld (wd q 5) 5 0) j.ctxId = false

theorem State.prefixAttachBody_unknown (hh : s.jobHandle j (wd q 4) = none) : State.prefixAttachBody ch q s = s.deny ch 5 := by
  rw [State.prefixAttachBody, State.withLive_own hj ho hl]
  simp only [hh]

section
variable {i : Nat} (hh : s.jobHandle j (wd q 4) = some i)
include hh

theorem State.prefixAttachBody_malformed (hb : prefixMalformed q) : State.prefixAttachBody ch q s = s.deny ch 1 := by
  rw [State.prefixAttachBody, State.withLive_own hj ho hl]
  simp only [hh]
  exact if_pos hb

variable {r : SlotRec} (hr : mget s.pilot.slots (cxModel (s.sctx i)) = some r) (hb : ¬prefixMalformed q)
include hr hb

theorem State.prefixAttachBody_late (hlate : s.prefixLate q j i r) : State.prefixAttachBody ch q s = s.deny ch 6 := by
  rw [State.prefixAttachBody, State.withLive_own hj ho hl]
  simp only [hh, hr, if_neg hb]
  exact if_pos (by simpa [State.prefixLate, or_assoc] using hlate)

variable (hlate : ¬s.prefixLate q j i r)
include hlate

theorem State.prefixAttachBody_noPages (ha : s.attachAll j.ctxId i (fld (wd q 5) 5 0) (va48 q 6) (prefixPages q r.kvRecCount) = none) :
    State.prefixAttachBody ch q s = s.deny ch 6 := by
  rw [State.prefixAttachBody, State.withLive_own hj ho hl]
  simp only [hh, hr, if_neg hb]
  rw [if_neg (by simpa [State.prefixLate, or_assoc] using hlate), ha]

theorem State.prefixAttachBody_attached (ha : s.attachAll j.ctxId i (fld (wd q 5) 5 0) (va48 q 6) (prefixPages q r.kvRecCount) ≠ none) :
    ∃ u : State, u.mbx = s.mbx ∧ State.prefixAttachBody ch q s = u.ok ch [] := by
  obtain ⟨t, ht⟩ := Option.ne_none_iff_exists'.mp ha
  rw [State.prefixAttachBody, State.withLive_own hj ho hl]
  simp only [hh, hr, if_neg hb]
  rw [if_neg (by simpa [State.prefixLate, or_assoc] using hlate), ht]
  refine ⟨_, ?_, rfl⟩
  refine (AccessesOnly.keepsFirmware (s := t) ?_).mbx.trans ((KeepsJobs.refl s).attachAll ht).mbx
  exact (AccessesOnly.refl t).foldl (fun _ _ hu => (hu.ctxNote _ _ _).ctxPoke _ _ _) _

end

end

end Sys2Proof.Machine
end

section
/-! Requests about streams, and what is left of an adapter, a reservation or a migration later (R60, R70, R259, R370-R373, R388). -/

namespace Sys2Proof.Machine

/-! ### Free contexts -/

/-- The context of a stream has 16 bits of number. -/
theorem State.freeStreamCtx_lt {s : State} {i : Nat} (h : s.freeStreamCtx = some i) : i < 65536 := by
  rw [State.freeStreamCtx] at h
  exact List.mem_range.mp (List.mem_of_find?_eq_some h)

theorem hIndex_w32 {i : Nat} (g : Nat) (hi : i < 65536) : hIndex (w32 (g * 2 ^ 16 + i)) = i := by
  simp only [hIndex, fld, bits, w32, BitVec.toNat_ofNat]
  omega

theorem State.MapsOnly.mapPools {s t : State} {j : Job} {m i : Nat} (h : s.mapPools j m i = some t) : s.MapsOnly t := (MapsOnly.refl s).mapFresh h

/-- The mapping of the pools under a name that does not unfold, as for `State.image_name`. -/
theorem State.mapPools_name (s : State) : ∃ mapPools, mapPools = s.mapPools := exists_eq

/-- A stream that is opened takes an admission number and its binding, and leaves the mailboxes alone. -/
theorem State.openStream_spec (s : State) (i : Nat) (w : List Word) (x : Stream) : (s.openStream i w x).mbx = s.mbx ∧
    (s.openStream i w x).log.admission = (s.log.admission + 1) % 2 ^ 64 ∧ (s.openStream i w x).strm i = x := by
  have hctx : s.AccessesOnly (s.putSctx i w) := ((AccessesOnly.refl s).hubPoke _ _).hubPoke _ _
  exact ⟨hctx.keepsFirmware.mbx, congrArg (fun l : Logbook => (l.admission + 1) % 2 ^ 64) hctx.log, (s.putSctx i w).strm_putStrm_same i x⟩

/-- Cluster and host mailboxes alone ask for these; mailbox 2 is not among them. -/
theorem State.channel_of_clusterOrHost {s : State} {ch op n : Nat} {q : List Word} (he : s.reqError ch q = none) (ho : reqOp q = op)
    (hrow : opRow op = some (op, n, [0, 1])) : ch ≠ 18 := by
  have hbox := State.mailbox_of_accepted he (ho ▸ hrow)
  rintro rfl
  exact absurd hbox (by decide)

section
variable {s : State} {ch : Nat} {q : List Word} {j : Job} (hj : s.job (reqJob q) = some j) (ho : j.ch = ch)
include hj ho

section
variable (hl : s.jobLive j = true)
include hl

/-! ### STREAM_ADMIT (R60, R388) -/

theorem State.streamAdmitBody_malformed (hb : admitMalformed q = true) : State.streamAdmitBody ch q s = s.deny ch 1 :=
  (s.withLive_own hj ho hl).trans (if_pos hb)

section
variable (hb : admitMalformed q = false)
include hb

theorem State.streamAdmitBody_unknown (hs : s.jobSlot j (reqSlot q) = none) : State.streamAdmitBody ch q s = s.deny ch 5 := by
  rw [State.streamAdmitBody, State.withLive_own hj ho hl]
  simp only [hb, hs, Bool.false_eq_true, if_false]

variable {r : SlotRec} (hs : s.jobSlot j (reqSlot q) = some r)
include hs

theorem State.streamAdmitBody_notReady (hc : ceState (s.cent j.ctxId) ≠ 2) : State.streamAdmitBody ch q s = s.deny ch 6 := by
  obtain ⟨mapPools, hname⟩ := s.mapPools_name
  rw [State.streamAdmitBody, State.withLive_own hj ho hl, ← hname]
  simp only [hb, hs, hc, ne_eq, not_false_eq_true, Bool.false_eq_true, if_false, if_true]

variable (hc : ceState (s.cent j.ctxId) = 2)
include hc

theorem State.streamAdmitBody_noContext (hi : s.freeStreamCtx = none) : State.streamAdmitBody ch q s = s.deny ch 7 := by
  rw [State.streamAdmitBody, State.withLive_own hj ho hl]
  simp only [hb, hs, hc, hi, ne_eq, not_true_eq_false, Bool.false_eq_true, if_false]

variable {i : Nat} (hi : s.freeStreamCtx = some i)
include hi

theorem State.streamAdmitBody_full (hf : 256 * msCapacity (s.mslot (reqSlot q)) < s.loadOf (s.slotStreams (reqSlot q)) + (wd q 6).toNat) :
    State.streamAdmitBody ch q s = s.deny ch 8 := by
  obtain ⟨mapPools, hname⟩ := s.mapPools_name
  rw [State.streamAdmitBody, State.withLive_own hj ho hl, ← hname]
  simp only [hb, hs, hc, hi, hf, ne_eq, not_true_eq_false, Bool.false_eq_true, if_false, if_true]

variable (hf : ¬256 * msCapacity (s.mslot (reqSlot q)) < s.loadOf (s.slotStreams (reqSlot q)) + (wd q 6).toNat)
include hf

theorem State.streamAdmitBody_noImage (him : s.initImage j r (wd (s.mslot (reqSlot q)) 2).toNat = none) :
    State.streamAdmitBody ch q s = s.deny ch 6 := by
  rw [State.streamAdmitBody, State.withLive_own hj ho hl]
  simp only [hb, hs, hc, hi, hf, him, ne_eq, not_true_eq_false, Bool.false_eq_true, if_false]

variable {img : List Byte} (him : s.initImage j r (wd (s.mslot (reqSlot q)) 2).toNat = some img)
include him

theorem State.streamAdmitBody_readOnly (hro : s.stateReadOnly j (reqSlot q) i = true) : State.streamAdmitBody ch q s = s.deny ch 6 := by
  obtain ⟨mapPools, hname⟩ := s.mapPools_name
  rw [State.streamAdmitBody, State.withLive_own hj ho hl, ← hname]
  simp only [hb, hs, hc, hi, hf, him, hro, ne_eq, not_true_eq_false, Bool.false_eq_true, if_false, if_true]

variable (hro : s.stateReadOnly j (reqSlot q) i = false)
include hro

theorem State.streamAdmitBody_noFrames (hno : s.kvFits r img = false ∨ s.mapPools j (reqSlot q) i = none) :
    State.streamAdmitBody ch q s = s.deny ch 9 := by
  obtain ⟨mapPools, hname⟩ := s.mapPools_name
  rw [State.streamAdmitBody, State.withLive_own hj ho hl, ← hname]
  rcases hkv : s.kvFits r img with _ | _
  · simp only [hb, hs, hc, hi, hf, him, hro, hkv, ne_eq, not_true_eq_false, Bool.not_false, Bool.false_eq_true, if_false, if_true]
  · have hp := hno.resolve_left (by simp [hkv])
    rw [← hname] at hp
    simp only [hb, hs, hc, hi, hf, him, hro, hkv, hp, ne_eq, not_true_eq_false, Bool.not_true, Bool.false_eq_true, if_false]

theorem State.streamAdmitBody_opened (hkv : s.kvFits r img = true) (hp : s.mapPools j (reqSlot q) i ≠ none) :
    ∃ u cw, s.MapsOnly u ∧
      State.streamAdmitBody ch q s = (u.openStream i cw { bind := bindingOf j q, tokAt := s.now }).ok ch [cxHandle cw i] := by
  obtain ⟨t, ht⟩ := Option.ne_none_iff_exists'.mp hp
  have hfill : s.MapsOnly (t.fillVersions j (reqSlot q) i img) :=
    (MapsOnly.mapPools ht).accesses (((AccessesOnly.refl t).ctxPoke _ _ _).ctxPoke _ _ _)
  rw [State.streamAdmitBody, State.withLive_own hj ho hl]
  simp only [hb, hs, hc, hi, hf, him, hro, hkv, ht, ne_eq, not_true_eq_false, Bool.not_true, Bool.false_eq_true, if_false]
  rw [← hfill.now]
  exact ⟨_, _, hfill, rfl⟩

end

/-! ### STREAM_RESERVE (R370) -/

theorem State.streamReserveBody_unknown (hs : s.jobSlot j (reqSlot q) = none) : State.streamReserveBody ch q s = s.deny ch 5 := by
  rw [State.streamReserveBody, State.withLive_own hj ho hl]
  simp only [hs]

section
variable (hs : s.jobSlot j (reqSlot q) ≠ none)
include hs

theorem State.streamReserveBody_noContext (hi : s.freeStreamCtx = none) : State.streamReserveBody ch q s = s.deny ch 7 := by
  obtain ⟨r, hr⟩ := Option.ne_none_iff_exists'.mp hs
  obtain ⟨free, hname⟩ : ∃ f, f = s.freeStreamCtx := exists_eq
  rw [State.streamReserveBody, State.withLive_own hj ho hl, ← hname]
  rw [← hname] at hi
  simp only [hr, hi]

variable {i : Nat} (hi : s.freeStreamCtx = some i)
include hi

theorem State.streamReserveBody_noFrames (hp : s.mapPools j (reqSlot q) i = none) : State.streamReserveBody ch q s = s.deny ch 9 := by
  obtain ⟨r, hr⟩ := Option.ne_none_iff_exists'.mp hs
  obtain ⟨mapPools, hname⟩ := s.mapPools_name
  rw [State.streamReserveBody, State.withLive_own hj ho hl, ← hname]
  rw [← hname] at hp
  simp only [hr, hi, hp]

/-- A context held for a stream that another card will send. -/
def State.reserve (s : State) (i : Nat) (r : Reservation) : State :=
  { s with pilot := { s.pilot with reserved := mput s.pilot.reserved i r } }

theorem State.streamReserveBody_reserved (hp : s.mapPools j (reqSlot q) i ≠ none) :
    ∃ u h, s.MapsOnly u ∧ hIndex h = i ∧ State.streamReserveBody ch q s =
      (u.reserve i { handle := h, slot := reqSlot q, since := s.now, job := j.id, ch := ch }).ok ch [h] := by
  obtain ⟨r, hr⟩ := Option.ne_none_iff_exists'.mp hs
  obtain ⟨t, ht⟩ := Option.ne_none_iff_exists'.mp hp
  have hmap := MapsOnly.mapPools ht
  obtain ⟨mapPools, hname⟩ := s.mapPools_name
  rw [State.streamReserveBody, State.withLive_own hj ho hl, ← hname]
  rw [← hname] at ht
  simp only [hr, hi, ht, ho]
  rw [← hmap.now]
  exact ⟨t, w32 (max 1 (cxGen (t.sctx i)) * 2 ^ 16 + i), hmap, hIndex_w32 _ (freeStreamCtx_lt hi), rfl⟩

end

/-! ### STREAM_MIGRATE (R371) -/

theorem State.streamMigrateBody_unknown (hh : s.jobHandle j (wd q 4) = none) : State.streamMigrateBody ch q s = s.deny ch 5 := by
  rw [State.streamMigrateBody, State.withLive_own hj ho hl]
  simp only [hh]

section
variable {i : Nat} (hh : s.jobHandle j (wd q 4) = some i)
include hh

theorem State.streamMigrateBody_notOpen (hb : cxState (s.sctx i) ≠ 1 ∨ (s.strm i).migrating = true) :
    State.streamMigrateBody ch q s = s.deny ch 6 := by
  rw [State.streamMigrateBody, State.withLive_own hj ho hl]
  simp only [hh, if_pos hb]

variable (hb : ¬(cxState (s.sctx i) ≠ 1 ∨ (s.strm i).migrating = true))
include hb

/-- The caches of key and value data that a stream has. -/
abbrev State.kvRecords (s : State) (i : Nat) : Nat := ((mget s.pilot.slots (cxModel (s.sctx i))).map SlotRec.kvRecCount).getD 0

theorem State.streamMigrateBody_notSendable (hk : j.key = 0 ∨ s.kvRecords i ≠ 0) : State.streamMigrateBody ch q s = s.deny ch 0x0E := by
  rw [State.streamMigrateBody, State.withLive_own hj ho hl]
  simp only [hh, if_neg hb]
  refine if_pos ?_
  revert hk
  rw [State.kvRecords]
  cases mget s.pilot.slots (cxModel (s.sctx i)) <;> exact id

/-- A stream whose migration has begun. -/
def State.migrating (s : State) (i : Nat) (o : MigOut) : State :=
  (s.modStrm i (fun x => { x with migrating := true })).modRhb (fun r => { r with migOut := r.migOut ++ [o] })

theorem State.streamMigrateBody_begun (hkey : j.key ≠ 0) (hkv : s.kvRecords i = 0) : State.streamMigrateBody ch q s =
    (s.migrating i { ctx := i, dev := fld (wd q 5) 19 0, key := j.key, newHandle := wd q 6 }).ok ch [] := by
  rw [State.streamMigrateBody, State.withLive_own hj ho hl]
  simp only [hh, if_neg hb]
  refine if_neg ?_
  revert hkv
  rw [State.kvRecords]
  cases mget s.pilot.slots (cxModel (s.sctx i)) <;> exact fun hkv hbad => hbad.elim hkey (absurd hkv)

end

end

/-! ### STREAM_CLOSE, STREAM_ABORT and STREAM_QUERY (R60) -/

theorem State.streamCloseBody_unknown (hh : s.jobHandle j (wd q 4) = none) : State.streamCloseBody ch q s = s.deny ch 5 := by
  rw [State.streamCloseBody, State.withJob_own hj (.inl ho)]
  simp only [hh]

theorem State.streamAbortBody_unknown (hh : s.jobHandle j (wd q 4) = none) : State.streamAbortBody ch q s = s.deny ch 5 := by
  rw [State.streamAbortBody, State.withJob_own hj (.inl ho)]
  simp only [hh]

theorem State.streamQueryBody_unknown (hh : s.jobHandle j (wd q 4) = none) : State.streamQueryBody ch q s = s.deny ch 5 := by
  rw [State.streamQueryBody, State.withJob_own hj (.inl ho)]
  simp only [hh]

variable {i : Nat} (hh : s.jobHandle j (wd q 4) = some i)
include hh

theorem State.streamCloseBody_known : State.streamCloseBody ch q s =
    State.ok (if cxState (s.sctx i) = 3 then s.freeStream i else if cxState (s.sctx i) = 1 then s.beginClose i (wd q 5) else s) ch [] := by
  rw [State.streamCloseBody, State.withJob_own hj (.inl ho)]
  simp only [hh]
  congr 1
  split
  · next h3 => exact (if_pos h3).symm
  · next h1 => rw [if_neg (by omega), if_pos h1]
  · next h3 h1 => rw [if_neg h3, if_neg h1]

theorem State.streamAbortBody_known : State.streamAbortBody ch q s =
    (if cxState (s.sctx i) = 3 then s.freeStream i else s.abortStream i).ok ch [] := by
  rw [State.streamAbortBody, State.withJob_own hj (.inl ho)]
  simp only [hh]

theorem State.streamQueryBody_known : State.streamQueryBody ch q s = s.ok ch (((s.sctx i).set 10 (w32 (s.tokensAt i s.now).1)).take 13) := by
  rw [State.streamQueryBody, State.withJob_own hj (.inl ho)]
  simp only [hh]

end

/-! ### STREAM_SETTLE (R373) -/

section
variable {s : State} {ch : Nat} {q : List Word}

section
variable {x : MigIn} (hx : s.rhb.migIn.find? (fun x => x.handle == wd q 4) = some x)
include hx

section
variable {r : Reservation} (hr : s.reservation (wd q 4) = some r)
include hr

theorem State.streamSettleBody_reserved_other (hm : s.maySettle ch r.job = false) : State.streamSettleBody ch q s = s.deny ch 4 := by
  simp only [State.streamSettleBody, hx, hr, hm, Bool.not_false, if_true]

variable (hm : s.maySettle ch r.job = true)
include hm

theorem State.streamSettleBody_reserved_committed (hc : x.committed = true) : State.streamSettleBody ch q s = s.deny ch 6 := by
  simp only [State.streamSettleBody, hx, hr, hm, hc, Bool.not_true, Bool.false_eq_true, if_false, if_true]

variable (hc : x.committed = false)
include hc

theorem State.streamSettleBody_reserved_accept (ho : flag (wd q 5) 0 = true) (hd : x.complete = true) :
    State.streamSettleBody ch q s = (s.migAccept r x).ok ch [] := by
  simp only [State.streamSettleBody, hx, hr, hm, hc, ho, hd, Bool.not_true, Bool.false_eq_true, if_false, if_true]

theorem State.streamSettleBody_reserved_incomplete (ho : flag (wd q 5) 0 = true) (hd : x.complete = false) :
    State.streamSettleBody ch q s = s.deny ch 6 := by
  simp only [State.streamSettleBody, hx, hr, hm, hc, ho, hd, Bool.not_true, Bool.false_eq_true, if_false, if_true]

theorem State.streamSettleBody_reserved_drop (ho : flag (wd q 5) 0 = false) :
    State.streamSettleBody ch q s = ((s.dropMigIn (wd q 4)).migInEvent r x 0x21 0).ok ch [] := by
  simp only [State.streamSettleBody, hx, hr, hm, hc, ho, Bool.not_true, Bool.false_eq_true, if_false]

end

section
variable (hr : s.reservation (wd q 4) = none)
include hr

theorem State.streamSettleBody_arrived_unknown (h : x.committed = false ∨ s.handleLive (wd q 4) = false) :
    State.streamSettleBody ch q s = s.deny ch 5 := by
  simp only [State.streamSettleBody, hx, hr]
  exact if_pos (by simpa [or_comm] using h)

variable (hc : x.committed = true) (hl : s.handleLive (wd q 4) = true)
include hc hl

theorem State.streamSettleBody_arrived_other (hm : s.maySettle ch (s.strm (hIndex (wd q 4))).bind.job = false) :
    State.streamSettleBody ch q s = s.deny ch 4 := by
  simp only [State.streamSettleBody, hx, hr, hc, hl, hm, Bool.and_self, Bool.not_true, Bool.not_false, Bool.false_eq_true, if_false, if_true]

theorem State.streamSettleBody_arrived (hm : s.maySettle ch (s.strm (hIndex (wd q 4))).bind.job = true) :
    State.streamSettleBody ch q s = (if flag (wd q 5) 0 = true then s else s.migGone (hIndex (wd q 4))).ok ch [] := by
  simp only [State.streamSettleBody, hx, hr, hc, hl, hm, Bool.and_self, Bool.not_true, Bool.false_eq_true, if_false]
  split <;> rfl

end

end

section
variable (hx : s.rhb.migIn.find? (fun x => x.handle == wd q 4) = none)
include hx

theorem State.streamSettleBody_source_unknown (hl : s.handleLive (wd q 4) = false) : State.streamSettleBody ch q s = s.deny ch 5 := by
  simp only [State.streamSettleBody, hx, hl, Bool.not_false, if_true]

variable (hl : s.handleLive (wd q 4) = true)
include hl

theorem State.streamSettleBody_source_other (hm : s.maySettle ch (s.strm (hIndex (wd q 4))).bind.job = false) :
    State.streamSettleBody ch q s = s.deny ch 4 := by
  simp only [State.streamSettleBody, hx, hl, hm, Bool.not_true, Bool.not_false, Bool.false_eq_true, if_false, if_true]

variable (hm : s.maySettle ch (s.strm (hIndex (wd q 4))).bind.job = true)
include hm

theorem State.streamSettleBody_source_certain (hd : (s.strm (hIndex (wd q 4))).inDoubt = false) : State.streamSettleBody ch q s = s.deny ch 6 := by
  simp only [State.streamSettleBody, hx, hl, hm, hd, Bool.not_true, Bool.not_false, Bool.false_eq_true, if_false, if_true]

variable (hd : (s.strm (hIndex (wd q 4))).inDoubt = true)
include hd

theorem State.streamSettleBody_source_keeps (ho : flag (wd q 5) 0 = true) : State.streamSettleBody ch q s =
    ((s.modStrm (hIndex (wd q 4)) (fun x => { x with migrating := false, inDoubt := false })).modRhb (fun r =>
      { r with migOut := r.migOut.filter (fun m => m.ctx != hIndex (wd q 4)) })).ok ch [] := by
  simp only [State.streamSettleBody, hx, hl, hm, hd, ho, Bool.not_true, Bool.false_eq_true, if_false, if_true]

theorem State.streamSettleBody_source_gone (ho : flag (wd q 5) 0 = false) :
    State.streamSettleBody ch q s = (s.migGone (hIndex (wd q 4))).ok ch [] := by
  simp only [State.streamSettleBody, hx, hl, hm, hd, ho, Bool.not_true, Bool.false_eq_true, if_false]

end

end

/-! ### Adapters and reservations that end (R259, R370, R373) -/

section
variable {s : State} {m gen : Nat}

theorem State.doAdapterReclaim_noSlot (h : mget s.pilot.slots m = none) : s.doAdapterReclaim m gen = s := by
  simp only [State.doAdapterReclaim, h, Option.bind_none]

theorem State.doAdapterReclaim_down (h : s.firmwareRuns = false) : s.doAdapterReclaim m gen = s := by
  unfold State.doAdapterReclaim
  split
  · rfl
  · exact if_pos (by simp [h])

section
variable {r : SlotRec} (hr : mget s.pilot.slots m = some r)
include hr

theorem State.doAdapterReclaim_newest (h : ∀ a ∈ r.adapters, a.gen = gen → a.after = none) : s.doAdapterReclaim m gen = s := by
  have hnone : (r.adapters.find? (fun a => a.gen == gen)).bind (fun a => a.after.map (fun q => (r, a, q))) = none := by
    refine Option.bind_eq_none_iff.mpr (fun a ha => ?_)
    rw [h a (List.mem_of_find?_eq_some ha) (by simpa using List.find?_some ha), Option.map_none]
  simp only [State.doAdapterReclaim, hr, Option.bind_some, hnone]

variable {a : AdapterRec} {b : List (Nat × Word)} (ha : r.adapters.find? (fun a => a.gen == gen) = some a) (hb : a.after = some b)
include ha hb

theorem State.doAdapterReclaim_waits (h : b.all s.pastAdapter = false) : s.doAdapterReclaim m gen = s := by
  simp only [State.doAdapterReclaim, hr, ha, hb, Option.bind_some, Option.map_some]
  exact if_pos (by simp [h])

theorem State.doAdapterReclaim_reclaimed (h : b.all s.pastAdapter = true) (hf : s.firmwareRuns = true) :
    mget (s.doAdapterReclaim m gen).pilot.slots m = some { r with adapters := r.adapters.filter (fun x => x.gen != gen) } := by
  simp only [State.doAdapterReclaim, hr, ha, hb, Option.bind_some, Option.map_some]
  rw [if_neg (by simp [h, hf])]
  exact mget_mput_same _ _ _

end

end

section
variable {s : State} {i : Nat}

theorem State.doReservationLapse_none (h : mget s.pilot.reserved i = none) : s.doReservationLapse i = s := by
  simp only [State.doReservationLapse, h]

variable {r : Reservation} (hr : mget s.pilot.reserved i = some r)
include hr

theorem State.doReservationLapse_early (h : s.now < r.since + 10000000) : s.doReservationLapse i = s := by
  simp only [State.doReservationLapse, hr, if_pos h]

variable (h : r.since + 10000000 ≤ s.now)
include h

theorem State.doReservationLapse_unused (hx : s.rhb.migIn.find? (fun x => x.handle == r.handle && !x.committed) = none) :
    s.doReservationLapse i = s.unreserve i := by
  simp only [State.doReservationLapse, hr, if_neg (Nat.not_lt.mpr h), hx]

variable {x : MigIn} (hx : s.rhb.migIn.find? (fun x => x.handle == r.handle && !x.committed) = some x)
include hx

theorem State.doReservationLapse_inDoubt (hc : x.complete = true) (hd : x.inDoubt = true) : s.doReservationLapse i = s := by
  simp only [State.doReservationLapse, hr, if_neg (Nat.not_lt.mpr h), hx, hc, hd, if_true]

theorem State.doReservationLapse_complete (hc : x.complete = true) (hd : x.inDoubt = false) : s.doReservationLapse i =
    (s.modMigIn x.handle (fun x => { x with inDoubt := true })).migInEvent r x 0x22 0 := by
  simp only [State.doReservationLapse, hr, if_neg (Nat.not_lt.mpr h), hx, hc, hd, Bool.false_eq_true, if_false, if_true]

theorem State.doReservationLapse_incomplete (hc : x.complete = false) :
    s.doReservationLapse i = (s.dropMigIn r.handle).migInEvent r x 0x21 0 := by
  simp only [State.doReservationLapse, hr, if_neg (Nat.not_lt.mpr h), hx, hc, Bool.false_eq_true, if_false]

end

end Sys2Proof.Machine
end

section
/-! What an answered request leaves, and the statement about models and streams. -/

namespace Sys2Proof.Machine

section
variable {s u : State} {ch : Nat} (hlen : ch < s.mbx.length)
include hlen

theorem State.AccessesOnly.answered_withSlots (hu : s.AccessesOnly u) (m : NatMap SlotRec) (ws : List Word) :
    (((u.withSlots m).ok ch ws).chan ch).busy = false ∧ ((u.withSlots m).ok ch ws).pilot.slots = m ∧
      ∀ k, mgetD (((u.withSlots m).ok ch ws).chan ch).rsp (4 + k) 0 = wd ws k := by
  have hl : ch < (u.withSlots m).mbx.length := hu.keepsFirmware.mbx ▸ hlen
  exact ⟨State.answer_busy _ _ _ hl, congrArg Pilot.slots (State.answer_pilot _ _ _ _), State.answer_word _ _ _ hl⟩

theorem State.MapsOnly.answered_openStream (hu : s.MapsOnly u) (hch : ch ≠ 18) (i : Nat) (w : List Word) (x : Stream) (ws : List Word) :
    (((u.openStream i w x).ok ch ws).chan ch).busy = false ∧
      ((u.openStream i w x).ok ch ws).log.admission = (s.log.admission + 1) % 2 ^ 64 ∧ ((u.openStream i w x).ok ch ws).strm i = x := by
  obtain ⟨hmbx, hadm, hstrm⟩ := u.openStream_spec i w x
  obtain ⟨m, hm⟩ := State.answer_eq (u.openStream i w x) 0 (wd ((u.openStream i w x).chan ch).words 2) ws hch
  refine ⟨State.answer_busy _ _ _ ?_, ?_, (congrArg (fun v : State => v.strm i) hm).trans hstrm⟩
  · rwa [hmbx, hu.mbx]
  · exact ((congrArg (fun v : State => v.log.admission) hm).trans hadm).trans (by rw [hu.log])

theorem State.MapsOnly.answered_reserve (hu : s.MapsOnly u) (i : Nat) (r : Reservation) (ws : List Word) :
    (((u.reserve i r).ok ch ws).chan ch).busy = false ∧ mget ((u.reserve i r).ok ch ws).pilot.reserved i = some r ∧
      ∀ k, mgetD (((u.reserve i r).ok ch ws).chan ch).rsp (4 + k) 0 = wd ws k := by
  have hl : ch < (u.reserve i r).mbx.length := hu.mbx ▸ hlen
  refine ⟨State.answer_busy _ _ _ hl, ?_, State.answer_word _ _ _ hl⟩
  exact (congrArg (fun p : Pilot => mget p.reserved i) (State.answer_pilot _ _ _ _)).trans (mget_mput_same _ _ _)

theorem State.answered_migrating (hch : ch ≠ 18) (i : Nat) (o : MigOut) (ws : List Word) :
    (((s.migrating i o).ok ch ws).chan ch).busy = false ∧ ((s.migrating i o).ok ch ws).rhb.migOut = s.rhb.migOut ++ [o] ∧
      ((s.migrating i o).ok ch ws).strm i = { s.strm i with migrating := true } := by
  obtain ⟨m, hm⟩ := State.answer_eq (s.migrating i o) 0 (wd ((s.migrating i o).chan ch).words 2) ws hch
  have hstrm := s.strm_modStrm_same i (fun x => { x with migrating := true })
  exact ⟨State.answer_busy _ _ _ hlen, congrArg (fun v : State => v.rhb.migOut) hm, (congrArg (fun v : State => v.strm i) hm).trans hstrm⟩

end

/-- Settles O51: each clause is the outcome of one request's body, or of one of the two ends that come later. -/
theorem requestsAboutModelsAndStreams : Obligations.RequestsAboutModelsAndStreams := by
  refine ⟨?requests, ?settle, ?reclaim, ?lapse⟩
  case requests =>
    intro s ch j hlen hch hj ho q go does gives w m
    have hin : ch < s.mbx.length := hlen ▸ hch
    have answers {op : Nat} {i : Instr} {f : List Word → State → State} {t : State} (hg : go op) (he : exec i s = .next (s.serve ch op f))
        (ht : f q s = t) : does i t := he.trans (congrArg _ ((State.serve_accepted f hg.1 hg.2.1 hg.2.2).trans ht))
    refine ⟨fun hl => ⟨?load, ?unload, ?publish, ?attach, ?admission, ?reserve, ?migrate⟩, ?close, ?abort, ?query⟩
    case load =>
      intro hg
      refine ⟨fun hd => answers hg rfl (State.modelLoadBody_direct hj ho hl hd),
        fun hd hm hv => answers hg rfl (State.modelLoadBody_refused hj ho hl hd (State.settleSlot_taken hm hv)),
        fun hd hm hv => answers hg rfl (State.modelLoadBody_refused hj ho hl hd (State.settleSlot_lowest hm hv)), fun x hd hx =>
        ⟨fun hi => answers hg rfl (State.modelLoadBody_badImage hj ho hl hd hx hi), fun bs hi => ?_⟩⟩
      obtain ⟨u, r, hu, hbody⟩ := State.modelLoadBody_loaded hj ho hl hd hx hi
      obtain ⟨hbusy, -, hword⟩ := hu.answered_withSlots hin r [w32 x, w32 ((wd (imgHdr bs) 7).toNat * (s.usableCores j.part).length / 32)]
      exact ⟨_, answers hg rfl hbody, hbusy, hword 0, hword 1⟩
    case unload =>
      intro hg
      refine ⟨fun hs => answers hg rfl (State.modelUnloadBody_unknown hj ho hl hs), fun hs hu => ?_, fun hs hu hr => ?_⟩
      · obtain ⟨r, hs⟩ := Option.ne_none_iff_exists'.mp hs
        exact answers hg rfl (State.modelUnloadBody_used hj ho hl hs hu)
      · obtain ⟨r, hs⟩ := Option.ne_none_iff_exists'.mp hs
        obtain ⟨u, hkeep, hbody⟩ := State.modelUnloadBody_unloaded hj ho hl hs hu
        obtain ⟨hbusy, hslots, -⟩ := hkeep.answered_withSlots hin (mdel u.pilot.slots m) []
        refine ⟨_, answers hg rfl hbody, hbusy, ?_⟩
        rw [hslots, hkeep.keepsFirmware.pilot]
        exact mget_mdel_same _ _ hr
    case publish =>
      intro hg
      refine ⟨fun hs => answers hg rfl (State.adapterPublishBody_unknown hj ho hl hs), fun r hs =>
        ⟨fun hd => answers hg rfl (State.adapterPublishBody_noDirectory hj ho hl hs hd),
          fun hd hf => answers hg rfl (State.adapterPublishBody_full hj ho hl hs hd hf), fun hd hf _ => ?_⟩⟩
      obtain ⟨u, r', hu, hgens, hbody⟩ := State.adapterPublishBody_published hj ho hl hs hd hf
      obtain ⟨hbusy, hslots, -⟩ := hu.answered_withSlots hin (mput u.pilot.slots m r') [w32 r.nextGen]
      refine ⟨_, answers hg rfl hbody, hbusy, ?_⟩
      rw [hslots, mget_mput_same]
      exact congrArg some hgens
    case attach =>
      intro hg
      refine ⟨fun hh => answers hg rfl (State.prefixAttachBody_unknown hj ho hl hh), fun i r hh hr =>
        ⟨fun hb => answers hg rfl (State.prefixAttachBody_malformed hj ho hl hh hb),
          fun hb hlate => answers hg rfl (State.prefixAttachBody_late hj ho hl hh hr hb hlate),
          fun hb hlate ha => answers hg rfl (State.prefixAttachBody_noPages hj ho hl hh hr hb hlate ha), fun hb hlate ha => ?_⟩⟩
      obtain ⟨u, hu, hbody⟩ := State.prefixAttachBody_attached hj ho hl hh hr hb hlate ha
      have hlu : ch < u.mbx.length := hu ▸ hin
      exact ⟨_, answers hg rfl hbody, State.answer_busy _ _ _ hlu, State.answer_status _ _ _ hlu (by decide)⟩
    case admission =>
      intro hg
      have hne : ch ≠ 18 := State.channel_of_clusterOrHost hg.2.2 hg.2.1 rfl
      refine ⟨fun hb => answers hg rfl (State.streamAdmitBody_malformed hj ho hl hb),
        fun hb hs => answers hg rfl (State.streamAdmitBody_unknown hj ho hl hb hs), fun r hb hs =>
        ⟨fun hc => answers hg rfl (State.streamAdmitBody_notReady hj ho hl hb hs hc),
          fun hc hi => answers hg rfl (State.streamAdmitBody_noContext hj ho hl hb hs hc hi), fun i hc hi =>
          ⟨fun hf => answers hg rfl (State.streamAdmitBody_full hj ho hl hb hs hc hi hf),
            fun hf him => answers hg rfl (State.streamAdmitBody_noImage hj ho hl hb hs hc hi hf him), fun img hf him =>
            ⟨fun hro => answers hg rfl (State.streamAdmitBody_readOnly hj ho hl hb hs hc hi hf him hro),
              fun hro hno => answers hg rfl (State.streamAdmitBody_noFrames hj ho hl hb hs hc hi hf him hro hno), fun hro hkv hp => ?_⟩⟩⟩⟩
      obtain ⟨u, cw, hu, hbody⟩ := State.streamAdmitBody_opened hj ho hl hb hs hc hi hf him hro hkv hp
      obtain ⟨hbusy, hadm, hstrm⟩ := hu.answered_openStream hin hne i cw { bind := bindingOf j q, tokAt := s.now } [cxHandle cw i]
      exact ⟨_, answers hg rfl hbody, hbusy, hadm, fun _ => ⟨congrArg Stream.bind hstrm, congrArg Stream.tokAt hstrm⟩⟩
    case reserve =>
      intro hg
      refine ⟨fun hs => answers hg rfl (State.streamReserveBody_unknown hj ho hl hs),
        fun hs hi => answers hg rfl (State.streamReserveBody_noContext hj ho hl hs hi), fun i hs hi =>
        ⟨fun hp => answers hg rfl (State.streamReserveBody_noFrames hj ho hl hs hi hp), fun hp _ => ?_⟩⟩
      obtain ⟨u, h, hu, hindex, hbody⟩ := State.streamReserveBody_reserved hj ho hl hs hi hp
      obtain ⟨hbusy, hres, hword⟩ := hu.answered_reserve hin i { handle := h, slot := m, since := s.now, job := j.id, ch := ch } [h]
      exact ⟨_, answers hg rfl hbody, hbusy, h, hres, hword 0, hindex⟩
    case migrate =>
      intro hg
      have hne : ch ≠ 18 := State.channel_of_clusterOrHost hg.2.2 hg.2.1 rfl
      refine ⟨fun hh => answers hg rfl (State.streamMigrateBody_unknown hj ho hl hh), fun i hh =>
        ⟨fun hb => answers hg rfl (State.streamMigrateBody_notOpen hj ho hl hh hb),
          fun hb hk => answers hg rfl (State.streamMigrateBody_notSendable hj ho hl hh hb hk), fun hb hkey hkv => ?_⟩⟩
      obtain ⟨hbusy, hout, hstrm⟩ :=
        State.answered_migrating hin hne i { ctx := i, dev := fld (wd q 5) 19 0, key := j.key, newHandle := wd q 6 } []
      exact ⟨_, answers hg rfl (State.streamMigrateBody_begun hj ho hl hh hb hkey hkv), hbusy, hout, fun _ => hstrm⟩
    case close =>
      exact fun hg => ⟨fun hh => answers hg rfl (State.streamCloseBody_unknown hj ho hh),
        fun _ hh => answers hg rfl (State.streamCloseBody_known hj ho hh)⟩
    case abort =>
      exact fun hg => ⟨fun hh => answers hg rfl (State.streamAbortBody_unknown hj ho hh),
        fun _ hh => answers hg rfl (State.streamAbortBody_known hj ho hh)⟩
    case query =>
      exact fun hg => ⟨fun hh => answers hg rfl (State.streamQueryBody_unknown hj ho hh),
        fun _ hh => answers hg rfl (State.streamQueryBody_known hj ho hh)⟩
  case settle =>
    intro s ch hs hop he h i owner does
    have answers {t : State} (ht : State.streamSettleBody ch (s.chan ch).words s = t) : does t :=
      congrArg Host.Outcome.next ((State.serve_accepted (State.streamSettleBody ch) hs hop he).trans ht)
    refine ⟨fun x r hx hr => ⟨?_, ?_, ?_, ?_, ?_⟩, fun x hx hr => ⟨?_, fun hc hl => ⟨?_, ?_⟩⟩, fun hx => ⟨?_, ?_, ?_, ?_, ?_⟩⟩
    · exact fun hm => answers (State.streamSettleBody_reserved_other hx hr hm)
    · exact fun hm hc => answers (State.streamSettleBody_reserved_committed hx hr hm hc)
    · exact fun hm hc hown hd => answers (State.streamSettleBody_reserved_accept hx hr hm hc hown hd)
    · exact fun hm hc hown hd => answers (State.streamSettleBody_reserved_incomplete hx hr hm hc hown hd)
    · exact fun hm hc hown => answers (State.streamSettleBody_reserved_drop hx hr hm hc hown)
    · exact fun hu => answers (State.streamSettleBody_arrived_unknown hx hr hu)
    · exact fun hm => answers (State.streamSettleBody_arrived_other hx hr hc hl hm)
    · exact fun hm => answers (State.streamSettleBody_arrived hx hr hc hl hm)
    · exact fun hl hm hd hown => answers (State.streamSettleBody_source_keeps hx hl hm hd hown)
    · exact fun hl => answers (State.streamSettleBody_source_unknown hx hl)
    · exact fun hl hm => answers (State.streamSettleBody_source_other hx hl hm)
    · exact fun hl hm hd => answers (State.streamSettleBody_source_certain hx hl hm hd)
    · exact fun hl hm hd hown => answers (State.streamSettleBody_source_gone hx hl hm hd hown)
  case reclaim =>
    intro s m gen
    refine ⟨fun h => congrArg Host.Outcome.next (h.elim State.doAdapterReclaim_noSlot State.doAdapterReclaim_down),
      fun r hr h => congrArg Host.Outcome.next (State.doAdapterReclaim_newest hr h), fun r a b hr ha hb => ⟨?_, ?_⟩⟩
    · exact fun h => congrArg Host.Outcome.next (State.doAdapterReclaim_waits hr ha hb h)
    · exact fun h hf _ => ⟨_, rfl, State.doAdapterReclaim_reclaimed hr ha hb h hf⟩
  case lapse =>
    intro s i
    refine ⟨fun h => congrArg Host.Outcome.next (State.doReservationLapse_none h), fun r hr => ⟨?_, ?_, fun x h hx => ⟨?_, ?_, ?_⟩⟩⟩
    · exact fun h => congrArg Host.Outcome.next (State.doReservationLapse_early hr h)
    · exact fun h hx => congrArg Host.Outcome.next (State.doReservationLapse_unused hr h hx)
    · exact fun hc hd => congrArg Host.Outcome.next (State.doReservationLapse_inDoubt hr h hx hc hd)
    · exact fun hc hd => congrArg Host.Outcome.next (State.doReservationLapse_complete hr h hx hc hd)
    · exact fun hc => congrArg Host.Outcome.next (State.doReservationLapse_incomplete hr h hx hc)

end Sys2Proof.Machine
end

section
/-! The control commands (O17). -/

namespace Sys2Proof.Machine

/-! ### A control command at the head -/

theorem State.control_malformed {s : State} {n op : Nat} {ws : List Word} {f : State → Cmd → State} (h : (s.core n).headOp op = some ws)
    (hd : (s.core n).decodeHead ws = none) : s.control n op f = s.coreFault n codeMalformed (s.core n).curSl.pc := by
  rw [State.control, h]
  dsimp only
  rw [hd]

theorem State.control_decoded {s : State} {n op : Nat} {ws : List Word} {f : State → Cmd → State} {d : Cmd}
    (h : (s.core n).headOp op = some ws) (hd : (s.core n).decodeHead ws = some d) : s.control n op f = f s d := by
  rw [State.control, h]
  dsimp only
  rw [hd]

section Decoded
variable {s : State} {n : Nat} {ws : List Word} {d : Cmd} (hd : (s.core n).decodeHead ws = some d)
include hd

theorem State.doNop_passes (h : (s.core n).headOp opNop = some ws) (hroom : (s.core n).sbRoom d = true)
    (hfree : (s.core n).hazard d.seq d.rds d.wrs = false) : s.doNop n = s.advance n := by
  rw [State.doNop, State.control_decoded h hd, hroom, hfree]
  rfl

theorem State.doNop_waits (h : (s.core n).headOp opNop = some ws)
    (hwait : (s.core n).sbRoom d = false ∨ (s.core n).hazard d.seq d.rds d.wrs = true) : s.doNop n = s := by
  rw [State.doNop, State.control_decoded h hd]
  exact if_pos (by simpa using hwait)

theorem State.doEnd_outside (h : (s.core n).headOp opEnd = some ws) (hl : (s.core n).curSl.loops = []) : s.doEnd n =
    (s.modCore n (fun c => { (c.passHead c.headLen) with ctl := .endDrain })).cBump n Reg.coreCntDispatch := by
  rw [State.doEnd, State.control_decoded h hd]
  exact if_pos (List.isEmpty_iff.mpr hl)

theorem State.doEnd_inLoop (h : (s.core n).headOp opEnd = some ws) (hl : (s.core n).curSl.loops ≠ []) :
    s.doEnd n = s.coreFault n codeLoop d.va := by
  rw [State.doEnd, State.control_decoded h hd]
  exact if_neg (by simpa using hl)

/-- A FENCE without a live-range map reads nothing. -/
theorem State.doFence_unmapped (h : (s.core n).headOp opFence = some ws) (hm : va48 d.ops 1 = 0) : s.doFence n =
    ((s.modCore n (fun c => { (c.passHead c.headLen) with ctl := .fence (flag (d.o 1) 31) })).cBump n Reg.coreCntDispatch).modCore n
      (fun c => c.modCur (fun x => { x with liveMap := 0, saved := false })) := by
  rw [State.doFence, State.control_decoded h hd]
  exact if_pos hm

/-- A FENCE whose map has a good header line keeps the map and its LINES. -/
theorem State.doFence_mapped {u : State} {bs : List Byte} (h : (s.core n).headOp opFence = some ws) (hm : va48 d.ops 1 ≠ 0)
    (hr : s.fetchRead n (va48 d.ops 1) 64 = (u, some (.ok bs))) (hok : livemapOk (wordsOf 16 bs) = true) : s.doFence n =
    ((u.modCore n (fun c => { (c.passHead c.headLen) with ctl := .fence (flag (d.o 1) 31) })).cBump n Reg.coreCntDispatch).modCore n
      (fun c => c.modCur (fun x => { x with
        liveMap := va48 d.ops 1, saved := false, live := fld (wd (wordsOf 16 bs) 1) 18 0 })) := by
  rw [State.doFence, State.control_decoded h hd]
  dsimp only
  rw [if_neg hm, hr]
  exact if_pos hok

/-- The level that a LOOP with a count pushes. -/
theorem State.doLoop_counted (h : (s.core n).headOp opLoop = some ws) (hwl : flag (d.o 1) 31 = false) (hi : 1 ≤ fld (d.o 1) 17 0) :
    s.doLoop n =
      if 4 ≤ (s.core n).curSl.loops.length then s.coreFault n codeLoop d.va
      else (s.modCore n (fun c => c.modCur (fun x => { x with
        loops := ⟨0, fld (d.o 1) 17 0, d.va, d.va + 4 * (s.core n).headLen, false, 1, fld (d.o 2) 21 0⟩ :: x.loops }))).advance n := by
  rw [State.doLoop, State.control_decoded h hd]
  simp [hwl, Nat.one_le_iff_ne_zero.mp hi]

theorem State.doEndloop_stray (h : (s.core n).headOp opEndloop = some ws) (hl : (s.core n).curSl.loops = []) :
    s.doEndloop n = s.coreFault n codeLoop d.va := by
  rw [State.doEndloop, State.control_decoded h hd]
  rw [hl]

theorem State.doEndloop_level {l : Loop} {r : List Loop} (h : (s.core n).headOp opEndloop = some ws)
    (hl : (s.core n).curSl.loops = l :: r) : s.doEndloop n =
      if l.li + 1 < l.iter then
        ((s.modCore n (fun c => ((c.passHead c.headLen).modCur (fun x => { x with loops := { l with li := l.li + 1 } :: r })).jump l.body)).cBump n
          Reg.coreCntDispatch).settle n
      else (s.modCore n (fun c => c.modCur (fun x => { x with loops := r }))).advance n := by
  rw [State.doEndloop, State.control_decoded h hd]
  rw [hl]

end Decoded

/-- Settles O17: a malformed head by `State.control_malformed`, a decoded one by its command's equations. -/
theorem controlCommandsDispatch : Obligations.ControlCommandsDispatch := by
  intro s n ws hn hon
  refine ⟨fun op i hi h hd => ?_, fun d hd => ⟨fun h hroom hfree => ?_, fun h hwait => ?_, fun h hm => ?_, fun u bs h hm hr hok => ?_,
    fun h hl => ?_, fun h hl => ?_, fun h hwl hc => ⟨fun hl => ?_, fun hl => ?_⟩,
    fun h => ⟨fun hl => ?_, fun l r hl => ⟨fun hi => ?_, fun hi => ?_⟩⟩⟩⟩
  · obtain ⟨f, he⟩ : ∃ f, exec i s = s.onCore n (fun s => s.control n op f) := by
      simp only [List.mem_cons, Prod.mk.injEq, List.not_mem_nil, or_false] at hi
      obtain ⟨rfl, rfl⟩ | ⟨rfl, rfl⟩ | ⟨rfl, rfl⟩ | ⟨rfl, rfl⟩ | ⟨rfl, rfl⟩ := hi <;> exact ⟨_, rfl⟩
    exact exec_core he hn hon (State.control_malformed h hd)
  · exact exec_core (f := fun s => s.doNop n) rfl hn hon (State.doNop_passes hd h hroom hfree)
  · exact exec_core (f := fun s => s.doNop n) rfl hn hon (State.doNop_waits hd h hwait)
  · exact exec_core (f := fun s => s.doFence n) rfl hn hon (State.doFence_unmapped hd h hm)
  · exact exec_core (f := fun s => s.doFence n) rfl hn hon (State.doFence_mapped hd h hm hr hok)
  · exact exec_core (f := fun s => s.doEnd n) rfl hn hon (State.doEnd_outside hd h hl)
  · exact exec_core (f := fun s => s.doEnd n) rfl hn hon (State.doEnd_inLoop hd h hl)
  · exact exec_core (f := fun s => s.doLoop n) rfl hn hon ((State.doLoop_counted hd h hwl hc).trans (if_neg (not_le.mpr hl)))
  · exact exec_core (f := fun s => s.doLoop n) rfl hn hon ((State.doLoop_counted hd h hwl hc).trans (if_pos hl))
  · exact exec_core (f := fun s => s.doEndloop n) rfl hn hon (State.doEndloop_stray hd h hl)
  · exact exec_core (f := fun s => s.doEndloop n) rfl hn hon ((State.doEndloop_level hd h hl).trans (if_pos hi))
  · exact exec_core (f := fun s => s.doEndloop n) rfl hn hon ((State.doEndloop_level hd h hl).trans (if_neg (not_lt.mpr hi)))

end Sys2Proof.Machine
end

section
/-! The commands of VDN-8E lists (O18). -/

namespace Sys2Proof.Machine

/-- A core takes the translation of the VDN-8E command at its head. -/
def State.takeTranslation (s : State) (n : Nat) (ds : List Cmd) : State :=
  ((((s.modCore n (fun c => { (c.passHead 4) with xlated := ds.map (fun d => { d with va := (s.core n).curSl.pc, slice := (s.core n).cur }) })).cBump n
    Reg.coreCntDispatch).pump n).settle n)

section Compat
variable {s : State} {n op : Nat} {f : Core → List Word → Option (List Cmd)} {ws : List Word} (h : (s.core n).compatHead op = some ws)
include h

theorem State.compat_translated {ds : List Cmd} (hr : fld (wd ws 3) 31 2 = 0) (hf : f (s.core n) ws = some ds) :
    s.compat n op f = s.takeTranslation n ds := by
  rw [State.compat, h]
  dsimp only
  rw [if_pos hr, hf]
  rfl

/-- A reserved flag, or no translation. -/
theorem State.compat_malformed (hbad : fld (wd ws 3) 31 2 ≠ 0 ∨ f (s.core n) ws = none) :
    s.compat n op f = s.coreFault n codeMalformed (s.core n).curSl.pc := by
  have hnone : (if fld (wd ws 3) 31 2 = 0 then f (s.core n) ws else none) = none := by
    split
    · next hr => exact hbad.resolve_left (not_not_intro hr)
    · rfl
  rw [State.compat, h]
  dsimp only
  rw [hnone]

end Compat

theorem State.doSync_fence {s : State} {n : Nat} {ws : List Word} (h : (s.core n).compatHead 6 = some ws) (hr : fld (wd ws 3) 31 2 = 0) :
    s.doSync n = (s.modCore n (fun c => { ((c.passHead 4).modCur (fun x => { x with liveMap := 0, saved := false })) with
      ctl := .fence false })).cBump n Reg.coreCntDispatch := by
  rw [State.doSync, h]
  exact if_neg (not_not_intro hr)

theorem State.doStepEnd_fence {s : State} {n : Nat} {ws : List Word} (h : (s.core n).compatHead 7 = some ws) (hr : fld (wd ws 3) 31 2 = 0) :
    s.doStepEnd n = (s.modCore n (fun c => { ((c.passHead 4).modCur (fun x => { x with
      liveMap := 0, saved := false, stepEnd := true })) with ctl := .fence false })).cBump n Reg.coreCntDispatch := by
  rw [State.doStepEnd, h]
  exact if_neg (not_not_intro hr)

/-- Settles O18: a command with a translation by the two cases of `State.compat`, SYNC and STEP_END as the fences they are. -/
theorem compatibilityCommandsTranslate : Obligations.CompatibilityCommandsTranslate := by
  intro s n ws hn hon
  refine ⟨fun op i f hi h => ?_, fun h hr => ?_, fun h hr => ?_⟩
  · obtain ⟨g, he, rfl⟩ : ∃ g, exec i s = s.onCore n (fun s => s.compat n op g) ∧ f = g (s.core n) ws := by
      simp only [List.mem_cons, Prod.mk.injEq, List.not_mem_nil, or_false] at hi
      obtain ⟨rfl, rfl, rfl⟩ | ⟨rfl, rfl, rfl⟩ | ⟨rfl, rfl, rfl⟩ | ⟨rfl, rfl, rfl⟩ | ⟨rfl, rfl, rfl⟩ := hi
      · exact ⟨fun _ => xlateLoadw, rfl, rfl⟩
      · exact ⟨fun _ => xlateGemm, rfl, rfl⟩
      · exact ⟨fun _ => xlateVop, rfl, rfl⟩
      · exact ⟨fun c => xlateDma false c.curSl.list, rfl, rfl⟩
      · exact ⟨fun c => xlateDma true c.curSl.list, rfl, rfl⟩
    exact ⟨fun ds hr hf => exec_core he hn hon (State.compat_translated h hr hf),
      fun hbad => exec_core he hn hon (State.compat_malformed h hbad)⟩
  · exact exec_core (f := fun s => s.doSync n) rfl hn hon (State.doSync_fence h hr)
  · exact exec_core (f := fun s => s.doStepEnd n) rfl hn hon (State.doStepEnd_fence h hr)

end Sys2Proof.Machine
end

section
/-! A core starts its lists, fetches them, and is aborted (O20). -/

namespace Sys2Proof.Machine

/-! ### Starts -/

/-- Slices of a mask stand at the start of their lists. -/
theorem fresh_of_mem_freshSlices {mask : Nat} {x : SliceSt} (h : x ∈ freshSlices mask) : x.started = false ∧ x.ended = false ∧ x.loops = [] := by
  obtain ⟨k, -, rfl⟩ := List.mem_map.mp h
  exact ⟨rfl, rfl, rfl⟩

theorem State.doCoreStart_busy {s : State} {n : Nat} (legacy : Bool) (h : (s.core n).idle = false) : s.doCoreStart n legacy = s :=
  if_pos (by simp [h])

theorem State.doCoreStart_slices {s : State} {n : Nat} (h : (s.core n).idle = true) (hs : freshSlices (s.cReg n Reg.coreSlices).toNat ≠ []) :
    s.doCoreStart n false =
      ((s.contextStart n).modCore n (fun c => c.carry .direct (freshSlices (s.cReg n Reg.coreSlices).toNat))).enterAll n :=
  (if_neg (by simp [h])).trans (if_neg (by simpa using hs))

/-- A VDN-8E list needs no slice in CORE_SLICES. -/
theorem State.doCoreStart_legacy {s : State} {n : Nat} (h : (s.core n).idle = true) : s.doCoreStart n true =
    ((s.contextStart n).modCore n (fun c => c.carry .compat
      ((freshSlices (s.cReg n Reg.coreSlices).toNat ++ [({ slice := 0 } : SliceSt)]).take 1))).enterAll n :=
  (if_neg (by simp [h])).trans (if_neg (by simp))

theorem State.core_contextStart (s : State) {n : Nat} (hn : n < s.cores.length) : (s.contextStart n).core n =
    { (s.core n).clearKernel with lastCtx := some (s.coreCtx n), descs := [], mapLines := [] } := s.core_modCore_same _ hn

theorem State.core_contextStart_carry (s : State) {n : Nat} (run : Run) (sls : List SliceSt) (hn : n < s.cores.length) :
    ((s.contextStart n).modCore n (fun c => c.carry run sls)).core n = Core.carry
      { (s.core n).clearKernel with lastCtx := some (s.coreCtx n), descs := [], mapLines := [] } run sls := by
  rw [State.core_modCore_same _ _ (by rwa [State.contextStart, State.modCore_length]), s.core_contextStart hn]

theorem State.doCoreBatchStart_fresh {s : State} {n : Nat} {d : WlDesc} {r : List WlDesc} (hq : (s.core n).wlq = d :: r)
    (hi : (s.core n).idle = true) (hrun : (s.core n).run = .idle) (hf : s.directFirst n (s.descClass d) = false) (hres : d.resume = false) :
    let u := ((s.loadDesc n d).modCore n (fun c => { c with wlq := r, wl := some d })).readWorkList n d
    s.doCoreBatchStart n = ((u.batchContext n).modCore n (fun c => c.carry (.batch d.batch) (freshSlices d.mask.toNat))).enterAll n := by
  rw [State.doCoreBatchStart, hq]
  dsimp only
  rw [hi, hrun, hf, hres]
  rfl

/-! ### Abort -/

theorem State.core_doCoreAbort (s : State) {n : Nat} (hn : n < s.cores.length) : (s.doCoreAbort n).core n =
    { (s.core n).halt with
      run := .idle, slices := [], fetch := [], wl := none, wlBuf := [], wlLines := [], inSpill := false, waiting := []
      outs := (s.core n).outs.filter (fun x => !(x.cls == 2 && x.ctx == s.coreCtx n)) } := by
  rw [State.doCoreAbort, State.core_dropRemote _ _ (by rwa [State.modCore_length]), s.core_modCore_same _ hn]
  rfl

/-! ### The list fetcher -/

theorem State.doListFetchData_idle {s : State} {n : Nat} (h : (s.core n).run = .idle) : s.doListFetchData n = s := if_pos (.inl h)

section Fetch
variable {s : State} {n : Nat} (hrun : (s.core n).run ≠ .idle) (hctl : (s.core n).ctl = .run)
include hrun hctl

theorem State.fetcher_runs : ¬ ((s.core n).run = .idle ∨ (s.core n).ctl = .stopped ∨ (s.core n).ctl = .preempted) := by
  simp [hrun, hctl]

theorem State.doListFetchData_opens (h : (s.core n).curSl.started = false) : s.doListFetchData n = (s.openList n).settle n :=
  (if_neg (State.fetcher_runs hrun hctl)).trans (if_pos (by rw [h]; rfl))

/-- With list words to come and room in the buffer, the next line's words arrive, wait or fault. -/
theorem State.doListFetchData_line (h : (s.core n).curSl.started = true)
    (hp : (s.core n).curSl.pc + 4 * (s.core n).fetch.length < (s.core n).curSl.endVa) (hroom : (s.core n).fetch.length ≤ 1008) :
    let p := (s.core n).curSl.pc + 4 * (s.core n).fetch.length
    let len := min (s.core n).curSl.endVa ((p / 64 + 1) * 64) - p
    (∀ u bs, s.fetchRead n p len = (u, some (.ok bs)) →
      s.doListFetchData n = (u.modCore n (fun c => { c with fetch := c.fetch ++ wordsOf (len / 4) bs })).settle n) ∧
    (∀ u, s.fetchRead n p len = (u, none) → s.doListFetchData n = u.settle n) ∧
    (∀ u e, s.fetchRead n p len = (u, some (.error e)) → s.doListFetchData n = u.fetchFault n e.1 e.2 (s.core n).curSl.pc) := by
  have hwants : (s.core n).wantsFetch = true := by simp [Core.wantsFetch, hrun, hctl, h, hp, hroom]
  rw [State.doListFetchData]
  dsimp only
  rw [if_neg (State.fetcher_runs hrun hctl), h, if_neg (by simp), hwants, if_neg (by simp)]
  exact ⟨fun u bs hr => by rw [hr], fun u hr => by rw [hr], fun u e hr => by rw [hr]⟩

end Fetch

/-- Settles O20: the starts and the fetcher by their equations, the abort by `State.core_doCoreAbort`. -/
theorem coreStartsAndAborts : Obligations.CoreStartsAndAborts := by
  intro s n hn hlen
  have hc : n < s.cores.length := hlen ▸ hn
  refine ⟨fun ha => ⟨fun legacy hi => ?_, fun hi hs => ?_, fun hi => ?_, ?_, ?_⟩,
    fun hon => ⟨fun d r hq hi hrun hf hres => ?_, fun hrun => ?_, fun hrun hctl => ⟨fun h => ?_, fun h hp hroom => ?_⟩⟩⟩
  · exact exec_window (f := fun s => s.doCoreStart n legacy) rfl hn ha (State.doCoreStart_busy legacy hi)
  · exact exec_window (f := fun s => s.doCoreStart n false) rfl hn ha (State.doCoreStart_slices hi hs)
  · exact exec_window (f := fun s => s.doCoreStart n true) rfl hn ha (State.doCoreStart_legacy hi)
  · dsimp only
    rw [s.core_contextStart_carry _ _ hc]
    exact ⟨rfl, rfl, rfl, fun x hx => fresh_of_mem_freshSlices hx, rfl, rfl, rfl, rfl, rfl, rfl, rfl⟩
  · refine ⟨s.doCoreAbort n, exec_window (f := fun s => s.doCoreAbort n) rfl hn ha rfl, ?_⟩
    rw [s.core_doCoreAbort hc]
    exact ⟨rfl, rfl, rfl, rfl, rfl, rfl, rfl, rfl, rfl, rfl, fun x hx => not_and_or.mpr (by simpa using (List.mem_filter.mp hx).2)⟩
  · exact exec_core (f := fun s => s.doCoreBatchStart n) rfl hn hon (State.doCoreBatchStart_fresh hq hi hrun hf hres)
  · exact exec_core (f := fun s => s.doListFetchData n) rfl hn hon (State.doListFetchData_idle hrun)
  · exact exec_core (f := fun s => s.doListFetchData n) rfl hn hon (State.doListFetchData_opens hrun hctl h)
  · obtain ⟨hok, hwait, hfault⟩ := State.doListFetchData_line hrun hctl h hp hroom
    exact ⟨fun u bs hr => exec_core (f := fun s => s.doListFetchData n) rfl hn hon (hok u bs hr),
      fun u hr => exec_core (f := fun s => s.doListFetchData n) rfl hn hon (hwait u hr),
      fun u e hr => exec_core (f := fun s => s.doListFetchData n) rfl hn hon (hfault u e hr)⟩

end Sys2Proof.Machine
end

section
/-! BANK_POWER, COMPLETE, retirement and the chain test (O21). -/

namespace Sys2Proof.Machine

section Decoded
variable {s : State} {n : Nat} {ws : List Word} {d : Cmd} (hd : (s.core n).decodeHead ws = some d)
include hd

/-- The request of a BANK_POWER enters the power queue, and the command holds the upper banks. -/
theorem State.doBankPower_queues (h : (s.core n).headOp opBankPower = some ws)
    (hfree : (s.core n).hazard d.seq d.rds (d.wrs ++ [upperWords]) = false) (hq : s.pwr.queue.length < 8) (hsb : (s.core n).sbUsed + 1 ≤ 128)
    (hroom : (s.core n).sbRoom d = true) : s.doBankPower n =
      (({ s with pwr := { s.pwr with queue := s.pwr.queue ++ [{ on := flag (d.o 1) 31, domain := 32 + n, src := n + 1 }] } } : State).modCore n
        (fun c => { c with bank := some { d with rds := [], wrs := [upperWords] } })).advance n := by
  rw [State.doBankPower, State.control_decoded h hd]
  dsimp only
  rw [hfree, if_neg (by simp), if_neg (by simp [hroom]; omega)]

theorem State.doBankPower_waits (h : (s.core n).headOp opBankPower = some ws)
    (hwait : (s.core n).hazard d.seq d.rds (d.wrs ++ [upperWords]) = true ∨ 8 ≤ s.pwr.queue.length ∨ (s.core n).sbRoom d = false) :
    s.doBankPower n = s := by
  rw [State.doBankPower, State.control_decoded h hd]
  dsimp only
  split
  · rfl
  · next hfree =>
      refine if_pos ?_
      obtain hq | hroom := hwait.resolve_left hfree
      · exact .inl hq
      · exact .inr (.inr (by rw [hroom]; rfl))

section Complete
variable (h : (s.core n).headOp opComplete = some ws) (hlw : flag (d.o 1) 31 = false)
include h hlw

theorem State.doComplete_waits (hw : (s.core n).writesHbm (s.core n).cur = true) : s.doComplete n = s := by
  rw [State.doComplete, State.control_decoded h hd]
  simp [hlw, hw]

/-- A COMPLETE outside work-list loops queues the completion of its window, as far as the work list reaches. -/
theorem State.doComplete_queues {id first cnt : Nat} (hw : (s.core n).writesHbm (s.core n).cur = false) (hcpl : (s.core n).cpl.length < 16)
    (hwl : (s.core n).wl = none ∨ (s.core n).wlBuf ≠ []) (hrun : (s.core n).run = .batch id) (hfirst : fld (d.o 1) 26 16 = first)
    (hcnt : min (first + fld (d.o 1) 10 0) (s.core n).wlCount - first = cnt) (hpos : 0 < cnt) : s.doComplete n =
      (s.modCore n (fun x => { (x.modCur (fun y => { y with
        covered := (List.range cnt).foldl (fun l i => sadd l (first + i)) y.covered })) with
        cpl := (s.core n).cpl ++ [{ batch := id, slice := (s.core n).cur, first := first, n := cnt }] })).advance n := by
  have hready : ¬ (16 ≤ (s.core n).cpl.length ∨ ((s.core n).wl.isSome = true ∧ (s.core n).wlBuf.isEmpty = true)) := by
    obtain hwl | hwl := hwl <;> simp [hwl, hcpl]
  rw [State.doComplete, State.control_decoded h hd]
  dsimp only
  rw [hlw, if_neg (by simp), hw, if_neg (by simp), if_neg hready, hrun]
  simp only [Bool.false_eq_true, if_false, hfirst, hcnt, if_neg (Nat.ne_of_gt hpos)]

end Complete

end Decoded

/-! ### Retirement and the chain test -/

theorem State.doCommandRetire_vx_done {s : State} {n : Nat} {d : Cmd} {r : List Cmd} (h : (s.core n).vxA = d :: r) (hdone : d.done = true) :
    s.doCommandRetire n .vx = ((s.modCore n (fun c => { c with vxA := r })).pump n).modCore n Core.settleGens := by
  rw [State.doCommandRetire]
  rw [h]
  dsimp only
  rw [if_pos hdone]

theorem State.doCommandRetire_vx_runs {s : State} {n : Nat} {d : Cmd} {r : List Cmd} (h : (s.core n).vxA = d :: r) (hdone : d.done = false) :
    s.doCommandRetire n .vx = (s.pump n).modCore n Core.settleGens := by
  rw [State.doCommandRetire]
  rw [h]
  dsimp only
  rw [hdone, if_neg Bool.false_ne_true]

theorem State.doChainTestDone_testing {s : State} {n b : Nat} (pass : Bool) (h : (s.core n).testing 3 = some b) : s.doChainTestDone n pass =
    (s.modCore n (fun c => { c.endTest 3 with bypass := !pass })).soundDone n 3 0 pass := by
  rw [State.doChainTestDone, h]

/-- While the firmware does not run, the hop's bypass is all that the end of its test decides. -/
theorem State.doChainTestDone_down {s : State} {n b : Nat} (pass : Bool) (hf : s.firmwareRuns = false) (h : (s.core n).testing 3 = some b) :
    (s.doChainTestDone n pass).continueUp = s.modCore n (fun c => { c.endTest 3 with bypass := !pass }) := by
  rw [State.doChainTestDone_testing pass h, State.soundDone_continueUp_down _ _ _ _ hf (s.modCore_rst _ _)]

/-- Settles O21: each command by the cases of its operation. -/
theorem bankPowerCompleteRetire : Obligations.BankPowerCompleteRetire := by
  intro s n ws d hn hon
  refine ⟨fun h hd hfree hq hsb hroom => ?_, fun h hd hwait => ?_, fun h hd hlw => ⟨fun hw => ?_, fun id hw hcpl hwl hrun hpos => ?_⟩,
    fun d r h => ⟨fun hdone => ?_, fun hdone => ?_⟩, fun pass _ _ hf ⟨b, hb⟩ => ?_⟩
  · exact exec_core (f := fun s => s.doBankPower n) rfl hn hon (State.doBankPower_queues hd h hfree hq hsb hroom)
  · exact exec_core (f := fun s => s.doBankPower n) rfl hn hon (State.doBankPower_waits hd h hwait)
  · exact exec_core (f := fun s => s.doComplete n) rfl hn hon (State.doComplete_waits hd h hlw hw)
  · exact exec_core (f := fun s => s.doComplete n) rfl hn hon (State.doComplete_queues hd h hlw hw hcpl hwl hrun rfl rfl hpos)
  · exact exec_core (f := fun s => s.doCommandRetire n .vx) rfl hn hon (State.doCommandRetire_vx_done h hdone)
  · exact exec_core (f := fun s => s.doCommandRetire n .vx) rfl hn hon (State.doCommandRetire_vx_runs h hdone)
  · exact exec_core (f := fun s => (s.doChainTestDone n pass).continueUp) rfl hn hon (State.doChainTestDone_down pass hf hb)

end Sys2Proof.Machine
end

section
/-! Engine commands at the dispatcher while their engine takes none (O22). -/

namespace Sys2Proof.Machine

/-! ### The outcomes of a dispatch -/

section Outcomes
variable {s : State} {n op : Nat} {badPair badPlace : Core → Cmd → Bool} {ws : List Word} (h : (s.core n).headOp op = some ws)

theorem State.dispatch_noHead (h : (s.core n).headOp op = none) : s.dispatch n op badPair badPlace = s := by
  rw [State.dispatch, h]

include h

theorem State.dispatch_malformed (hd : (s.core n).decodeHead ws = none) :
    s.dispatch n op badPair badPlace = s.coreFault n codeMalformed (s.core n).curSl.pc := by
  rw [State.dispatch, h]
  dsimp only
  rw [hd]

section Decoded
variable {d : Cmd} (hd : (s.core n).decodeHead ws = some d)
include hd

theorem State.dispatch_misplaced (hp : badPlace (s.core n) d = true) :
    s.dispatch n op okHere badPlace = s.coreFault n codeRemotePlace (s.core n).curSl.pc := by
  rw [State.dispatch, h]
  dsimp only
  rw [hd]
  exact if_pos hp

variable (hp : badPlace (s.core n) d = false)
include hp

theorem State.dispatch_enters (hr : (s.core n).room d = true) :
    s.dispatch n op okHere badPlace = (s.modCore n (fun c => c.enqueue d)).advance n := by
  rw [State.dispatch, h]
  dsimp only
  rw [hd]
  dsimp only
  rw [hp, hr]
  rfl

theorem State.dispatch_waits (hr : (s.core n).room d = false) : s.dispatch n op okHere badPlace = s := by
  rw [State.dispatch, h]
  dsimp only
  rw [hd]
  dsimp only
  rw [hp, hr]
  rfl

end Decoded

end Outcomes

/-! ### What a dispatch leaves of the engines -/

/-- A fault halts its core; remote transfers of the context leave it too. -/
theorem State.core_coreFault (s : State) {n : Nat} (code va : Nat) (hn : n < s.cores.length) : ∃ outs, (s.coreFault n code va).core n =
    { (s.core n).halt with faultLine := true, faultCode := if (s.core n).faultLine then (s.core n).faultCode else code, outs := outs } := by
  have hstop : ∀ (t : State) (ctx : Nat) (f : Core → Core), t.cores = s.cores → (∀ c, (f c).waiting = []) →
      ∃ outs, ((t.modCore n f).dropRemote ctx).core n = { f (s.core n) with outs := outs } := by
    intro t ctx f ht hf
    have hcore : t.core n = s.core n := by rw [State.core, ht, State.core]
    rw [State.core_dropRemote _ _ (by rwa [State.modCore_length, ht]), t.core_modCore_same _ (ht ▸ hn), hcore, hf, List.filter_nil]
    exact ⟨_, by rw [← hf (s.core n)]⟩
  refine hstop _ _ _ ?_ fun _ => rfl
  split
  · exact s.cBump_cores ..
  · exact (State.setReg2_cores ..).trans (s.setReg_cores ..)

/-- The engines of `t` after a dispatch on `c`: halted by a fault, or with the commands and the sources that were at work. -/
def Core.EnginesFrom (c t : Core) : Prop :=
  (t.vxQ = [] ∧ t.sxQ = [] ∧ t.srcs = [] ∧ (∀ x ∈ t.vxA, x.done = true) ∧ ∀ x ∈ t.sxA, x.done = true) ∨
  (t.vxA = c.vxA ∧ t.sxA = c.sxA ∧ t.srcs = c.srcs)

theorem State.engines_coreFault (s : State) {n : Nat} (c : Core) (code va : Nat) (hn : n < s.cores.length) :
    c.EnginesFrom ((s.coreFault n code va).core n) := by
  obtain ⟨outs, h⟩ := s.core_coreFault code va hn
  have hdone : ∀ l : List Cmd, ∀ x ∈ l.map (fun d => { d with done := true }), x.done = true := by simp
  rw [h]
  exact .inl ⟨rfl, rfl, rfl, hdone _, hdone _⟩

theorem Core.engines_enqueue (c : Core) (d : Cmd) : (c.enqueue d).vxA = c.vxA ∧ (c.enqueue d).sxA = c.sxA ∧ (c.enqueue d).srcs = c.srcs := by
  unfold Core.enqueue
  split <;> exact ⟨rfl, rfl, rfl⟩

theorem State.engines_advance (s : State) {n : Nat} {c : Core} (hn : n < s.cores.length)
    (h : (s.core n).vxA = c.vxA ∧ (s.core n).sxA = c.sxA ∧ (s.core n).srcs = c.srcs) : c.EnginesFrom ((s.advance n).core n) := by
  unfold State.advance State.settle
  split
  · exact State.engines_coreFault _ _ _ _ (by rwa [State.cBump_cores, State.modCore_length])
  · rw [State.core_cBump, s.core_modCore_same _ hn]
    exact .inr h

/-- However the dispatch of a command ends, it starts nothing in an engine. -/
theorem State.engines_dispatch (s : State) {n : Nat} (op : Nat) (badPair badPlace : Core → Cmd → Bool) (hn : n < s.cores.length) :
    (s.core n).EnginesFrom ((s.dispatch n op badPair badPlace).core n) := by
  have hself : (s.core n).EnginesFrom (s.core n) := .inr ⟨rfl, rfl, rfl⟩
  unfold State.dispatch
  dsimp only
  split
  · exact hself
  · split
    · exact s.engines_coreFault _ _ _ hn
    · split
      · exact s.engines_coreFault _ _ _ hn
      · split
        · exact s.engines_coreFault _ _ _ hn
        · split
          · refine State.engines_advance _ (by rwa [State.modCore_length]) ?_
            rw [s.core_modCore_same _ hn]
            exact (s.core n).engines_enqueue _
          · exact hself

/-! ### The vector engine does nothing more -/

/-- The issue of a chain of any kind. -/
def State.chainIssue (t : State) (n : Nat) : State :=
  match (t.core n).vxQ with
  | d :: _ => if isChain d.op then t.vxIssue n d.op else t
  | [] => t

/-- The active chain runs. -/
def State.chainGo (t : State) (n : Nat) (inj : Inject) : State :=
  match (t.core n).vxA.find? (fun d => isChain d.op && !d.done) with
  | some d => t.runChain n d inj
  | none => t

theorem State.doVxChain_stages (s : State) (n : Nat) (inj : Inject) :
    s.doVxChain n inj = ((s.dispatch n opVxChain okHere okHere).chainIssue n).chainGo n inj := rfl

/-- VX runs a command, and none of opcode `op` and no chain. -/
def Core.VxBusyWithout (c : Core) (op : Nat) : Prop :=
  (∃ x ∈ c.vxA, x.done = false) ∧ ∀ y ∈ c.vxA, y.done = false → y.op ≠ op ∧ isChain y.op = false

section Vector
variable {t : State} {n op : Nat} {c : Core} (hb : c.VxBusyWithout op) (h : c.EnginesFrom (t.core n))
include hb h

theorem State.vxIssue_refused (k : Nat) : t.vxIssue n k = t := by
  unfold State.vxIssue
  dsimp only
  split
  · next d hd =>
      obtain ⟨hq, -⟩ | ⟨hvx, -⟩ := h
      · rw [hq] at hd; cases hd
      · obtain ⟨x, hx, hdone⟩ := hb.1
        refine if_neg fun hfree => ?_
        have := List.all_eq_true.mp (Bool.and_eq_true_iff.mp hfree).2 x (hvx ▸ hx)
        rw [hdone] at this
        cases this
  · rfl

theorem State.chainIssue_refused : t.chainIssue n = t := by
  unfold State.chainIssue
  split
  · split
    · exact State.vxIssue_refused hb h _
    · rfl
  · rfl

theorem State.vx_unfinished {y : Cmd} (hy : y ∈ (t.core n).vxA) (hdone : y.done = false) : y.op ≠ op ∧ isChain y.op = false := by
  obtain ⟨-, -, -, hall, -⟩ | ⟨hvx, -⟩ := h
  · rw [hall y hy] at hdone; cases hdone
  · exact hb.2 y (hvx ▸ hy) hdone

theorem State.vxRunning_none : (t.core n).vxRunning op = none := by
  refine List.find?_eq_none.mpr fun y hy hp => ?_
  simp only [Bool.and_eq_true, beq_iff_eq, Bool.not_eq_true'] at hp
  exact (State.vx_unfinished hb h hy hp.2).1 hp.1

theorem State.chain_none : (t.core n).vxA.find? (fun d => isChain d.op && !d.done) = none := by
  refine List.find?_eq_none.mpr fun y hy hp => ?_
  simp only [Bool.and_eq_true, Bool.not_eq_true'] at hp
  rw [(State.vx_unfinished hb h hy hp.2).2] at hp
  cases hp.1

end Vector

section VectorDispatch
variable {s : State} {n : Nat} (inj : Inject) (hn : n < s.cores.length)
include hn

theorem State.doVxChain_dispatches (hb : (s.core n).VxBusyWithout opVxChain) :
    s.doVxChain n inj = s.dispatch n opVxChain okHere okHere := by
  have h := s.engines_dispatch opVxChain okHere okHere hn
  rw [State.doVxChain_stages, State.chainIssue_refused hb h, State.chainGo, State.chain_none hb h]

theorem State.doVxReduce_dispatches (hb : (s.core n).VxBusyWithout opVxReduce) :
    s.doVxReduce n inj = s.dispatch n opVxReduce okHere okHere := by
  have h := s.engines_dispatch opVxReduce okHere okHere hn
  rw [State.doVxReduce, State.vxIssue_refused hb h, State.vxRunning_none hb h]

theorem State.doVxScan_dispatches (hb : (s.core n).VxBusyWithout opVxScan) :
    s.doVxScan n inj = s.dispatch n opVxScan okHere okHere := by
  have h := s.engines_dispatch opVxScan okHere okHere hn
  rw [State.doVxScan, State.vxIssue_refused hb h, State.vxRunning_none hb h]

theorem State.doVxLoad_dispatches (hb : (s.core n).VxBusyWithout opVxLoad) :
    s.doVxLoad n inj = s.dispatch n opVxLoad okHere okHere := by
  have h := s.engines_dispatch opVxLoad okHere okHere hn
  rw [State.doVxLoad, State.vxIssue_refused hb h, State.vxRunning_none hb h]

theorem State.doVxStore_dispatches (hb : (s.core n).VxBusyWithout opVxStore) :
    s.doVxStore n inj = s.dispatch n opVxStore okHere okHere := by
  have h := s.engines_dispatch opVxStore okHere okHere hn
  rw [State.doVxStore, State.vxIssue_refused hb h, State.vxRunning_none hb h]

end VectorDispatch

/-! ### The stream engine does nothing more -/

/-- No active command still codes blocks. -/
def Core.NoCoding (c : Core) : Prop := ∀ x ∈ c.sxA, x.op = opSxFacetEnc → x.done = true

theorem Core.NoCoding.find {c : Core} (h : c.NoCoding) : c.sxA.find? (fun d => d.op == opSxFacetEnc && !d.done) = none := by
  refine List.find?_eq_none.mpr fun x hx hp => ?_
  simp only [Bool.and_eq_true, beq_iff_eq, Bool.not_eq_true'] at hp
  rw [h x hx hp.1] at hp
  cases hp.2

/-- An EXPAND ends once the Loupe has released all its blocks. -/
def State.endExpand (s : State) (n : Nat) : State :=
  match (s.core n).sxA.find? (fun d => d.op == opSxFacetEnc && !d.done) with
  | some d => if (s.core n).loupeReady d.seq then s.modCore n (fun c => c.sxDone d.seq) else s
  | none => s

theorem State.doSxFacetEnc_stages (s : State) (n : Nat) : s.doSxFacetEnc n =
    ((s.dispatch n opSxFacetEnc okHere okHere).sxIssue n opSxFacetEnc (fun _ _ => true) (fun s d => s.startEnc n d)).endExpand n := rfl

theorem State.endExpand_noCoding {s : State} {n : Nat} (h : (s.core n).NoCoding) : s.endExpand n = s := by
  rw [State.endExpand, h.find]

/-- SX takes no further command, no source injects and no coding of blocks is under way. -/
def Core.SxHeld (c : Core) : Prop := c.sxFree = false ∧ c.srcs = [] ∧ c.NoCoding

section Stream
variable {t : State} {n : Nat} {c : Core} (hx : c.SxHeld) (h : c.EnginesFrom (t.core n))
include hx h

theorem State.sxIssue_refused (op : Nat) (may : Core → Cmd → Bool) (start : State → Cmd → State) : t.sxIssue n op may start = t := by
  unfold State.sxIssue
  dsimp only
  split
  · next d hd =>
      obtain ⟨-, hq, -⟩ | ⟨-, hsx, -⟩ := h
      · rw [hq] at hd; cases hd
      · have hfree : (t.core n).sxFree = false := by rw [Core.sxFree, hsx]; exact hx.1
        simp [hfree]
  · rfl

theorem State.srcs_held : (t.core n).srcs = [] := by
  obtain ⟨-, -, hsrc, -⟩ | ⟨-, -, hsrc⟩ := h
  · exact hsrc
  · exact hsrc.trans hx.2.1

theorem State.coding_held : (t.core n).NoCoding := fun y hy hop => by
  obtain ⟨-, -, -, -, hall⟩ | ⟨-, hsx, -⟩ := h
  · exact hall y hy
  · exact hx.2.2 y (hsx ▸ hy) hop

end Stream

theorem State.inject_noSource {t : State} {n : Nat} (h : (t.core n).srcs = []) : t.inject n = t := by
  rw [State.inject, h]
  split <;> rfl

section StreamDispatch
variable {s : State} {n : Nat} (hn : n < s.cores.length) (hx : (s.core n).SxHeld)
include hn hx

theorem State.doSxArm_dispatches : s.doSxArm n = s.dispatch n opSxArm okHere remoteAhead := by
  rw [State.doSxArm, State.sxIssue_refused hx (s.engines_dispatch _ _ _ hn)]

theorem State.doSxWait_dispatches : s.doSxWait n = s.dispatch n opSxWait okHere okHere := by
  rw [State.doSxWait, State.sxIssue_refused hx (s.engines_dispatch _ _ _ hn)]

theorem State.doSxNklTake_dispatches : s.doSxNklTake n = s.dispatch n opSxTake okHere okHere := by
  rw [State.doSxNklTake, State.sxIssue_refused hx (s.engines_dispatch _ _ _ hn)]

theorem State.doSxNklSource_dispatches : s.doSxNklSource n = s.dispatch n opSxSource okHere okHere := by
  have h := s.engines_dispatch opSxSource okHere okHere hn
  rw [State.doSxNklSource, State.sxIssue_refused hx h, State.inject_noSource (State.srcs_held hx h)]

theorem State.doSxFacetEnc_dispatches : s.doSxFacetEnc n = s.dispatch n opSxFacetEnc okHere okHere := by
  have h := s.engines_dispatch opSxFacetEnc okHere okHere hn
  rw [State.doSxFacetEnc_stages, State.sxIssue_refused hx h, State.endExpand_noCoding (State.coding_held hx h)]

end StreamDispatch

/-- Settles O22: beyond its dispatch the command starts nothing while its engine is held, and the dispatch has four outcomes. -/
theorem engineCommandsEnterTheirQueue : Obligations.EngineCommandsEnterTheirQueue := by
  refine ⟨fun s n inj ws x hn hon hlen hx hdone op i hi hno h => ?_, fun s n ws hn hon hlen hfree hsrc henc op i hi h => ?_⟩
  · have hc : n < s.cores.length := hlen ▸ hn
    have hb : (s.core n).VxBusyWithout op := ⟨⟨x, hx, hdone⟩, hno⟩
    obtain ⟨f, he, hf⟩ : ∃ f, exec i s = s.onCore n f ∧ f s = s.dispatch n op okHere okHere := by
      simp only [List.mem_cons, Prod.mk.injEq, List.not_mem_nil, or_false] at hi
      obtain ⟨rfl, rfl⟩ | ⟨rfl, rfl⟩ | ⟨rfl, rfl⟩ | ⟨rfl, rfl⟩ | ⟨rfl, rfl⟩ := hi
      · exact ⟨fun s => s.doVxChain n inj, rfl, State.doVxChain_dispatches inj hc hb⟩
      · exact ⟨fun s => s.doVxReduce n inj, rfl, State.doVxReduce_dispatches inj hc hb⟩
      · exact ⟨fun s => s.doVxScan n inj, rfl, State.doVxScan_dispatches inj hc hb⟩
      · exact ⟨fun s => s.doVxLoad n inj, rfl, State.doVxLoad_dispatches inj hc hb⟩
      · exact ⟨fun s => s.doVxStore n inj, rfl, State.doVxStore_dispatches inj hc hb⟩
    exact ⟨fun hd => exec_core he hn hon (hf.trans (State.dispatch_malformed h hd)),
      fun d hd hr => exec_core he hn hon (hf.trans (State.dispatch_enters h hd rfl hr)),
      fun d hd hr => exec_core he hn hon (hf.trans (State.dispatch_waits h hd rfl hr))⟩
  · have hc : n < s.cores.length := hlen ▸ hn
    have hx : (s.core n).SxHeld := ⟨hfree, hsrc, henc⟩
    obtain ⟨f, place, he, hf, hplace, harm⟩ : ∃ f place, exec i s = s.onCore n f ∧ f s = s.dispatch n op okHere place ∧
        (∀ d, (op = opSxArm → remoteAhead (s.core n) d = false) → place (s.core n) d = false) ∧ (op = opSxArm → place = remoteAhead) := by
      simp only [List.mem_cons, Prod.mk.injEq, List.not_mem_nil, or_false] at hi
      obtain ⟨rfl, rfl⟩ | ⟨rfl, rfl⟩ | ⟨rfl, rfl⟩ | ⟨rfl, rfl⟩ | ⟨rfl, rfl⟩ := hi
      · exact ⟨fun s => s.doSxArm n, remoteAhead, rfl, State.doSxArm_dispatches hc hx, fun _ h => h rfl, fun _ => rfl⟩
      · exact ⟨fun s => s.doSxWait n, okHere, rfl, State.doSxWait_dispatches hc hx, fun _ _ => rfl, fun h => absurd h (by decide)⟩
      · exact ⟨fun s => s.doSxNklSource n, okHere, rfl, State.doSxNklSource_dispatches hc hx, fun _ _ => rfl, fun h => absurd h (by decide)⟩
      · exact ⟨fun s => s.doSxNklTake n, okHere, rfl, State.doSxNklTake_dispatches hc hx, fun _ _ => rfl, fun h => absurd h (by decide)⟩
      · exact ⟨fun s => s.doSxFacetEnc n, okHere, rfl, State.doSxFacetEnc_dispatches hc hx, fun _ _ => rfl, fun h => absurd h (by decide)⟩
    exact ⟨fun hd => exec_core he hn hon (hf.trans (State.dispatch_malformed h hd)),
      fun d hd hop hp => exec_core he hn hon (hf.trans (State.dispatch_misplaced h hd (by rw [harm hop]; exact hp))),
      fun d hd hp hr => exec_core he hn hon (hf.trans (State.dispatch_enters h hd (hplace d hp) hr)),
      fun d hd hp hr => exec_core he hn hon (hf.trans (State.dispatch_waits h hd (hplace d hp) hr))⟩

end Sys2Proof.Machine
end

section
/-! The issue of stream-engine commands: waits, sources and takes (O28). -/

namespace Sys2Proof.Machine

/-! ### Changes of one core -/

theorem State.modCore_congr {s : State} {n : Nat} {f g : Core → Core} (h : f (s.core n) = g (s.core n)) : s.modCore n f = s.modCore n g := by
  rw [State.modCore, h, State.modCore]

theorem State.modCore_modCore (s : State) {n : Nat} (f g : Core → Core) (hn : n < s.cores.length) :
    (s.modCore n f).modCore n g = s.modCore n (fun c => g (f c)) := by
  rw [State.modCore, s.core_modCore_same f hn]
  simp [State.modCore, State.setCore]

theorem State.coreCtx_modCore (s : State) (n m : Nat) (f : Core → Core) : (s.modCore n f).coreCtx m = s.coreCtx m := rfl

/-! ### Issue -/

theorem Core.headOp_noHead {c : Core} (op : Nat) (h : c.head = none) : c.headOp op = none := by
  unfold Core.headOp
  split
  · rfl
  · rw [h]

theorem State.dispatch_nothing {s : State} {n : Nat} (op : Nat) (badPair badPlace : Core → Cmd → Bool) (h : (s.core n).head = none) :
    s.dispatch n op badPair badPlace = s := State.dispatch_noHead (Core.headOp_noHead op h)

/-- The oldest SX command `d` leaves its queue, which is then `q`, and is active. -/
def State.sxIssued (s : State) (n : Nat) (d : Cmd) (q : List Cmd) : State := s.modCore n (fun c => { c with sxQ := q, sxA := c.sxA ++ [d] })

theorem State.core_sxIssued (s : State) {n : Nat} (d : Cmd) (q : List Cmd) (hn : n < s.cores.length) :
    (s.sxIssued n d q).core n = { s.core n with sxQ := q, sxA := (s.core n).sxA ++ [d] } := s.core_modCore_same _ hn

theorem State.cores_length_sxIssued (s : State) (n : Nat) (d : Cmd) (q : List Cmd) : (s.sxIssued n d q).cores.length = s.cores.length :=
  s.modCore_length _ _

theorem State.coreCtx_sxIssued (s : State) (n m : Nat) (d : Cmd) (q : List Cmd) : (s.sxIssued n d q).coreCtx m = s.coreCtx m := rfl

theorem State.sxIssue_empty {s : State} {n : Nat} (op : Nat) (may : Core → Cmd → Bool) (start : State → Cmd → State)
    (h : (s.core n).sxQ = []) : s.sxIssue n op may start = s := by
  rw [State.sxIssue, h]
  rfl

/-- The core runs and accepts its oldest SX command, which has no hazard. -/
structure State.SxIssues (s : State) (n : Nat) (d : Cmd) (q : List Cmd) : Prop where
  head : (s.core n).head = none
  queue : (s.core n).sxQ = d :: q
  clear : (s.core n).hazard d.seq d.rds d.wrs = false
  live : (s.core n).live = true
  free : (s.core n).sxFree = true

section Issue
variable {s : State} {n : Nat} {d : Cmd} {q : List Cmd} (h : s.SxIssues n d q)
include h

theorem State.SxIssues.issue {op : Nat} {may : Core → Cmd → Bool} (start : State → Cmd → State) (hop : d.op = op)
    (hmay : may (s.core n) d = true) : s.sxIssue n op may start = start (s.sxIssued n d q) d := by
  have hissue : s.sxIssued n d q = s.modCore n (fun c => { c with sxQ := c.sxQ.drop 1, sxA := c.sxA ++ [d] }) :=
    State.modCore_congr (by rw [h.queue]; rfl)
  have hd : (s.core n).issuable (s.core n).sxQ op = some d := by
    rw [h.queue]
    exact if_pos ⟨hop, by rw [h.clear]; rfl⟩
  rw [State.sxIssue, hd, hissue]
  dsimp only
  rw [h.live, h.free, hmay]
  rfl

theorem State.SxIssues.doSxWait (hop : d.op = opSxWait) : s.doSxWait n = (s.sxIssued n d q).modCore n (fun c => c.sxDone d.seq) := by
  rw [State.doSxWait, State.dispatch_nothing _ _ _ h.head, h.issue _ hop rfl]

theorem State.SxIssues.doSxArm (hop : d.op = opSxArm) (hmay : (s.core n).canArm d = true) :
    s.doSxArm n = (s.sxIssued n d q).startArm n d := by
  rw [State.doSxArm, State.dispatch_nothing _ _ _ h.head, h.issue _ hop hmay]

theorem State.SxIssues.doSxNklSource (hop : d.op = opSxSource) : s.doSxNklSource n = ((s.sxIssued n d q).startSource n d).inject n := by
  rw [State.doSxNklSource, State.dispatch_nothing _ _ _ h.head, h.issue _ hop rfl]

theorem State.SxIssues.doSxNklTake (hop : d.op = opSxTake) : s.doSxNklTake n = (s.sxIssued n d q).startTake n d := by
  rw [State.doSxNklTake, State.dispatch_nothing _ _ _ h.head, h.issue _ hop rfl]

end Issue

/-- With nothing at the head, nothing queued and no source at work, these commands change nothing. -/
theorem exec_sx_idle {s : State} {n : Nat} (hn : n < 32) (hon : s.domOn n = true) (hh : (s.core n).head = none) (hq : (s.core n).sxQ = [])
    (hsrc : (s.core n).srcs = []) : exec (.sxArm n) s = .next s ∧ exec (.sxWait n) s = .next s ∧ exec (.sxNklSource n) s = .next s ∧
      exec (.sxNklTake n) s = .next s := by
  refine ⟨exec_core (f := fun s => s.doSxArm n) rfl hn hon ?_, exec_core (f := fun s => s.doSxWait n) rfl hn hon ?_,
    exec_core (f := fun s => s.doSxNklSource n) rfl hn hon ?_, exec_core (f := fun s => s.doSxNklTake n) rfl hn hon ?_⟩
  · rw [State.doSxArm, State.dispatch_nothing _ _ _ hh, State.sxIssue_empty _ _ _ hq]
  · rw [State.doSxWait, State.dispatch_nothing _ _ _ hh, State.sxIssue_empty _ _ _ hq]
  · rw [State.doSxNklSource, State.dispatch_nothing _ _ _ hh, State.sxIssue_empty _ _ _ hq, State.inject_noSource hsrc]
  · rw [State.doSxNklTake, State.dispatch_nothing _ _ _ hh, State.sxIssue_empty _ _ _ hq]

/-! ### A raw source -/

/-- The source that a command of context `ctx` and batch `batch` starts, with the flits that it is to inject. -/
def sourceOf (d : Cmd) (ctx batch : Nat) (flits : List (Nat × Nat × Nat)) : Source :=
  { seq := d.seq, slice := d.slice, ntag := fld (d.o 1) 31 16, ctx := ctx, batch := batch, base := va48 d.ops 2
    last := fld (d.o 1) 15 0 - 1, flits := flits }

/-- The flits of a raw source: those of its segments of 64 lines, in order. -/
def rawFlits (d : Cmd) : List (Nat × Nat × Nat) := (List.range (fld (d.o 1) 15 0)).flatMap (fun j => flitsOf j 64)

/-- A core with no source starts a raw one. -/
theorem State.startSource_raw {s : State} {n : Nat} {d : Cmd} (hn : n < s.cores.length) (hsrc : (s.core n).srcs = [])
    (hraw : flag (d.o 2) 31 = false) : s.startSource n d = s.modCore n (fun c => Core.sxDone { c with
      srcs := [sourceOf d (s.coreCtx n) (s.core n).batchId (rawFlits d)]
      waiting := placeXfers c.waiting (srcXfers d (s.coreCtx n) (rawFlits d)) d.seq } d.seq) := by
  rw [State.startSource, hraw, if_neg Bool.false_ne_true, State.addFlits, State.place]
  simp only [State.modCore_modCore _ _ _ hn]
  refine State.modCore_congr ?_
  rw [hsrc]
  simp [sourceOf, rawFlits, State.coreCtx_modCore]

/-- A source none of whose data has arrived injects nothing. -/
theorem State.inject_noData {s : State} {n : Nat} (h : ∀ t ∈ (s.core n).srcs, t.data = []) : s.inject n = s := by
  unfold State.inject
  split
  · rfl
  · split
    · rfl
    · next hsome =>
      obtain ⟨u, hu, hflit⟩ := List.exists_of_findSome?_eq_some hsome
      rw [h u hu] at hflit
      split at hflit <;> cases hflit

/-! ### A raw take -/

/-- The take that a raw command of context `ctx` and batch `batch` begins at `now`. -/
def rawTake (d : Cmd) (ctx batch now : Nat) : Take :=
  { seq := d.seq, slice := d.slice, ntag := fld (d.o 1) 31 16, ctx := ctx, batch := batch, first := fld (d.o 2) 15 0, count := fld (d.o 1) 15 0
    base := va48 d.ops 2, facet := false, line := d.wr 0 / 16, next := fld (d.o 2) 15 0, issued := now }

/-- A take whose stream the seen table does not know is late for nothing. -/
theorem State.takeLate_unseen {s : State} {n : Nat} {t : Take}
    (h : ∀ e ∈ (s.core n).seen, ¬ (e.ctx = t.ctx ∧ e.batch = t.batch ∧ e.ntag = t.ntag)) : s.takeLate n t = s := by
  have hnone : (s.core n).seen.find? (fun e => e.ctx == t.ctx && e.batch == t.batch && e.ntag == t.ntag) = none :=
    List.find?_eq_none.mpr fun e he hp => h e he (by simpa [and_assoc] using hp)
  rw [State.takeLate, hnone]

theorem State.startTake_raw {s : State} {n : Nat} {d : Cmd} (hn : n < s.cores.length) (hraw : flag (d.o 2) 31 = false)
    (hseen : ∀ e ∈ (s.core n).seen, ¬ (e.ctx = s.coreCtx n ∧ e.batch = (s.core n).batchId ∧ e.ntag = fld (d.o 1) 31 16)) :
    s.startTake n d = s.modCore n (fun c => Core.sxDone { c with
      takes := c.takes ++ [rawTake d (s.coreCtx n) (s.core n).batchId s.now] } d.seq) := by
  rw [State.startTake, hraw, if_neg Bool.false_ne_true, State.putTake]
  rw [hraw, if_neg Bool.false_ne_true]
  refine State.takeLate_unseen ?_
  rw [s.core_modCore_same _ hn]
  exact hseen

end Sys2Proof.Machine
end

section
/-! The issue of a linear SX_ARM (O28). -/

namespace Sys2Proof.Machine

/-! ### Placing transfers -/

theorem placeXfers_nil (w : List Xfer) (seq : Nat) : placeXfers w [] seq = w := by
  rw [placeXfers, List.append_nil, List.takeWhile_append_dropWhile]

/-- Transfers of one command placed one after another stand in the order of placing. -/
theorem placeXfers_placeXfers (w ys : List Xfer) {xs : List Xfer} {seq : Nat} (h : ∀ x ∈ xs, x.seq = seq) :
    placeXfers (placeXfers w xs seq) ys seq = placeXfers w (xs ++ ys) seq := by
  let p : Xfer → Bool := fun x => decide (x.seq ≤ seq)
  have hahead : ∀ x ∈ w.takeWhile p ++ xs, p x = true := fun x hx => by
    obtain hx | hx := List.mem_append.mp hx
    · exact List.mem_takeWhile_imp hx
    · exact decide_eq_true (h x hx).le
  have hbehind : (w.dropWhile p).dropWhile p = w.dropWhile p := List.dropWhile_idempotent ..
  have hnone : (w.dropWhile p).takeWhile p = [] := by
    have hsplit := List.takeWhile_append_dropWhile (p := p) (l := w.dropWhile p)
    rw [hbehind] at hsplit
    exact List.append_cancel_right (hsplit.trans (List.nil_append _).symm)
  change (w.takeWhile p ++ xs ++ w.dropWhile p).takeWhile p ++ ys ++ (w.takeWhile p ++ xs ++ w.dropWhile p).dropWhile p =
    w.takeWhile p ++ (xs ++ ys) ++ w.dropWhile p
  rw [List.takeWhile_append_of_pos hahead, List.dropWhile_append_of_pos hahead, hnone, hbehind]
  simp only [List.append_nil, List.append_assoc]

theorem State.modCore_self {s : State} {n : Nat} {f : Core → Core} (h : f (s.core n) = s.core n) : s.modCore n f = s := by
  have hset : s.cores.set n (s.cores.getD n {}) = s.cores := by
    by_cases hn : n < s.cores.length
    · rw [List.getD_eq_getElem _ _ hn, List.set_getElem_self]
    · exact List.set_eq_of_length_le (not_lt.mp hn)
  rw [State.modCore, h, State.core, State.setCore, hset]

theorem State.place_nil (s : State) (n seq : Nat) : s.place n seq [] = s := State.modCore_self (by rw [placeXfers_nil])

theorem State.coreCtx_place (s : State) (n m seq : Nat) (xs : List Xfer) : (s.place n seq xs).coreCtx m = s.coreCtx m := rfl

theorem State.cores_length_place (s : State) (n seq : Nat) (xs : List Xfer) : (s.place n seq xs).cores.length = s.cores.length :=
  s.modCore_length _ _

theorem State.place_place (s : State) {n seq : Nat} {xs : List Xfer} (ys : List Xfer) (hn : n < s.cores.length) (h : ∀ x ∈ xs, x.seq = seq) :
    (s.place n seq xs).place n seq ys = s.place n seq (xs ++ ys) := by
  rw [State.place, State.place, State.modCore_modCore _ _ _ hn, State.place]
  exact State.modCore_congr (by rw [placeXfers_placeXfers _ _ h])

theorem mem_placeXfers {w xs : List Xfer} {seq : Nat} {x : Xfer} : x ∈ placeXfers w xs seq ↔ x ∈ w ∨ x ∈ xs := by
  rw [placeXfers, List.mem_append, List.mem_append, or_right_comm, ← List.mem_append, List.takeWhile_append_dropWhile]

/-! ### The elements of a linear SX_ARM -/

/-- The transfers of element `i` of a linear SX_ARM between HBM and the scratchpad. -/
def linearElem (d : Cmd) (ctx i : Nat) : List Xfer :=
  armSpan d ctx (dirKind (fld (d.o 1) 27 26)) (va48 d.ops 4 + 64 * (d.o 7).toNat * i) (fld (d.o 3) 15 0) ((armArea d).1 / 16 + i * fld (d.o 4) 17 0)

theorem seq_of_mem_linearElem {d : Cmd} {ctx i : Nat} {x : Xfer} (h : x ∈ linearElem d ctx i) : x.seq = d.seq := by
  obtain ⟨t, -, rfl⟩ := List.mem_map.mp h
  rfl

/-- A linear SX_ARM between HBM and the scratchpad, each of whose elements has lines and lies below 2^48. -/
structure Cmd.Linear (d : Cmd) : Prop where
  op : d.op = opSxArm
  source : fld (d.o 1) 25 24 = 0
  raw : flag (d.o 1) 20 = false
  dir : fld (d.o 1) 27 26 < 2
  count : 1 ≤ fld (d.o 2) 15 0
  lines : 1 ≤ fld (d.o 3) 15 0
  fits : ∀ i < fld (d.o 2) 15 0, va48 d.ops 4 + 64 * (d.o 7).toNat * i + 64 * fld (d.o 3) 15 0 ≤ 2 ^ 48

section Linear
variable {d : Cmd} (hd : d.Linear)
include hd

theorem Cmd.Linear.issueCount : issueCount d = fld (d.o 2) 15 0 := by
  rw [Machine.issueCount, if_pos hd.op, armCount, hd.source]
  rfl

/-- What an element's issue does: its transfers wait. -/
theorem State.armElem_linear (s : State) (n : Nat) {a : ArmSt} (ha : a.addr = none) (hi : a.elem < fld (d.o 2) 15 0) :
    s.armElem n d a = (s.place n d.seq (linearElem d (s.coreCtx n) a.elem), some (.ok a.nextElem)) := by
  have haddr : s.elemAddr n d a.elem = (s, some (.ok (va48 d.ops 4 + 64 * (d.o 7).toNat * a.elem))) := by
    rw [State.elemAddr, hd.source]
    exact congrArg (fun r => (s, some r)) (if_pos (hd.fits _ hi))
  rw [State.armElem, ha]
  dsimp only
  rw [haddr]
  dsimp only
  rw [if_neg (by rw [hd.source]; omega), hd.raw, if_neg Bool.false_ne_true, if_neg (fun h => absurd hd.dir (not_lt.mpr h.1))]
  rfl

/-- The `k` elements from `i` on issue one after another, then the command's issue is over. -/
theorem State.armRun_linear (s : State) {n i k fuel : Nat} (hn : n < s.cores.length) (hi : i + k = fld (d.o 2) 15 0) (hk : k < fuel) :
    s.armRun n d fuel { seq := d.seq, elem := i } =
      (s.place n d.seq ((List.range' i k).flatMap (linearElem d (s.coreCtx n)))).armOver n d { seq := d.seq, elem := fld (d.o 2) 15 0 } := by
  induction k generalizing s i fuel with
  | zero =>
    obtain ⟨m, rfl⟩ := Nat.exists_eq_add_of_lt hk
    rw [State.armRun, List.range'_zero, List.flatMap_nil, State.place_nil, ← hi]
    exact if_pos (hd.issueCount.trans hi.symm).le
  | succ k ih =>
    obtain ⟨m, rfl⟩ := Nat.exists_eq_add_of_lt hk
    have hlt : i < fld (d.o 2) 15 0 := by omega
    rw [State.armRun, if_neg (hd.issueCount ▸ not_le.mpr hlt), if_pos hd.op, State.armElem_linear hd s n rfl hlt]
    dsimp only [ArmSt.nextElem]
    rw [ih _ (by rwa [State.cores_length_place]) (by omega) (by omega), State.place_place _ _ hn fun _ => seq_of_mem_linearElem,
      List.range'_succ, List.flatMap_cons, State.coreCtx_place]

/-- The end of a linear command's issue: it has no map writes, and has done its part. -/
theorem State.armOver_linear (s : State) {n i : Nat} (hn : n < s.cores.length) : s.armOver n d { seq := d.seq, elem := i } =
    s.modCore n (fun c => (Core.sxDone (Core.releaseMaps { c with arms := c.arms.filter (fun x => x.seq != d.seq) } d.seq) d.seq).settleGens) := by
  rw [State.armOver, if_neg (by rw [hd.op]; decide), if_neg (by rw [hd.op]; decide)]
  dsimp only
  rw [mapWrites]
  simp only [List.map_nil, List.dedup_nil, State.place_nil]
  rw [State.modCore_modCore _ _ _ hn]

end Linear

/-! ### The generation of a linear SX_ARM -/

/-- A command whose elements are the only ones to issue begins with them, unless its generation waits. -/
theorem State.armBegin_first {s : State} {n : Nat} {d : Cmd} {a : ArmSt} (hn : n < s.cores.length) (harms : (s.core n).arms = [])
    (hcmd : (s.core n).sxA.find? (fun d => d.seq == a.seq) = some d) (hheld : (s.core n).armHeld a.seq = false) :
    s.armBegin n a = (s.modCore n (fun c => { c with arms := [a] })).armRun n d (issueSteps d) a := by
  have hone : s.modCore n (fun c => { c with arms := c.arms ++ [a] }) = s.modCore n (fun c => { c with arms := [a] }) :=
    State.modCore_congr (by rw [harms]; rfl)
  have hheld' : Core.armHeld { s.core n with arms := [a] } a.seq = false := hheld
  rw [State.armBegin, hone, State.armsGo, s.core_modCore_same _ hn, List.map_singleton, List.foldl_cons, List.foldl_nil, s.core_modCore_same _ hn]
  dsimp only
  rw [List.find?_cons_of_pos (by simp), hcmd]
  dsimp only
  rw [hheld', if_neg Bool.false_ne_true]

/-- The slot of a command of SX_ARM. -/
abbrev Cmd.armSlot (d : Cmd) : Nat := fld (d.o 1) 31 28

/-- The slot after `d` has armed it while it was idle: the raised generation is its only live one. -/
def Core.armedSlot (c : Core) (d : Cmd) : DescSlot :=
  { gen := ((c.desc d.slice d.armSlot).gen + 1) % 256, live := [(((c.desc d.slice d.armSlot).gen + 1) % 256, d.seq)] }

/-- The transfers of a linear SX_ARM, in the order of its elements. -/
def linearXfers (d : Cmd) (ctx : Nat) : List Xfer := (List.range (fld (d.o 2) 15 0)).flatMap (linearElem d ctx)

/-- The core after a linear SX_ARM of an idle slot has issued all its elements. -/
def Core.armed (c : Core) (d : Cmd) (ctx : Nat) : Core :=
  { c with descs := mput c.descs (slotKey d.slice d.armSlot) (c.armedSlot d), waiting := placeXfers c.waiting (linearXfers d ctx) d.seq }

/-- No generation of the command waits once its own, which does not wait, is the only one. -/
theorem Core.armHeld_armed {c : Core} {d : Cmd} (hgen : ∀ e ∈ c.descs, ∀ g ∈ e.2.live, g.2 ≠ d.seq) :
    Core.armHeld { c with descs := mput c.descs (slotKey d.slice d.armSlot) (c.armedSlot d) } d.seq = false := by
  refine List.any_eq_false.mpr fun e he hheld => ?_
  obtain ⟨hpending, hlast⟩ := Bool.and_eq_true_iff.mp hheld
  obtain rfl | he := mem_mput he
  · cases hpending
  · obtain ⟨g, hg, hseq⟩ := Option.map_eq_some_iff.mp (beq_iff_eq.mp hlast)
    exact hgen e he g (List.mem_of_getLast? hg) hseq

/-- Each element needs at least one step. -/
theorem Cmd.Linear.steps {d : Cmd} (hd : d.Linear) : fld (d.o 2) 15 0 < issueSteps d := by
  rw [issueSteps, hd.issueCount]
  exact Nat.lt_succ_of_le (Nat.le_mul_of_pos_right _ (by omega))

/-- The generation starts at once, and all its elements issue. -/
theorem State.startArm_linear {s : State} {n : Nat} {d : Cmd} (hd : d.Linear) (hn : n < s.cores.length)
    (hlive : ((s.core n).desc d.slice d.armSlot).live = []) (harms : (s.core n).arms = [])
    (hcmd : (s.core n).sxA.find? (fun x => x.seq == d.seq) = some d) (hgen : ∀ e ∈ (s.core n).descs, ∀ g ∈ e.2.live, g.2 ≠ d.seq) :
    s.startArm n d = s.modCore n (fun c => (((c.armed d (s.coreCtx n)).releaseMaps d.seq).sxDone d.seq).settleGens) := by
  have hcore := s.core_modCore_same (fun c => { c with descs := mput c.descs (slotKey d.slice d.armSlot) ((s.core n).armedSlot d) }) hn
  have hbegin : s.startArm n d = (s.modCore n (fun c => { c with
      descs := mput c.descs (slotKey d.slice d.armSlot) ((s.core n).armedSlot d) })).armBegin n { seq := d.seq } := by
    rw [State.startArm]
    simp [hlive, hd.source, hd.raw, Core.armedSlot, Cmd.armSlot]
  rw [hbegin, State.armBegin_first (by rwa [State.modCore_length]) (by rw [hcore]; exact harms) (by rw [hcore]; exact hcmd)
    (by rw [hcore]; exact Core.armHeld_armed hgen), State.modCore_modCore _ _ _ hn,
    State.armRun_linear hd _ (by rwa [State.modCore_length]) (Nat.zero_add _) hd.steps,
    State.armOver_linear hd _ (by rwa [State.cores_length_place, State.modCore_length]), State.place]
  simp only [State.modCore_modCore _ _ _ hn]
  refine State.modCore_congr ?_
  simp [Core.armed, harms, linearXfers, List.range_eq_range', State.coreCtx_modCore]

/-! ### What a linear SX_ARM leaves -/

theorem cutSpan_ne_nil {va lines : Nat} (h : 1 ≤ lines) : cutSpan va lines ≠ [] := by
  rw [cutSpan, if_neg (by omega)]
  simp

theorem kind_of_mem_linearXfers {d : Cmd} {ctx : Nat} {x : Xfer} (h : x ∈ linearXfers d ctx) : x.kind = dirKind (fld (d.o 1) 27 26) := by
  obtain ⟨i, -, hx⟩ := List.mem_flatMap.mp h
  obtain ⟨t, -, rfl⟩ := List.mem_map.mp hx
  rfl

theorem dirKind_isMap (dir : Nat) : (dirKind dir).isMap = false := by
  unfold dirKind
  split_ifs <;> rfl

theorem dirKind_ne_workList (dir : Nat) : dirKind dir ≠ .workList := by
  unfold dirKind
  split_ifs <;> simp

/-- The command moves something. -/
theorem Cmd.Linear.exists_xfer {d : Cmd} (hd : d.Linear) (ctx : Nat) :
    ∃ x ∈ linearXfers d ctx, x.seq = d.seq ∧ x.kind ≠ .workList := by
  obtain ⟨x, hx⟩ := List.exists_mem_of_ne_nil (linearElem d ctx 0) (by simp [linearElem, armSpan, cutSpan_ne_nil hd.lines])
  have hmem : x ∈ linearXfers d ctx := List.mem_flatMap.mpr ⟨0, List.mem_range.mpr hd.count, hx⟩
  exact ⟨x, hmem, seq_of_mem_linearElem hx, kind_of_mem_linearXfers hmem ▸ dirKind_ne_workList _⟩

/-- Where no map write of the command waits, none is released. -/
theorem Core.releaseMaps_none {c : Core} {seq : Nat} (h : ∀ x ∈ c.waiting, x.seq = seq → x.kind.isMap = false) : c.releaseMaps seq = c := by
  have hmap : c.waiting.map (fun y => if y.seq = seq ∧ y.kind.isMap then { y with held := false } else y) = c.waiting := by
    exact (List.map_congr_left fun y hy => if_neg fun ⟨hseq, hmap⟩ => Bool.false_ne_true ((h y hy hseq).symm.trans hmap)).trans (List.map_id' _)
  unfold Core.releaseMaps
  split
  · rfl
  · rw [hmap]

theorem Core.kind_of_not_moving {c : Core} {seq : Nat} {x : Xfer} (h : c.moving seq = false) (hx : x ∈ c.waiting) (hseq : x.seq = seq) :
    x.kind = .workList := by
  have hany := List.any_eq_false.mp h x (List.mem_append_left _ hx)
  simpa [hseq] using hany

/-- A generation one of whose transfers waits has not ended. -/
theorem Core.genOver_of_waiting {c : Core} {seq : Nat} {x : Xfer} (hx : x ∈ c.waiting) (hseq : x.seq = seq) (hk : x.kind ≠ .workList) :
    c.genOver seq = false := by
  have hmoving : c.moving seq = true := List.any_eq_true.mpr ⟨x, List.mem_append_left _ hx, by simp [hseq, hk]⟩
  rw [Core.genOver, hmoving]
  rfl

theorem mget_map {α β : Type} (f : α → β) (m : NatMap α) (k : Nat) : mget (m.map (fun e => (e.1, f e.2))) k = (mget m k).map f := by
  induction m with
  | nil => rfl
  | cons a r ih =>
    simp only [List.map_cons, mget, ih]
    split_ifs <;> rfl

/-- The generations of a slot that the end of transfers leaves. -/
def Core.liveOf (c : Core) (x : DescSlot) : List (Nat × Nat) :=
  x.live.filter (fun g => !(c.genOver g.2) || (x.pending && x.live.getLast?.map Prod.snd == some g.2))

theorem Core.desc_settleGens (c : Core) (slice slot : Nat) :
    c.settleGens.desc slice slot = { c.desc slice slot with live := c.liveOf (c.desc slice slot) } := by
  have hget := mget_map (fun x => { x with live := c.liveOf x }) c.descs (slotKey slice slot)
  have hslot : c.settleGens.desc slice slot = ((mget c.descs (slotKey slice slot)).map (fun x => { x with live := c.liveOf x })).getD {} :=
    congrArg (fun o => o.getD ({} : DescSlot)) hget
  rw [hslot, Core.desc, mgetD]
  cases mget c.descs (slotKey slice slot) <;> rfl

theorem Core.desc_armed (c : Core) (d : Cmd) (ctx : Nat) : (c.armed d ctx).desc d.slice d.armSlot = c.armedSlot d := by
  rw [Core.desc, mgetD, Core.armed, mget_mput_same]
  rfl

theorem Core.waiting_settleGens (c : Core) : c.settleGens.waiting = c.waiting := rfl

theorem Core.spad_settleGens (c : Core) : c.settleGens.spad = c.spad := rfl

theorem Core.waiting_sxDone (c : Core) (seq : Nat) : (c.sxDone seq).waiting = c.waiting := rfl

theorem Core.spad_sxDone (c : Core) (seq : Nat) : (c.sxDone seq).spad = c.spad := rfl

/-- The armed generation is live, its transfers wait, and the cells are as they were. -/
theorem Core.armed_settled {c : Core} {d : Cmd} (hd : d.Linear) (ctx : Nat) (hm : c.moving d.seq = false) :
    let t := (((c.armed d ctx).releaseMaps d.seq).sxDone d.seq).settleGens
    t.desc d.slice d.armSlot = c.armedSlot d ∧ t.waiting = placeXfers c.waiting (linearXfers d ctx) d.seq ∧ t.spad = c.spad := by
  have hmaps : (c.armed d ctx).releaseMaps d.seq = c.armed d ctx := Core.releaseMaps_none fun x hx hseq => by
    obtain hx | hx := mem_placeXfers.mp hx
    · rw [Core.kind_of_not_moving hm hx hseq]; rfl
    · rw [kind_of_mem_linearXfers hx]; exact dirKind_isMap _
  obtain ⟨x, hx, hseq, hk⟩ := hd.exists_xfer ctx
  have hlive : ((c.armed d ctx).sxDone d.seq).genOver d.seq = false :=
    Core.genOver_of_waiting (mem_placeXfers.mpr (.inr hx)) hseq hk
  have hdesc : ((c.armed d ctx).sxDone d.seq).desc d.slice d.armSlot = c.armedSlot d := c.desc_armed d ctx
  dsimp only
  rw [hmaps, Core.waiting_settleGens, Core.waiting_sxDone, Core.spad_settleGens, Core.spad_sxDone, Core.desc_settleGens, hdesc]
  refine ⟨?_, by rw [Core.armed], by rw [Core.armed]⟩
  simp [Core.liveOf, Core.armedSlot, hlive]

end Sys2Proof.Machine
end

section
/-! The coding of Facet blocks and the statement on the stream-engine commands (O28). -/

namespace Sys2Proof.Machine

/-! ### Port accesses keep the active stream-engine commands -/

/-- Core `n` has in `t` the active SX commands that it has in `s`. -/
structure State.KeepsSx (n : Nat) (s t : State) : Prop where
  active : (t.core n).sxA = (s.core n).sxA
  length : t.cores.length = s.cores.length

theorem Core.sxA_foldl {α : Type} {f : Core → α → Core} (hf : ∀ c a, (f c a).sxA = c.sxA) (l : List α) (c : Core) :
    (l.foldl f c).sxA = c.sxA := by
  induction l generalizing c with
  | nil => rfl
  | cons a l ih => rw [List.foldl_cons, ih, hf]

theorem Core.sxA_spadPut (c : Core) (a : Nat) (bs : List Byte) : (c.spadPut a bs).sxA = c.sxA := by
  unfold Core.spadPut
  dsimp only
  refine Core.sxA_foldl ?_ _ c
  intro c l
  rfl

namespace State.KeepsSx
variable {n : Nat} {s t u : State}

theorem refl (n : Nat) (s : State) : KeepsSx n s s := ⟨rfl, rfl⟩

theorem trans (h : KeepsSx n s t) (k : KeepsSx n t u) : KeepsSx n s u := ⟨k.active.trans h.active, k.length.trans h.length⟩

theorem of_cores (h : t.cores = s.cores) : KeepsSx n s t := ⟨by rw [State.core, h, State.core], by rw [h]⟩

theorem setReg (s : State) (k : Nat) (v : Word) : KeepsSx n s (s.setReg k v) := of_cores (s.setReg_cores k v)

theorem cBump (s : State) (off k : Nat) : KeepsSx n s (s.cBump n off k) := of_cores (s.cBump_cores n off k)

theorem modCore (s : State) {f : Core → Core} (hf : ∀ c, (f c).sxA = c.sxA) : KeepsSx n s (s.modCore n f) := by
  refine ⟨?_, s.modCore_length n f⟩
  by_cases hn : n < s.cores.length
  · rw [s.core_modCore_same f hn, hf]
  · rw [State.modCore, State.setCore, State.core, List.set_eq_of_length_le (not_lt.mp hn), State.core]

theorem foldl {α : Type} {f : State → α → State} (hf : ∀ s a, KeepsSx n s (f s a)) (l : List α) (s : State) : KeepsSx n s (l.foldl f s) := by
  induction l generalizing s with
  | nil => exact refl n s
  | cons a l ih => exact (hf s a).trans (ih _)

theorem grant (s : State) (l : Nat) : KeepsSx n s (s.grant n l) := by
  unfold State.grant
  dsimp only
  split
  · exact refl n s
  · exact (modCore s (by intro c; rfl)).trans (cBump _ _ _)

theorem spadCe (s : State) (u : Nat) : KeepsSx n s (s.spadCe n u) :=
  (setReg s _ _).trans ((modCore _ (by intro c; rfl)).trans (cBump _ _ _))

theorem spadEvent (s : State) (port bit line : Nat) : KeepsSx n s (s.spadEvent n port bit line) := of_cores (s.cores_spadEvent n port bit line)

theorem readLine (s : State) (port l : Nat) : KeepsSx n s (s.readLine n port l).1 := by
  have hce := foldl (fun (s : State) (u : Nat) => spadCe (n := n) s u)
    (((List.range 8).map (8 * l + ·)).filter (s.core n).spadSoft.contains) s
  unfold State.readLine
  dsimp only
  split
  · exact cBump _ _ _
  · split
    · exact hce
    · exact hce.trans ((spadEvent _ _ _ _).trans (cBump _ _ _))

theorem readLines (s : State) (port : Nat) (ls : List Nat) : KeepsSx n s (s.readLines n port ls).1 := by
  induction ls generalizing s with
  | nil => exact refl n s
  | cons l ls ih =>
    rw [State.readLines]
    dsimp only
    split
    · exact (readLine s port l).trans (ih _)
    · exact (readLine s port l).trans ((ih _).trans (setReg _ _ _))

theorem readReq (s : State) (port : Nat) (req : List (Nat × Nat)) : KeepsSx n s (s.readReq n port req).1 := by
  unfold State.readReq
  dsimp only
  split
  · exact (spadEvent _ _ _ _).trans (cBump _ _ _)
  · exact (foldl (fun s l => grant s l) _ s).trans (readLines _ _ _)

theorem engReads (s : State) (port : Nat) (rs : List (Nat × Nat)) (qs : List (List (Nat × Nat))) : KeepsSx n s (s.engReads n port rs qs).1 := by
  induction qs generalizing s with
  | nil => exact refl n s
  | cons q qs ih =>
    have hreq := readReq (n := n) s port q
    rw [State.engReads]
    split
    · split
      · next e => rwa [e] at hreq
      · next e =>
        rw [e] at hreq
        exact hreq.trans (ih _)
    · exact refl n s

theorem engRead {port a len : Nat} {rs : List (Nat × Nat)} {r : Except Nat (List Byte)} (h : s.engRead n port rs a len = (t, r)) :
    KeepsSx n s t := by
  have hreads := engReads (n := n) s port rs (linReqs a len)
  unfold State.engRead at h
  split at h <;> next e => rw [e] at hreads; obtain ⟨rfl, -⟩ := Prod.mk.inj h; exact hreads

theorem writeReq (s : State) (port : Nat) (req : List (Nat × List Byte)) : KeepsSx n s (s.writeReq n port req).1 := by
  have hput := Core.sxA_foldl (fun c (x : Nat × List Byte) => c.sxA_spadPut x.1 x.2) req
  unfold State.writeReq
  dsimp only
  split
  · exact (spadEvent _ _ _ _).trans (cBump _ _ _)
  · exact (foldl (fun s l => grant s l) _ s).trans (modCore _ hput)

theorem engWrites (s : State) (port : Nat) (rs : List (Nat × Nat)) (qs : List (List (Nat × List Byte))) :
    KeepsSx n s (s.engWrites n port rs qs).1 := by
  induction qs generalizing s with
  | nil => exact refl n s
  | cons q qs ih =>
    have hreq := writeReq (n := n) s port q
    rw [State.engWrites]
    split
    · split
      · next e => rwa [e] at hreq
      · next e =>
        rw [e] at hreq
        exact hreq.trans (ih _)
    · exact refl n s

theorem engWrite {port a : Nat} {rs : List (Nat × Nat)} {bs : List Byte} {r : Option Nat} (h : s.engWrite n port rs a bs = (t, r)) :
    KeepsSx n s t := by
  have hwrites : KeepsSx n s (s.engWrite n port rs a bs).1 := engWrites _ _ _ _
  rwa [h] at hwrites

theorem encBlocks {d : Cmd} {k i : Nat} {r : Except Nat (List (List Byte))} (h : s.encBlocks n d k i = (t, r)) : KeepsSx n s t := by
  induction k generalizing s i r with
  | zero =>
    obtain ⟨rfl, -⟩ := Prod.mk.inj h
    exact refl n s
  | succ k ih =>
    rw [State.encBlocks] at h
    split at h
    · next e =>
      obtain ⟨rfl, -⟩ := Prod.mk.inj h
      exact engRead e
    · next e =>
      split at h <;> next e' => obtain ⟨rfl, -⟩ := Prod.mk.inj h; exact (engRead e).trans (ih e')

theorem encodeBlocks {d : Cmd} {ft : FTable} {th left i off : Nat} {r : Option Nat} (h : s.encodeBlocks n d ft th left i off = (t, r)) :
    KeepsSx n s t := by
  induction left generalizing s i off with
  | zero =>
    obtain ⟨rfl, -⟩ := Prod.mk.inj h
    exact refl n s
  | succ left ih =>
    rw [State.encodeBlocks] at h
    split at h
    · next e =>
      obtain ⟨rfl, -⟩ := Prod.mk.inj h
      exact engRead e
    · next e =>
      dsimp only at h
      split at h
      · next e1 =>
        obtain ⟨rfl, -⟩ := Prod.mk.inj h
        exact (engRead e).trans (engWrite e1)
      · next e1 =>
        split at h
        · next e2 =>
          obtain ⟨rfl, -⟩ := Prod.mk.inj h
          exact (engRead e).trans ((engWrite e1).trans (engWrite e2))
        · next e2 =>
          have hwritten := (engRead e).trans ((engWrite e1).trans (engWrite e2))
          split at h
          · exact hwritten.trans ((cBump _ _ _).trans ((cBump _ _ _).trans (ih h)))
          · exact hwritten.trans ((cBump _ _ _).trans (ih h))

end State.KeepsSx

/-! ### Nothing is left to code -/

theorem State.noCoding_coreFault (s : State) {n : Nat} (code va : Nat) (hn : n < s.cores.length) : ((s.coreFault n code va).core n).NoCoding := by
  obtain ⟨outs, h⟩ := s.core_coreFault code va hn
  rw [h]
  intro x hx _
  obtain ⟨y, -, rfl⟩ := List.mem_map.mp hx
  rfl

/-- Once `d` is done no command codes, if none beside it did. -/
theorem State.noCoding_sxDone {s : State} {n : Nat} {d : Cmd} (hn : n < s.cores.length)
    (h : ∀ x ∈ (s.core n).sxA, x.op = opSxFacetEnc → x.done = true ∨ x.seq = d.seq) :
    ((s.modCore n (fun c => c.sxDone d.seq)).core n).NoCoding := by
  rw [s.core_modCore_same _ hn]
  intro x hx hop
  obtain ⟨y, hy, rfl⟩ := List.mem_map.mp hx
  by_cases hseq : y.seq = d.seq
  · rw [if_pos hseq]
  · rw [if_neg hseq] at hop ⊢
    exact (h y hy hop).resolve_right hseq

theorem State.cores_lpeInfo (s : State) (n detail sub block : Nat) : (s.lpeInfo n detail sub block).cores = s.cores := by
  rw [State.lpeInfo, State.nextFree_cores, State.setReg_cores]

section Coding
variable {s : State} {n : Nat} {d : Cmd} (hn : n < s.cores.length)
  (h : ∀ x ∈ (s.core n).sxA, x.op = opSxFacetEnc → x.done = true ∨ x.seq = d.seq)
include hn h

theorem State.KeepsSx.noCoding_sxDone {t : State} (hk : KeepsSx n s t) : ((t.modCore n (fun c => c.sxDone d.seq)).core n).NoCoding :=
  State.noCoding_sxDone (hk.length ▸ hn) (hk.active ▸ h)

theorem State.noCoding_runHist : ((s.runHist n d).core n).NoCoding := by
  unfold State.runHist
  dsimp only
  split
  · next e => exact State.noCoding_coreFault _ _ _ ((KeepsSx.encBlocks e).length ▸ hn)
  · next e =>
    split
    · next e1 => exact State.noCoding_coreFault _ _ _ (((KeepsSx.encBlocks e).trans (KeepsSx.engWrite e1)).length ▸ hn)
    · next e1 => exact ((KeepsSx.encBlocks e).trans (KeepsSx.engWrite e1)).noCoding_sxDone hn h

theorem State.noCoding_runEncode : ((s.runEncode n d).core n).NoCoding := by
  unfold State.runEncode
  dsimp only
  split
  · next e => exact State.noCoding_coreFault _ _ _ ((KeepsSx.engRead e).length ▸ hn)
  · next e =>
    split
    · exact State.noCoding_coreFault _ _ _ (by rw [State.cores_lpeInfo]; exact (KeepsSx.engRead e).length ▸ hn)
    · split
      · next e1 => exact State.noCoding_coreFault _ _ _ (((KeepsSx.engRead e).trans (KeepsSx.encodeBlocks e1)).length ▸ hn)
      · next e1 => exact ((KeepsSx.engRead e).trans (KeepsSx.encodeBlocks e1)).noCoding_sxDone hn h

/-- HIST and ENCODE are over, with a fault or without, when they have run. -/
theorem State.noCoding_startEnc (hop : fld (d.o 1) 31 30 ≠ 2) : ((s.startEnc n d).core n).NoCoding := by
  rw [State.startEnc, if_neg hop]
  split
  · exact State.noCoding_runHist hn h
  · exact State.noCoding_runEncode hn h

end Coding

/-! ### SX_FACET_ENC -/

section Encoder
variable {s : State} {n : Nat} {d : Cmd} {q : List Cmd}

/-- HIST and ENCODE run when they issue, and nothing more happens. -/
theorem State.SxIssues.doSxFacetEnc (h : s.SxIssues n d q) (hn : n < s.cores.length) (hop : d.op = opSxFacetEnc)
    (hnot : fld (d.o 1) 31 30 ≠ 2) (hno : (s.core n).NoCoding) : s.doSxFacetEnc n = (s.sxIssued n d q).startEnc n d := by
  rw [State.doSxFacetEnc_stages, State.dispatch_nothing _ _ _ h.head, h.issue _ hop rfl]
  refine State.endExpand_noCoding (State.noCoding_startEnc (by rwa [State.cores_length_sxIssued]) (fun x hx hx' => ?_) hnot)
  rw [s.core_sxIssued d q hn] at hx
  obtain hx | hx := List.mem_append.mp hx
  · exact .inl (hno x hx hx')
  · exact .inr (by rw [List.mem_singleton.mp hx])

/-- HIST writes the table that is built from its blocks. -/
theorem State.startEnc_hist {u v : State} {blocks : List (List Byte)} (hop : fld (d.o 1) 31 30 = 0)
    (hb : s.encBlocks n d (fld (d.o 1) 6 0) 0 = (u, .ok blocks))
    (hw : u.engWrite n 4 d.wrs (4 * d.wr 0) (bytesOf (fctBuild (fld (d.o 1) 29 28) blocks).record) = (v, none)) :
    s.startEnc n d = v.modCore n (fun c => c.sxDone d.seq) := by
  have hnot : fld (d.o 1) 31 30 ≠ 2 := by omega
  rw [State.startEnc, if_neg hnot, if_pos hop, State.runHist, hb]
  dsimp only
  rw [hw]

/-- With nothing queued SX_FACET_ENC ends the EXPAND at work when the Loupe has released its blocks. -/
theorem State.doSxFacetEnc_expands (hh : (s.core n).head = none) (hq : (s.core n).sxQ = [])
    (hd : (s.core n).sxA.find? (fun x => x.op == opSxFacetEnc && !x.done) = some d) :
    s.doSxFacetEnc n = if (s.core n).loupeReady d.seq then s.modCore n (fun c => c.sxDone d.seq) else s := by
  rw [State.doSxFacetEnc_stages, State.dispatch_nothing _ _ _ hh, State.sxIssue_empty _ _ _ hq, State.endExpand, hd]

end Encoder

/-! ### The statement -/

/-- A linear SX_ARM of an idle slot issues whole: its generation is live and its transfers wait. -/
theorem State.SxIssues.exec_sxArm {s : State} {n : Nat} {d : Cmd} {q : List Cmd} (h : s.SxIssues n d q) (hn : n < 32) (hon : s.domOn n = true)
    (hc : n < s.cores.length) (hd : d.Linear) (hmay : (s.core n).canArm d = true) (hlive : ((s.core n).desc d.slice d.armSlot).live = [])
    (hm : (s.core n).moving d.seq = false) (harms : (s.core n).arms = []) (hseq : ∀ y ∈ (s.core n).sxA, y.seq ≠ d.seq)
    (hgen : ∀ e ∈ (s.core n).descs, ∀ g ∈ e.2.live, g.2 ≠ d.seq) :
    ∃ t, exec (.sxArm n) s = .next t ∧ t.mem = s.mem ∧ (t.core n).spad = (s.core n).spad ∧ (∀ m, m ≠ n → t.core m = s.core m) ∧
      (t.core n).desc d.slice d.armSlot = (s.core n).armedSlot d ∧
      (t.core n).waiting = placeXfers (s.core n).waiting (linearXfers d (s.coreCtx n)) d.seq := by
  have hcore := s.core_sxIssued d q hc
  have hlen : n < (s.sxIssued n d q).cores.length := by rwa [State.cores_length_sxIssued]
  have hcmd : ((s.core n).sxA ++ [d]).find? (fun x => x.seq == d.seq) = some d := by
    rw [List.find?_append, List.find?_eq_none.mpr fun y hy => by simpa using hseq y hy]
    simp
  obtain ⟨hdesc, hwait, hspad⟩ := Core.armed_settled (c := (s.sxIssued n d q).core n) hd (s.coreCtx n) (by rw [hcore]; exact hm)
  refine ⟨_, exec_core (f := fun s => s.doSxArm n) rfl hn hon ((h.doSxArm hd.op hmay).trans
    (State.startArm_linear hd hlen (by rw [hcore]; exact hlive) (by rw [hcore]; exact harms) (by rw [hcore]; exact hcmd)
      (by rw [hcore]; exact hgen))), ?_⟩
  rw [State.core_modCore_same _ _ hlen]
  refine ⟨rfl, hspad.trans (by rw [hcore]), fun m hm => ?_, hdesc.trans (by rw [hcore]; rfl), hwait.trans (by rw [hcore])⟩
  exact (State.core_modCore_ne _ _ hm).trans (s.core_modCore_ne _ hm)

/-- A raw source starts with all its flits to inject and their reads waiting. -/
theorem State.SxIssues.doSxNklSource_raw {s : State} {n : Nat} {d : Cmd} {q : List Cmd} (h : s.SxIssues n d q) (hc : n < s.cores.length)
    (hop : d.op = opSxSource) (hsrc : (s.core n).srcs = []) (hraw : flag (d.o 2) 31 = false) :
    s.doSxNklSource n = (s.sxIssued n d q).modCore n (fun c => Core.sxDone { c with
      srcs := [sourceOf d (s.coreCtx n) (s.core n).batchId (rawFlits d)]
      waiting := placeXfers c.waiting (srcXfers d (s.coreCtx n) (rawFlits d)) d.seq } d.seq) := by
  have hcore := s.core_sxIssued d q hc
  have hci : n < (s.sxIssued n d q).cores.length := by rwa [State.cores_length_sxIssued]
  have hbatch : ((s.sxIssued n d q).core n).batchId = (s.core n).batchId := by rw [hcore]; rfl
  rw [h.doSxNklSource hop, State.startSource_raw hci (by rw [hcore]; exact hsrc) hraw, hbatch, State.coreCtx_sxIssued]
  refine State.inject_noData fun t ht => ?_
  rw [State.core_modCore_same _ _ hci] at ht
  rw [List.mem_singleton.mp ht]
  rfl

/-- Settles O28: each command by what its start leaves of the core. -/
theorem streamCommandsIssue : Obligations.StreamCommandsIssue := by
  intro s n d q hn hon hlen
  have hc : n < s.cores.length := hlen ▸ hn
  have hci : n < (s.sxIssued n d q).cores.length := by rwa [State.cores_length_sxIssued]
  have hcore := s.core_sxIssued d q hc
  intro c issued hh
  refine ⟨fun hq hclear hlive hfree => ?_, fun hq hd => ⟨fun hready => ?_, fun hready => ?_⟩, fun hq hsrc => exec_sx_idle hn hon hh hq hsrc⟩
  · have h : s.SxIssues n d q := ⟨hh, hq, hclear, hlive, hfree⟩
    refine ⟨fun hop => ?_, fun hop hmay hlin hraw hdir hslot hm harms hseq hgen hcount hlines hfits => ?_, fun hop => ?_, fun hop hsrc hraw => ?_,
      fun hop => ?_, fun hop hraw hseen => ?_, fun hop hnot hno => ?_, fun u v blocks hop hhist hno hb hw hv => ?_⟩
    · exact exec_core (f := fun s => s.doSxWait n) rfl hn hon (h.doSxWait hop)
    · exact h.exec_sxArm hn hon hc ⟨hop, hlin, hraw, hdir, hcount, hlines, hfits⟩ hmay hslot hm harms hseq hgen
    · exact exec_core (f := fun s => s.doSxNklSource n) rfl hn hon (h.doSxNklSource hop)
    · refine ⟨_, sourceOf d (s.coreCtx n) (s.core n).batchId (rawFlits d), exec_core (f := fun s => s.doSxNklSource n) rfl hn hon
        (h.doSxNklSource_raw hc hop hsrc hraw), ?_⟩
      rw [State.core_modCore_same _ _ hci, hcore]
      exact ⟨rfl, rfl, rfl, rfl, rfl, rfl, rfl, rfl, rfl, rfl, fun m hm => (State.core_modCore_ne _ _ hm).trans (s.core_modCore_ne _ hm)⟩
    · exact exec_core (f := fun s => s.doSxNklTake n) rfl hn hon (h.doSxNklTake hop)
    · refine ⟨_, rawTake d (s.coreCtx n) (s.core n).batchId s.now, exec_core (f := fun s => s.doSxNklTake n) rfl hn hon
        ((h.doSxNklTake hop).trans (State.startTake_raw hci hraw (by rw [hcore]; exact hseen))), ?_⟩
      rw [State.core_modCore_same _ _ hci, hcore]
      exact ⟨rfl, rfl, rfl, rfl, rfl, rfl, rfl, rfl, rfl, rfl, rfl, rfl, rfl, rfl⟩
    · exact exec_core (f := fun s => s.doSxFacetEnc n) rfl hn hon (h.doSxFacetEnc hc hop hnot hno)
    · exact exec_core (f := fun s => s.doSxFacetEnc n) rfl hn hon
        ((h.doSxFacetEnc hc hop (by omega) hno).trans (State.startEnc_hist hhist hb hw))
  · exact exec_core (f := fun s => s.doSxFacetEnc n) rfl hn hon ((State.doSxFacetEnc_expands hh hq hd).trans (if_pos hready))
  · exact exec_core (f := fun s => s.doSxFacetEnc n) rfl hn hon
      ((State.doSxFacetEnc_expands hh hq hd).trans (if_neg (hready ▸ Bool.false_ne_true)))

end Sys2Proof.Machine
end

section
/-! The commands of the matrix unit and the tile queue (O25). -/

namespace Sys2Proof.Machine

/-! ### What strikes a core leaves its engines -/

theorem State.cores_length_strike (s : State) (n : Nat) (inj : Inject) : (s.strike n inj).cores.length = s.cores.length := by
  cases inj with
  | lineUe u => exact s.modCore_length n _
  | lineCe u => exact s.modCore_length n _
  | _ => rfl

/-- Only the errors that lie in the scratchpad change. -/
theorem State.core_strike (s : State) {n : Nat} (inj : Inject) (hn : n < s.cores.length) :
    ∃ bad soft, (s.strike n inj).core n = { s.core n with spadBad := bad, spadSoft := soft } := by
  cases inj with
  | lineUe u => exact ⟨_, _, s.core_modCore_same _ hn⟩
  | lineCe u => exact ⟨_, _, s.core_modCore_same _ hn⟩
  | _ => exact ⟨_, _, rfl⟩

/-! ### Reads of the matrix unit keep the number of cores -/

theorem State.cores_length_engRuns {s t : State} {n port : Nat} {rs runs : List (Nat × Nat)} {r : Except Nat (List (List Byte))}
    (h : s.engRuns n port rs runs = (t, r)) : t.cores.length = s.cores.length := by
  have hreads := s.cores_length_engReads n port rs (runReqs [] runs)
  unfold State.engRuns at h
  split at h <;> next e => rw [e] at hreads; obtain ⟨rfl, -⟩ := Prod.mk.inj h; exact hreads

theorem State.cores_loadCyc (s : State) (n bytes : Nat) : (s.loadCyc n bytes).cores = s.cores := by
  unfold State.loadCyc
  split
  · rfl
  · exact s.cBump_cores _ _ _

theorem State.cores_length_loadPart {s t : State} {n a len : Nat} {rs : List (Nat × Nat)} {r : Except Nat (List Byte)}
    (h : s.loadPart n rs a len = (t, r)) : t.cores.length = s.cores.length := by
  unfold State.loadPart at h
  split at h
  · next e =>
    obtain ⟨rfl, -⟩ := Prod.mk.inj h
    exact State.cores_length_engRead e
  · next e =>
    obtain ⟨rfl, -⟩ := Prod.mk.inj h
    rw [State.cores_loadCyc, State.cores_length_engRead e]

theorem State.cores_length_readSide {s t : State} {n a : Nat} {rs : List (Nat × Nat)} {lens : List Nat} {r : Except Nat (List (List Byte))}
    (h : s.readSide n rs a lens = (t, r)) : t.cores.length = s.cores.length := by
  induction lens generalizing s a r with
  | nil =>
    obtain ⟨rfl, -⟩ := Prod.mk.inj h
    rfl
  | cons len lens ih =>
    rw [State.readSide] at h
    split at h
    · next e =>
      obtain ⟨rfl, -⟩ := Prod.mk.inj h
      exact State.cores_length_loadPart e
    · next e =>
      split at h <;> next e' => obtain ⟨rfl, -⟩ := Prod.mk.inj h; exact (ih e').trans (State.cores_length_loadPart e)

theorem State.cores_length_readRows {s t : State} {n mb r k : Nat} {d : Cmd} {p : Plane} {out : Option (List Byte)}
    {x : Except Nat (List (List Nat) × Nat)} (h : s.readRows n d p out mb r k = (t, x)) : t.cores.length = s.cores.length := by
  unfold State.readRows at h
  dsimp only at h
  split at h
  · split at h
    · obtain ⟨rfl, -⟩ := Prod.mk.inj h
      rfl
    · obtain ⟨rfl, -⟩ := Prod.mk.inj h
      rw [State.cores_lpeInfo]
  · split at h <;> next e => obtain ⟨rfl, -⟩ := Prod.mk.inj h; exact State.cores_length_engRuns e

theorem State.cores_length_readScales {s t : State} {n r k : Nat} {d : Cmd} {p : Plane} {x : Except Nat (List (List Nat))}
    (h : s.readScales n d p r k = (t, x)) : t.cores.length = s.cores.length := by
  unfold State.readScales at h
  split at h
  · obtain ⟨rfl, -⟩ := Prod.mk.inj h
    rfl
  · split at h <;> next e => obtain ⟨rfl, -⟩ := Prod.mk.inj h; exact State.cores_length_engRuns e

theorem State.cores_enterRow (s : State) (n : Nat) (p : Plane) : (s.enterRow n p).cores = s.cores := by
  unfold State.enterRow
  dsimp only
  split
  · rw [State.cBump_cores, State.cBump_cores]
  · exact s.cBump_cores _ _ _

theorem State.cores_enterRows {s t : State} {n r : Nat} {d : Cmd} {p : Plane} {par : Option Nat} {l : List (List Nat × List Nat)}
    {x : Option (List (List Word))} (h : s.enterRows n d p par r l = (t, x)) : t.cores = s.cores := by
  induction l generalizing s r x with
  | nil =>
    obtain ⟨rfl, -⟩ := Prod.mk.inj h
    rfl
  | cons y l ih =>
    rw [State.enterRows] at h
    dsimp only at h
    split at h
    · obtain ⟨rfl, -⟩ := Prod.mk.inj h
      exact s.cores_enterRow n p
    · obtain ⟨rfl, -⟩ := Prod.mk.inj h
      exact (ih rfl).trans (s.cores_enterRow n p)

theorem State.cores_length_matmulRows {s t : State} {n fuel left mb r : Nat} {d : Cmd} {p : Plane} {out : Option (List Byte)}
    {par : Option Nat} {x : Except Nat (List (List Word) × Nat)} (h : s.matmulRows n d p out par fuel left mb r = (t, x)) :
    t.cores.length = s.cores.length := by
  induction fuel generalizing s left mb r x with
  | zero =>
    obtain ⟨rfl, -⟩ := Prod.mk.inj h
    rfl
  | succ fuel ih =>
    rw [State.matmulRows] at h
    split at h
    · obtain ⟨rfl, -⟩ := Prod.mk.inj h
      rfl
    · dsimp only at h
      split at h
      · next e =>
        obtain ⟨rfl, -⟩ := Prod.mk.inj h
        exact State.cores_length_readRows e
      · next erows =>
        have hrows := State.cores_length_readRows erows
        split at h
        · next e =>
          obtain ⟨rfl, -⟩ := Prod.mk.inj h
          exact (State.cores_length_readScales e).trans hrows
        · next escales =>
          have hscales := (State.cores_length_readScales escales).trans hrows
          split at h
          · next e =>
            obtain ⟨rfl, -⟩ := Prod.mk.inj h
            exact (congrArg List.length (State.cores_enterRows e)).trans hscales
          · next e =>
            have henter := (congrArg List.length (State.cores_enterRows e)).trans hscales
            split at h <;> next e' => obtain ⟨rfl, -⟩ := Prod.mk.inj h; exact (ih e').trans henter

/-! ### Commands of the matrix unit with nothing to dispatch -/

theorem State.mxIssue_empty {s : State} {n : Nat} (op : Nat) (start : Core → Cmd → Core) (h : (s.core n).mxQ = []) :
    s.mxIssue n op start = s := by
  rw [State.mxIssue, h]
  rfl

theorem Core.issuable_head {c : Core} {d : Cmd} {q : List Cmd} {op : Nat} (hop : d.op = op) (hclear : c.hazard d.seq d.rds d.wrs = false) :
    c.issuable (d :: q) op = some d := if_pos ⟨hop, by rw [hclear]; rfl⟩

section NothingQueued
variable {s : State} {n : Nat} {d : Cmd} (inj : Inject) (hh : (s.core n).head = none) (hq : (s.core n).mxQ = [])
include hh hq

theorem State.doMxLoad_runs (hd : (s.core n).mxRunning opMxLoad = some d) (hready : loadFacet d = none ∨ (s.core n).loupeReady d.seq = true) :
    s.doMxLoad n inj = s.runLoad n d inj := by
  rw [State.doMxLoad, State.dispatch_nothing _ _ _ hh, State.mxIssue_empty _ _ hq, hd]
  refine if_pos ?_
  rwa [Bool.or_eq_true, Option.isNone_iff_eq_none]

theorem State.doMxMatmul_continues : s.doMxMatmul n inj = s.stepMatmul n inj := by
  rw [State.doMxMatmul, State.dispatch_nothing _ _ _ hh, hq]
  simp [Core.issuable]

end NothingQueued

theorem State.stepMatmul_runs {s : State} {n : Nat} {d : Cmd} (inj : Inject) (hd : (s.core n).mxRunning opMxMatmul = some d)
    (hready : flag (d.o 1) 25 = false ∨ (s.core n).loupeReady d.seq = true) : s.stepMatmul n inj = (s.strike n inj).runMatmul n inj 2 d := by
  rw [State.stepMatmul, hd]
  refine if_pos ?_
  rwa [Bool.or_eq_true, Bool.not_eq_true']

theorem State.stepMatmul_idle {s : State} {n : Nat} (inj : Inject) (h : (s.core n).mxRunning opMxMatmul = none) : s.stepMatmul n inj = s := by
  rw [State.stepMatmul, h]

theorem done_of_mem_markDone {l : List Cmd} {seq : Nat} {x : Cmd} (hx : x ∈ markDone l seq) (hseq : x.seq = seq) : x.done = true := by
  obtain ⟨y, -, rfl⟩ := List.mem_map.mp hx
  by_cases h : y.seq = seq
  · rw [if_pos h]
  · rw [if_neg h] at hseq
    exact absurd hseq h

/-! ### A load without packed operand, escapes and block checks (R115-R121) -/

/-- A load that takes all of its operands as they lie in the scratchpad, of a format without escapes, with no check of its block. -/
structure Cmd.PlainLoad (d : Cmd) : Prop where
  data : flag (d.o 1) 25 = false
  escapes : flag (d.o 1) 24 = false
  format : fld (d.o 1) 31 28 ≠ 2
  block : flag (d.o 2) 31 = false

/-- The plane that such a load leaves, from the bytes of its elements and of its side table. -/
def Cmd.plainPlane (d : Cmd) (data : List Byte) (side : List (List Byte)) : Plane :=
  { valid := true, fmt := fld (d.o 1) 31 28, gsize := fld (d.o 1) 27 26, k := fld (d.o 1) 19 10, n := fld (d.o 1) 9 0
    elems := unpackBits (weightBits (fld (d.o 1) 31 28)) (fld (d.o 1) 19 10 * fld (d.o 1) 9 0) data
    scales := (side.getD 0 []).map BitVec.toNat, books := (side.getD 1 []).map BitVec.toNat, escs := [], emax := 0
    escTotal := fld (d.o 3) 15 0 }

/-- The load `d` is done, with `p` in the plane that it targets. -/
def Core.loadDone (c : Core) (d : Cmd) (p : Plane) : Core := ({ c.setFront p with loaded := true }).mxDone d.seq

theorem State.loadPart_empty (s : State) (n a : Nat) (rs : List (Nat × Nat)) : s.loadPart n rs a 0 = (s, .ok []) := by
  have hreqs : linReqs a 0 = [] := by simp [linReqs, linesOf, ceilDiv]
  rw [State.loadPart, State.engRead, hreqs]
  rfl

theorem Cmd.PlainLoad.noFacet {d : Cmd} (h : d.PlainLoad) : loadFacet d = none := by
  rw [loadFacet, h.data, h.escapes]
  rfl

theorem Cmd.PlainLoad.noEscapeBytes {d : Cmd} (h : d.PlainLoad) : (loadParts d).getD 3 0 = 0 := if_neg h.format

theorem State.runLoad_plain {s u v : State} {n : Nat} {d : Cmd} {inj : Inject} {data : List Byte} {side : List (List Byte)} (h : d.PlainLoad)
    (hdata : (s.strike n inj).loadPart n d.rds (4 * d.rd 0) (fld (d.o 1) 19 10 * fld (d.o 1) 9 0 * weightBits (fld (d.o 1) 31 28) / 8) =
      (u, .ok data))
    (hside : u.readSide n d.rds (4 * d.rd 1) ((loadParts d).take 3) = (v, .ok side)) :
    s.runLoad n d inj = v.modCore n (fun c => c.loadDone d (d.plainPlane data side)) := by
  have hemax : ((List.range (fld (d.o 1) 9 0)).map (fun col => (([] : List (Nat × Nat × Nat)).filter (fun e => e.1 == col)).length)).foldl max 0
      = 0 := by
    rw [List.foldl_map]
    exact List.foldl_fixed' (fun _ => rfl) _
  simp only [State.runLoad, h.data, h.escapes, h.block, h.format, h.noEscapeBytes, Bool.false_eq_true, false_and, if_false, hdata, hside,
    State.loadPart_empty, hemax]
  rfl

theorem Core.front_loadDone (c : Core) (d : Cmd) (p : Plane) : (c.loadDone d p).front = c.front := by
  unfold Core.loadDone Core.setFront
  split <;> rfl

theorem Core.frontPlane_loadDone (c : Core) (d : Cmd) (p : Plane) : (c.loadDone d p).frontPlane = p := by
  rw [Core.frontPlane, c.front_loadDone]
  unfold Core.loadDone Core.setFront
  split <;> rfl

/-- The load leaves the plane that it does not target. -/
theorem Core.otherPlane_loadDone (c : Core) (d : Cmd) (p : Plane) :
    if c.front = 0 then (c.loadDone d p).plane1 = c.plane1 else (c.loadDone d p).plane0 = c.plane0 := by
  unfold Core.loadDone Core.setFront
  split <;> rfl

theorem Core.done_loadDone (c : Core) (d : Cmd) (p : Plane) : ∀ x ∈ (c.loadDone d p).mxA, x.seq = d.seq → x.done = true :=
  fun _ hx => done_of_mem_markDone hx

/-! ### A product of at most one row block (R122, R128, R129) -/

/-- All rows of the command `d` have entered the array: their tiles are staged and it is done. -/
def Core.rowsDone (c : Core) (d : Cmd) (mark : Nat) (tiles : List Tile) : Core :=
  (({ c with staging := c.staging ++ tiles.map (fun t => (d.seq, t)) }).mxAt d.seq 16 mark).mxDone d.seq

/-- A product that has not begun, of 1 to 16 rows of an operand that is not packed. -/
structure Cmd.OneBlock (d : Cmd) : Prop where
  data : flag (d.o 1) 25 = false
  start : d.prog = 0
  rows : 0 < fld (d.o 1) 15 0
  block : fld (d.o 1) 15 0 ≤ 16

theorem Core.buffers_empty {c : Core} (h : c.staging = []) : c.buffers = 0 := by
  rw [Core.buffers, h]
  rfl

theorem State.runMatmul_oneBlock {s u : State} {n fuel mb : Nat} {d : Cmd} {inj : Inject} {rows : List (List Word)} (h : d.OneBlock)
    (hinj : ∀ r, inj ≠ .planeParity r) (hstage : (s.core n).staging = []) (hn : n < s.cores.length)
    (hrows : s.matmulRows n d (s.core n).frontPlane none none 16 (fld (d.o 1) 15 0) d.mark 0 = (u, .ok (rows, mb))) :
    s.runMatmul n inj (fuel + 1) d = u.modCore n (fun c => c.rowsDone d mb
      (tilesOf rows (fld (d.o 1) 15 0) (s.core n).frontPlane.n (fld (d.o 4) 15 0) 0 (fld (d.o 1) 27 26 == 1))) := by
  have hu : n < u.cores.length := by rwa [State.cores_length_matmulRows hrows]
  have hrun : ¬ (2 ≤ (s.core n).buffers ∨ fld (d.o 1) 15 0 ≤ d.prog) := by
    rw [Core.buffers_empty hstage, h.start]
    have := h.rows
    omega
  have hleft : min 16 (fld (d.o 1) 15 0 - 16 * (0 / 16)) = fld (d.o 1) 15 0 := by
    have := h.block
    omega
  rw [State.runMatmul]
  · dsimp only
    rw [if_neg hrun, h.data, if_neg Bool.false_ne_true, h.start, hleft, hrows]
    dsimp only
    rw [if_pos h.block, State.modCore_modCore _ _ _ hu]
    rfl
  · exact hinj

theorem Core.done_rowsDone (c : Core) (d : Cmd) (mark : Nat) (tiles : List Tile) :
    ∀ x ∈ (c.rowsDone d mark tiles).mxA, x.seq = d.seq → x.done = true := fun _ hx => done_of_mem_markDone hx

/-! ### The issue of a product (R111, R114) -/

/-- MX accepts its oldest command, which is the product `d` without hazard, and nothing stands at the head. -/
structure State.MatmulIssues (s : State) (n : Nat) (d : Cmd) (q : List Cmd) : Prop where
  head : (s.core n).head = none
  queue : (s.core n).mxQ = d :: q
  op : d.op = opMxMatmul
  clear : (s.core n).hazard d.seq d.rds d.wrs = false
  live : (s.core n).live = true
  free : (s.core n).mxFree = true

namespace State.MatmulIssues
variable {s : State} {n : Nat} {d : Cmd} {q : List Cmd} (h : s.MatmulIssues n d q)
include h

theorem issuable : (s.core n).issuable (s.core n).mxQ opMxMatmul = some d := by
  rw [h.queue]
  exact Core.issuable_head h.op h.clear

theorem mxIssue (start : Core → Cmd → Core) :
    s.mxIssue n opMxMatmul start = s.modCore n (fun c => start { c with mxQ := c.mxQ.drop 1, mxA := c.mxA ++ [d] } d) := by
  rw [State.mxIssue, h.issuable]
  dsimp only
  rw [h.live, h.free]
  rfl

theorem doMxMatmul (inj : Inject) : s.doMxMatmul n inj =
    match matmulCheck (s.core n) d with
    | some e => (s.mxInfo n 0 none).coreFault n e d.va
    | none => if flag (d.o 1) 25 then s.mxIssue n opMxMatmul Core.matmulStart else (s.mxIssue n opMxMatmul Core.matmulStart).stepMatmul n inj := by
  rw [State.doMxMatmul, State.dispatch_nothing _ _ _ h.head]
  dsimp only
  rw [h.live, h.free, h.issuable]
  rfl

theorem doMxMatmul_faults {e : Nat} (inj : Inject) (he : matmulCheck (s.core n) d = some e) :
    s.doMxMatmul n inj = (s.mxInfo n 0 none).coreFault n e d.va := by
  rw [h.doMxMatmul, he]

theorem doMxMatmul_starts (inj : Inject) (he : matmulCheck (s.core n) d = none) (hdata : flag (d.o 1) 25 = false) : s.doMxMatmul n inj =
    (s.modCore n (fun c => Core.matmulStart { c with mxQ := c.mxQ.drop 1, mxA := c.mxA ++ [d] } d)).stepMatmul n inj := by
  rw [h.doMxMatmul, he, hdata, ← h.mxIssue]
  rfl

end State.MatmulIssues

theorem matmulCheck_notLoaded {c : Core} (d : Cmd) (h : c.loaded = false) : matmulCheck c d = some codeMxNoload := by
  rw [matmulCheck, h]
  rfl

/-! ### The tile queue (R129, R130) -/

/-- The first `k` staged tiles move to the end of the tile queue. -/
def Core.moveTiles (c : Core) (k : Nat) : Core := { c with tileQ := c.tileQ ++ (c.staging.take k).map Prod.snd, staging := c.staging.drop k }

theorem take_takeWhile_of_le {α : Type} (p : α → Bool) (l : List α) {k : Nat} (h : k ≤ (l.takeWhile p).length) :
    (l.takeWhile p).take k = l.take k := by
  obtain ⟨r, hr⟩ := List.takeWhile_prefix p (l := l)
  conv_rhs => rw [← hr, List.take_append_of_le_length h]

/-- The staged tiles, from the oldest one on, of the command and the row block of the tile `t`. -/
def Core.stagedBlock (c : Core) (t : Nat × Tile) : List (Nat × Tile) :=
  c.staging.takeWhile (fun x => x.1 == t.1 && fld x.2.w1 15 4 == fld t.2.w1 15 4)

/-- A push moves staged tiles that the queue has room for, and one at least where there is one and room. -/
theorem Core.pushTiles_moves (c : Core) :
    ∃ k, c.pushTiles = c.moveTiles k ∧ k ≤ 16 - c.tileQ.length ∧ (c.staging ≠ [] → c.tileQ.length < 16 → 1 ≤ k) := by
  unfold Core.pushTiles
  split
  · next hs => exact ⟨0, by simp [Core.moveTiles], Nat.zero_le _, fun h => absurd hs h⟩
  · next t r hs =>
    refine ⟨min (c.stagedBlock t).length (16 - c.tileQ.length), ?_, Nat.min_le_right _ _, fun _ hroom => ?_⟩
    · rw [Core.moveTiles, ← take_takeWhile_of_le _ _ (Nat.min_le_left (c.stagedBlock t).length _)]
      rfl
    · have hfirst : 0 < (c.stagedBlock t).length := by simp [Core.stagedBlock, hs]
      omega

theorem Core.length_tileQ_moveTiles {c : Core} {k : Nat} (hlen : c.tileQ.length ≤ 16) (hk : k ≤ 16 - c.tileQ.length) :
    (c.moveTiles k).tileQ.length ≤ 16 := by
  rw [Core.moveTiles, List.length_append, List.length_map]
  have := List.length_take_le k c.staging
  omega

/-! ### The statement -/

/-- Settles O25: the load and the product by what their runs leave, the issue by its checks, the push by `Core.pushTiles_moves`. -/
theorem matrixCommandsRun : Obligations.MatrixCommandsRun := by
  intro s n d inj hn hon hlen
  have hc : n < s.cores.length := hlen ▸ hn
  intro c w
  refine ⟨fun hh hq hd hready => ?_, fun u v data side hh hq hd hdata hescf hfmt hblk hread hside hfront => ?_, fun hh hq hd hready => ?_,
    fun u rows mb hh hq hd hdata hinj hstage hprog hpos hmax hrows => ?_, fun r hh hq hop hclear hlive hfree hload => ?_,
    fun r hh hq hop hclear hlive hfree hok hdata => ?_, ?_, fun hroom hidle => ?_⟩
  · exact exec_core (f := fun s => s.doMxLoad n inj) rfl hn hon (State.doMxLoad_runs inj hh hq hd hready)
  · have hp : d.PlainLoad := ⟨hdata, hescf, hfmt, hblk⟩
    have hv : n < v.cores.length := by
      rwa [State.cores_length_readSide hside, State.cores_length_loadPart hread, State.cores_length_strike]
    refine ⟨_, exec_core (f := fun s => s.doMxLoad n inj) rfl hn hon
      ((State.doMxLoad_runs inj hh hq hd (.inl hp.noFacet)).trans (State.runLoad_plain hp hread hside)), rfl,
      fun m hm => v.core_modCore_ne _ hm, ?_⟩
    rw [v.core_modCore_same _ hv, Core.frontPlane_loadDone, Core.front_loadDone, ← hfront]
    exact ⟨rfl, rfl, rfl, rfl, rfl, rfl, rfl, rfl, rfl, (v.core n).otherPlane_loadDone _ _, (v.core n).done_loadDone _ _⟩
  · exact exec_core (f := fun s => s.doMxMatmul n inj) rfl hn hon
      ((State.doMxMatmul_continues inj hh hq).trans (State.stepMatmul_runs inj hd hready))
  · obtain ⟨bad, soft, hstrike⟩ := s.core_strike inj hc
    have hcs : n < (s.strike n inj).cores.length := by rwa [State.cores_length_strike]
    have hu : n < u.cores.length := by rwa [State.cores_length_matmulRows hrows]
    have hplane : ((s.strike n inj).core n).frontPlane = c.frontPlane := by rw [hstrike]; rfl
    have hrun := State.runMatmul_oneBlock (fuel := 1) ⟨hdata, hprog, hpos, hmax⟩ hinj (by rw [hstrike]; exact hstage) hcs (hplane ▸ hrows)
    refine ⟨_, exec_core (f := fun s => s.doMxMatmul n inj) rfl hn hon ((State.doMxMatmul_continues inj hh hq).trans
      ((State.stepMatmul_runs inj hd (.inl hdata)).trans hrun)), rfl, fun m hm => u.core_modCore_ne _ hm, ?_⟩
    rw [u.core_modCore_same _ hu, hplane]
    exact ⟨rfl, rfl, (u.core n).done_rowsDone _ _ _⟩
  · have h : s.MatmulIssues n d r := ⟨hh, hq, hop, hclear, hlive, hfree⟩
    exact exec_core (f := fun s => s.doMxMatmul n inj) rfl hn hon (h.doMxMatmul_faults inj (matmulCheck_notLoaded d hload))
  · have h : s.MatmulIssues n d r := ⟨hh, hq, hop, hclear, hlive, hfree⟩
    exact exec_core (f := fun s => s.doMxMatmul n inj) rfl hn hon (h.doMxMatmul_starts inj hok hdata)
  · exact exec_core (f := fun s => s.doTilePush n) rfl hn hon rfl
  · obtain ⟨k, hmove, hk, hone⟩ := c.pushTiles_moves
    have hpush : s.modCore n Core.pushTiles = s.modCore n (fun c => c.moveTiles k) := State.modCore_congr hmove
    have hstays : s.doTilePush n = s.modCore n (fun c => c.moveTiles k) := by
      rw [State.doTilePush, hpush]
      exact State.stepMatmul_idle _ (by rw [s.core_modCore_same _ hc]; exact hidle)
    refine ⟨_, k, exec_core (f := fun s => s.doTilePush n) rfl hn hon hstays, ?_⟩
    rw [s.core_modCore_same _ hc]
    exact ⟨rfl, rfl, Core.length_tileQ_moveTiles hroom hk, hone, rfl, fun m hm => s.core_modCore_ne _ hm⟩

end Sys2Proof.Machine
end

section
/-! The integer scan network (O24). -/

namespace Sys2Proof.Machine

/-! ### Sums of windows -/

/-- The sum of the `dist` elements that end at position `k`, or of all up to there where they are fewer. -/
def windowSum (xs : List Word) (dist k : Nat) : Word := ((xs.take (k + 1)).drop (k + 1 - dist)).sum

theorem windowSum_full (xs : List Word) {dist k : Nat} (h : k < dist) : windowSum xs dist k = (xs.take (k + 1)).sum := by
  rw [windowSum, Nat.sub_eq_zero_of_le h, List.drop_zero]

theorem windowSum_one {xs : List Word} {k : Nat} (h : k < xs.length) : windowSum xs 1 k = xs[k] := by
  rw [windowSum, Nat.add_sub_cancel, ← List.take_concat_get' xs k h, List.drop_left' (List.length_take_of_le h.le)]
  simp

/-- Two windows that meet make one of twice the size. -/
theorem windowSum_double (xs : List Word) {dist k : Nat} (h : dist ≤ k) :
    windowSum xs dist (k - dist) + windowSum xs dist k = windowSum xs (2 * dist) k := by
  have hfirst : (xs.take (k - dist + 1)).drop (k - dist + 1 - dist) =
      ((xs.take (k + 1)).drop (k + 1 - 2 * dist)).take (k + 1 - dist - (k + 1 - 2 * dist)) := by
    rw [← List.drop_take, List.take_take, show k - dist + 1 - dist = k + 1 - 2 * dist by omega]
    congr 2
    omega
  have hrest : (xs.take (k + 1)).drop (k + 1 - dist) =
      ((xs.take (k + 1)).drop (k + 1 - 2 * dist)).drop (k + 1 - dist - (k + 1 - 2 * dist)) := by
    rw [List.drop_drop]
    congr 1
    omega
  rw [windowSum, windowSum, windowSum, hfirst, hrest, ← List.sum_append, List.take_append_drop]

/-! ### The levels of the network (R154) -/

/-- The line without flags that holds at each position the sum of its window. -/
def windowLine (xs : List Word) (dist : Nat) : List (SVal × Bool) :=
  (List.range xs.length).map (fun k => (⟨windowSum xs dist k, 0, 0⟩, false))

theorem getD_map_range {α : Type} {k n : Nat} (f : Nat → α) (x : α) (h : k < n) : ((List.range n).map f).getD k x = f k := by
  rw [List.getD_eq_getElem _ _ (by simpa using h), List.getElem_map, List.getElem_range]

theorem length_windowLine (xs : List Word) (dist : Nat) : (windowLine xs dist).length = xs.length := by
  rw [windowLine, List.length_map, List.length_range]

theorem getElem_windowLine {xs : List Word} {dist k : Nat} (h : k < xs.length) :
    (windowLine xs dist)[k]'(by rwa [length_windowLine]) = (⟨windowSum xs dist k, 0, 0⟩, false) := by
  simp only [windowLine, List.getElem_map, List.getElem_range]

theorem getD_windowLine {xs : List Word} {k : Nat} (dist : Nat) (h : k < xs.length) (y : SVal × Bool) :
    (windowLine xs dist).getD k y = (⟨windowSum xs dist k, 0, 0⟩, false) := getD_map_range _ y h

/-- Windows of one element are the line itself. -/
theorem windowLine_one (xs : List Word) : windowLine xs 1 = xs.map (fun x => ((⟨x, 0, 0⟩ : SVal), false)) := by
  refine List.ext_getElem (by rw [length_windowLine, List.length_map]) fun k h _ => ?_
  have hk : k < xs.length := length_windowLine xs 1 ▸ h
  rw [getElem_windowLine hk, windowSum_one hk, List.getElem_map]

/-- Windows as long as the line hold the sums of all that comes up to a position. -/
theorem windowLine_full {xs : List Word} {dist : Nat} (h : xs.length ≤ dist) :
    (windowLine xs dist).map (fun y => y.1.a) = (List.range xs.length).map (fun k => (xs.take (k + 1)).sum) := by
  rw [windowLine, List.map_map]
  exact List.map_congr_left fun k hk => windowSum_full xs (Nat.lt_of_lt_of_le (List.mem_range.mp hk) h)

theorem length_scanLevel (op : Nat) (int : Bool) (dist : Nat) (y : List (SVal × Bool)) : (scanLevel op int dist y).length = y.length := by
  rw [scanLevel, List.length_map, List.length_zipIdx]

theorem getElem_scanLevel {op : Nat} {int : Bool} {dist : Nat} {y : List (SVal × Bool)} {k : Nat} (h : k < y.length) :
    (scanLevel op int dist y)[k]'(by rwa [length_scanLevel]) = if dist ≤ k ∧ !y[k].2 then
      (scanComb op int (y.getD (k - dist) default).1 y[k].1, (y.getD (k - dist) default).2) else y[k] := by
  simp only [scanLevel, List.getElem_map, List.getElem_zipIdx, Nat.zero_add]

/-- A level doubles the windows: below the distance a window held all there is already. -/
theorem scanLevel_windowLine (xs : List Word) (dist : Nat) : scanLevel 0 true dist (windowLine xs dist) = windowLine xs (2 * dist) := by
  refine List.ext_getElem (by rw [length_scanLevel, length_windowLine, length_windowLine]) fun k h _ => ?_
  have hk : k < xs.length := by rwa [length_scanLevel, length_windowLine] at h
  rw [getElem_scanLevel (by rwa [length_windowLine]), getD_windowLine dist (Nat.lt_of_le_of_lt (Nat.sub_le k dist) hk), getElem_windowLine hk,
    getElem_windowLine hk]
  by_cases hd : dist ≤ k
  · rw [if_pos ⟨hd, rfl⟩, ← windowSum_double xs hd]
    rfl
  · rw [if_neg (fun h => hd h.1), windowSum_full xs (by omega), windowSum_full xs (by omega)]

/-- Enough levels end with the inclusive sums. -/
theorem scanLine_windowLine (xs : List Word) (fuel dist : Nat) (h : xs.length ≤ 2 ^ fuel * dist) :
    (scanLine 0 true fuel dist (windowLine xs dist)).map (fun y => y.1.a) = (List.range xs.length).map (fun k => (xs.take (k + 1)).sum) := by
  induction fuel generalizing dist with
  | zero => exact windowLine_full (by simpa using h)
  | succ fuel ih =>
    rw [scanLine, length_windowLine]
    split
    · next hend => exact windowLine_full hend
    · rw [scanLevel_windowLine]
      exact ih _ (by rwa [pow_succ, Nat.mul_assoc] at h)

/-- Settles O24: the windows start as single elements, each level doubles them, and nine levels reach 512 of them. -/
theorem scanNetworkIsPrefixSum : Obligations.ScanNetworkIsPrefixSum := by
  intro xs h
  rw [← windowLine_one]
  exact scanLine_windowLine xs 9 1 h

end Sys2Proof.Machine
end

section
/-! The effects of issued vector commands (O23). -/

namespace Sys2Proof.Machine

/-! ### Tile registers: what a read returns after a write (R139) -/

theorem mgetD_mclear_out {α : Type} {m : NatMap α} (hm : mrising m = true) {lo hi x : Nat} (d : α) (h : x < lo ∨ hi ≤ x) :
    mgetD (mclear m lo hi) x d = mgetD m x d := by
  have hget : mget (mclear m lo hi) x = mget m x := Option.ext fun v => by
    rw [mget_eq_some_iff (mrising_mclear m lo hi hm), mget_eq_some_iff hm, mclear, List.mem_filter, decide_eq_true_iff]
    exact and_iff_left h
  rw [mgetD, hget, mgetD]

/-- The elements of `es` written to the register that begins at `base`. -/
def putElems (m : NatMap Word) (base : Nat) (es : List (Nat × Word)) : NatMap Word :=
  es.foldl (fun m e => mputD 0 m (base + e.1) e.2) m

theorem mrising_putElems {m : NatMap Word} (hm : mrising m = true) (base : Nat) (es : List (Nat × Word)) :
    mrising (putElems m base es) = true := by
  induction es generalizing m with
  | nil => exact hm
  | cons e es ih => exact ih (mrising_mputD 0 m _ _ hm)

theorem mgetD_putElems_out {m : NatMap Word} (hm : mrising m = true) {base x : Nat} {es : List (Nat × Word)} (h : ∀ e ∈ es, x ≠ base + e.1) :
    mgetD (putElems m base es) x 0 = mgetD m x 0 := by
  induction es generalizing m with
  | nil => rfl
  | cons e es ih =>
    exact (ih (mrising_mputD 0 m _ _ hm) fun y hy => h y (List.mem_cons_of_mem _ hy)).trans
      (mgetD_mputD_ne 0 0 m _ hm (h e List.mem_cons_self))

/-- The first `k` elements of a register with their values. -/
def firstElems (k : Nat) (f : Nat → Word) : List (Nat × Word) := (List.range k).map (fun e => (e, f e))

theorem lt_of_mem_firstElems {k : Nat} {f : Nat → Word} {e : Nat × Word} (h : e ∈ firstElems k f) : e.1 < k := by
  obtain ⟨i, hi, rfl⟩ := List.mem_map.mp h
  exact List.mem_range.mp hi

theorem firstElems_congr {k : Nat} {f g : Nat → Word} (h : ∀ e < k, f e = g e) : firstElems k f = firstElems k g :=
  List.map_congr_left fun e he => by rw [h e (List.mem_range.mp he)]

theorem putElems_firstElems_succ (m : NatMap Word) (base k : Nat) (f : Nat → Word) :
    putElems m base (firstElems (k + 1) f) = mputD 0 (putElems m base (firstElems k f)) (base + k) (f k) := by
  rw [firstElems, List.range_succ, List.map_append, putElems, List.foldl_append]
  rfl

theorem mgetD_putElems_firstElems {m : NatMap Word} (hm : mrising m = true) {base k e : Nat} (f : Nat → Word) (he : e < k) :
    mgetD (putElems m base (firstElems k f)) (base + e) 0 = f e := by
  induction k with
  | zero => exact absurd he (Nat.not_lt_zero e)
  | succ k ih =>
    have hk := mrising_putElems hm base (firstElems k f)
    rw [putElems_firstElems_succ]
    obtain hlt | rfl := Nat.lt_succ_iff_lt_or_eq.mp he
    · rw [mgetD_mputD_ne 0 0 _ _ hk (by omega), ih hlt]
    · exact mgetD_mputD_same 0 _ _ _ hk

/-- What the registers hold before the elements of a write to register `t` are put. -/
def Core.openTreg (c : Core) (t : Nat) : NatMap Word := if c.wss.getLsbD t then c.tregs else mclear c.tregs (256 * t) (256 * t + 256)

theorem Core.tregs_putTreg (c : Core) (t : Nat) (es : List (Nat × Word)) : (c.putTreg t es).tregs = putElems (c.openTreg t) (256 * t) es := rfl

theorem Core.fillTreg_eq (c : Core) (t : Nat) (f : Nat → Word) : c.fillTreg t f = c.putTreg t (firstElems 256 f) := rfl

theorem Core.mrising_openTreg {c : Core} (hm : mrising c.tregs = true) (t : Nat) : mrising (c.openTreg t) = true := by
  unfold Core.openTreg
  split
  · exact hm
  · exact mrising_mclear _ _ _ hm

theorem Core.mgetD_openTreg_out {c : Core} (hm : mrising c.tregs = true) {t x : Nat} (h : x < 256 * t ∨ 256 * t + 256 ≤ x) :
    mgetD (c.openTreg t) x 0 = mgetD c.tregs x 0 := by
  unfold Core.openTreg
  split
  · rfl
  · exact mgetD_mclear_out hm 0 h

theorem Core.wss_putTreg (c : Core) (t : Nat) (es : List (Nat × Word)) {r : Nat} (hr : r < 32) :
    (c.putTreg t es).wss.getLsbD r = (c.wss.getLsbD r || decide (t = r)) :=
  BitVec.getLsbD_or.trans (congrArg _ (flag_bit32 hr))

/-- A write to a register leaves the other ones. -/
theorem Core.treg_putTreg_ne {c : Core} (hm : mrising c.tregs = true) {t r e : Nat} {es : List (Nat × Word)} (hr : r < 32) (hne : r ≠ t)
    (hes : ∀ x ∈ es, x.1 < 256) (he : e < 256) : (c.putTreg t es).treg r e = c.treg r e := by
  rw [Core.treg, c.wss_putTreg t es hr, decide_eq_false (Ne.symm hne), Bool.or_false, Core.tregs_putTreg,
    mgetD_putElems_out (Core.mrising_openTreg hm t) fun x hx => by have := hes x hx; omega, Core.mgetD_openTreg_out hm (by omega), Core.treg]

/-- The elements that a write covers read as written. -/
theorem Core.treg_putTreg_firstElems {c : Core} (hm : mrising c.tregs = true) {t k e : Nat} (f : Nat → Word) (ht : t < 32) (he : e < k) :
    (c.putTreg t (firstElems k f)).treg t e = f e := by
  rw [Core.treg, c.wss_putTreg t _ ht, decide_eq_true rfl, Bool.or_true, if_pos rfl, Core.tregs_putTreg,
    mgetD_putElems_firstElems (Core.mrising_openTreg hm t) f he]

theorem Core.treg_congr {c c' : Core} (hregs : c'.tregs = c.tregs) (hwss : c'.wss = c.wss) (r e : Nat) : c'.treg r e = c.treg r e := by
  rw [Core.treg, hregs, hwss, Core.treg]

/-! ### Passes only count -/

/-- The first `t` passes of a command enter, each with the registers that it reads. -/
def State.enterPasses (s : State) (n : Nat) (reads : Nat → List Nat) (t : Nat) : State :=
  (List.range t).foldl (fun s q => s.enterPass n (reads q)) s

theorem State.enterPasses_succ (s : State) (n : Nat) (reads : Nat → List Nat) (t : Nat) :
    s.enterPasses n reads (t + 1) = (s.enterPasses n reads t).enterPass n (reads t) := by
  rw [State.enterPasses, List.range_succ, List.foldl_append]
  rfl

theorem State.enterPasses_one (s : State) (n : Nat) (reads : Nat → List Nat) : s.enterPasses n reads 1 = s.enterPass n (reads 0) := rfl

/-- From `s` to `t` memory and the cores stay. -/
structure State.CountsOnly (s t : State) : Prop where
  mem : t.mem = s.mem
  cores : t.cores = s.cores

namespace State.CountsOnly

theorem refl (s : State) : s.CountsOnly s := ⟨rfl, rfl⟩

theorem trans {s t u : State} (h : s.CountsOnly t) (h' : t.CountsOnly u) : s.CountsOnly u :=
  ⟨h'.mem.trans h.mem, h'.cores.trans h.cores⟩

theorem cBump (s : State) (n off k : Nat) : s.CountsOnly (s.cBump n off k) := ⟨s.cBump_mem n off k, s.cBump_cores n off k⟩

theorem enterPass (s : State) (n : Nat) (regs : List Nat) : s.CountsOnly (s.enterPass n regs) := by
  unfold State.enterPass
  dsimp only
  split
  · exact cBump s _ _ _
  · exact (cBump s _ _ _).trans (cBump _ _ _ _)

theorem enterPasses (s : State) (n : Nat) (reads : Nat → List Nat) (t : Nat) : s.CountsOnly (s.enterPasses n reads t) := by
  induction t with
  | zero => exact refl s
  | succ t ih =>
    rw [State.enterPasses_succ]
    exact ih.trans (enterPass _ n (reads t))

theorem core {s t : State} (h : s.CountsOnly t) (n : Nat) : t.core n = s.core n := by
  rw [State.core, h.cores, State.core]

end State.CountsOnly

/-! ### A command that writes one register -/

/-- From `u` to `t` the command `seq` of core `n` is done; memory, the other cores and the scratchpad stay, and the registers other than `dst`
read as in `c`. -/
def State.LeavesBut (n : Nat) (c : Core) (seq dst : Nat) (u t : State) : Prop :=
  t.mem = u.mem ∧ (∀ m, m ≠ n → t.core m = u.core m) ∧ (t.core n).spad = (u.core n).spad ∧
    (∀ r < 32, r ≠ dst → ∀ e < 256, (t.core n).treg r e = c.treg r e) ∧ (t.core n).vxA = markDone (u.core n).vxA seq

/-- The state after a command whose passes took it to `v` and which writes the elements `es` of register `dst`. -/
def State.wroteTreg (v : State) (n seq dst : Nat) (es : List (Nat × Word)) : State := v.modCore n (fun x => (x.putTreg dst es).vxDone seq)

section WroteTreg
variable {u v : State} {n seq dst : Nat} {c : Core} (hv : u.CountsOnly v) (hn : n < u.cores.length) (hregs : (u.core n).tregs = c.tregs)
  (hrise : mrising c.tregs = true)
include hv hn

theorem State.core_wroteTreg (es : List (Nat × Word)) : (v.wroteTreg n seq dst es).core n = ((u.core n).putTreg dst es).vxDone seq := by
  rw [State.wroteTreg, v.core_modCore_same _ (hv.cores ▸ hn), hv.core]

include hregs hrise

theorem State.leavesBut_wroteTreg {es : List (Nat × Word)} (hwss : (u.core n).wss = c.wss) (hes : ∀ x ∈ es, x.1 < 256) :
    State.LeavesBut n c seq dst u (v.wroteTreg n seq dst es) := by
  refine ⟨hv.mem, fun m hm => (v.core_modCore_ne _ hm).trans (hv.core m), ?_⟩
  rw [State.core_wroteTreg hv hn]
  exact ⟨rfl, fun r hr hne e he => (Core.treg_putTreg_ne (hregs ▸ hrise) hr hne hes he).trans (Core.treg_congr hregs hwss r e), rfl⟩

theorem State.treg_wroteTreg {k e : Nat} (f : Nat → Word) (hdst : dst < 32) (he : e < k) :
    ((v.wroteTreg n seq dst (firstElems k f)).core n).treg dst e = f e := by
  rw [State.core_wroteTreg hv hn]
  exact Core.treg_putTreg_firstElems (hregs ▸ hrise) f hdst he

end WroteTreg

/-- A field of five bits names a register. -/
theorem fld_lt_32 (w : Word) {hi lo : Nat} (h : hi - lo + 1 = 5) : fld w hi lo < 32 := by
  rw [fld, h]
  exact Nat.mod_lt _ (by decide)

/-! ### Commands of VX with nothing to dispatch -/

theorem State.vxIssue_empty {s : State} {n : Nat} (op : Nat) (h : (s.core n).vxQ = []) : s.vxIssue n op = s := by
  rw [State.vxIssue, h]
  rfl

section NothingQueued
variable {s : State} {n : Nat} {d : Cmd} (inj : Inject) (hh : (s.core n).head = none) (hq : (s.core n).vxQ = [])
include hh hq

theorem State.doVxLoad_runs (hd : (s.core n).vxRunning opVxLoad = some d) : s.doVxLoad n inj = s.runVload n d inj := by
  rw [State.doVxLoad, State.dispatch_nothing _ _ _ hh, State.vxIssue_empty _ hq, hd]

theorem State.doVxReduce_runs (hd : (s.core n).vxRunning opVxReduce = some d) : s.doVxReduce n inj = s.runReduce n d inj := by
  rw [State.doVxReduce, State.dispatch_nothing _ _ _ hh, State.vxIssue_empty _ hq, hd]

theorem State.doVxScan_runs (hd : (s.core n).vxRunning opVxScan = some d) : s.doVxScan n inj = s.runScan n d inj := by
  rw [State.doVxScan, State.dispatch_nothing _ _ _ hh, State.vxIssue_empty _ hq, hd]

theorem State.doVxStore_runs (hd : (s.core n).vxRunning opVxStore = some d) : s.doVxStore n inj = s.runVstore n d inj := by
  rw [State.doVxStore, State.dispatch_nothing _ _ _ hh, State.vxIssue_empty _ hq, hd]

theorem State.doVxChain_runs (hd : (s.core n).vxA.find? (fun y => isChain y.op && !y.done) = some d) :
    s.doVxChain n inj = s.runChain n d inj := by
  have hissue : s.chainIssue n = s := by rw [State.chainIssue, hq]
  rw [State.doVxChain_stages, State.dispatch_nothing _ _ _ hh, hissue, State.chainGo, hd]

end NothingQueued

/-! ### Parity of the registers that a pass reads (R162) -/

/-- Nothing strikes a tile register. -/
def SparesRegs (inj : Inject) : Prop := ∀ r p, inj ≠ .regParity r p

theorem SparesRegs.parityAt {inj : Inject} (h : SparesRegs inj) (p : Nat) (regs : List Nat) : parityAt inj p regs = none := by
  cases inj with
  | regParity r q => exact absurd rfl (h r q)
  | _ => rfl

theorem parityAt_read {r p : Nat} {regs : List Nat} (h : r ∈ regs) : parityAt (.regParity r p) p regs = some r :=
  if_pos ⟨rfl, List.contains_iff_mem.mpr h⟩

theorem State.strike_regParity (s : State) (n r p : Nat) : s.strike n (.regParity r p) = s := rfl

/-- The first pass and register of `t` passes at which a parity error shows. -/
def firstParity (inj : Inject) (reads : Nat → List Nat) (t : Nat) : Option (Nat × Nat) :=
  (List.range t).findSome? (fun p => (parityAt inj p (reads p)).map (fun r => (p, r)))

theorem firstParity_first {reads : Nat → List Nat} {r : Nat} (t : Nat) (h : r ∈ reads 0) :
    firstParity (.regParity r 0) reads (t + 1) = some (0, r) := by
  rw [firstParity, List.range_succ_eq_map, List.findSome?_cons, parityAt_read h]
  rfl

theorem SparesRegs.firstParity {inj : Inject} (h : SparesRegs inj) (reads : Nat → List Nat) (t : Nat) : firstParity inj reads t = none :=
  List.findSome?_eq_none_iff.mpr fun p _ => by rw [SparesRegs.parityAt h]; rfl

/-! ### VX_LOAD (R156) -/

theorem State.vxPasses_fails {s u : State} {e : Nat} {pass : State → Nat → State × Option Nat} {left p : Nat} (h : pass s p = (u, some e)) :
    s.vxPasses pass (left + 1) p = (u, some e) := by
  rw [State.vxPasses, h]

theorem State.vxPasses_one {s u : State} {pass : State → Nat → State × Option Nat} {p : Nat} (h : pass s p = (u, none)) :
    s.vxPasses pass 1 p = (u, none) := by
  rw [State.vxPasses, h]
  rfl

/-- What VX_LOAD reads for its first tile. -/
def State.loadReads (s : State) (n : Nat) (d : Cmd) : State × Except Nat (List (List Byte)) :=
  s.engRuns n 2 d.rds ((loadRuns (flag (d.o 1) 18) (fld (d.o 2) 21 0) (fld (d.o 1) 17 14 + 1) (fld (d.o 1) 7 0 + 1)
    (vxBits (fld (d.o 1) 22 19)) 0).map (fun x => (4 * d.rd 0 + x.1, x.2)))

/-- The elements of the first tile of VX_LOAD, from the bytes of its runs. -/
def Cmd.loaded (d : Cmd) (bs : List (List Byte)) (e : Nat) : Word :=
  loadElem (fld (d.o 1) 22 19) (flag (d.o 1) 18) (fld (d.o 1) 17 14 + 1) (min 16 (fld (d.o 1) 7 0 + 1))
    (bs.map (fun b => unpackBits (vxBits (fld (d.o 1) 22 19)) (8 * b.length / vxBits (fld (d.o 1) 22 19)) b)) e

theorem State.runVload_fails {s u : State} {n e : Nat} {d : Cmd} {inj : Inject} (h : (s.strike n inj).loadReads n d = (u, .error e)) :
    s.runVload n d inj = u.coreFault n e d.va := by
  have htile : (s.strike n inj).loadTile n d 0 = (u, some e) := by
    rw [State.loadReads] at h
    rw [State.loadTile]
    dsimp only
    rw [h]
  rw [State.runVload, State.vxPasses_fails htile]

theorem State.runVload_oneTile {s u : State} {n : Nat} {d : Cmd} {inj : Inject} {bs : List (List Byte)}
    (h : (s.strike n inj).loadReads n d = (u, .ok bs)) (htiles : fld (d.o 1) 26 23 = 0) (hn : n < u.cores.length) :
    s.runVload n d inj = (u.enterPass n []).wroteTreg n d.seq (fld (d.o 1) 31 27) (firstElems 256 (d.loaded bs)) := by
  have htile : (s.strike n inj).loadTile n d 0 =
      ((u.enterPass n []).modCore n (fun c => c.putTreg (fld (d.o 1) 31 27) (firstElems 256 (d.loaded bs))), none) := by
    rw [State.loadReads] at h
    rw [State.loadTile]
    dsimp only
    rw [h]
    rfl
  have hv : n < (u.enterPass n []).cores.length := by rwa [(State.CountsOnly.enterPass u n []).cores]
  rw [State.runVload, htiles, State.vxPasses_one htile]
  dsimp only
  rw [State.modCore_modCore _ _ _ hv, State.wroteTreg]

/-! ### VX_REDUCE (R151, R152) -/

/-- The registers that pass `p` of a reduction reads. -/
def Cmd.reduceReads (d : Cmd) (p : Nat) : List Nat :=
  [fld (d.o 1) 24 20 + p] ++ (if flag (d.o 1) 25 ∧ p + 1 = fld (d.o 1) 19 16 + 1 then
    (if fld (d.o 1) 31 28 = 3 then [fld (d.o 1) 15 11, fld (d.o 1) 15 11 + 1] else [fld (d.o 1) 15 11]) else [])

/-- Element `e` of what a reduction along axis 0 leaves, not accumulating and other than MAXI. -/
def Core.reduced (c : Core) (d : Cmd) (e : Nat) : Word :=
  if e % 16 = 0 then
    ((redLine (fld (d.o 1) 31 28) (flag (d.o 1) 27) (fld (d.o 1) 19 16 + 1) (fun k =>
      if k < fld (d.o 3) 8 0 then some (c.treg (fld (d.o 1) 24 20 + k / 16) (16 * (e / 16) + k % 16), w32 k + d.o 2) else none)).getD (0, 0)).1
  else 0

theorem Cmd.reduceReads_noAcc {d : Cmd} (hacc : flag (d.o 1) 25 = false) (p : Nat) : d.reduceReads p = [fld (d.o 1) 24 20 + p] := by
  simp [Cmd.reduceReads, hacc]

theorem State.runReduce_of_parity {s : State} {n p r : Nat} {d : Cmd} {inj : Inject}
    (h : firstParity inj d.reduceReads (fld (d.o 1) 19 16 + 1) = some (p, r)) :
    s.runReduce n d inj = (s.enterPasses n d.reduceReads (p + 1)).vxParity n r d.va := by
  unfold firstParity Cmd.reduceReads at h
  rw [State.runReduce]
  dsimp only at h ⊢
  rw [h]
  rfl

theorem State.runReduce_parity {s : State} {n r : Nat} {d : Cmd} (hr : r = fld (d.o 1) 24 20) (hacc : flag (d.o 1) 25 = false) :
    s.runReduce n d (.regParity r 0) = (s.enterPass n [fld (d.o 1) 24 20]).vxParity n r d.va := by
  have hreads : d.reduceReads 0 = [fld (d.o 1) 24 20] := Cmd.reduceReads_noAcc hacc 0
  rw [State.runReduce_of_parity (firstParity_first _ (by rw [hreads, hr]; exact List.mem_singleton_self _)), State.enterPasses_one, hreads]

theorem State.runReduce_axis0 {s : State} {n : Nat} {d : Cmd} {inj : Inject} (hinj : SparesRegs inj) (hop : fld (d.o 1) 31 28 < 3)
    (haxis : fld (d.o 1) 26 26 = 0) (hacc : flag (d.o 1) 25 = false) :
    s.runReduce n d inj = (s.enterPasses n d.reduceReads (fld (d.o 1) 19 16 + 1)).wroteTreg n d.seq (fld (d.o 1) 15 11)
      (firstElems 256 ((s.core n).reduced d)) := by
  have hnone := hinj.firstParity d.reduceReads (fld (d.o 1) 19 16 + 1)
  have hcore : (s.enterPasses n d.reduceReads (fld (d.o 1) 19 16 + 1)).core n = s.core n :=
    (State.CountsOnly.enterPasses s n d.reduceReads _).core n
  unfold firstParity Cmd.reduceReads at hnone
  unfold State.enterPasses Cmd.reduceReads at hcore
  rw [State.runReduce]
  dsimp only at hnone hcore ⊢
  rw [hnone]
  dsimp only
  rw [hcore]
  refine congrArg (State.modCore _ n) (funext fun x => ?_)
  rw [if_neg (by omega), Core.fillTreg_eq]
  refine congrArg (fun es => (x.putTreg _ es).vxDone d.seq) (firstElems_congr fun e he => ?_)
  have hline : e / 16 < 16 := by omega
  simp only [haxis, hacc, Core.reduced, Core.lineElem, redOpt, getD_map_range _ _ hline, if_true, if_false, Bool.false_eq_true]

/-! ### VX_SCAN (R153, R154) -/

/-- The registers that pass `p` of a scan reads. -/
def Cmd.scanReads (d : Cmd) (p : Nat) : List Nat :=
  [fld (d.o 2) 31 27 + p] ++ (if 4 ≤ fld (d.o 1) 31 28 then [fld (d.o 2) 26 22 + p] else []) ++
    (if fld (d.o 1) 31 28 = 5 then [fld (d.o 2) 21 17 + p] else []) ++ (if flag (d.o 1) 25 then [fld (d.o 2) 16 12 + p] else [])

/-- Element `e` of what a scan of one tile along axis 0 leaves, of one component and without segment flags. -/
def Core.scanned (c : Core) (d : Cmd) (e : Nat) : Word :=
  ((scanLine (fld (d.o 1) 31 28) (flag (d.o 1) 27) 9 1 ((List.range 16).map (fun k =>
    ((⟨c.treg (fld (d.o 2) 31 27) (16 * (e / 16) + k), 0, 0⟩ : SVal), false)))).getD (e % 16) default).1.a

theorem Cmd.scanReads_oneComponent {d : Cmd} (hop : fld (d.o 1) 31 28 < 4) (hfen : flag (d.o 1) 25 = false) (p : Nat) :
    d.scanReads p = [fld (d.o 2) 31 27 + p] := by
  have h4 : ¬ 4 ≤ fld (d.o 1) 31 28 := by omega
  have h5 : fld (d.o 1) 31 28 ≠ 5 := by omega
  simp [Cmd.scanReads, hfen, h4, h5]

theorem State.runScan_of_parity {s : State} {n p r : Nat} {d : Cmd} {inj : Inject}
    (h : firstParity inj d.scanReads (fld (d.o 1) 23 20 + 1) = some (p, r)) :
    s.runScan n d inj = (s.enterPasses n d.scanReads (p + 1)).vxParity n r d.va := by
  unfold firstParity Cmd.scanReads at h
  rw [State.runScan]
  dsimp only at h ⊢
  rw [h]
  rfl

theorem State.runScan_parity {s : State} {n r : Nat} {d : Cmd} (hr : r = fld (d.o 2) 31 27) (hop : fld (d.o 1) 31 28 < 4)
    (hfen : flag (d.o 1) 25 = false) :
    s.runScan n d (.regParity r 0) = (s.enterPass n [fld (d.o 2) 31 27]).vxParity n r d.va := by
  have hreads : d.scanReads 0 = [fld (d.o 2) 31 27] := Cmd.scanReads_oneComponent hop hfen 0
  rw [State.runScan_of_parity (firstParity_first _ (by rw [hreads, hr]; exact List.mem_singleton_self _)), State.enterPasses_one, hreads]

/-- The tile's line `i` along axis 0, as a scan of one component without flags takes it. -/
theorem Core.scanInput_axis0 (c : Core) (base i : Nat) :
    (List.range 16).map (fun k => ((⟨c.lineElem base 0 i k, 0, 0⟩ : SVal), false)) =
      (List.range 16).map (fun k => (⟨c.treg base (16 * i + k), 0, 0⟩, false)) :=
  List.map_congr_left fun k hk => by
    have h : k < 16 := List.mem_range.mp hk
    rw [Core.lineElem, if_pos rfl, Nat.div_eq_of_lt h, Nat.mod_eq_of_lt h, Nat.add_zero]

theorem State.runScan_oneTile {s : State} {n : Nat} {d : Cmd} {inj : Inject} (hinj : SparesRegs inj) (hop : fld (d.o 1) 31 28 < 4)
    (haxis : fld (d.o 1) 26 26 = 0) (hfen : flag (d.o 1) 25 = false) (htiles : fld (d.o 1) 23 20 = 0) :
    s.runScan n d inj = (s.enterPasses n d.scanReads (fld (d.o 1) 23 20 + 1)).wroteTreg n d.seq (fld (d.o 3) 31 27)
      (firstElems 256 ((s.core n).scanned d)) := by
  have hnone := hinj.firstParity d.scanReads (fld (d.o 1) 23 20 + 1)
  have hcore : (s.enterPasses n d.scanReads (fld (d.o 1) 23 20 + 1)).core n = s.core n :=
    (State.CountsOnly.enterPasses s n d.scanReads _).core n
  have h4 : ¬ 4 ≤ fld (d.o 1) 31 28 := by omega
  have h5 : fld (d.o 1) 31 28 ≠ 5 := by omega
  unfold firstParity Cmd.scanReads at hnone
  unfold State.enterPasses Cmd.scanReads at hcore
  rw [State.runScan]
  dsimp only at hnone hcore ⊢
  rw [hnone]
  dsimp only
  rw [hcore]
  refine congrArg (State.modCore _ n) (funext fun x => ?_)
  rw [if_neg h5, if_neg h4, if_pos (.inl hop), htiles, Nat.zero_add, List.range_one, List.foldl_cons, List.foldl_nil, Core.fillTreg_eq, Nat.add_zero]
  refine congrArg (fun es => (x.putTreg _ es).vxDone d.seq) (firstElems_congr fun e he => ?_)
  have hline : e / 16 < 16 := by omega
  simp only [haxis, hfen, h4, h5, getD_map_range _ _ hline, Core.scanned, if_true, if_false, Bool.false_and, Nat.mul_one, Nat.mul_zero, Nat.zero_add]
  rw [Core.scanInput_axis0, show (default : SVal) = Prod.fst (default : SVal × Bool) from rfl, List.getD_map]

/-! ### VX_STORE (R157) -/

/-- A store of one pass of a format that is not an integer, without REQREG, its scales not computed. -/
structure Cmd.PlainStore (d : Cmd) : Prop where
  format : storeInt (fld (d.o 1) 22 19) = false
  tiles : fld (d.o 1) 26 23 = 0
  req : flag (d.o 1) 15 = false
  mode : flag (d.o 1) 16 = false

/-- The rows that such a store converts. -/
def Core.storedRows (c : Core) (d : Cmd) : List StoredRow :=
  (List.range (fld (d.o 1) 9 6 + 1)).map (fun i => storeRow (fld (d.o 1) 22 19) 0 none (c.storeVals d i))

/-- The columns that a store of one pass writes. -/
def Cmd.storeWidth (d : Cmd) : Nat := min (fld (d.o 4) 7 0 + 1) 16

/-- The state once the pass of a store has counted what it marks. -/
def State.storeCounted (s : State) (n : Nat) (d : Cmd) (rows : List StoredRow) : State :=
  ((s.enterPass n [fld (d.o 1) 31 27]).cBump n Reg.vxCntSat ((rows.map (fun r => marked r.sat 0 d.storeWidth)).sum)).cBump n Reg.vxCntNan
    ((rows.map (fun r => marked r.nan 0 d.storeWidth)).sum)

/-- The runs that a store of one pass writes. -/
def Cmd.storedRuns (d : Cmd) (rows : List StoredRow) : List (Nat × List Byte) :=
  rows.zipIdx.map (fun r => (4 * (d.wr 0 + r.2 * fld (d.o 2) 21 0), r.1.data.take (ceilDiv (vxBits (fld (d.o 1) 22 19) * d.storeWidth) 8)))

namespace Cmd.PlainStore
variable {d : Cmd} (h : d.PlainStore)
include h

theorem group : storeGroup d = 0 := by rw [storeGroup, h.format]; rfl

theorem notGiven : storeGiven d = false := by rw [storeGiven, h.format]; rfl

theorem reads (p : Nat) : storeReads d p = [fld (d.o 1) 31 27 + p] := by simp [storeReads, h.req]

theorem cols : storeCols (storeGroup d) (flag (d.o 1) 16) (fld (d.o 4) 7 0 + 1) 0 = (0, d.storeWidth) := by
  simp [storeCols, h.mode, Cmd.storeWidth]

theorem runs (rows : List StoredRow) :
    storeRuns d (vxBits (fld (d.o 1) 22 19)) (storeGroup d) (0, d.storeWidth) rows = (d.storedRuns rows, []) := by
  simp [storeRuns, h.group, Cmd.storedRuns]

end Cmd.PlainStore

theorem State.engPut_nil (s : State) (n port : Nat) (rs : List (Nat × Nat)) : s.engPut n port rs [] = (s, none) := rfl

theorem State.storePass_plain {s v : State} {n : Nat} {d : Cmd} {inj : Inject} {rows : List StoredRow} (h : d.PlainStore) (hinj : SparesRegs inj)
    (hput : (s.storeCounted n d rows).engPut n 3 d.wrs (d.storedRuns rows) = (v, none)) : s.storePass n d inj rows 0 = (v, none) := by
  rw [State.storePass]
  dsimp only
  rw [h.reads, hinj.parityAt]
  dsimp only
  rw [h.cols, h.runs]
  dsimp only
  rw [Nat.add_zero]
  unfold State.storeCounted at hput
  rw [hput]
  dsimp only
  rw [State.engPut_nil]

theorem State.runVstore_plain {s v : State} {n : Nat} {d : Cmd} {inj : Inject} {rows : List StoredRow} (h : d.PlainStore) (hinj : SparesRegs inj)
    (hrows : ((s.strike n inj).core n).storedRows d = rows)
    (hput : ((s.strike n inj).storeCounted n d rows).engPut n 3 d.wrs (d.storedRuns rows) = (v, none)) :
    s.runVstore n d inj = v.modCore n (fun c => c.vxDone d.seq) := by
  have hpass := State.vxPasses_one (pass := fun s p => s.storePass n d inj rows p) (State.storePass_plain h hinj hput)
  unfold Core.storedRows at hrows
  rw [State.runVstore]
  simp only [h.notGiven, h.group, h.tiles, h.req, Bool.false_eq_true, if_false, hrows]
  rw [hpass]

theorem Core.storedRows_congr {c c' : Core} (hregs : c'.tregs = c.tregs) (hwss : c'.wss = c.wss) (d : Cmd) : c'.storedRows d = c.storedRows d := by
  simp only [Core.storedRows, Core.storeVals, Core.treg_congr hregs hwss]

/-! ### VX_CHAIN (R141-R144) -/

theorem popsTiles_chain {d : Cmd} (hop : d.op = opVxChain) (hx : fld (d.o 1) 31 30 ≠ 1) : popsTiles d = false := by
  simp [popsTiles, hop, hx, opVxChain, opCompatStore]

theorem chainPasses_chain {d : Cmd} (hop : d.op = opVxChain) : chainPasses d = chainT d.ops := if_pos hop

theorem State.chainRun_fails {s u : State} {n e left p : Nat} {d : Cmd} {inj : Inject} (hop : d.op = opVxChain) (hx : fld (d.o 1) 31 30 ≠ 1)
    (h : s.chainPass n d inj p = (u, some e)) : s.chainRun n d inj (left + 1) p = (u, none) := by
  rw [State.chainRun, popsTiles_chain hop hx, Bool.false_and, if_neg Bool.false_ne_true, if_pos hop, h]

theorem State.chainRun_one {s u : State} {n p : Nat} {d : Cmd} {inj : Inject} (hop : d.op = opVxChain) (hx : fld (d.o 1) 31 30 ≠ 1)
    (h : s.chainPass n d inj p = (u, none)) : s.chainRun n d inj 1 p = (u, some (p + 1)) := by
  rw [State.chainRun, popsTiles_chain hop hx, Bool.false_and, if_neg Bool.false_ne_true, if_pos hop, h]
  rfl

theorem State.runChain_parity {s : State} {n r : Nat} {d : Cmd} (hop : d.op = opVxChain) (hr : r ∈ chainReads d 0) (hprog : d.prog = 0)
    (hpos : 0 < chainT d.ops) (hx : fld (d.o 1) 31 30 ≠ 1) :
    s.runChain n d (.regParity r 0) = (s.enterPass n (chainReads d 0)).vxParity n r d.va := by
  have hpass : s.chainPass n d (.regParity r 0) 0 = ((s.enterPass n (chainReads d 0)).vxParity n r d.va, some codeVxParity) := by
    rw [State.chainPass]
    dsimp only
    rw [parityAt_read hr]
  obtain ⟨k, hk⟩ : ∃ k, chainT d.ops = k + 1 := ⟨chainT d.ops - 1, by omega⟩
  rw [State.runChain, chainPasses_chain hop, hprog, hk, Nat.sub_zero, State.strike_regParity, State.chainRun_fails hop hx hpass]

/-- A chain of one pass that has not begun, from a register to a register, without predicate and without WFMA. -/
structure Cmd.PlainChain (d : Cmd) : Prop where
  op : d.op = opVxChain
  start : d.prog = 0
  passes : chainT d.ops = 1
  source : fld (d.o 1) 31 30 = 0
  noPredicate : flag (d.o 2) 20 = false
  toRegister : flag (d.o 2) 31 = false
  noWfma : ∀ st ∈ chainStages d.ops, st.op ≠ opWfma

/-- Element `e` of what such a chain leaves. -/
def Core.chained (c : Core) (d : Cmd) (e : Nat) : Word :=
  (chainElem ⟨c.treg (fld (d.o 1) 29 25) e, if flag (d.o 1) 24 then c.treg (fld (d.o 1) 23 19) e else 0, c.stageR 0 e⟩ (fld (d.o 1) 18 16)
    (fld (d.o 1) 15 13) (chainStages d.ops)).1.getLastD 0

theorem Core.stageR_congr {c c' : Core} (hregs : c'.tregs = c.tregs) (hwss : c'.wss = c.wss) (t e : Nat) : c'.stageR t e = c.stageR t e := by
  funext st
  simp only [Core.stageR, Core.treg_congr hregs hwss]

theorem Core.chained_congr {c c' : Core} (hregs : c'.tregs = c.tregs) (hwss : c'.wss = c.wss) (d : Cmd) : c'.chained d = c.chained d := by
  funext e
  simp only [Core.chained, Core.stageR_congr hregs hwss, Core.treg_congr hregs hwss]

/-- Where every element is active, all results are written. -/
theorem filterMap_active {α : Type} (l : List Nat) (g : Nat → α) (f : α → Word) (zeroes : Bool) :
    (l.map (fun i => (i, true, g i))).filterMap (fun x => if x.2.1 then some (x.1, f x.2.2) else if zeroes then some (x.1, 0) else none) =
      l.map (fun i => (i, f (g i))) := by
  rw [List.filterMap_map, ← List.filterMap_eq_map]
  rfl

theorem State.chainPass_plain {s : State} {n : Nat} {d : Cmd} {inj : Inject} (h : d.PlainChain) (hinj : SparesRegs inj) :
    s.chainPass n d inj 0 = ((s.enterPass n (chainReads d 0)).modCore n
      (fun x => x.putTreg (fld (d.o 2) 30 26) (firstElems (min 256 (chainE d.ops)) ((s.core n).chained d))), none) := by
  have hw : (chainStages d.ops).any (fun st => st.op == opWfma) = false := by simpa using h.noWfma
  have hcore := (State.CountsOnly.enterPass s n (chainReads d 0)).core n
  rw [State.chainPass]
  dsimp only
  rw [hinj.parityAt]
  dsimp only
  simp only [h.source, State.passTile, hw, h.noPredicate, h.toRegister, Nat.mul_zero, Nat.sub_zero, Nat.add_zero, Bool.not_false, Bool.true_or,
    Nat.reduceBEq, OfNat.zero_ne_ofNat, Bool.false_eq_true, if_false, hcore]
  exact congrArg (fun es => ((s.enterPass n (chainReads d 0)).modCore n (fun x => x.putTreg (fld (d.o 2) 30 26) es), none))
    (filterMap_active _ _ (fun y : List Word × Word => y.1.getLastD 0) _)

theorem State.runChain_plain {s : State} {n : Nat} {d : Cmd} {inj : Inject} (h : d.PlainChain) (hinj : SparesRegs inj) (hn : n < s.cores.length) :
    s.runChain n d inj = ((s.strike n inj).enterPass n (chainReads d 0)).wroteTreg n d.seq (fld (d.o 2) 30 26)
      (firstElems (min 256 (chainE d.ops)) (((s.strike n inj).core n).chained d)) := by
  have hx : fld (d.o 1) 31 30 ≠ 1 := by rw [h.source]; decide
  have hv : n < ((s.strike n inj).enterPass n (chainReads d 0)).cores.length := by
    rwa [(State.CountsOnly.enterPass _ n _).cores, State.cores_length_strike]
  rw [State.runChain, chainPasses_chain h.op, h.start, h.passes, Nat.sub_zero, State.chainRun_one h.op hx (State.chainPass_plain h hinj)]
  dsimp only
  rw [if_pos (Nat.le_refl 1), State.modCore_modCore _ _ _ hv, State.wroteTreg]

theorem State.tregs_strike (s : State) {n : Nat} (inj : Inject) (hn : n < s.cores.length) :
    ((s.strike n inj).core n).tregs = (s.core n).tregs ∧ ((s.strike n inj).core n).wss = (s.core n).wss := by
  obtain ⟨bad, soft, h⟩ := s.core_strike inj hn
  rw [h]
  exact ⟨rfl, rfl⟩

/-- Settles O23: each command by the state that its run leaves, and the register that it fills by `State.treg_wroteTreg`. -/
theorem vectorCommandsRun : Obligations.VectorCommandsRun := by
  intro s n d inj hn hon hlen hrise c quiet hh hq
  have hc : n < s.cores.length := hlen ▸ hn
  have hcs : n < (s.strike n inj).cores.length := by rwa [State.cores_length_strike]
  obtain ⟨hregs, hwss⟩ := s.tregs_strike inj hc
  have hfull : ∀ f, ∀ x ∈ firstElems 256 f, x.1 < 256 := fun f _ => lt_of_mem_firstElems
  refine ⟨fun hd => ?_, fun hd => ?_, fun hd => ?_, fun hd => ?_, fun hd => ?_⟩
  · intro w rows cols rd
    have hrun := exec_core (c := .vxLoad n inj) (f := fun s => s.doVxLoad n inj) rfl hn hon (State.doVxLoad_runs inj hh hq hd)
    refine ⟨hrun, fun u e hrd => hrun.trans (congrArg _ (State.runVload_fails hrd)), fun u bs hrd htiles hu hw => ?_⟩
    have hnu : n < u.cores.length := by rwa [State.cores_length_engRuns hrd]
    have hv := State.CountsOnly.enterPass u n []
    exact ⟨_, hrun.trans (congrArg _ (State.runVload_oneTile hrd htiles hnu)), State.leavesBut_wroteTreg hv hnu hu hrise hw (hfull _),
      fun e he => State.treg_wroteTreg hv hnu hu hrise _ (fld_lt_32 _ rfl) he⟩
  · intro w t src
    have hrun := exec_core (c := .vxReduce n inj) (f := fun s => s.doVxReduce n inj) rfl hn hon (State.doVxReduce_runs inj hh hq hd)
    refine ⟨fun r hinj hr hacc => ?_, fun hinj hop haxis hacc => ?_⟩
    · subst hinj
      exact hrun.trans (congrArg _ (State.runReduce_parity hr hacc))
    · have hv := State.CountsOnly.enterPasses s n d.reduceReads (fld (d.o 1) 19 16 + 1)
      exact ⟨_, hrun.trans (congrArg _ (State.runReduce_axis0 hinj hop haxis hacc)), State.leavesBut_wroteTreg hv hc rfl hrise rfl (hfull _),
        fun e he => State.treg_wroteTreg hv hc rfl hrise _ (fld_lt_32 _ rfl) he⟩
  · intro w src dst
    have hrun := exec_core (c := .vxScan n inj) (f := fun s => s.doVxScan n inj) rfl hn hon (State.doVxScan_runs inj hh hq hd)
    refine ⟨fun r hinj hr hop hfen => ?_, fun hinj hop haxis hfen htiles => ?_⟩
    · subst hinj
      exact hrun.trans (congrArg _ (State.runScan_parity hr hop hfen))
    · have hv := State.CountsOnly.enterPasses s n d.scanReads (fld (d.o 1) 23 20 + 1)
      exact ⟨_, hrun.trans (congrArg _ (State.runScan_oneTile hinj hop haxis hfen htiles)), State.leavesBut_wroteTreg hv hc rfl hrise rfl (hfull _),
        fun e he => State.treg_wroteTreg hv hc rfl hrise _ (fld_lt_32 _ rfl) he⟩
  · intro w out
    have hrun := exec_core (c := .vxStore n inj) (f := fun s => s.doVxStore n inj) rfl hn hon (State.doVxStore_runs inj hh hq hd)
    refine ⟨hrun, fun u v a b hinj hfmt htiles hreq hmode ha hb hu hput => ?_⟩
    subst ha hb hu
    exact hrun.trans (congrArg _ (State.runVstore_plain ⟨hfmt, htiles, hreq, hmode⟩ hinj (Core.storedRows_congr hregs hwss d) hput))
  · intro w v
    have hrun := exec_core (c := .vxChain n inj) (f := fun s => s.doVxChain n inj) rfl hn hon (State.doVxChain_runs inj hh hq hd)
    refine ⟨hrun, fun r hinj hop hr hprog hpos hx => ?_, fun hinj hop hprog hpasses hx hpred hreg hwfma => ?_⟩
    · subst hinj
      exact hrun.trans (congrArg _ (State.runChain_parity hop hr hprog hpos hx))
    · have hv := State.CountsOnly.enterPass (s.strike n inj) n (chainReads d 0)
      have hplain : d.PlainChain := ⟨hop, hprog, hpasses, hx, hpred, hreg, hwfma⟩
      have hstate := State.runChain_plain hplain hinj hc
      rw [Core.chained_congr hregs hwss] at hstate
      exact ⟨_, hrun.trans (congrArg _ hstate),
        State.leavesBut_wroteTreg hv hcs hregs hrise hwss fun x hx => Nat.lt_of_lt_of_le (lt_of_mem_firstElems hx) (Nat.min_le_left _ _),
        fun e he => State.treg_wroteTreg hv hcs hregs hrise _ (fld_lt_32 _ rfl) he⟩

end Sys2Proof.Machine
end

section
/-! The start of a pending generation and the shares of the traffic classes (O30). -/

namespace Sys2Proof.Machine

/-! ### The start of a pending generation (R198, R199) -/

/-- The core once the generation of a slot waits no longer. -/
def Core.startGen (c : Core) (slice slot : Nat) : Core :=
  { c with descs := mput c.descs (slotKey slice slot) { c.desc slice slot with pending := false } }

theorem Core.desc_startGen (c : Core) (slice slot : Nat) :
    (c.startGen slice slot).desc slice slot = { c.desc slice slot with pending := false } := by
  rw [Core.desc, mgetD, Core.startGen, mget_mput_same]
  rfl

/-- With no element left to issue, a generation has ended when none of its transfers is left. -/
theorem Core.genOver_of_noArms {c : Core} (h : c.arms = []) (seq : Nat) : c.genOver seq = !c.moving seq := by
  rw [Core.genOver, h, List.all_nil, Bool.and_true]

/-- The only generation of a slot, started and with every element issued, stays live while transfers of it are left. -/
theorem Core.liveOf_single {c : Core} {x : DescSlot} {g : Nat × Nat} (harms : c.arms = []) (hpending : x.pending = false) (hlive : x.live = [g]) :
    c.liveOf x = if c.moving g.2 then [g] else [] := by
  rw [Core.liveOf, hlive, hpending, List.filter_singleton, Core.genOver_of_noArms harms, Bool.not_not, Bool.false_and, Bool.or_false,
    Bool.cond_eq_ite]

/-- What GENERATION_START leaves of a slot whose elements have all been issued. -/
theorem Core.desc_settleGens_startGen {c : Core} {slice slot : Nat} {g : Nat × Nat} (harms : c.arms = [])
    (hlive : (c.desc slice slot).live = [g]) : (c.startGen slice slot).settleGens.desc slice slot =
      { gen := (c.desc slice slot).gen, live := if c.moving g.2 then [g] else [], pending := false } := by
  have hleft : (c.startGen slice slot).liveOf { c.desc slice slot with pending := false } = if c.moving g.2 then [g] else [] :=
    Core.liveOf_single (c := c.startGen slice slot) harms rfl hlive
  rw [Core.desc_settleGens, Core.desc_startGen, hleft]

section
variable {s : State} {n slice slot : Nat}

theorem exec_generationStart (hn : n < 32) (hon : s.domOn n = true) :
    exec (.generationStart n slice slot) s = .next (s.doGenerationStart n slice slot) :=
  exec_core (f := fun s => s.doGenerationStart n slice slot) rfl hn hon rfl

/-- The older generation has retired: the pending one starts. -/
theorem State.doGenerationStart_pending {g : Nat × Nat} (hpending : ((s.core n).desc slice slot).pending = true)
    (hlive : ((s.core n).desc slice slot).live = [g]) :
    s.doGenerationStart n slice slot = ((s.modCore n (fun c => c.startGen slice slot)).armsGo n).modCore n Core.settleGens := by
  unfold State.doGenerationStart
  dsimp only
  split
  · exact congrArg (fun u : State => (u.armsGo n).modCore n Core.settleGens) (State.modCore_congr rfl)
  · next hother => exact (hother _ hpending hlive).elim

/-- No generation of the slot waits, or the older one is still live. -/
theorem State.doGenerationStart_nothing
    (h : ((s.core n).desc slice slot).pending = false ∨ ((s.core n).desc slice slot).live.length ≠ 1) :
    s.doGenerationStart n slice slot = s := by
  unfold State.doGenerationStart
  dsimp only
  split
  · next hpending hlive => simp [hpending, hlive] at h
  · rfl

/-- Where no element is left to issue, the started generation can only retire. -/
theorem State.doGenerationStart_noArms {g : Nat × Nat} (hn : n < s.cores.length) (harms : (s.core n).arms = [])
    (hpending : ((s.core n).desc slice slot).pending = true) (hlive : ((s.core n).desc slice slot).live = [g]) :
    s.doGenerationStart n slice slot = s.modCore n (fun c => (c.startGen slice slot).settleGens) := by
  have hnone : ((s.modCore n (fun c => c.startGen slice slot)).core n).arms = [] := by
    rw [s.core_modCore_same _ hn]
    exact harms
  rw [State.doGenerationStart_pending hpending hlive, State.armsGo_none hnone, State.modCore_modCore _ _ _ hn]

end

/-! ### The shares (R188, R214) -/

/-- A value without bits outside the read-write fields, written over another such value, is what the register then holds. -/
theorem writtenValue_of_spareZero {r : RegSpec} {old v : Word} (henc : r.enc = []) (hw1c : r.w1c = 0#32) (hold : old &&& ~~~r.rw = 0#32)
    (hv : v &&& ~~~r.rw = 0#32) : writtenValue r old v = v := by
  have hkeep : ∀ i, flag (keptBits ([] : List (Nat × Nat × Nat × Nat)) v 0) i = false := fun i => BitVec.getLsbD_zero
  refine BitVec.eq_of_getLsbD_eq fun i hi => (flag_writtenValue r old v hi).trans ?_
  have hold' := congrArg (fun x => BitVec.getLsbD x i) hold
  have hv' := congrArg (fun x => BitVec.getLsbD x i) hv
  rw [henc, hw1c, hkeep]
  simp only [flag, BitVec.getLsbD_and, BitVec.getLsbD_not, BitVec.getLsbD_zero, hi, decide_true, Bool.true_and] at hold' hv' ⊢
  cases hrw : r.rw.getLsbD i with
  | true => simp
  | false =>
    rw [hrw, Bool.not_false, Bool.and_true] at hold' hv'
    simp [hold', hv']

section
variable {s : State} {n : Nat} {v : Word}

theorem exec_sxShareWrite (hn : n < 32) (ha : s.answers (.core n 0) = true) :
    exec (.sxShareWrite n v) s = .next (s.doSxShareWrite n v) :=
  exec_window (f := fun s => s.doSxShareWrite n v) rfl hn ha rfl

/-- Shares of more than sixteen sixteenths only set SX_ERR.SHARE. -/
theorem State.doSxShareWrite_over (h : 16 < fld v 20 16 + fld v 12 8 + fld v 4 0) :
    s.doSxShareWrite n v = s.orReg (coreKey n Reg.sxErr) 1 := if_pos h

theorem State.doSxShareWrite_within (hn : n < 32) (h : fld v 20 16 + fld v 12 8 + fld v 4 0 ≤ 16) (hv : v &&& 0xFFE0E0E0#32 = 0#32)
    (hold : s.cReg n Reg.sxShare &&& 0xFFE0E0E0#32 = 0#32) : s.doSxShareWrite n v = s.setReg (coreKey n Reg.sxShare) v := by
  rw [State.doSxShareWrite, if_neg (not_lt.mpr h), s.plainWrite_spec v (specOf_sxShare hn), writtenValue_of_spareZero rfl rfl hold hv]

end

theorem sxShare_ne_sxErr (n : Nat) : coreKey n Reg.sxShare ≠ coreKey n Reg.sxErr := by
  unfold coreKey
  exact fun h => absurd (Nat.add_left_cancel h) (by decide)

/-- Settles O30: GENERATION_START by its three cases, the write of SX_SHARE by the register that it sets. -/
theorem generationsAndShares : Obligations.GenerationsAndShares := by
  intro s n hn hlen hr c
  have hc : n < s.cores.length := hlen ▸ hn
  refine ⟨fun slice slot hon => ?_, fun v ha => ?_⟩
  · rw [exec_generationStart hn hon]
    refine ⟨fun g hpending hlive => ⟨congrArg _ (State.doGenerationStart_pending hpending hlive), fun harms => ?_⟩,
      fun hidle => congrArg _ (State.doGenerationStart_nothing hidle)⟩
    refine ⟨_, congrArg _ (State.doGenerationStart_noArms hc harms hpending hlive), rfl, ?_⟩
    rw [s.core_modCore_same _ hc, Core.desc_settleGens_startGen harms hlive]
    exact ⟨rfl, rfl, rfl, rfl, rfl, fun m hm => s.core_modCore_ne _ hm⟩
  · rw [exec_sxShareWrite hn ha]
    refine ⟨fun hsum => ?_, fun hsum hv hold => ?_⟩
    · rw [State.doSxShareWrite_over hsum]
      refine ⟨_, rfl, s.reg_orReg_ne _ hr (sxShare_ne_sxErr n), ?_, fun k hk => s.reg_orReg_ne _ hr hk, s.orReg_cores _ _⟩
      rw [State.cReg, s.reg_orReg_same _ _ hr, flag, BitVec.getLsbD_or]
      exact Bool.or_true _
    · rw [State.doSxShareWrite_within hn hsum hv hold]
      exact ⟨_, rfl, s.reg_setReg_same _ _ hr, fun k hk => s.reg_setReg_ne _ hr hk, s.setReg_cores _ _⟩

end Sys2Proof.Machine
end

section
/-! The Loupe (O32): whose turn it is, and what becomes of its block. -/

namespace Sys2Proof.Machine

/-! ### Turns (R29, R230) -/

/-- A request of requester `q` with blocks still to decode. -/
def LoupeReq.awaits (q : Nat) (r : LoupeReq) : Bool := r.req == q && decide (r.next < r.blocks)

/-- The requester whose request has its turn next. -/
def Core.loupeNext (c : Core) : Option Nat := c.loupeOrder.find? (fun q => c.loupe.any (LoupeReq.awaits q))

/-- Requester `q` has had its turn and comes last. -/
def State.loupeTurned (s : State) (n q : Nat) : State :=
  s.modCore n (fun c => { c with loupeOrder := c.loupeOrder.filter (· ≠ q) ++ [q] })

theorem LoupeReq.req_of_awaits {q : Nat} {r : LoupeReq} (h : r.awaits q = true) : r.req = q := by
  rw [LoupeReq.awaits, Bool.and_eq_true, beq_iff_eq] at h
  exact h.1

theorem Core.loupeNext_eq_none {c : Core} (h : ∀ q ∈ c.loupeOrder, ∀ r ∈ c.loupe, r.awaits q = false) : c.loupeNext = none :=
  List.find?_eq_none.mpr fun q hq => Bool.not_eq_true _ ▸ List.any_eq_false.mpr fun r hr => Bool.not_eq_true _ ▸ h q hq r hr

/-! ### Releases (R225, R230, R311) -/

theorem LoupeReq.released_matrix {r : LoupeReq} (bs : List Byte) (h : r.req = 0) :
    r.released bs = [{ r with next := r.next + 1, out := r.out ++ bs }] := by
  simp [LoupeReq.released, h]

theorem LoupeReq.released_expand {r : LoupeReq} (bs : List Byte) (h : r.req = 1) :
    r.released bs = [{ r with next := r.next + 1, out := [] }] := by
  simp [LoupeReq.released, h]

theorem LoupeReq.released_refill {r : LoupeReq} (bs : List Byte) (h : r.req = 2) :
    r.released bs = if r.blocks ≤ r.next + 1 then [] else [{ r with next := r.next + 1, out := [] }] := by
  simp [LoupeReq.released, h]

/-- The requests of requester `q` for command `seq` release a block. -/
def Core.loupeReleased (c : Core) (seq q : Nat) (bs : List Byte) : Core :=
  { c with loupe := c.loupe.flatMap (fun x => if x.seq = seq ∧ x.req = q then x.released bs else [x]) }

/-- Releases that end no request change the requests in place. -/
theorem Core.loupeReleased_map {c : Core} {seq q : Nat} {bs : List Byte} {f : LoupeReq → LoupeReq} (hf : ∀ y, y.req = q → y.released bs = [f y]) :
    c.loupeReleased seq q bs = { c with loupe := c.loupe.map (fun y => if y.seq = seq ∧ y.req = q then f y else y) } := by
  have hstep (y : LoupeReq) :
      (if y.seq = seq ∧ y.req = q then y.released bs else [y]) = [if y.seq = seq ∧ y.req = q then f y else y] := by
    split
    · next h => exact hf y h.2
    · rfl
  rw [Core.loupeReleased, List.map_eq_flatMap]
  simp only [hstep]

/-- A refill's request ends with its last block. -/
theorem Core.loupeReleased_refill (c : Core) (seq : Nat) (bs : List Byte) :
    c.loupeReleased seq 2 bs = { c with loupe := c.loupe.flatMap (fun y => if y.seq = seq ∧ y.req = 2 then
      (if y.blocks ≤ y.next + 1 then [] else [{ y with next := y.next + 1, out := [] }]) else [y]) } := by
  have hstep (y : LoupeReq) : (if y.seq = seq ∧ y.req = 2 then y.released bs else [y]) =
      if y.seq = seq ∧ y.req = 2 then (if y.blocks ≤ y.next + 1 then [] else [{ y with next := y.next + 1, out := [] }]) else [y] :=
    ite_congr rfl (fun h => LoupeReq.released_refill bs h.2) fun _ => rfl
  simp only [Core.loupeReleased, hstep]

/-! ### Where a block lands (R225, R235, R311) -/

section
variable {s : State} {n : Nat} {r : LoupeReq} {bs : List Byte}

theorem State.loupeLand_matrix (h : r.req = 0) : s.loupeLand n r bs = (s, none) := by
  simp [State.loupeLand, h]

theorem State.loupeLand_expand {d : Cmd} (h : r.req = 1) (hd : (s.core n).sxA.find? (fun y => y.seq == r.seq) = some d) :
    s.loupeLand n r bs = s.engWrite n 4 d.wrs (4 * d.wr 0 + 4096 * r.next) bs := by
  simp [State.loupeLand, h, hd]

theorem State.loupeLand_refill (h : r.req = 2) : s.loupeLand n r bs = s.spadWrite n 4 (64 * r.line + 4096 * r.next) bs :=
  if_pos h

end

/-! ### One decoding (R233, R235) -/

section
variable {s u v : State} {n q code : Nat} {r : LoupeReq} {bs : List Byte}

theorem exec_loupeBlockDecode (hn : n < 32) (hon : s.domOn n = true) : exec (.loupeBlockDecode n) s = .next (s.doLoupeBlockDecode n) :=
  exec_core (f := fun s => s.doLoupeBlockDecode n) rfl hn hon rfl

theorem State.doLoupeBlockDecode_nothing (h : (s.core n).loupeNext = none) : s.doLoupeBlockDecode n = s := by
  have harb : arbitrate (s.core n).loupeOrder (fun q => (s.core n).loupe.any (LoupeReq.awaits q)) = none := congrArg _ h
  unfold State.doLoupeBlockDecode
  unfold LoupeReq.awaits at harb
  simp only [harb]

/-- The decoding of a block of request `r` of requester `q`: by the Loupe's index, or for a refill out of what the save area held. -/
def State.loupeDecode (s : State) (n q : Nat) (r : LoupeReq) : State × Except Nat (List Byte) :=
  if q = 2 then s.refillBlock n r else s.loupeBlock n r

/-- The address that a fault of the Loupe in request `r` of requester `q` reports. -/
def Core.loupeVa (c : Core) (q : Nat) (r : LoupeReq) : Nat :=
  ((c.mxA ++ c.sxA).find? (fun d => d.seq == r.seq && q != 2)).elim c.curSl.pc Cmd.va

/-- What a turn leaves when the decoding of its block gave `x`; `c` is the core before it. -/
def State.loupeOutcome (n q : Nat) (r : LoupeReq) (c : Core) (va : Nat) : State × Except Nat (List Byte) → State
  | (u, .error code) =>
    if q = 0 ∧ (c.mxA.any (fun d => d.seq == r.seq && d.op == opMxLoad)) then (u.coreFault n code va).modCore n Core.badPlane
    else u.coreFault n code va
  | (u, .ok bs) =>
    match u.loupeLand n r bs with
    | (v, some code) => v.coreFault n code va
    | (v, none) => v.modCore n (fun c => c.loupeReleased r.seq q bs)

section
variable (hq : (s.core n).loupeNext = some q) (hr : (s.core n).loupe.find? (LoupeReq.awaits q) = some r)
include hq hr

/-- A turn decodes one block of the request whose turn it is. -/
theorem State.doLoupeBlockDecode_turn : s.doLoupeBlockDecode n =
    State.loupeOutcome n q r (s.core n) (((s.loupeTurned n q).core n).loupeVa q r) ((s.loupeTurned n q).loupeDecode n q r) := by
  have harb : arbitrate (s.core n).loupeOrder (fun q => (s.core n).loupe.any (LoupeReq.awaits q)) =
      some (q, (s.core n).loupeOrder.filter (· ≠ q) ++ [q]) := by
    rw [arbitrate, show List.find? _ _ = some q from hq, Option.map_some]
  unfold State.doLoupeBlockDecode
  unfold LoupeReq.awaits at harb hr
  simp only [harb, hr]
  rfl

theorem State.doLoupeBlockDecode_good (hdec : (s.loupeTurned n q).loupeDecode n q r = (u, .ok bs)) (hland : u.loupeLand n r bs = (v, none)) :
    s.doLoupeBlockDecode n = v.modCore n (fun c => c.loupeReleased r.seq q bs) := by
  rw [State.doLoupeBlockDecode_turn hq hr, hdec]
  simp only [State.loupeOutcome, hland]

/-- A bad block of a requester other than the matrix engine. -/
theorem State.doLoupeBlockDecode_bad (hmx : q ≠ 0) (hdec : (s.loupeTurned n q).loupeDecode n q r = (u, .error code)) :
    s.doLoupeBlockDecode n = u.coreFault n code (((s.loupeTurned n q).core n).loupeVa q r) := by
  rw [State.doLoupeBlockDecode_turn hq hr, hdec]
  exact if_neg fun h => hmx h.1

end

/-- A turn leaves the commands and the program counter. -/
theorem State.loupeVa_loupeTurned (hc : n < s.cores.length) : ((s.loupeTurned n q).core n).loupeVa q r = (s.core n).loupeVa q r := by
  rw [State.loupeTurned, s.core_modCore_same _ hc]
  rfl

/-- With no matrix command at work the fault of an EXPAND reports its command. -/
theorem Core.loupeVa_expand {c : Core} {d : Cmd} (hmx : c.mxA = []) (hd : c.sxA.find? (fun y => y.seq == r.seq) = some d) :
    c.loupeVa 1 r = d.va := by
  simp [Core.loupeVa, hmx, hd]

end

/-- Settles O32: the turn by `State.doLoupeBlockDecode_turn`, the block by where its requester's blocks land, a bad one by its fault. -/
theorem loupeDecodesOneBlock : Obligations.LoupeDecodesOneBlock := by
  intro s n hn hon hlen c wants
  have hc : n < s.cores.length := hlen ▸ hn
  rw [exec_loupeBlockDecode hn hon]
  refine ⟨fun hidle => congrArg _ (State.doLoupeBlockDecode_nothing (Core.loupeNext_eq_none hidle)), ?_⟩
  intro q r hq hr turn
  have hreq : r.req = q := LoupeReq.req_of_awaits (List.find?_some hr)
  refine ⟨?_, ?_, ?_, ?_⟩
  · rintro u bs rfl hdec
    rw [State.doLoupeBlockDecode_good hq hr hdec (State.loupeLand_matrix hreq)]
    exact congrArg _ (State.modCore_congr (Core.loupeReleased_map fun _ => LoupeReq.released_matrix bs))
  · rintro u v bs d rfl hdec hd hwrite
    rw [State.doLoupeBlockDecode_good hq hr hdec ((State.loupeLand_expand hreq hd).trans hwrite)]
    exact congrArg _ (State.modCore_congr (Core.loupeReleased_map fun _ => LoupeReq.released_expand bs))
  · rintro u v bs rfl hdec hwrite
    rw [State.doLoupeBlockDecode_good hq hr hdec ((State.loupeLand_refill hreq).trans hwrite)]
    exact congrArg _ (State.modCore_congr (Core.loupeReleased_refill _ r.seq bs))
  · rintro u e d rfl hdec hmx - hd
    rw [State.doLoupeBlockDecode_bad hq hr one_ne_zero hdec, State.loupeVa_loupeTurned hc, Core.loupeVa_expand hmx hd]

end Sys2Proof.Machine
end

section
/-! The page-table unit: the requests at the head of its queue (O35, O36), copies and fills (O37). -/

namespace Sys2Proof.Machine

/-! ### The head of the queue (R278, R297) -/

theorem State.kvHead_eq {s : State} {r : KvReq} {rest : List KvReq} (hen : flag (s.reg Reg.logKvCtrl) 0 = true)
    (hq : s.log.kv.queue = r :: rest) (op : KvOp) : s.kvHead op = if r.op = op then some r else none := by
  rw [State.kvHead, if_pos hen, hq]

theorem State.kvHead_same {s : State} {r : KvReq} {rest : List KvReq} {op : KvOp} (hen : flag (s.reg Reg.logKvCtrl) 0 = true)
    (hq : s.log.kv.queue = r :: rest) (h : r.op = op) : s.kvHead op = some r := (State.kvHead_eq hen hq op).trans (if_pos h)

/-- The events of the page-table unit's requests, each with the operation that it serves. -/
abbrev kvEvents : List (KvOp × Instr) :=
  [(KvOp.pin, Instr.pin), (.unpin, .unpin), (.mapFresh, .mapFresh), (.cow, .cow), (.attach, .attach), (.unmap, .unmap),
    (.releaseCore, .releaseCore), (.poolLoad, .poolLoad)]

/-- The event of an operation that does not stand at the head serves nothing. -/
theorem State.exec_kvEvent_other {s : State} (hup : s.rst.mode ≠ .held) {op : KvOp} {i : Instr} (hi : (op, i) ∈ kvEvents)
    (hh : s.kvHead op = none) : exec i s = .next s := by
  simp only [List.mem_cons, Prod.mk.injEq, List.not_mem_nil, or_false] at hi
  obtain ⟨rfl, rfl⟩ | ⟨rfl, rfl⟩ | ⟨rfl, rfl⟩ | ⟨rfl, rfl⟩ | ⟨rfl, rfl⟩ | ⟨rfl, rfl⟩ | ⟨rfl, rfl⟩ | ⟨rfl, rfl⟩ := hi
  · exact exec_hub rfl hup (by rw [State.doPin, hh])
  · exact exec_hub rfl hup (by rw [State.doUnpin, hh])
  · exact exec_hub rfl hup (by rw [State.doMapFresh, hh])
  · exact exec_hub rfl hup (by rw [State.doCow, hh])
  · exact exec_hub rfl hup (by rw [State.doAttach, hh])
  · exact exec_hub rfl hup (by rw [State.doUnmap, hh])
  · exact exec_hub rfl hup (by rw [State.doReleaseCore, hh])
  · exact exec_hub rfl hup (by rw [State.doPoolLoad, hh])

/-! ### What taking a request and answering it leave -/

theorem Kv.admit1_rest (k : Kv) : { k.admit1 with queue := k.queue, crossing := k.crossing, order := k.order } = k := by
  unfold Kv.admit1
  split
  · rfl
  · split <;> rfl

theorem Kv.foldl_admit1_rest (l : List Nat) (k : Kv) :
    { l.foldl (fun k _ => k.admit1) k with queue := k.queue, crossing := k.crossing, order := k.order } = k := by
  induction l generalizing k with
  | nil => rfl
  | cons a l ih =>
    exact (congrArg (fun x : Kv => { x with queue := k.queue, crossing := k.crossing, order := k.order }) (ih k.admit1) :).trans k.admit1_rest

/-- Taking a request off the queue changes only what waits at the unit. -/
theorem State.kvPop_kv (s : State) :
    { s.kvPop.log.kv with queue := s.log.kv.queue, crossing := s.log.kv.crossing, order := s.log.kv.order } = s.log.kv := by
  unfold State.kvPop State.kvAdmit
  split
  · have hrest := Kv.foldl_admit1_rest (List.range (64 - (s.log.kv.queue.drop 1).length)) { s.log.kv with queue := s.log.kv.queue.drop 1 }
    exact (congrArg (fun k : Kv => { k with queue := s.log.kv.queue }) hrest :)
  · rfl

@[simp] theorem State.kvPop_pins (s : State) : s.kvPop.log.kv.pins = s.log.kv.pins := (congrArg Kv.pins s.kvPop_kv :)

@[simp] theorem State.kvPop_copies (s : State) : s.kvPop.log.kv.copies = s.log.kv.copies := (congrArg Kv.copies s.kvPop_kv :)

/-- Setting a count leaves all but registers, memory and the hub's caches. -/
theorem State.accessesOnly_setCount (s : State) (p f k : Nat) : s.AccessesOnly (s.setCount p f k) := (State.AccessesOnly.refl s).hubPoke _ _

theorem State.AccessesOnly.setFree {s t : State} (h : s.AccessesOnly t) (p f : Nat) (v : Bool) : s.AccessesOnly (t.setFree p f v) := h.hubPoke _ _

theorem State.AccessesOnly.setCount {s t : State} (h : s.AccessesOnly t) (p f k : Nat) : s.AccessesOnly (t.setCount p f k) := h.hubPoke _ _

theorem State.AccessesOnly.pool {s t : State} (h : s.AccessesOnly t) (p : Nat) : t.pool p = s.pool p := by
  rw [State.pool, h.log, State.pool]

/-- An answer to a request leaves memory and the unit but for its line. -/
theorem State.kvAnswer_spec (s : State) (r : KvReq) (f : Attn → Attn) :
    (s.kvAnswer r f).mem = s.mem ∧ { (s.kvAnswer r f).log.kv with line := s.log.kv.line } = s.log.kv := by
  unfold State.kvAnswer
  split <;> exact ⟨rfl, rfl⟩

theorem State.lastInval_rest {s t : State} {ctx : Nat} {f : Inval → Inval} (h : s.lastInval ctx f = some t) : { t with hub := s.hub } = s := by
  unfold State.lastInval at h
  dsimp only at h
  split at h
  · cases h
    rfl
  · obtain ⟨l, -, rfl⟩ := Option.map_eq_some_iff.mp h
    rfl

/-- So does an answer that waits for an invalidation. -/
theorem State.kvLater_spec (s : State) (r : KvReq) (frame : Option Nat) :
    (s.kvLater r frame).mem = s.mem ∧ { (s.kvLater r frame).log.kv with line := s.log.kv.line } = s.log.kv := by
  unfold State.kvLater
  cases h : s.lastInval r.ctx (fun i => { i with answers := i.answers ++ [(r, frame)] }) with
  | none =>
    rw [Option.getD_none]
    exact s.kvAnswer_spec r _
  | some t =>
    have hrest := State.lastInval_rest h
    exact ⟨(congrArg State.mem hrest :), (congrArg (fun u : State => { u.log.kv with line := s.log.kv.line }) hrest :)⟩

/-! ### PIN and UNPIN (R277, R280) -/

section Serves
variable {s : State} {r : KvReq}

section Pin
variable (hh : s.kvHead .pin = some r)
include hh

theorem State.doPin_unmapped (hm : s.kvPop.kvMap r.ctx r.va = none) : s.doPin = s.kvPop.kvRefuse r 1 := by
  simp only [State.doPin, hh, hm]

variable {pa : Nat} (hm : s.kvPop.kvMap r.ctx r.va = some pa)
include hm

theorem State.doPin_noPool (hf : s.kvPop.poolOfFrame r.ctx pa = none) : s.doPin = s.kvPop.kvRefuse r 2 := by
  simp only [State.doPin, hh, hm, hf]

variable {q f : Nat} (hf : s.kvPop.poolOfFrame r.ctx pa = some (q, f))
include hf

theorem State.doPin_saturated (hc : s.kvPop.count q f = 0xFFFF) : s.doPin = s.kvPop.kvRefuse r 3 := by
  simp only [State.doPin, hh, hm, hf, if_pos hc]

/-- The count rises by 1 and the pin is recorded. -/
theorem State.doPin_pins (hc : s.kvPop.count q f ≠ 0xFFFF) :
    s.doPin.log.kv.pins = s.log.kv.pins ++ [(r.src.getD 0, r.seq, pa)] ∧ s.doPin.log.kv.queue = s.kvPop.log.kv.queue ∧
      s.doPin.mem = (s.kvPop.setCount q f (s.kvPop.count q f + 1)).mem := by
  have hlog := (s.kvPop.accessesOnly_setCount q f (s.kvPop.count q f + 1)).log
  simp only [State.doPin, hh, hm, hf, if_neg hc]
  generalize hu : State.modKv _ _ = u
  obtain ⟨hmem, hkv⟩ := u.kvAnswer_spec r (fun a => { a with pins := mput a.pins r.page pa })
  refine ⟨(congrArg Kv.pins hkv :).trans ?_, (congrArg Kv.queue hkv :).trans ?_, hmem.trans ?_⟩
  · simp [← hu, State.modKv, hlog]
  · simp [← hu, State.modKv, hlog]
  · simp [← hu, State.modKv]

end Pin

section Unpin
variable (hh : s.kvHead .unpin = some r)
include hh

theorem State.doUnpin_recorded (h : s.log.kv.pins.contains (r.src.getD 0, r.seq, r.frame) = true) :
    s.doUnpin = (s.kvPop.modKv (fun k => { k with pins := k.pins.erase (r.src.getD 0, r.seq, r.frame) })).lowerFrame r.ctx r.frame 1 := by
  simp only [State.doUnpin, hh, State.kvPop_pins, if_pos h]

theorem State.doUnpin_noRecord (h : s.log.kv.pins.contains (r.src.getD 0, r.seq, r.frame) = false) : s.doUnpin = s.kvPop := by
  simp only [State.doUnpin, hh, State.kvPop_pins, h, Bool.false_eq_true, if_false]

end Unpin

/-! ### MAP_FRESH (R277, R280) -/

section MapFresh
variable (hh : s.kvHead .mapFresh = some r)
include hh

theorem State.doMapFresh_noPool (hp : s.kvPop.poolOf r.pool r.ctx = false) : s.doMapFresh = s.kvPop.kvRefuse r 4 := by
  simp [State.doMapFresh, hh, hp]

variable (hp : s.kvPop.poolOf r.pool r.ctx = true)
include hp

theorem State.doMapFresh_noFrame (hl : s.kvPop.lowestFree r.pool = none) : s.doMapFresh = s.kvPop.kvRefuse r 2 := by
  simp [State.doMapFresh, hh, hp, hl]

theorem State.doMapFresh_foreign {old : Nat} (hm : s.kvPop.kvMap r.ctx r.va = some old) (hf : s.kvPop.poolOfFrame r.ctx old = none) :
    s.doMapFresh = s.kvPop.kvRefuse r 2 := by
  simp [State.doMapFresh, hh, hp, hm, hf]

theorem State.doMapFresh_maps {g : Nat} {u : State} (hl : s.kvPop.lowestFree r.pool = some g) (hm : s.kvPop.kvMap r.ctx r.va = none)
    (hu : ((s.kvPop.setFree r.pool g false).setCount r.pool g 1).kvMapTo r.ctx r.va (poolBase (s.kvPop.pool r.pool) + 65536 * g) = some u) :
    s.doMapFresh = (u.bump Reg.logKvCntAlloc).kvLater r (some (poolBase (s.kvPop.pool r.pool) + 65536 * g)) := by
  simp [State.doMapFresh, hh, hp, hl, hm, hu]

end MapFresh

/-! ### COW (R277, R280) -/

section Cow
variable (hh : s.kvHead .cow = some r)
include hh

theorem State.doCow_unmapped (hm : s.kvPop.kvMap r.ctx r.va = none) : s.doCow = s.kvPop.kvRefuse r 2 := by
  simp [State.doCow, hh, hm]

variable {pa : Nat} (hm : s.kvPop.kvMap r.ctx r.va = some pa)
include hm

theorem State.doCow_noPool (hf : s.kvPop.poolOfFrame r.ctx pa = none) : s.doCow = s.kvPop.kvRefuse r 2 := by
  simp [State.doCow, hh, hm, hf]

variable {q f : Nat} (hf : s.kvPop.poolOfFrame r.ctx pa = some (q, f))
include hf

theorem State.doCow_saturated (hc : s.kvPop.count q f = 0xFFFF) : s.doCow = s.kvPop.kvRefuse r 3 := by
  simp [State.doCow, hh, hm, hf, hc]

variable (hc : s.kvPop.count q f ≠ 0xFFFF)
include hc

theorem State.doCow_noFrame (hl : s.kvPop.lowestFree q = none) : s.doCow = s.kvPop.kvRefuse r 2 := by
  simp [State.doCow, hh, hm, hf, hc, hl]

/-- The copy starts, into the lowest free frame. -/
theorem State.doCow_copies {g : Nat} (hl : s.kvPop.lowestFree q = some g) :
    s.doCow.log.kv.copies = s.log.kv.copies ++ [⟨r, pa, poolBase (s.kvPop.pool q) + 65536 * g⟩] ∧
      s.doCow.mem = (((s.kvPop.setCount q f (s.kvPop.count q f + 1)).setFree q g false).setCount q g 1).mem := by
  have hacc := ((s.kvPop.accessesOnly_setCount q f (s.kvPop.count q f + 1)).setFree q g false).setCount q g 1
  have hpool : (((((s.kvPop.setCount q f (s.kvPop.count q f + 1)).setFree q g false).setCount q g 1).bump Reg.logKvCntAlloc).pool q) =
    s.kvPop.pool q := hacc.pool q
  simp only [State.doCow, hh, hm, hf, hl, if_neg hc, Option.bind_some, Option.map_some, State.modKv, hpool, State.bump_log, State.bump_mem,
    hacc.log, State.kvPop_copies, and_self]

end Cow
end Serves

/-- Settles O35: one lemma for each outcome of a request. -/
theorem kvRequestsOfCores : Obligations.KvRequestsOfCores := by
  intro s r rest n hup hen hq hsrc
  have hhead := fun op => State.kvHead_same (op := op) hen hq
  refine ⟨fun op i hi h => State.exec_kvEvent_other hup hi ((State.kvHead_eq hen hq op).trans (if_neg h)), ?pin, ?unpin, ?mapFresh, ?unmapped,
    ?noPool, ?refused, ?copies⟩
  case pin =>
    intro hop
    have hh := hhead _ hop
    refine ⟨fun hm => exec_hub rfl hup (State.doPin_unmapped hh hm), fun pa hm => ⟨fun hf => exec_hub rfl hup (State.doPin_noPool hh hm hf),
      fun q f hf => ⟨fun hc => exec_hub rfl hup (State.doPin_saturated hh hm hf hc), fun hc => ⟨_, exec_hub rfl hup rfl, ?_⟩⟩⟩⟩
    have hpins := State.doPin_pins hh hm hf hc
    rwa [hsrc] at hpins
  case unpin =>
    intro hop
    have hh := hhead _ hop
    have hrec := State.doUnpin_recorded hh
    have hno := State.doUnpin_noRecord hh
    rw [hsrc] at hrec hno
    exact ⟨fun h => exec_hub rfl hup (hrec h), fun h => exec_hub rfl hup (hno h)⟩
  case mapFresh =>
    intro hop
    have hh := hhead _ hop
    refine ⟨fun hp => exec_hub rfl hup (State.doMapFresh_noPool hh hp), fun hp hl => exec_hub rfl hup (State.doMapFresh_noFrame hh hp hl),
      fun old hp hm hf => exec_hub rfl hup (State.doMapFresh_foreign hh hp hm hf), fun g u hp hl hm hu =>
      ⟨_, exec_hub rfl hup (State.doMapFresh_maps hh hp hl hm hu), ?_⟩⟩
    obtain ⟨hmem, hkv⟩ := (u.bump Reg.logKvCntAlloc).kvLater_spec r (some (poolBase (s.kvPop.pool r.pool) + 65536 * g))
    exact ⟨hmem, (congrArg Kv.pins hkv :)⟩
  case unmapped => exact fun hop hm => exec_hub rfl hup (State.doCow_unmapped (hhead _ hop) hm)
  case noPool => exact fun hop pa hm hf => exec_hub rfl hup (State.doCow_noPool (hhead _ hop) hm hf)
  case refused =>
    exact fun hop pa q f hm hf => ⟨fun hc => exec_hub rfl hup (State.doCow_saturated (hhead _ hop) hm hf hc),
      fun hc hl => exec_hub rfl hup (State.doCow_noFrame (hhead _ hop) hm hf hc hl)⟩
  case copies => exact fun hop pa q f g hm hf hc hl => ⟨_, exec_hub rfl hup rfl, State.doCow_copies (hhead _ hop) hm hf hc hl⟩

/-! ### Frames that lose a use (R279) -/

theorem State.AccessesOnly.lastInval {s t u : State} {ctx : Nat} {f : Inval → Inval} (h : s.AccessesOnly t) (he : t.lastInval ctx f = some u) :
    s.AccessesOnly u := by
  have hrest := State.lastInval_rest he
  exact h.trans ⟨(congrArg (fun x : State => { x with regs := t.regs, mem := t.mem }) hrest :)⟩

theorem State.AccessesOnly.fillAfter {s t : State} (h : s.AccessesOnly t) (ctx : Nat) (f : Fill) : s.AccessesOnly (t.fillAfter ctx f) := by
  unfold State.fillAfter
  cases he : t.lastInval ctx (fun i => { i with fills := i.fills ++ [f] }) with
  | none =>
    rw [Option.getD_none, State.toFill]
    split <;> exact h.trans ⟨rfl⟩
  | some u => exact h.lastInval he

theorem State.AccessesOnly.lowerCount {s t : State} (h : s.AccessesOnly t) (p f k : Nat) : s.AccessesOnly (t.lowerCount p f k) :=
  ((h.setCount _ _ _).fillAfter _ _).ite (h.setCount _ _ _)

/-- Releasing the pins of a core leaves those of the others. -/
theorem State.pins_releasePins (s : State) (n : Nat) : (s.releasePins n).log.kv.pins = s.log.kv.pins.filter (fun p => p.1 != n) := by
  refine congrArg (fun l : Logbook => l.kv.pins) (State.AccessesOnly.log (s := s.modKv _) (.foldl (.refl _) (fun u p hu => ?_) _))
  split
  · exact hu.lowerCount _ _ _
  · exact hu

/-! ### The requests of the Pilot (R277, R297) -/

/-- A frame that is attached once more: neither free nor on its way through the scrubber, its count one higher (R277). -/
def State.attached (s : State) (p f : Nat) : State := ((s.unscrub p f).setFree p f false).setCount p f (s.count p f + 1)

section Serves
variable {s : State} {r : KvReq}

section Attach
variable (hh : s.kvHead .attach = some r)
include hh

theorem State.doAttach_noPool (hv : poolValid (s.kvPop.pool r.pool) = false) : s.doAttach = s.kvPop.kvRefuse r 4 := by
  simp [State.doAttach, hh, hv]

variable (hv : poolValid (s.kvPop.pool r.pool) = true)
include hv

theorem State.doAttach_outside (hf : poolPages (s.kvPop.pool r.pool) ≤ r.frame) : s.doAttach = s.kvPop.kvRefuse r 2 := by
  simp [State.doAttach, hh, hv, hf]

variable (hf : r.frame < poolPages (s.kvPop.pool r.pool))
include hf

theorem State.doAttach_saturated (hc : s.kvPop.count r.pool r.frame = 0xFFFF) : s.doAttach = s.kvPop.kvRefuse r 3 := by
  simp [State.doAttach, hh, hv, Nat.not_le.mpr hf, hc]

variable (hc : s.kvPop.count r.pool r.frame ≠ 0xFFFF)
include hc

theorem State.doAttach_noMapping (hm : (s.kvPop.attached r.pool r.frame).kvMapTo (poolCtx (s.kvPop.pool r.pool)) r.va
    (poolBase (s.kvPop.pool r.pool) + 65536 * r.frame) = none) : s.doAttach = s.kvPop.kvRefuse r 2 := by
  rw [State.attached] at hm
  simp [State.doAttach, hh, hv, Nat.not_le.mpr hf, hc, hm]

theorem State.doAttach_maps {u : State} (hm : (s.kvPop.attached r.pool r.frame).kvMapTo (poolCtx (s.kvPop.pool r.pool)) r.va
    (poolBase (s.kvPop.pool r.pool) + 65536 * r.frame) = some u) :
    s.doAttach = u.kvLater { r with ctx := poolCtx (s.kvPop.pool r.pool) } none := by
  rw [State.attached] at hm
  simp [State.doAttach, hh, hv, Nat.not_le.mpr hf, hc, hm]

end Attach

section Unmap
variable (hh : s.kvHead .unmap = some r) (hs : r.src = none)
include hh hs

theorem State.doUnmap_noPool (hv : poolValid (s.kvPop.pool r.pool) = false) : s.doUnmap = s.kvPop.kvResult 4 := by
  simp [State.doUnmap, hh, hs, hv]

variable (hv : poolValid (s.kvPop.pool r.pool) = true)
include hv

theorem State.doUnmap_unmapped (hm : s.kvPop.kvMap (poolCtx (s.kvPop.pool r.pool)) r.va = none) :
    s.doUnmap = (s.kvPop.bump Reg.logKvCntNoop).kvResult 1 := by
  simp [State.doUnmap, hh, hs, hv, hm]

variable {pa : Nat} (hm : s.kvPop.kvMap (poolCtx (s.kvPop.pool r.pool)) r.va = some pa)
include hm

theorem State.doUnmap_foreign (hf : s.kvPop.poolOfFrame (poolCtx (s.kvPop.pool r.pool)) pa = none) : s.doUnmap = s.kvPop.kvResult 2 := by
  simp [State.doUnmap, hh, hs, hv, hm, hf]

theorem State.doUnmap_unmaps {q f : Nat} (hf : s.kvPop.poolOfFrame (poolCtx (s.kvPop.pool r.pool)) pa = some (q, f)) : s.doUnmap =
    ((s.kvPop.kvUnmap (poolCtx (s.kvPop.pool r.pool)) r.va).lowerCount q f 1).kvLater { r with ctx := poolCtx (s.kvPop.pool r.pool) } none := by
  simp [State.doUnmap, hh, hs, hv, hm, hf]

end Unmap

/-- An answer waits for the last invalidation of its context, if one is under way. -/
theorem State.kvLater_pilot (u : State) (frame : Option Nat) (hs : r.src = none) : u.kvLater r frame =
    (u.lastInval r.ctx (fun i => { i with answers := i.answers ++ [(r, frame)] })).getD (u.kvResult 0) := by
  rw [State.kvLater, State.kvAnswer, hs]

end Serves

/-- Settles O36: one lemma for each outcome of a request. -/
theorem kvRequestsOfThePilot : Obligations.KvRequestsOfThePilot := by
  intro s r rest hup hen hq hsrc
  have hhead := fun op => State.kvHead_same (op := op) hen hq
  refine ⟨?attach, ?unmap, ?answer, ?releaseCore, ?poolLoad, fun err => ⟨rfl, fun hr => State.reg_setReg_same _ _ _ hr⟩⟩
  case attach =>
    intro hop
    have hh := hhead _ hop
    refine ⟨fun hv => exec_hub rfl hup (State.doAttach_noPool hh hv), fun hv hf => exec_hub rfl hup (State.doAttach_outside hh hv hf),
      fun hv hf hc => exec_hub rfl hup (State.doAttach_saturated hh hv hf hc), fun hv hf hc =>
      ⟨fun hm => exec_hub rfl hup (State.doAttach_noMapping hh hv hf hc hm), fun u hm =>
        exec_hub rfl hup (State.doAttach_maps hh hv hf hc hm)⟩⟩
  case unmap =>
    exact fun hop => ⟨fun hv => exec_hub rfl hup (State.doUnmap_noPool (hhead _ hop) hsrc hv), fun hv =>
      ⟨fun hm => exec_hub rfl hup (State.doUnmap_unmapped (hhead _ hop) hsrc hv hm), fun pa hm =>
        ⟨fun hf => exec_hub rfl hup (State.doUnmap_foreign (hhead _ hop) hsrc hv hm hf), fun q f hf =>
          exec_hub rfl hup (State.doUnmap_unmaps (hhead _ hop) hsrc hv hm hf)⟩⟩⟩
  case answer =>
    intro u c
    have hlater := u.kvLater_pilot (r := { r with ctx := c }) none hsrc
    exact ⟨fun h => by rw [hlater, h, Option.getD_none], fun w h => by rw [hlater, h, Option.getD_some]⟩
  case releaseCore =>
    intro hop
    have hh := hhead _ hop
    have hpins : ((s.kvPop.releasePins r.frame).kvResult 0).log.kv.pins = s.log.kv.pins.filter (fun p => p.1 != r.frame) := by
      rw [← s.kvPop_pins, ← s.kvPop.pins_releasePins]
      rfl
    refine ⟨_, exec_hub rfl hup (by rw [State.doReleaseCore, hh]), rfl, fun x hx => ?_, fun x hx hne => ?_⟩
    · rw [hpins] at hx
      simpa using (List.mem_filter.mp hx).2
    · rw [hpins]
      exact List.mem_filter.mpr ⟨hx, by simpa using hne⟩
  case poolLoad => exact fun hop => exec_hub rfl hup (by rw [State.doPoolLoad, hhead _ hop])

/-! ### Copies (R277) -/

/-- The oldest copy ends. -/
theorem State.doCowCompletion_ends {s p d u : State} {c : KvCopy} {rest : List KvCopy} {q f q' g a b : Nat} (hq : s.log.kv.copies = c :: rest)
    (hp : s.modKv (fun k => { k with copies := rest }) = p) (hd : p.copyPhys c.req.ctx c.fromPa c.toPa 65536 = d)
    (hf : p.poolOfFrame c.req.ctx c.fromPa = some (q, f)) (hg : p.poolOfFrame c.req.ctx c.toPa = some (q', g))
    (ha : d.scalePa q f = some a) (hb : d.scalePa q' g = some b)
    (hu : (d.copyPhys c.req.ctx a b 2048).kvMapTo c.req.ctx c.req.va c.toPa = some u) :
    s.doCowCompletion = ((u.lowerCount q f 2).bump Reg.logKvCntCow).kvLater c.req (some c.toPa) := by
  simp only [State.doCowCompletion, hq, hp, hd]
  simp only [hf, hg, ha, hb, hu]

/-! ### Bytes of a filled range (R343) -/

theorem cellAt_fillZ_in {m : Mem} {a n x : Nat} (hm : cellsWf m.bytes = true) (hlo : a ≤ x) (hhi : x < a + n) :
    cellAt (m.fillZ a n).bytes x = 0 := by
  refine cellAt_congr ((cellsWf_iff _).mp (Mem.cellsWf_fillZ hm)).1 (n := []) rfl x fun v => iff_of_false (fun h => ?_) List.not_mem_nil
  have hout := of_decide_eq_true (List.mem_filter.mp h).2
  omega

theorem cellAt_fillZ_out {m : Mem} {a n x : Nat} (hm : cellsWf m.bytes = true) (hx : x < a ∨ a + n ≤ x) :
    cellAt (m.fillZ a n).bytes x = cellAt m.bytes x := by
  refine (cellAt_congr ((cellsWf_iff _).mp (Mem.cellsWf_fillZ hm)).1 ((cellsWf_iff _).mp (cellsWf_cellsWrite _ a [] hm)).1 x fun v => ?_).trans
    (cellAt_cellsWrite_out _ a [] x hm (lt_or_ge x a))
  rw [Mem.fillZ, List.mem_filter, decide_eq_true hx]
  exact and_iff_left rfl

/-! ### The head of the fill queue (R279, R343) -/

section Fills
variable {s : State} {f : Fill} {r : List Fill} (hq : s.hub.fills = f :: r)
include hq

theorem State.doFillComplete_busy (hb : s.pageBusy f.pa (if f.big then 2 ^ 21 else 2 ^ 16) = true) : s.doFillComplete = s := by
  simp only [State.doFillComplete, hq, hb, Bool.or_true, if_true]

theorem State.doFillComplete_fills (hk : f.kv = false) (hb : s.pageBusy f.pa (if f.big then 2 ^ 21 else 2 ^ 16) = false) :
    s.doFillComplete = ({ s with
      hub := s.hub.popFill
      mem := s.mem.fillZ f.pa (if f.big then 2 ^ 21 else 2 ^ 16)
      pilot := { s.pilot with frames := freeFrame s.pilot.frames f.pa } } : State).bump (hbmKey 0 Reg.hbmCntFill) := by
  simp only [State.doFillComplete, hq, hk, hb, Bool.or_false, Bool.false_eq_true, if_false]

theorem State.doFrameScrubbed_busy (hb : s.pageBusy f.pa 65536 = true) : s.doFrameScrubbed = s := by
  simp only [State.doFrameScrubbed, hq, hb, Bool.or_true, if_true]

/-- The frame lies in a loaded pool. -/
abbrev State.frameHere (s : State) (f : Fill) : Prop :=
  poolValid (s.pool f.pool) = true ∧ f.frame < poolPages (s.pool f.pool) ∧ poolBase (s.pool f.pool) + 65536 * f.frame = f.pa

/-- A frame is zeroed, with its scale area. -/
def State.scrubbed (s : State) (f : Fill) : State :=
  ({ s with
    hub := s.hub.popFill
    mem := f.scale.elim (s.mem.fillZ f.pa 65536) ((s.mem.fillZ f.pa 65536).fillZ · 2048) } : State).bump (hbmKey 0 Reg.hbmCntFill)

variable (hk : f.kv = true) (hb : s.pageBusy f.pa 65536 = false)
include hk hb

/-- A frame that no transfer uses: in a loaded pool with a count, it only leaves the scrubber. -/
theorem State.doFrameScrubbed_idle : s.doFrameScrubbed =
    if s.frameHere f ∧ s.count f.pool f.frame ≠ 0 then { s with hub := s.hub.popFill }
    else if s.frameHere f then ((s.scrubbed f).setFree f.pool f.frame true).bump Reg.logKvCntFreed else s.scrubbed f := by
  have hhere : (poolValid (s.pool f.pool) && decide (f.frame < poolPages (s.pool f.pool)) && poolBase (s.pool f.pool) + 65536 * f.frame == f.pa) =
      decide (s.frameHere f) := by
    simp only [Bool.decide_and, Bool.decide_eq_true, Bool.and_assoc, beq_eq_decide]
  have hpop : ∀ p : Nat, ({ s with hub := s.hub.popFill } : State).pool p = s.pool p := fun _ => rfl
  have hcount : ({ s with hub := s.hub.popFill } : State).count f.pool f.frame = s.count f.pool f.frame := rfl
  rw [State.doFrameScrubbed, hq]
  dsimp only
  rw [hk, hb, hpop, hcount, hhere, if_neg (by simp)]
  simp only [Bool.and_eq_true, decide_eq_true_eq, bne_iff_ne, State.scrubbed]
  cases f.scale <;> rfl

end Fills

/-- Settles O37: the oldest copy, the fill at the head, and the frame at the head of the scrubber. -/
theorem copiesAndFills : Obligations.CopiesAndFills := by
  intro s hup
  refine ⟨fun hq => exec_hub rfl hup (by rw [State.doCowCompletion, hq]), fun c rest q f q' g a b u hq hf hg ha hb hu =>
    exec_hub rfl hup (State.doCowCompletion_ends hq rfl rfl hf hg ha hb hu), fun hq =>
    ⟨exec_hub rfl hup (by rw [State.doFillComplete, hq]), exec_hub rfl hup (by rw [State.doFrameScrubbed, hq])⟩, fun f r hq => ?_⟩
  refine ⟨fun _ hb => exec_hub rfl hup (State.doFillComplete_busy hq hb), fun _ hb => exec_hub rfl hup (State.doFrameScrubbed_busy hq hb),
    ?fills, ?scrubs⟩
  case fills =>
    intro hk hb hm
    refine ⟨_, exec_hub rfl hup (State.doFillComplete_fills hq hk hb), ?_, rfl, fun x hlo hhi => cellAt_fillZ_in hm hlo hhi,
      fun x hx => cellAt_fillZ_out hm hx, rfl, rfl⟩
    rw [State.bump_hub, Hub.popFill, hq, List.drop_one, List.tail_cons]
  case scrubs =>
    intro hk hb
    have hidle := State.doFrameScrubbed_idle hq hk hb
    refine ⟨fun hh hc => exec_hub rfl hup (hidle.trans (if_pos ⟨hh, hc⟩)), fun a ha => ?_⟩
    rw [State.scrubbed, ha, Option.elim_some] at hidle
    exact ⟨fun hh hc => exec_hub rfl hup ((hidle.trans (if_neg fun h => h.2 hc)).trans (if_pos hh)),
      fun hh => exec_hub rfl hup ((hidle.trans (if_neg fun h => hh h.1)).trans (if_neg hh))⟩

end Sys2Proof.Machine
end

section
/-! The fused attention pair (O26). -/

namespace Sys2Proof.Machine

/-! ### What leaves the pair at work alone -/

theorem foldl_keeps {α β γ : Type} {f : β → α → β} {g : β → γ} (hf : ∀ b a, g (f b a) = g b) (l : List α) (b : β) :
    g (l.foldl f b) = g b := by
  induction l generalizing b with
  | nil => rfl
  | cons a l ih => rw [List.foldl_cons, ih, hf]

theorem Core.attn_spadPut (c : Core) (a : Nat) (bs : List Byte) : (c.spadPut a bs).attn = c.attn := by
  unfold Core.spadPut
  dsimp only
  refine foldl_keeps (g := Core.attn) ?_ _ c
  intro c l
  rfl

/-- `t` has the memory of `s`, and core `n` the pair at work that it has in `s`. -/
structure State.KeepsPair (n : Nat) (s t : State) : Prop where
  attn : (t.core n).attn = (s.core n).attn
  mem : t.mem = s.mem
  length : t.cores.length = s.cores.length

namespace State.KeepsPair
variable {n : Nat} {s t u : State}

theorem refl (n : Nat) (s : State) : KeepsPair n s s := ⟨rfl, rfl, rfl⟩

theorem trans (h : KeepsPair n s t) (k : KeepsPair n t u) : KeepsPair n s u :=
  ⟨k.attn.trans h.attn, k.mem.trans h.mem, k.length.trans h.length⟩

theorem setReg (s : State) (k : Nat) (v : Word) : KeepsPair n s (s.setReg k v) := ⟨rfl, rfl, rfl⟩

theorem cBump (s : State) (off k : Nat) : KeepsPair n s (s.cBump n off k) := ⟨rfl, rfl, rfl⟩

theorem modCore (s : State) {f : Core → Core} (hf : ∀ c, (f c).attn = c.attn) : KeepsPair n s (s.modCore n f) := by
  refine ⟨?_, s.modCore_mem n f, s.modCore_length n f⟩
  by_cases hn : n < s.cores.length
  · rw [s.core_modCore_same f hn, hf]
  · rw [State.modCore, State.setCore, State.core, List.set_eq_of_length_le (not_lt.mp hn), State.core]

theorem foldl {α : Type} {f : State → α → State} (hf : ∀ s a, KeepsPair n s (f s a)) (l : List α) (s : State) :
    KeepsPair n s (l.foldl f s) := by
  induction l generalizing s with
  | nil => exact refl n s
  | cons a l ih => exact (hf s a).trans (ih _)

theorem grant (s : State) (l : Nat) : KeepsPair n s (s.grant n l) := by
  unfold State.grant
  dsimp only
  split
  · exact refl n s
  · exact (modCore s (by intro c; rfl)).trans (cBump _ _ _)

theorem spadEvent (s : State) (port bit line : Nat) : KeepsPair n s (s.spadEvent n port bit line) := by
  unfold State.spadEvent
  dsimp only
  split
  · exact setReg _ _ _
  · exact (setReg s _ _).trans (setReg _ _ _)

theorem writeReq (s : State) (port : Nat) (req : List (Nat × List Byte)) : KeepsPair n s (s.writeReq n port req).1 := by
  unfold State.writeReq
  dsimp only
  split
  · exact (spadEvent _ _ _ _).trans (cBump _ _ _)
  · exact (foldl (fun s l => grant s l) _ s).trans (modCore _ (foldl_keeps (fun c x => c.attn_spadPut x.1 x.2) req))

theorem engWrites (s : State) (port : Nat) (rs : List (Nat × Nat)) (qs : List (List (Nat × List Byte))) :
    KeepsPair n s (s.engWrites n port rs qs).1 := by
  induction qs generalizing s with
  | nil => exact refl n s
  | cons q qs ih =>
    have hreq := writeReq (n := n) s port q
    rw [State.engWrites]
    split
    · split
      · next e => rwa [e] at hreq
      · next e =>
        rw [e] at hreq
        exact hreq.trans (ih _)
    · exact refl n s

theorem engWrite {port a : Nat} {rs : List (Nat × Nat)} {bs : List Byte} {r : Option Nat} (h : s.engWrite n port rs a bs = (t, r)) :
    KeepsPair n s t := by
  have hwrites : KeepsPair n s (s.engWrite n port rs a bs).1 := engWrites _ _ _ _
  rwa [h] at hwrites

theorem coreFault (s : State) (code va : Nat) (hn : n < s.cores.length) : KeepsPair n s (s.coreFault n code va) := by
  have hstop : ∀ (t : State) (ctx : Nat) (f : Core → Core), t.mem = s.mem → t.cores = s.cores →
      ((t.modCore n f).dropRemote ctx).mem = s.mem ∧ ((t.modCore n f).dropRemote ctx).cores.length = s.cores.length :=
    fun t ctx f hm hc => ⟨hm, by rw [State.dropRemote, List.length_map, State.modCore_length, hc]⟩
  obtain ⟨outs, h⟩ := s.core_coreFault code va hn
  obtain ⟨hmem, hlen⟩ : (s.coreFault n code va).mem = s.mem ∧ (s.coreFault n code va).cores.length = s.cores.length := by
    refine hstop _ _ _ ?_ ?_ <;> split
    · exact s.cBump_mem ..
    · exact (State.setReg2_mem ..).trans (s.setReg_mem ..)
    · exact s.cBump_cores ..
    · exact (State.setReg2_cores ..).trans (s.setReg_cores ..)
  exact ⟨by rw [h]; rfl, hmem, hlen⟩

theorem spoilWork (s : State) (d : Cmd) (hn : n < s.cores.length) : KeepsPair n s (s.spoilWork n d) := by
  unfold State.spoilWork
  dsimp only
  split
  · next e => exact ((engWrite e).trans (coreFault _ _ _ ((engWrite e).length ▸ hn))).trans ⟨rfl, rfl, rfl⟩
  · next e => exact (engWrite e).trans ⟨rfl, rfl, rfl⟩

theorem putAttnRows {v : Cmd} {rows : List (List Word)} {i : Nat} {r : Option Nat} (h : s.putAttnRows n v rows i = (t, r)) : KeepsPair n s t := by
  induction rows generalizing s i r with
  | nil =>
    obtain ⟨rfl, -⟩ := Prod.mk.inj h
    exact refl n s
  | cons row rows ih =>
    rw [State.putAttnRows] at h
    split at h
    · next e =>
      obtain ⟨rfl, -⟩ := Prod.mk.inj h
      exact engWrite e
    · next e => exact (engWrite e).trans (ih h)

end State.KeepsPair

/-! ### Nothing to issue and no pair at work -/

section NoPair
variable {t : State} {n : Nat}

/-- A stopped core, an engine at work and an empty queue issue nothing. -/
theorem Core.issues_none {c : Core} {free : Bool} {q : List Cmd} (op : Nat) (h : c.live = false ∨ free = false ∨ q = []) :
    (if c.live && free then c.issuable q op else none) = none := by
  obtain h | h | h := h
  · simp [h]
  · simp [h]
  · simp [h, Core.issuable]

theorem State.issueMxAttn_refused (h : (t.core n).live = false ∨ (t.core n).mxFree = false ∨ (t.core n).mxQ = []) : t.issueMxAttn n = t := by
  rw [State.issueMxAttn, Core.issues_none opMxAttn h]

theorem State.issueVxAttn_refused (h : (t.core n).live = false ∨ (t.core n).vxFree = false ∨ (t.core n).vxQ = []) : t.issueVxAttn n = t := by
  rw [State.issueVxAttn, Core.issues_none opVxAttn h]

theorem State.attnStep_noPair (inj : Inject) (h : (t.core n).attn = none) : t.attnStep n inj = t := by
  rw [State.attnStep, h]

theorem State.attnTail_noPair (h : (t.core n).attn = none) : t.attnTail n = t := by
  rw [State.attnTail, h]

end NoPair

/-! ### The dispatch of the pair's commands (R288) -/

theorem State.coreFault_stops (s : State) {n : Nat} (code va : Nat) (hn : n < s.cores.length) :
    ((s.coreFault n code va).core n).live = false ∧ ((s.coreFault n code va).core n).attn = (s.core n).attn := by
  obtain ⟨outs, h⟩ := s.core_coreFault code va hn
  rw [h]
  exact ⟨by simp [Core.live, Core.halt], rfl⟩

/-- With the pair's commands refused and no pair at work, the events only dispatch. -/
theorem State.doMxAttn_dispatches {s t : State} {n : Nat} (inj : Inject) (hp : (s.core n).partnerThere = true)
    (hd : s.dispatch n opMxAttn badMxPair okHere = t) (hr : (t.core n).live = false ∨ (t.core n).mxFree = false ∨ (t.core n).mxQ = [])
    (ha : (t.core n).attn = none) : s.doMxAttn n inj = t := by
  rw [State.doMxAttn, if_pos hp, hd, State.issueMxAttn_refused hr, State.attnStep_noPair inj ha]

theorem State.doVxAttn_dispatches {s t : State} {n : Nat} (inj : Inject) (hd : s.dispatch n opVxAttn badVxPair okHere = t)
    (hr : (t.core n).live = false ∨ (t.core n).vxFree = false ∨ (t.core n).vxQ = []) (ha : (t.core n).attn = none) : s.doVxAttn n inj = t := by
  rw [State.doVxAttn, hd, State.issueVxAttn_refused hr, State.attnStep_noPair inj ha, State.attnTail_noPair ha]

section Dispatch
variable {s : State} {n op : Nat} {badPair : Core → Cmd → Bool} {ws : List Word} {d : Cmd} (h : (s.core n).headOp op = some ws)
  (hd : (s.core n).decodeHead ws = some d)
include h hd

theorem State.dispatch_badPair (hb : badPair (s.core n) d = true) :
    s.dispatch n op badPair okHere = s.coreFault n codeMalformed (s.core n).curSl.pc := by
  rw [State.dispatch, h]
  dsimp only
  rw [hd]
  exact if_pos hb

theorem State.dispatch_goodPair (hb : badPair (s.core n) d = false) (hr : (s.core n).room d = true) :
    s.dispatch n op badPair okHere = (s.modCore n (fun c => c.enqueue d)).advance n := by
  rw [State.dispatch, h]
  dsimp only
  rw [hd]
  dsimp only
  rw [hb, hr]
  rfl

end Dispatch

theorem Core.enqueue_rest (c : Core) (d : Cmd) : { c.enqueue d with mxQ := c.mxQ, vxQ := c.vxQ, sxQ := c.sxQ } = c := by
  unfold Core.enqueue
  split <;> rfl

/-- Passing the head leaves the pair and the active commands, unless the next command faults the core. -/
theorem State.core_advance (s : State) {n : Nat} (hn : n < s.cores.length) : ((s.advance n).core n).attn = (s.core n).attn ∧
    (((s.advance n).core n).live = false ∨
      ((s.advance n).core n).mxA = (s.core n).mxA ∧ ((s.advance n).core n).vxA = (s.core n).vxA) := by
  have hcore : ((s.modCore n (fun c => c.passHead c.headLen)).cBump n Reg.coreCntDispatch).core n = (s.core n).passHead (s.core n).headLen := by
    rw [State.core_cBump, s.core_modCore_same _ hn]
  unfold State.advance State.settle
  split
  · have hlen : n < ((s.modCore n (fun c => c.passHead c.headLen)).cBump n Reg.coreCntDispatch).cores.length := by
      rwa [State.cBump_cores, State.modCore_length]
    have hstops := fun code va => State.coreFault_stops _ code va hlen
    exact ⟨(hstops _ _).2.trans (congrArg Core.attn hcore :), .inl (hstops _ _).1⟩
  · rw [hcore]
    exact ⟨rfl, .inr ⟨rfl, rfl⟩⟩

theorem State.core_enqueue_advance (s : State) {n : Nat} (d : Cmd) (hn : n < s.cores.length) :
    let t := (s.modCore n (fun c => c.enqueue d)).advance n
    (t.core n).attn = (s.core n).attn ∧ ((t.core n).live = false ∨ (t.core n).mxA = (s.core n).mxA ∧ (t.core n).vxA = (s.core n).vxA) := by
  have hrest := (s.core n).enqueue_rest d
  have hadv := (s.modCore n (fun c => c.enqueue d)).core_advance (n := n) (by rwa [State.modCore_length])
  rw [s.core_modCore_same _ hn, show ((s.core n).enqueue d).attn = (s.core n).attn from (congrArg Core.attn hrest :),
    show ((s.core n).enqueue d).mxA = (s.core n).mxA from (congrArg Core.mxA hrest :),
    show ((s.core n).enqueue d).vxA = (s.core n).vxA from (congrArg Core.vxA hrest :)] at hadv
  exact hadv

theorem all_done_false {l : List Cmd} (h : ∃ x ∈ l, x.done = false) : l.all Cmd.done = false :=
  List.all_eq_false.mpr (h.imp fun _ h => ⟨h.1, by simp [h.2]⟩)

/-! ### The pair at work (R289, R291) -/

section Works
variable {s : State} {n : Nat} {a : Attn} {d v : Cmd} {k : Nat}

theorem State.startFetches_done (fuel : Nat) (ha : (s.core n).attn = some a)
    (hf : ((attBlocks d a.image).filter (needsPage a.image)).length ≤ a.fetches) : s.startFetches n d fuel = s := by
  cases fuel with
  | zero => rfl
  | succ fuel =>
    rw [State.startFetches, ha]
    dsimp only
    rw [List.getElem?_eq_none hf]

/-- Both halves `d` and `v` of the pair `a` have issued, its output is not written yet, and every fetch has started. -/
structure State.PairWorks (s : State) (n : Nat) (a : Attn) (d v : Cmd) (k : Nat) : Prop where
  attn : (s.core n).attn = some a
  mx : cmdBySeq (s.core n).mxA a.mx = some d
  vx : a.vx = some k
  vxCmd : cmdBySeq (s.core n).vxA k = some v
  stage : a.stage = 0
  fetched : ((attBlocks d a.image).filter (needsPage a.image)).length ≤ a.fetches

namespace State.PairWorks
variable (h : s.PairWorks n a d v k)
include h

theorem attnStep (inj : Inject) : s.attnStep n inj = if (s.core n).blockReady d a then s.attnBlock n d v a inj else s := by
  rw [State.attnStep, h.attn]
  dsimp only
  rw [h.mx]
  dsimp only
  rw [State.startFetches_done 64 h.attn h.fetched, h.attn, h.vx, Option.bind_some, h.vxCmd]
  dsimp only
  rw [h.stage]
  rfl

theorem attnTail : s.attnTail n = if (attBlocks d a.image).length ≤ a.next then s.attnFinal n d v a else s := by
  rw [State.attnTail, h.attn]
  dsimp only
  rw [h.mx, h.vx, Option.bind_some, h.vxCmd]
  dsimp only
  rw [if_pos h.stage]

end State.PairWorks

/-- A block whose rows have been computed. -/
theorem State.attnBlock_rows {inj : Inject} {b : Nat × Bool} {u x : State} {blk : KvBlock} {rows : List (List Word)} (hreg : attnReg d inj = none)
    (hpar : ∀ r, inj ≠ .planeParity r) (hb : (attBlocks d a.image)[a.next]? = some b)
    (hblk : (s.strike n inj).readBlock n d a.image b (slotLine d (fetchesBefore d a.image a.next)) 256 0 = (u, .ok blk))
    (hrows : (u.cBump n Reg.mxCntLoadcyc 130).attnRows n d v a.image b blk none a.rows 0 = (x, .ok rows)) :
    s.attnBlock n d v a inj =
      ((x.modCore n (fun c => { c with attn := c.attn.map (fun a => { a with rows := rows, next := a.next + 1 }) })).cBump n
        Reg.mxCntAttblk).cBump n Reg.vxCntPasses (attPasses d) := by
  rw [State.attnBlock, hb]
  · dsimp only
    rw [hblk]
    dsimp only
    rw [hreg]
    dsimp only
    rw [hrows]
  · exact hpar

/-! ### Reads of the pair keep the number of cores -/

theorem State.cores_length_readToken {s t : State} {n base i : Nat} {rs : List (Nat × Nat)}
    {r : Except Nat (List Byte × List Byte × List Byte × Nat)} (h : s.readToken n rs base i = (t, r)) : t.cores.length = s.cores.length := by
  unfold State.readToken at h
  split at h <;> next e => obtain ⟨rfl, -⟩ := Prod.mk.inj h; exact State.cores_length_engRuns e

theorem State.cores_length_readBlock {s t : State} {n slot left i : Nat} {d : Cmd} {r : List Word} {b : Nat × Bool} {x : Except Nat KvBlock}
    (h : s.readBlock n d r b slot left i = (t, x)) : t.cores.length = s.cores.length := by
  induction left generalizing s i x with
  | zero =>
    obtain ⟨rfl, -⟩ := Prod.mk.inj h
    rfl
  | succ left ih =>
    rw [State.readBlock] at h
    split at h
    · next e =>
      obtain ⟨rfl, -⟩ := Prod.mk.inj h
      split at e
      · exact State.cores_length_readToken e
      · cases e
    · next u _ e =>
      have htoken : u.cores.length = s.cores.length := by
        split at e
        · exact State.cores_length_readToken e
        · obtain ⟨rfl, -⟩ := Prod.mk.inj e
          rfl
      split at h <;> next e' =>
        obtain ⟨rfl, -⟩ := Prod.mk.inj h
        rw [ih e', htoken]

theorem State.cores_length_readMask {s t : State} {n i : Nat} {d v : Cmd} {r : List Word} {b : Nat × Bool} {x : Except Nat (Option (List Word))}
    (h : s.readMask n d v r b i = (t, x)) : t.cores.length = s.cores.length := by
  unfold State.readMask at h
  split at h
  · dsimp only at h
    split at h <;> next e => obtain ⟨rfl, -⟩ := Prod.mk.inj h; exact State.cores_length_engRuns e
  · obtain ⟨rfl, -⟩ := Prod.mk.inj h
    rfl

theorem State.cores_countRow (s : State) (n : Nat) (st : Option StoredRow) (backward : Bool) : (s.countRow n st backward).cores = s.cores := by
  cases st with
  | none => exact s.cBump_cores _ _ _
  | some st =>
    unfold State.countRow
    dsimp only
    rw [State.cBump_cores, State.cBump_cores, State.cBump_cores]

theorem State.cores_length_attnRows {s t : State} {n i : Nat} {d v : Cmd} {r : List Word} {b : Nat × Bool} {blk : KvBlock} {par : Option Nat}
    {rows : List (List Word)} {x : Except Nat (List (List Word))} (h : s.attnRows n d v r b blk par rows i = (t, x)) :
    t.cores.length = s.cores.length := by
  induction rows generalizing s i x with
  | nil =>
    obtain ⟨rfl, -⟩ := Prod.mk.inj h
    rfl
  | cons row rows ih =>
    rw [State.attnRows] at h
    split at h
    · next e =>
      obtain ⟨rfl, -⟩ := Prod.mk.inj h
      exact State.cores_length_engRead e
    · next e =>
      have hq := State.cores_length_engRead e
      split at h
      · obtain ⟨rfl, -⟩ := Prod.mk.inj h
        rw [State.cBump_cores, hq]
      · split at h
        · next e' =>
          obtain ⟨rfl, -⟩ := Prod.mk.inj h
          rw [State.cores_length_readMask e', hq]
        · next e' =>
          have hmw := (State.cores_length_readMask e').trans hq
          dsimp only at h
          split at h <;> next e'' =>
            obtain ⟨rfl, -⟩ := Prod.mk.inj h
            rw [ih e'', State.cores_countRow, hmw]

/-! ### The end of a pair without FINAL (R287, R289) -/

theorem State.attnFinal_over {u : State} (hu : s.putAttnRows n v a.rows 0 = (u, none)) (hf : d.backward = true ∨ flag (v.o 2) 28 = false) :
    s.attnFinal n d v a = u.attnOver n d v := by
  rw [State.attnFinal, hu]
  exact if_pos (by simpa using hf)

/-- Both halves are done, and the pair keeps what it had. -/
theorem State.attnOver_spec (s : State) {n : Nat} (d v : Cmd) (hn : n < s.cores.length) :
    ((s.attnOver n d v).core n).attn = (s.core n).attn.map (fun a => { a with stage := 3 }) ∧ (s.attnOver n d v).mem = s.mem ∧
      (∀ y ∈ ((s.attnOver n d v).core n).mxA, y.seq = d.seq → y.done = true) ∧
      (∀ y ∈ ((s.attnOver n d v).core n).vxA, y.seq = v.seq → y.done = true) := by
  obtain ⟨hattn, hmem, hlen⟩ := State.KeepsPair.spoilWork s d hn
  rw [State.attnOver, State.core_modCore_same _ _ (hlen ▸ hn), State.modCore_mem, ← hattn]
  exact ⟨rfl, hmem, fun y => done_of_mem_markDone, fun y => done_of_mem_markDone⟩

end Works

/-! ### With nothing to dispatch or issue -/

theorem State.doMxAttn_quiet {s : State} {n : Nat} (inj : Inject) (hh : (s.core n).head = none) (hq : (s.core n).mxQ = []) :
    s.doMxAttn n inj = s.attnStep n inj := by
  rw [State.doMxAttn, State.dispatch_nothing _ _ _ hh, ite_self, State.issueMxAttn_refused (.inr (.inr hq))]

theorem State.doVxAttn_quiet {s : State} {n : Nat} (inj : Inject) (hh : (s.core n).head = none) (hq : (s.core n).vxQ = []) :
    s.doVxAttn n inj = (s.attnStep n inj).attnTail n := by
  rw [State.doVxAttn, State.dispatch_nothing _ _ _ hh, State.issueVxAttn_refused (.inr (.inr hq))]

theorem exec_mxAttn {s t : State} {n : Nat} {inj : Inject} (hn : n < 32) (hon : s.domOn n = true) (h : s.doMxAttn n inj = t) :
    exec (.mxAttn n inj) s = .next t := exec_core (f := (State.doMxAttn · n inj)) rfl hn hon h

theorem exec_vxAttn {s t : State} {n : Nat} {inj : Inject} (hn : n < 32) (hon : s.domOn n = true) (h : s.doVxAttn n inj = t) :
    exec (.vxAttn n inj) s = .next t := exec_core (f := (State.doVxAttn · n inj)) rfl hn hon h

/-- Settles O26: the dispatcher with no pair at work, then the pair at work. -/
theorem fusedAttentionPair : Obligations.FusedAttentionPair := by
  intro s n ws d inj hn hon hlen
  have hc : n < s.cores.length := hlen ▸ hn
  obtain ⟨hattn, hgo⟩ := s.core_enqueue_advance d hc
  refine ⟨?badMx, ?badVx, ?entersMx, ?entersVx, fun hh hq => exec_mxAttn hn hon (State.doMxAttn_quiet inj hh hq),
    fun hh hq => exec_vxAttn hn hon (State.doVxAttn_quiet inj hh hq), ?noPair, fun a v k hh ha hd hk hv hst hf => ?works⟩
  case badMx =>
    intro h hd hp hb ha
    obtain ⟨hlive, hkeep⟩ := s.coreFault_stops codeMalformed (s.core n).curSl.pc hc
    exact exec_mxAttn hn hon (State.doMxAttn_dispatches inj hp (State.dispatch_badPair h hd hb) (.inl hlive) (hkeep.trans ha))
  case badVx =>
    intro h hd hb ha
    obtain ⟨hlive, hkeep⟩ := s.coreFault_stops codeMalformed (s.core n).curSl.pc hc
    exact exec_vxAttn hn hon (State.doVxAttn_dispatches inj (State.dispatch_badPair h hd hb) (.inl hlive) (hkeep.trans ha))
  case entersMx =>
    intro h hd hp hb ha hr hx
    refine exec_mxAttn hn hon (State.doMxAttn_dispatches inj hp (State.dispatch_goodPair h hd hb hr) ?_ (hattn.trans ha))
    exact hgo.imp_right fun hact => .inl (by rw [Core.mxFree, hact.1, all_done_false hx])
  case entersVx =>
    intro h hd hb ha hr hx
    refine exec_vxAttn hn hon (State.doVxAttn_dispatches inj (State.dispatch_goodPair h hd hb hr) ?_ (hattn.trans ha))
    exact hgo.imp_right fun hact => .inl (by rw [Core.vxFree, hact.2, all_done_false hx])
  case noPair =>
    intro hh hm hv ha
    exact ⟨exec_mxAttn hn hon ((State.doMxAttn_quiet inj hh hm).trans (State.attnStep_noPair inj ha)),
      exec_vxAttn hn hon (by rw [State.doVxAttn_quiet inj hh hv, State.attnStep_noPair inj ha, State.attnTail_noPair ha])⟩
  case works =>
    have hw : s.PairWorks n a d v k := ⟨ha, hd, hk, hv, hst, hf⟩
    refine ⟨fun b u blk x rows hq hready hreg hpar hb hblk hrows => ?_, fun u hq hnext hfin hu => ?_⟩
    · have hx : n < x.cores.length := by
        rwa [State.cores_length_attnRows hrows, State.cBump_cores, State.cores_length_readBlock hblk, State.cores_length_strike]
      have hstep := (hw.attnStep inj).trans ((if_pos hready).trans (State.attnBlock_rows hreg hpar hb hblk hrows))
      refine ⟨_, exec_mxAttn hn hon ((State.doMxAttn_quiet inj hh hq).trans hstep), ?_, ?_, ?_⟩
      · rw [State.core_cBump, State.core_cBump, State.core_modCore_same _ _ hx]
      · rw [State.cBump_mem, State.cBump_mem, State.modCore_mem]
      · rw [State.core_cBump, State.core_cBump, State.core_modCore_same _ _ hx]
    · have hready : (s.core n).blockReady d a = false := by rw [Core.blockReady, List.getElem?_eq_none hnext]
      have hstep := (hw.attnStep inj).trans (if_neg (hready ▸ Bool.false_ne_true))
      have htail := hw.attnTail.trans ((if_pos hnext).trans (State.attnFinal_over hu hfin))
      exact ⟨_, exec_vxAttn hn hon ((State.doVxAttn_quiet inj hh hq).trans ((congrArg (State.attnTail · n) hstep).trans htail)),
        u.attnOver_spec d v ((State.KeepsPair.putAttnRows hu).length ▸ hc)⟩

end Sys2Proof.Machine
end

section
/-! Placement by the scheduler: the rotation of slices over cores and the pre-emptions that it requests (O33, O34). -/

namespace Sys2Proof.Machine

/-! ### Accesses to memory leave the cores -/

theorem State.AccessesOnly.cores {s t : State} (h : s.AccessesOnly t) : t.cores = s.cores := (congrArg State.cores h.rest :)

theorem State.core_congr {s t : State} (h : t.cores = s.cores) (n : Nat) : t.core n = s.core n := by rw [State.core, h, State.core]

theorem State.AccessesOnly.core {s t : State} (h : s.AccessesOnly t) (n : Nat) : t.core n = s.core n := State.core_congr h.cores n

theorem State.accesses_modCent (s : State) (c : Nat) (f : List Word → List Word) : s.AccessesOnly (s.modCent c f) := (AccessesOnly.refl s).hubPoke _ _

theorem State.accesses_syncCores (s : State) (ctx : Nat) : s.AccessesOnly (s.syncCores ctx) :=
  (AccessesOnly.refl s).ite (s.accesses_modCent ctx _)

/-! ### Requests for pre-emption (R306, R308) -/

/-- `t` is `s` after pre-emptions of cores for work of class `k`: each core that changed was one whose work may be pre-empted. -/
structure State.Requests (k : Nat) (s t : State) : Prop where
  rest : { t with cores := s.cores, sched := { t.sched with victims := s.sched.victims } } = s
  victims : s.sched.victims ⊆ t.sched.victims
  core : ∀ n, t.core n = s.core n ∨ s.mayPreempt n k = true

namespace State.Requests
variable {k : Nat} {s t u : State}

theorem refl (k : Nat) (s : State) : Requests k s s := ⟨rfl, List.Subset.refl _, fun _ => .inl rfl⟩

theorem log (h : Requests k s t) : t.log = s.log := (congrArg State.log h.rest :)

theorem sched (h : Requests k s t) : t.sched = { s.sched with victims := t.sched.victims } := by
  have hs : { t.sched with victims := s.sched.victims } = s.sched := (congrArg State.sched h.rest :)
  rw [← hs]

theorem servingCores (h : Requests k s t) (ctx : Nat) : t.servingCores ctx = s.servingCores ctx := (congrArg (State.servingCores · ctx) h.rest :)

/-- A request for another core makes no core pre-emptible. -/
theorem mayPreempt (h : Requests k s t) {n : Nat} (hc : t.core n = s.core n) (ht : t.mayPreempt n k = true) : s.mayPreempt n k = true := by
  have hrest : t = { s with cores := t.cores, sched := { s.sched with victims := t.sched.victims } } := by
    rw [← h.rest]
  have hrun : t.runClass n = s.runClass n := by
    unfold State.runClass
    rw [hc, hrest]
    rfl
  have hctx : t.coreCtx n = s.coreCtx n := by rw [hrest]; rfl
  have hreg : t.reg Reg.logSchedCtrl = s.reg Reg.logSchedCtrl := by rw [hrest]; rfl
  have hcent : t.cent (s.coreCtx n) = s.cent (s.coreCtx n) := by rw [hrest]; rfl
  unfold State.mayPreempt at ht ⊢
  simp only [hc, hrun, hctx, hreg, hcent, h.log, Bool.and_eq_true] at ht ⊢
  obtain ⟨hwork, hvictims⟩ := ht
  refine ⟨hwork, ?_⟩
  rw [List.all_eq_true] at hvictims ⊢
  exact fun v hv => hvictims v (h.victims hv)

theorem trans (h : Requests k s t) (h' : Requests k t u) : Requests k s u := by
  refine ⟨?_, List.Subset.trans h.victims h'.victims, fun n => ?_⟩
  · rw [← h.rest, ← h'.rest]
  · obtain hn | hn := h.core n
    · exact (h'.core n).imp (·.trans hn) (h.mayPreempt hn)
    · exact .inr hn

theorem requestPreempt {n : Nat} (i : WorkItem) (h : s.mayPreempt n k = true) : Requests k s (s.requestPreempt n i) := by
  unfold State.requestPreempt State.doPreemptRequest
  split
  · refine ⟨rfl, List.subset_append_left _ _, fun m => ?_⟩
    by_cases hm : m = n
    · exact .inr (hm ▸ h)
    · exact .inl (State.core_modCore_ne _ _ hm)
  · exact ⟨rfl, List.subset_append_left _ _, fun _ => .inl rfl⟩

theorem preemptFor (s : State) (k : Nat) (i : WorkItem) (ns : List Nat) : Requests k s (s.preemptFor k i ns) := by
  induction ns generalizing s with
  | nil => exact refl k s
  | cons n ns ih =>
    refine trans ?_ (ih _)
    dsimp only
    split
    · next h => exact requestPreempt i h
    · exact refl k s

end State.Requests

/-- What allows a pre-emption (R306). -/
theorem State.mayPreempt_spec {s : State} {n k : Nat} (h : s.mayPreempt n k = true) :
    flag (s.reg Reg.logSchedCtrl) 1 = true ∧ (∃ c, s.runClass n = some c ∧ k < c) ∧ ceSave (s.cent (s.coreCtx n)) ≠ 0 ∧
    (∀ id, (s.core n).run = .batch id → ∀ b ∈ s.log.batches, b.ctxId = s.coreCtx n → b.spilled ≠ 0 → b.id = id) ∧
    ∀ v ∈ s.sched.victims, v.1 ≠ n := by
  simp only [State.mayPreempt, Bool.and_eq_true, Option.any_eq_true, decide_eq_true_eq, bne_iff_ne, List.all_eq_true] at h
  obtain ⟨⟨⟨⟨⟨hen, hclass⟩, hsave⟩, hspilled⟩, -⟩, hvictims⟩ := h
  refine ⟨hen, hclass, hsave, fun id hrun b hb hctx hsp => ?_, hvictims⟩
  simp only [hrun, List.all_eq_true, Bool.or_eq_true, beq_iff_eq, bne_iff_ne] at hspilled
  obtain (hid | hother) | hnone := hspilled b hb
  · exact hid
  · exact absurd hctx hother
  · exact absurd hnone hsp

/-! ### A batch that is changed -/

theorem State.batch_modBatch (s : State) (id j : Nat) {f : Batch → Batch} (hf : ∀ b, (f b).id = b.id) :
    (s.modBatch id f).batch j = (s.batch j).map (fun b => if b.id = id then f b else b) := by
  have hid : ∀ b : Batch, (if b.id = id then f b else b).id = b.id := fun b => by split <;> simp [hf]
  simp only [State.batch, State.modBatch, List.find?_map, Function.comp_def, hid]

/-- A batch placed on cores: all its slices when it is fresh, else those that come back. -/
def Batch.takes (b : Batch) (fresh : Bool) (ps : List (Nat × Nat)) : Batch :=
  { b with place := if fresh then ps.map Prod.snd else rePlace b.place ps, coming := if fresh then b.coming else b.coming ||| maskOf ps }

/-- A direct job placed on cores. -/
def Direct.takes (d : Direct) (fresh : Bool) (ps : List (Nat × Nat)) : Direct :=
  { d with place := if fresh then ps.map Prod.snd else rePlace d.place ps, coming := if fresh then d.coming else d.coming ||| maskOf ps }

/-- Where a batch is placed has no part in what may be pre-empted. -/
theorem State.mayPreempt_takes (s : State) (id n k : Nat) (fresh : Bool) (ps : List (Nat × Nat)) :
    (s.modBatch id (Batch.takes · fresh ps)).mayPreempt n k = s.mayPreempt n k := by
  have hkeeps : ∀ b : Batch, (if b.id = id then b.takes fresh ps else b).id = b.id ∧ (if b.id = id then b.takes fresh ps else b).cls = b.cls ∧
      (if b.id = id then b.takes fresh ps else b).ctxId = b.ctxId ∧ (if b.id = id then b.takes fresh ps else b).spilled = b.spilled :=
    fun b => by split <;> exact ⟨rfl, rfl, rfl, rfl⟩
  have hclass : (s.modBatch id (Batch.takes · fresh ps)).runClass n = s.runClass n := by
    have hbatch : ∀ j, ((s.modBatch id (Batch.takes · fresh ps)).batch j).map Batch.cls = (s.batch j).map Batch.cls := fun j => by
      rw [s.batch_modBatch id j (f := (Batch.takes · fresh ps)) fun _ => rfl, Option.map_map]
      exact congrArg (Option.map · _) (funext fun b => (hkeeps b).2.1)
    unfold State.runClass
    simp only [hbatch]
    rfl
  unfold State.mayPreempt
  rw [hclass]
  simp only [State.modBatch, List.all_map, Function.comp_def, hkeeps]
  rfl

/-! ### What a placement leaves (R302, R303) -/

theorem State.core_modCore_keeps {γ : Type} {g : Core → γ} (s : State) (n m : Nat) {f : Core → Core} (hf : ∀ c, g (f c) = g c) :
    g ((s.modCore n f).core m) = g (s.core m) := by
  by_cases hm : m = n
  · by_cases hn : n < s.cores.length
    · rw [hm, s.core_modCore_same f hn, hf]
    · rw [State.modCore, State.setCore, State.core, List.set_eq_of_length_le (not_lt.mp hn), State.core]
  · rw [State.core_modCore_ne _ _ hm]

/-- Descriptors enter the queues of the cores. -/
theorem State.sendDescs_spec (s : State) (b : Batch) (ps : List (Nat × Nat)) (resume : Bool) :
    { s.sendDescs b ps resume with cores := s.cores } = s ∧ ∀ n, ((s.sendDescs b ps resume).core n).preempt = (s.core n).preempt := by
  unfold State.sendDescs
  refine ⟨foldl_keeps (g := fun u : State => { u with cores := s.cores }) ?_ _ s,
    fun n => foldl_keeps (g := fun u : State => (u.core n).preempt) (fun u m => ?_) _ s⟩
  · exact fun _ _ => rfl
  · refine u.core_modCore_keeps m n (g := Core.preempt) ?_
    exact fun _ => rfl

/-- The rotation counter of a fresh item's context advances; no other part of the state changes. -/
theorem State.ite_advanceRot_rest (s : State) (fresh : Bool) (ctx c : Nat) :
    { if fresh then s.advanceRot ctx c else s with sched := { (if fresh then s.advanceRot ctx c else s).sched with rot := s.sched.rot } } = s := by
  split <;> rfl

theorem State.servingCores_congr {s t : State} (h : { t with cores := s.cores } = s) (ctx : Nat) : t.servingCores ctx = s.servingCores ctx :=
  (congrArg (State.servingCores · ctx) h :)

theorem State.placed_log (s : State) (i : WorkItem) : (s.placed i).log = s.log := rfl

theorem State.placeBatch_spec {s t : State} {b : Batch} (h : s.placeBatch b = some t) : ∃ ps, s.batchPlaces b = some ps ∧
    t.log = (s.modBatch b.id (Batch.takes · b.place.isEmpty ps)).log ∧
    t.sched.rot = (if b.place.isEmpty then s.advanceRot b.ctxId (s.servingCores b.ctxId).length else s).sched.rot ∧
    t.sched.ready = s.sched.ready.filter (fun x => decide (x ≠ .batch b.id)) ∧
    ∀ n, (t.core n).preempt = (s.core n).preempt ∨ s.mayPreempt n b.cls = true := by
  unfold State.placeBatch at h
  split at h
  · cases h
  next ps hps =>
  extract_lets fresh ns s₁ s₂ s₃ s₄ at h
  split at h
  · cases h
  obtain rfl := Option.some.inj h
  have hreq : Requests b.cls s₁ s₂ := Requests.preemptFor _ _ _ _
  obtain ⟨hsent, hwlq⟩ : { s₃ with cores := s₂.cores } = s₂ ∧ ∀ n, (s₃.core n).preempt = (s₂.core n).preempt := s₂.sendDescs_spec b ps (!fresh)
  have hrot := s₃.ite_advanceRot_rest fresh b.ctxId (s₃.servingCores b.ctxId).length
  have hserve : s₃.servingCores b.ctxId = s.servingCores b.ctxId :=
    (State.servingCores_congr hsent b.ctxId).trans (hreq.servingCores b.ctxId)
  have hlog : s₄.log = s₁.log := (congrArg State.log hrot :).trans ((congrArg State.log hsent :).trans hreq.log)
  have hcores : s₄.cores = s₃.cores := (congrArg State.cores hrot :)
  have hsched : s₃.sched = { s.sched with victims := s₂.sched.victims } := (congrArg State.sched hsent :).trans hreq.sched
  have hready : s₄.sched.ready = s₃.sched.ready := (congrArg (fun u : State => u.sched.ready) hrot :)
  have hsync := (s₄.placed (.batch b.id)).accesses_syncCores b.ctxId
  refine ⟨ps, hps, hsync.log.trans ((s₄.placed_log _).trans hlog), ?_, ?_, fun n => ?_⟩
  · rw [hsync.sched, ← hserve]
    change s₄.sched.rot = _
    unfold s₄
    split
    · change mput s₃.sched.rot _ (mgetD s₃.sched.rot _ 0 + _) = _
      rw [hsched]
      rfl
    · rw [hsched]
  · rw [hsync.sched]
    change s₄.sched.ready.filter _ = _
    rw [hready, hsched]
  · have hn : (((s₄.placed (.batch b.id)).syncCores b.ctxId).core n).preempt = (s₂.core n).preempt := by
      rw [hsync.core, ← hwlq]
      exact congrArg Core.preempt (State.core_congr hcores n)
    rw [hn]
    refine (hreq.core n).imp (congrArg Core.preempt) fun hmay => ?_
    rwa [← s.mayPreempt_takes b.id n b.cls fresh ps]

theorem State.placeDirect_spec {s t : State} {d : Direct} (h : s.placeDirect d = some t) : ∃ ps c, s.directPlaces d = some (ps, c) ∧
    t.sched.directs = (s.modDirect d.ctxId (Direct.takes · d.place.isEmpty ps)).sched.directs ∧
    t.sched.rot = (if d.place.isEmpty then s.advanceRot d.ctxId c else s).sched.rot ∧
    t.sched.ready = s.sched.ready.filter (fun x => decide (x ≠ .direct d.ctxId)) ∧
    ∀ n, (t.core n).preempt = (s.core n).preempt ∨ s.mayPreempt n (ceClass (s.cent d.ctxId)) = true := by
  unfold State.placeDirect at h
  extract_lets ctx w fresh at h
  split at h
  · cases h
  next ps c hps =>
  extract_lets ns m s₁ s₂ q s₃ s₄ at h
  obtain rfl := Option.some.inj h
  have hreq : Requests (ceClass w) s s₁ := Requests.preemptFor _ _ _ _
  have hrot := s₃.ite_advanceRot_rest fresh ctx c
  have hsync := (s₄.placed (.direct ctx)).accesses_modCent ctx (fun w => putFld w 0 31 28 2)
  have hplaces : s.directPlaces d = some (ps, c) := by
    split at hps
    · cases hps
    · exact hps
  refine ⟨ps, c, hplaces, ?_, ?_, ?_, fun n => ?_⟩
  · rw [hsync.sched]
    refine (congrArg (fun u : State => u.sched.directs) hrot :).trans ?_
    change List.map _ s₁.sched.directs = _
    rw [hreq.sched]
    rfl
  · rw [hsync.sched]
    change s₄.sched.rot = _
    have hrots : s₃.sched.rot = s.sched.rot := (congrArg Sched.rot hreq.sched :)
    unfold s₄
    split
    · change mput s₃.sched.rot _ (mgetD s₃.sched.rot _ 0 + _) = _
      rw [hrots]
      rfl
    · exact hrots
  · rw [hsync.sched]
    refine congrArg (List.filter _) ((congrArg (fun u : State => u.sched.ready) hrot :).trans ?_)
    exact (congrArg Sched.ready hreq.sched :)
  · have hn : ((s₄.placed (.direct ctx)).modCent ctx (fun w => putFld w 0 31 28 2)).core n = s₁.core n := by
      rw [hsync.core]
      exact State.core_congr (congrArg State.cores hrot :) n
    rw [hn]
    exact (hreq.core n).imp_left (congrArg Core.preempt)

/-! ### A fresh item's cores (R303) -/

theorem State.rotOf_advanced {s t : State} {ctx c : Nat} (hr : mrising s.sched.rot = true) (h : t.sched.rot = (s.advanceRot ctx c).sched.rot) :
    t.rotOf ctx = s.rotOf ctx + (32 - c) % c ∧ ∀ x, x ≠ ctx → t.rotOf x = s.rotOf x := by
  have hrot : ∀ x, t.rotOf x = mgetD (mput s.sched.rot ctx (s.rotOf ctx + (32 - c) % c)) x 0 := fun x => by rw [State.rotOf, h]; rfl
  refine ⟨?_, fun x hx => ?_⟩
  · rw [hrot, mgetD, mget_mput_same, Option.getD_some]
  · rw [hrot, mgetD, mget_mput_ne _ _ hr hx, State.rotOf, mgetD]

theorem State.usableCores_rising (s : State) (p : Nat) : (s.usableCores p).Pairwise (· < ·) := List.pairwise_lt_range.filter _

/-- A fresh batch goes to the serving cores of its context. -/
theorem State.batchPlaces_fresh {s : State} {b : Batch} {ps : List (Nat × Nat)} (hb : b.place = []) (h : s.batchPlaces b = some ps) :
    0 < (s.servingCores b.ctxId).length ∧ ps.map Prod.snd = (List.range 32).map (placeSlice (s.servingCores b.ctxId) (s.rotOf b.ctxId)) := by
  unfold State.batchPlaces at h
  extract_lets cs cap used at h
  rw [hb, List.isEmpty_nil, if_pos rfl] at h
  split at h
  · cases h
  next hcs =>
  split at h
  · obtain rfl := Option.some.inj h
    exact ⟨List.length_pos_iff.mpr (by simpa using hcs), List.map_map⟩
  · cases h

/-- A fresh direct job goes to its direct cores. -/
theorem State.directPlaces_fresh {s : State} {d : Direct} {ps : List (Nat × Nat)} {c : Nat} (hd : d.place = [])
    (h : s.directPlaces d = some (ps, c)) :
    let cs := s.directCores d.ctxId (if s.ctxCompat d.ctxId then 1 else ceCores (s.cent d.ctxId) - (s.occupied d.ctxId).length)
    0 < cs.length ∧ c = cs.length ∧
      ps.map Prod.snd = (List.range (if s.ctxCompat d.ctxId then 1 else 32)).map (placeSlice cs (s.rotOf d.ctxId)) := by
  intro cs
  unfold State.directPlaces at h
  extract_lets ctx w used compat at h
  rw [hd, List.isEmpty_nil, if_pos rfl] at h
  split at h
  · cases h
  next hcs =>
  obtain ⟨rfl, rfl⟩ := Prod.mk.inj (Option.some.inj h)
  exact ⟨List.length_pos_iff.mpr (by simpa using hcs), rfl, List.map_map⟩

/-- Settles O33: the counters by `State.rotOf_advanced`, the cores and the slices from what a fresh placement computes. The one slice of a VDN-8E list
and the cores left to a direct job (NCORES less the cores occupied) are the model's choices, log entries 26 and 40. -/
theorem freshWorkIsSpreadOverItsCores : Obligations.FreshWorkIsSpreadOverItsCores := by
  refine ⟨fun ctx => rfl, fun s t b hb hin h hr => ?batch, fun s t d hd hin h hr => ?direct⟩
  case batch =>
    obtain ⟨ps, hps, hlog, hrot, -⟩ := State.placeBatch_spec h
    obtain ⟨hpos, hplace⟩ := State.batchPlaces_fresh hb hps
    rw [hb] at hlog hrot
    obtain ⟨hsame, hothers⟩ := State.rotOf_advanced hr hrot
    refine ⟨(s.usableCores_rising _).sublist (List.take_sublist _ _), hpos, hsame, hothers, ?_⟩
    have htaken : t.batch b.id = some (b.takes true ps) := by
      rw [State.batch, hlog]
      exact (s.batch_modBatch b.id b.id (f := (Batch.takes · true ps)) fun _ => rfl).trans (by rw [hin, Option.map_some, if_pos rfl])
    rw [htaken]
    exact congrArg some hplace
  case direct =>
    obtain ⟨ps, c, hps, hdirects, hrot, -⟩ := State.placeDirect_spec h
    obtain ⟨hpos, rfl, hplace⟩ := State.directPlaces_fresh hd hps
    rw [hd] at hdirects hrot
    obtain ⟨hsame, hothers⟩ := State.rotOf_advanced hr hrot
    refine ⟨(s.usableCores_rising _).filter _, hpos, hsame, hothers, fun e he hctx => ?_⟩
    rw [hdirects] at he
    obtain ⟨x, -, rfl⟩ := List.mem_map.mp he
    split at hctx
    · next hx => rw [if_pos hx]; exact hplace
    · next hx => exact absurd hctx hx

/-! ### The pre-emptions of a placement (R306) -/

/-- The item that is placed is one of the ready queue, and the cores pre-empted for it run work of a lower class. -/
theorem State.placeItem_preempts {s t : State} {i : WorkItem} (h : s.placeItem i = some t) (n : Nat) :
    (t.core n).preempt = (s.core n).preempt ∨ s.mayPreempt n (s.itemClass i) = true := by
  cases i with
  | batch id =>
    obtain ⟨b, hb, hplace⟩ := Option.bind_eq_some_iff.mp h
    obtain ⟨-, -, -, -, -, hpre⟩ := State.placeBatch_spec hplace
    rw [State.itemClass, hb]
    exact hpre n
  | direct ctx =>
    obtain ⟨d, hd, hplace⟩ := Option.bind_eq_some_iff.mp h
    obtain ⟨-, -, -, -, -, -, hpre⟩ := State.placeDirect_spec hplace
    obtain rfl : d.ctxId = ctx := by simpa using List.find?_some hd
    exact hpre n

/-- SCHEDULER_PLACE places an item of the ready queue or changes nothing. -/
theorem State.doSchedulerPlace_cases (s : State) : s.doSchedulerPlace = s ∨ ∃ i ∈ s.sched.ready, s.placeItem i = some s.doSchedulerPlace := by
  unfold State.doSchedulerPlace
  split
  · cases h : s.sched.ready.findSome? s.placeItem with
    | none => exact .inl rfl
    | some t => exact .inr (List.exists_of_findSome?_eq_some h)
  · exact .inl rfl

/-- Settles O34: a core that the placement pre-empts was one whose work may be pre-empted for the item's class. -/
theorem preemptionIsRequestedUnderItsConditions : Obligations.PreemptionIsRequestedUnderItsConditions := by
  intro s t n _ _ h hnone hpre
  have hchanged : s.rst.mode ≠ .held ∧ s.doSchedulerPlace = t := by
    have ht : (if s.rst.mode = .held then s else s.doSchedulerPlace) = t := Host.Outcome.next.inj h
    split at ht
    · exact absurd (ht ▸ hnone) hpre
    · next hup => exact ⟨hup, ht⟩
  obtain ⟨-, rfl⟩ := hchanged
  obtain hsame | ⟨i, hi, hplace⟩ := s.doSchedulerPlace_cases
  · exact absurd (hsame.symm ▸ hnone) hpre
  obtain heq | hmay := State.placeItem_preempts hplace n
  · exact absurd (heq.trans hnone) hpre
  obtain ⟨hen, ⟨c, hc, hlt⟩, hsave, hspilled, hvictims⟩ := State.mayPreempt_spec hmay
  exact ⟨hen, ⟨i, hi, c, hc, hlt⟩, fun h0 => by rw [hc, Option.some.injEq] at h0; omega, hsave, hspilled, hvictims⟩

end Sys2Proof.Machine
end

section
/-! What a core leaves of the scheduler while it takes slices in, and the scheduler's queues (O38). -/

namespace Sys2Proof.Machine

/-! ### What the entry of slices leaves of the scheduler and of the core's pre-emption -/

theorem State.sched_coreFault (s : State) (n code va : Nat) : (s.coreFault n code va).sched = s.sched := by
  change (ite _ _ _ : State).sched = _
  split
  · exact s.cBump_sched ..
  · exact (State.setReg2_sched ..).trans (s.setReg_sched ..)

theorem State.cores_length_coreFault (s : State) (n code va : Nat) : (s.coreFault n code va).cores.length = s.cores.length := by
  rw [State.coreFault, State.dropRemote, List.length_map, State.modCore_length]
  split
  · exact congrArg List.length (s.cBump_cores ..)
  · exact congrArg List.length ((State.setReg2_cores ..).trans (s.setReg_cores ..))

theorem Core.pause_spadPut (c : Core) (a : Nat) (bs : List Byte) : (c.spadPut a bs).ctl = c.ctl ∧ (c.spadPut a bs).preempt = c.preempt := by
  unfold Core.spadPut
  dsimp only
  refine ⟨foldl_keeps (g := Core.ctl) ?_ _ c, foldl_keeps (g := Core.preempt) ?_ _ c⟩ <;> exact fun _ _ => rfl

/-- `t` is what core `n` leaves of `s` while it takes slices in: the scheduler as it was, and the core stopped or as far as it was in a pre-emption. -/
structure State.TakesIn (n : Nat) (s t : State) : Prop where
  sched : t.sched = s.sched
  length : t.cores.length = s.cores.length
  pause : n < s.cores.length → ((t.core n).ctl = (s.core n).ctl ∧ (t.core n).preempt = (s.core n).preempt) ∨
    ((t.core n).ctl = .stopped ∧ (t.core n).preempt = 0)

namespace State.TakesIn
variable {n : Nat} {s t u : State}

theorem refl (n : Nat) (s : State) : TakesIn n s s := ⟨rfl, rfl, fun _ => .inl ⟨rfl, rfl⟩⟩

theorem of_cores (hs : t.sched = s.sched) (hc : t.cores = s.cores) : TakesIn n s t :=
  ⟨hs, by rw [hc], fun _ => .inl (by rw [State.core_congr hc]; exact ⟨rfl, rfl⟩)⟩

theorem trans (h : TakesIn n s t) (h' : TakesIn n t u) : TakesIn n s u := by
  refine ⟨h'.sched.trans h.sched, h'.length.trans h.length, fun hn => ?_⟩
  obtain ⟨hctl, hpre⟩ | hstop := h'.pause (h.length ▸ hn)
  · rw [hctl, hpre]
    exact h.pause hn
  · exact .inr hstop

theorem accesses (h : s.AccessesOnly t) : TakesIn n s t := of_cores h.sched h.cores

theorem cBump (s : State) (off k : Nat) : TakesIn n s (s.cBump n off k) := of_cores rfl rfl

theorem modCore (s : State) {f : Core → Core} (hf : ∀ c, (f c).ctl = c.ctl ∧ (f c).preempt = c.preempt) : TakesIn n s (s.modCore n f) :=
  ⟨rfl, s.modCore_length n f, fun _ => .inl ⟨s.core_modCore_keeps n n fun c => (hf c).1, s.core_modCore_keeps n n fun c => (hf c).2⟩⟩

theorem foldl {α : Type} {f : State → α → State} (hf : ∀ s a, TakesIn n s (f s a)) (l : List α) (s : State) : TakesIn n s (l.foldl f s) := by
  induction l generalizing s with
  | nil => exact refl n s
  | cons a l ih => exact (hf s a).trans (ih _)

theorem coreFault (s : State) (code va : Nat) : TakesIn n s (s.coreFault n code va) := by
  refine ⟨s.sched_coreFault n code va, s.cores_length_coreFault n code va, fun hn => .inr ?_⟩
  obtain ⟨outs, h⟩ := s.core_coreFault code va hn
  rw [h]
  exact ⟨rfl, rfl⟩

/-! ### Writes through a port -/

theorem grant (s : State) (l : Nat) : TakesIn n s (s.grant n l) := by
  unfold State.grant
  dsimp only
  split
  · exact refl n s
  · exact (modCore s (by exact fun _ => ⟨rfl, rfl⟩)).trans (cBump _ _ _)

theorem spadEvent (s : State) (port bit line : Nat) : TakesIn n s (s.spadEvent n port bit line) := by
  refine of_cores ?_ (s.cores_spadEvent n port bit line)
  unfold State.spadEvent
  dsimp only
  split
  · exact s.setReg_sched ..
  · exact (State.setReg_sched ..).trans (s.setReg_sched ..)

theorem writeReq (s : State) (port : Nat) (req : List (Nat × List Byte)) : TakesIn n s (s.writeReq n port req).1 := by
  unfold State.writeReq
  dsimp only
  split
  · exact (spadEvent _ _ _ _).trans (cBump _ _ _)
  · exact (foldl (fun s l => grant s l) _ s).trans (modCore _ fun c =>
      ⟨foldl_keeps (fun c x => (c.pause_spadPut x.1 x.2).1) req c, foldl_keeps (fun c x => (c.pause_spadPut x.1 x.2).2) req c⟩)

theorem engWrites (s : State) (port : Nat) (rs : List (Nat × Nat)) (qs : List (List (Nat × List Byte))) :
    TakesIn n s (s.engWrites n port rs qs).1 := by
  induction qs generalizing s with
  | nil => exact refl n s
  | cons q qs ih =>
    have hreq := writeReq (n := n) s port q
    rw [State.engWrites]
    split
    · split
      · next e => rwa [e] at hreq
      · next e =>
        rw [e] at hreq
        exact hreq.trans (ih _)
    · exact refl n s

theorem spadWrite {port a : Nat} {bs : List Byte} {r : Option Nat} (h : s.spadWrite n port a bs = (t, r)) : TakesIn n s t := by
  have hwrites : TakesIn n s (s.spadWrite n port a bs).1 := engWrites _ _ _ _
  rwa [h] at hwrites

/-! ### The entry of a slice (R366, R368) -/

theorem replayRecords (s : State) (slice k : Nat) : TakesIn n s (s.replayRecords n slice k) := by
  induction k generalizing s with
  | zero => exact refl n s
  | succ k ih =>
    rw [State.replayRecords]
    have hnote : ∀ ctx a k, TakesIn n s (s.ctxNote ctx a k) := fun ctx a k => accesses ((AccessesOnly.refl s).ctxNote ctx a k)
    split
    · next e => exact ((hnote _ _ _).trans (spadWrite e)).trans (coreFault _ _ _)
    · next e =>
      refine ((hnote _ _ _).trans (spadWrite e)).trans (trans ?_ (ih _))
      exact (accesses ((AccessesOnly.refl _).ctxPoke _ _ _)).trans (cBump _ _ _)

theorem setResidency (s : State) (ctx slice : Nat) (m : Option Nat) : TakesIn n s (s.setResidency ctx slice m) := of_cores rfl rfl

/-- The two counters of a signal in the landing zone are cleared, and their sum is the core's. -/
theorem returnSignal (s : State) (ctx a a' : Nat) (bs bs' : List Byte) (slice g : Nat) (v : Word) :
    TakesIn n s (((s.ctxPoke ctx a bs).ctxPoke ctx a' bs').modCore n (fun c => c.setSignal slice g v)) :=
  (accesses (((AccessesOnly.refl s).ctxPoke _ _ _).ctxPoke _ _ _)).trans (modCore _ (by exact fun _ => ⟨rfl, rfl⟩))

theorem enterCore (s : State) (slice : Nat) : TakesIn n s (s.enterCore n slice) := by
  unfold State.enterCore
  extract_lets ctx w k u
  split
  · exact setResidency _ _ _ _
  · exact ((replayRecords _ _ _).trans (foldl (fun u g => returnSignal u _ _ _ _ _ _ _ _) _ _)).trans (setResidency _ _ _ _)

theorem enterAll (s : State) : TakesIn n s (s.enterAll n) := by
  unfold State.enterAll
  refine foldl (fun u x => ?_) _ s
  exact enterCore u x.slice

/-! ### The refill (R311) -/

theorem refilled (s : State) (k : Nat) : TakesIn n s (s.refilled n k) := by
  unfold State.refilled
  split
  · exact refl n s
  · exact (cBump _ _ _).trans (cBump _ _ _)

theorem vnote (s : State) (tlb : List Tlb) (ctx va len : Nat) : TakesIn n s (s.vnote tlb ctx va len) :=
  accesses ((AccessesOnly.refl s).vnote _ _ _ _)

theorem refillRange (s : State) (region : Nat) (e : List Word) : TakesIn n s (s.refillRange n region e).1 := by
  unfold State.refillRange
  extract_lets r len tlb ctx va s'
  have hnote : TakesIn n s s' := vnote _ _ _ _ _
  split
  · exact cBump _ _ _
  · split
    · exact hnote
    · split
      · exact (hnote.trans (refilled _ _)).trans (spadWrite rfl)
      · dsimp only
        exact (hnote.trans (refilled _ _)).trans (modCore _ (by exact fun _ => ⟨rfl, rfl⟩))

theorem refillRanges (s : State) (region : Nat) (dir : List Word) (left i : Nat) : TakesIn n s (s.refillRanges n region dir left i).1 := by
  induction left generalizing s i with
  | zero => exact refl n s
  | succ left ih =>
    have hrange := refillRange (n := n) s region ((dir.drop (4 * i)).take 4)
    rw [State.refillRanges]
    split
    · next e => rwa [e] at hrange
    · next e =>
      rw [e] at hrange
      exact hrange.trans (ih _ _)

theorem refillSlice (s : State) (slice : Nat) : TakesIn n s (s.refillSlice n slice).1 := by
  unfold State.refillSlice
  extract_lets ctx w
  split
  · exact refl n s
  · extract_lets rec_ k s'
    have hrecord : TakesIn n s (s.vnote (s.core n).tlb ctx (recordVa w slice) 128) := vnote _ _ _ _ _
    have hdir : TakesIn n s s' := hrecord.trans (vnote _ _ _ _ _)
    split
    · dsimp only
      exact hrecord.trans (refilled _ _)
    · split
      · exact hdir
      · exact (hdir.trans (refilled _ _)).trans (refillRanges _ _ _ _ _)

theorem refillSlices (s : State) (ks : List Nat) : TakesIn n s (s.refillSlices n ks).1 := by
  induction ks generalizing s with
  | nil => exact refl n s
  | cons k ks ih =>
    have hslice := refillSlice (n := n) s k
    rw [State.refillSlices]
    split
    · next e => rwa [e] at hslice
    · next e =>
      rw [e] at hslice
      exact hslice.trans (ih _)

end State.TakesIn

/-! ### The firmware takes a grant (R325, R389) -/

theorem State.sched_startResume (s : State) (n : Nat) (run : Run) (mask : Nat) : (s.startResume n run mask).sched = s.sched := by
  unfold State.startResume
  extract_lets sls s₁
  have hrefill := (State.TakesIn.refillSlices (n := n) s₁ (sls.map SliceSt.slice)).sched
  split
  · next e =>
    rw [e] at hrefill
    exact (State.sched_coreFault _ _ _ _).trans hrefill
  · next e => rwa [e] at hrefill

theorem State.sched_doPreemptResume (s : State) (n : Nat) : (s.doPreemptResume n).sched = s.sched := by
  unfold State.doPreemptResume
  split
  · rfl
  · exact s.sched_startResume n _ _

theorem State.sched_doCoreStart (s : State) (n : Nat) (legacy : Bool) : (s.doCoreStart n legacy).sched = s.sched := by
  unfold State.doCoreStart
  extract_lets mask sls
  split
  · rfl
  · split
    · rfl
    · exact (State.TakesIn.enterAll _).sched

theorem State.accesses_loadDirect (s : State) (n : Nat) (j : Job) (mask : BitVec 32) : s.AccessesOnly (s.loadDirect n j mask) :=
  (((((AccessesOnly.refl s).setReg _ _).setReg _ _).setReg2 _ _).setReg2 _ _).setReg2 _ _

theorem State.grants_modDirect (s : State) (ctx : Nat) (f : Direct → Direct) : (s.modDirect ctx f).sched.grants = s.sched.grants := rfl

theorem State.grants_startGranted (s : State) (n : Nat) : (s.startGranted n).sched.grants = s.sched.grants := by
  unfold State.startGranted
  split
  · rfl
  split
  · rfl
  dsimp only
  split
  · exact State.grants_modDirect _ _ _
  split
  · rw [(State.accesses_syncCores _ _).sched, State.sched_doPreemptResume, (State.accesses_loadDirect _ _ _ _).sched, State.grants_modDirect]
  · rw [(State.accesses_syncCores _ _).sched, State.sched_doCoreStart, (State.accesses_loadDirect _ _ _ _).sched, State.grants_modDirect]

theorem State.grants_takeGrant (s : State) : s.takeGrant.sched.grants = s.sched.grants.drop 1 := by
  unfold State.takeGrant
  split
  · next h => rw [h, List.drop_nil]
  · exact foldl_keeps (g := fun u : State => u.sched.grants) State.grants_startGranted _ _

/-- The Pilot's read of LOG_SCHED_GRANT_CORES takes the grant at the head. -/
theorem State.HubReached.busRead_grant {s : State} (h : s.HubReached Reg.logSchedGrantCores) :
    (s.busRead .pilot (regBase + Reg.logSchedGrantCores) 4).sched = s.takeGrant.sched ∧
    (s.busRead .pilot (regBase + Reg.logSchedGrantCores) 4).bus.err = false := by
  rw [State.busRead, if_neg h.awake, h.memAt_eq]
  simp only [h.granted_eq, h.reach_eq]
  exact ⟨rfl, rfl⟩

theorem State.hubReached_grant {s : State} (hup : s.rst.mode ≠ .held) : s.HubReached Reg.logSchedGrantCores :=
  ⟨hup, by decide, by decide, by simp [State.answers, Reg.logSchedGrantCores]⟩

/-! ### Submission and placement (R302, R325) -/

section Submit
variable {s : State} {ctx : Nat}

theorem State.doLogSchedSubmit_bad (h : ceState (s.cent ctx) ≠ 1 ∨ ceDirect (s.cent ctx) = false ∨ 4096 ≤ ctx) :
    s.doLogSchedSubmit ctx = s.orReg Reg.logSchedErr 1 := by
  refine if_neg fun ⟨hready, hdirect, hlt⟩ => ?_
  obtain h | h | h := h
  · exact h hready
  · exact Bool.false_ne_true (h.symm.trans hdirect)
  · exact absurd hlt (not_lt.mpr h)

variable (hready : ceState (s.cent ctx) = 1) (hdirect : ceDirect (s.cent ctx) = true) (hctx : ctx < 4096)
include hready hdirect hctx

theorem State.doLogSchedSubmit_again (h : s.sched.directs.any (fun d => d.ctxId == ctx) = true) : s.doLogSchedSubmit ctx = s :=
  (if_pos ⟨hready, hdirect, hctx⟩).trans (if_pos h)

theorem State.doLogSchedSubmit_new (h : s.sched.directs.any (fun d => d.ctxId == ctx) = false) :
    s.doLogSchedSubmit ctx = ({ s with sched := { s.sched with
      directs := s.sched.directs ++ [{ ctxId := ctx, order := s.sched.nextOrder }], nextOrder := s.sched.nextOrder + 1 } } : State).enqueueReady
        (.direct ctx) :=
  (if_pos ⟨hready, hdirect, hctx⟩).trans (if_neg (h ▸ Bool.false_ne_true))

end Submit

/-- An entry to the ready queue changes nothing else of the scheduler. -/
theorem State.enqueueReady_sched (s : State) (i : WorkItem) : { (s.enqueueReady i).sched with ready := s.sched.ready } = s.sched := by
  unfold State.enqueueReady
  split <;> rfl

theorem State.doSchedulerPlace_none {s : State} (h : ∀ i ∈ s.sched.ready, s.placeItem i = none) : s.doSchedulerPlace = s := by
  unfold State.doSchedulerPlace
  rw [List.findSome?_eq_none_iff.mpr h]
  exact ite_self s

theorem State.doSchedulerPlace_first {s t : State} {pre post : List WorkItem} {i : WorkItem} (hen : flag (s.reg Reg.logSchedCtrl) 0 = true)
    (hq : s.sched.ready = pre ++ i :: post) (hpre : ∀ j ∈ pre, s.placeItem j = none) (h : s.placeItem i = some t) : s.doSchedulerPlace = t := by
  unfold State.doSchedulerPlace
  rw [if_pos hen, hq, List.findSome?_append, List.findSome?_eq_none_iff.mpr hpre, List.findSome?_cons, h]
  rfl

/-- The item that is placed leaves the ready queue. -/
theorem State.placeItem_leaves {s t : State} {i : WorkItem} (h : s.placeItem i = some t) : i ∉ t.sched.ready := by
  have hleaves : t.sched.ready = s.sched.ready.filter (fun x => decide (x ≠ i)) := by
    cases i with
    | batch id =>
      obtain ⟨b, hb, hplace⟩ := Option.bind_eq_some_iff.mp h
      obtain ⟨-, -, -, -, hready, -⟩ := State.placeBatch_spec hplace
      obtain rfl : b.id = id := by simpa using List.find?_some hb
      exact hready
    | direct ctx =>
      obtain ⟨d, hd, hplace⟩ := Option.bind_eq_some_iff.mp h
      obtain ⟨-, -, -, -, -, hready, -⟩ := State.placeDirect_spec hplace
      obtain rfl : d.ctxId = ctx := by simpa using List.find?_some hd
      exact hready
  rw [hleaves]
  simp

/-- Settles O38: the submission by its three cases, the placement by the first item that can be placed, the grant by what `State.takeGrant` keeps. That
the first item that can be placed goes, and that firmware that is down takes no grant, are the model's choices, log entries 40 and 50. -/
theorem schedulerPlacesReadyWork : Obligations.SchedulerPlacesReadyWork := by
  intro s
  refine ⟨fun hup => ⟨fun ctx hready hdirect hctx => ⟨fun hin => ?again, fun hnew => ?new⟩, fun ctx hbad => ?bad, fun hoff => ?off,
    fun hnone => ?none, fun pre i post t hen hq hpre hplace => ?first⟩, fun hdown => ?down, fun hrun => ?grant⟩
  case again => exact exec_hub (f := (State.doLogSchedSubmit · ctx)) rfl hup (State.doLogSchedSubmit_again hready hdirect hctx hin)
  case new =>
    refine ⟨_, exec_hub (f := (State.doLogSchedSubmit · ctx)) rfl hup (State.doLogSchedSubmit_new hready hdirect hctx hnew),
      (State.mem_enqueueReady _ _ _).mpr (.inl rfl), ?_⟩
    have hrest := State.enqueueReady_rest { s with sched := { s.sched with
      directs := s.sched.directs ++ [{ ctxId := ctx, order := s.sched.nextOrder }], nextOrder := s.sched.nextOrder + 1 } } (.direct ctx)
    have hsched := State.enqueueReady_sched { s with sched := { s.sched with
      directs := s.sched.directs ++ [{ ctxId := ctx, order := s.sched.nextOrder }], nextOrder := s.sched.nextOrder + 1 } } (.direct ctx)
    exact ⟨(congrArg Sched.directs hsched :), (congrArg Sched.nextOrder hsched :), (congrArg State.mem hrest :), (congrArg State.regs hrest :)⟩
  case bad => exact exec_hub (f := (State.doLogSchedSubmit · ctx)) rfl hup (State.doLogSchedSubmit_bad hbad)
  case off => exact exec_hub rfl hup (if_neg (hoff ▸ Bool.false_ne_true) : s.doSchedulerPlace = s)
  case none => exact exec_hub rfl hup (State.doSchedulerPlace_none hnone)
  case first => exact ⟨exec_hub rfl hup (State.doSchedulerPlace_first hen hq hpre hplace), State.placeItem_leaves hplace⟩
  case down => exact congrArg Host.Outcome.next (if_pos ⟨rfl, by simp [hdown]⟩ : s.doGrantPop .pilot = s)
  case grant =>
    have hruns : s.firmwareRuns = true := by simp [State.firmwareRuns, hrun]
    have hup : s.rst.mode ≠ .held := by simp [hrun]
    obtain ⟨hsched, herr⟩ := (State.hubReached_grant hup).busRead_grant
    refine ⟨_, congrArg Host.Outcome.next (if_neg (by simp [hruns]) : s.doGrantPop .pilot = _), ?_, herr⟩
    rw [hsched, s.grants_takeGrant]

end Sys2Proof.Machine
end

section
/-! Pre-emption and resume of a core, and remote waits (O39). -/

namespace Sys2Proof.Machine

/-! ### Requests and resumes (R308, R311, R326) -/

theorem State.doPreemptRequest_works {s : State} {n : Nat} (hi : (s.core n).idle = false) (hp : (s.core n).preempt = 0) :
    s.doPreemptRequest n = s.modCore n (fun c => { c with preempt := 1 }) := if_pos (by rw [hi, hp]; rfl)

theorem State.doPreemptRequest_idle {s : State} {n : Nat} (h : (s.core n).idle = true ∨ (s.core n).preempt ≠ 0) : s.doPreemptRequest n = s := by
  refine if_neg fun hgo => ?_
  simp only [Bool.and_eq_true, Bool.not_eq_true', beq_iff_eq] at hgo
  exact h.elim (fun hi => Bool.false_ne_true (hgo.1.symm.trans hi)) (absurd hgo.2)

theorem State.doPreemptResume_busy {s : State} {n : Nat} (h : (s.core n).idle = false ∨ (s.core n).run ≠ .idle) : s.doPreemptResume n = s :=
  if_pos (by simpa using h)

/-- The run that a resume of an idle core takes up. -/
theorem State.doPreemptResume_idle {s : State} {n : Nat} (hi : (s.core n).idle = true) (hr : (s.core n).run = .idle) :
    s.doPreemptResume n = s.startResume n (if s.ctxCompat (s.coreCtx n) then .compat else .direct) (s.cReg n Reg.coreSlices).toNat :=
  if_neg (by simp [hi, hr])

/-! ### The boundary (R213, R308-R310) -/

section Boundary
variable {s : State} {n : Nat}

theorem State.doPreemptBoundary_away (h : (s.core n).preempt ≠ 1 ∨ (s.core n).atBoundary = false) : s.doPreemptBoundary n = s := by
  refine if_pos ?_
  simp only [Bool.not_eq_true', Bool.and_eq_false_iff, beq_eq_false_iff_ne]
  exact h

/-- The core at the boundary: its takes are to be fetched again, and dispatch has stopped. -/
def State.atStop (s : State) (n : Nat) : State := (s.dropTakes n).modCore n (fun c => { c with ctl := .preempted })

/-- The slices whose ranges are spilled. -/
def Core.alive (c : Core) : List SliceSt := c.slices.filter (fun x => !x.ended)

/-- The state at the boundary once the descriptors of the live ranges have been read. -/
def State.noted (s : State) (n : Nat) : State := ((s.atStop n).core n).alive.foldl (fun s x => s.noteRanges n x) (s.atStop n)

/-- The state from which the live ranges are written: the core waits for their acknowledgement, and its slices have left it. -/
def State.vacated (s : State) (n : Nat) : State :=
  ((s.atStop n).core n).alive.foldl (fun s x => s.leaveCore n x.slice) ((s.noted n).modCore n (fun c => { c with preempt := 2 }))

variable (hp : (s.core n).preempt = 1) (hb : (s.core n).atBoundary = true)
include hp hb

theorem State.doPreemptBoundary_ahead (ha : ((s.atStop n).core n).aheadOver = false) : s.doPreemptBoundary n = s.atStop n := by
  refine (if_neg (by simp [hp, hb])).trans (if_pos ?_)
  exact congrArg not ha

variable (ha : ((s.atStop n).core n).aheadOver = true)
include ha

/-- Once every AHEAD command is over, the live ranges decide. -/
theorem State.doPreemptBoundary_spills : s.doPreemptBoundary n = match (s.noted n).allRanges n ((s.atStop n).core n).alive with
    | .error e => (s.noted n).coreFault n e ((s.atStop n).core n).curSl.pc
    | .ok rs => match (s.vacated n).spillSlices n rs with
      | (u, some e) => u.coreFault n e ((s.atStop n).core n).curSl.pc
      | (u, none) => u.modCore n (fun c => { c with sxQ := [] }) := by
  refine (if_neg (by simp [hp, hb])).trans ((if_neg ?_).trans ?_)
  · exact fun hno => Bool.false_ne_true ((congrArg not ha).symm.trans hno)
  · rfl

theorem State.doPreemptBoundary_unreadable {e : Nat} (h : (s.noted n).allRanges n ((s.atStop n).core n).alive = .error e) :
    s.doPreemptBoundary n = (s.noted n).coreFault n e ((s.atStop n).core n).curSl.pc := by
  rw [State.doPreemptBoundary_spills hp hb ha, h]

variable {rs : List (SliceSt × List LiveRange)} (h : (s.noted n).allRanges n ((s.atStop n).core n).alive = .ok rs)
include h

theorem State.doPreemptBoundary_unwritable {u : State} {e : Nat} (hw : (s.vacated n).spillSlices n rs = (u, some e)) :
    s.doPreemptBoundary n = u.coreFault n e ((s.atStop n).core n).curSl.pc := by
  rw [State.doPreemptBoundary_spills hp hb ha, h]
  dsimp only
  rw [hw]

theorem State.doPreemptBoundary_spilled {u : State} (hw : (s.vacated n).spillSlices n rs = (u, none)) :
    s.doPreemptBoundary n = u.modCore n (fun c => { c with sxQ := [] }) := by
  rw [State.doPreemptBoundary_spills hp hb ha, h]
  dsimp only
  rw [hw]

end Boundary

/-! ### The end of the spill (R302, R308) -/

theorem State.modWork_cores (s : State) (n : Nat) (f : Batch → Batch) (g : Direct → Direct) : (s.modWork n f g).cores = s.cores := by
  unfold State.modWork
  split <;> rfl

/-- A freed core is idle and out of any pre-emption, and no item waits for it. -/
theorem State.freeCore_spec (s : State) {n : Nat} (hn : n < s.cores.length) :
    ((s.freeCore n).core n).run = .idle ∧ ((s.freeCore n).core n).preempt = 0 ∧ (s.freeCore n).cores.length = s.cores.length ∧
      ∀ v ∈ (s.freeCore n).sched.victims, v.1 ≠ n := by
  unfold State.freeCore
  extract_lets ctx u
  have hsync := State.accesses_syncCores { u with sched := { u.sched with victims := u.sched.victims.filter (fun v => v.1 != n) } } ctx
  have hu := s.core_modCore_same (fun c => { c with
    run := .idle, ctl := .run, fetch := [], wl := none, wlBuf := [], wlLines := [], wdog := 0, preempt := 0
    waiting := c.waiting.filter (fun x => x.kind != .workList) }) hn
  rw [hsync.core, hsync.cores, hsync.sched]
  refine ⟨congrArg Core.run hu, congrArg Core.preempt hu, (s.modCore_length n _ : u.cores.length = _), fun v hv => ?_⟩
  simpa using (List.mem_filter.mp hv).2

theorem State.cores_enqueueReady (s : State) (i : WorkItem) : (s.enqueueReady i).cores = s.cores := (congrArg State.cores (s.enqueueReady_rest i) :)

theorem State.victims_enqueueReady (s : State) (i : WorkItem) : (s.enqueueReady i).sched.victims = s.sched.victims :=
  (congrArg Sched.victims (s.enqueueReady_sched i) :)

/-- The work item of a core that has spilled it. -/
def Core.item (c : Core) (ctx : Nat) : WorkItem :=
  match c.run with
  | .batch id => .batch id
  | _ => .direct ctx

/-- The state with the end of a spill counted and its slices marked SPILLED. -/
def State.spillMarked (s : State) (n : Nat) : State :=
  (((s.orReg (coreKey n Reg.corePreempt) 1).cBump n Reg.coreCntPreempt).modCent (s.coreCtx n)
    (fun w => w.set 2 (wd w 2 ||| w32 (s.core n).aliveMask.toNat))).modWork n (fun b => { b with spilled := b.spilled ||| (s.core n).aliveMask })
    (fun d => { d with spilled := d.spilled ||| (s.core n).aliveMask })

theorem State.cores_spillMarked (s : State) (n : Nat) : (s.spillMarked n).cores = s.cores := by
  unfold State.spillMarked
  rw [State.modWork_cores, (State.accesses_modCent _ _ _).cores, State.cBump_cores, State.orReg_cores]

/-- The slices leave core `n`, and its work item waits in the ready queue. -/
def State.requeued (s : State) (n : Nat) (i : WorkItem) : State :=
  ((s.modCore n (fun c => { c with slices := [] })).enqueueReady i).bump Reg.logSchedCntPreempt

theorem State.requeued_spec (s : State) {n : Nat} (i : WorkItem) (hn : n < s.cores.length) :
    ((s.requeued n i).core n).run = (s.core n).run ∧ ((s.requeued n i).core n).preempt = (s.core n).preempt ∧
      ((s.requeued n i).core n).slices = [] ∧ i ∈ (s.requeued n i).sched.ready ∧ (s.requeued n i).sched.victims = s.sched.victims := by
  have hcore := (State.core_congr (State.cores_enqueueReady _ i) n).trans (s.core_modCore_same (fun c => { c with slices := [] }) hn)
  rw [State.requeued, State.core_bump, hcore, State.bump_sched, State.victims_enqueueReady]
  exact ⟨rfl, rfl, rfl, (State.mem_enqueueReady _ _ _).mpr (.inl rfl), rfl⟩

theorem State.doSpillComplete_over {s : State} {n : Nat} (hp : (s.core n).preempt = 2) :
    s.doSpillComplete n = ((s.spillMarked n).freeCore n).requeued n ((s.core n).item (s.coreCtx n)) := if_neg (not_not.mpr hp)

/-- The core and the scheduler after the end of a spill. -/
theorem State.doSpillComplete_spec {s : State} {n : Nat} (hn : n < s.cores.length) (hp : (s.core n).preempt = 2) :
    ((s.doSpillComplete n).core n).run = .idle ∧ ((s.doSpillComplete n).core n).preempt = 0 ∧ ((s.doSpillComplete n).core n).slices = [] ∧
      (s.core n).item (s.coreCtx n) ∈ (s.doSpillComplete n).sched.ready ∧ ∀ v ∈ (s.doSpillComplete n).sched.victims, v.1 ≠ n := by
  have hmarked : n < (s.spillMarked n).cores.length := s.cores_spillMarked n ▸ hn
  obtain ⟨hrun, hpre, hlen, hvictims⟩ := (s.spillMarked n).freeCore_spec hmarked
  obtain ⟨hrun', hpre', hslices, hready, hvictims'⟩ :=
    ((s.spillMarked n).freeCore n).requeued_spec ((s.core n).item (s.coreCtx n)) (hlen ▸ hmarked)
  rw [State.doSpillComplete_over hp]
  exact ⟨hrun'.trans hrun, hpre'.trans hpre, hslices, hready, hvictims' ▸ hvictims⟩

/-! ### The end of the refill (R101, R311, R368) -/

theorem State.doRefillComplete_waits {s : State} {n : Nat}
    (h : (s.core n).preempt ≠ 3 ∨ (s.core n).ctl ≠ .preempted ∨ ∃ r ∈ (s.core n).loupe, r.req = 2) : s.doRefillComplete n = s := by
  refine if_pos ?_
  obtain h | h | ⟨r, hr, hreq⟩ := h
  · simp [h]
  · simp [h]
  · have hany : (s.core n).loupe.any (fun r => r.req == 2) = true := List.any_eq_true.mpr ⟨r, hr, beq_iff_eq.mpr hreq⟩
    rw [hany, Bool.or_true]

/-- The core stops at a fault of the replay, or stands before a slice or at its barrier. -/
theorem State.doRefillComplete_spec {s : State} {n : Nat} (hn : n < s.cores.length) (hp : (s.core n).preempt = 3)
    (hc : (s.core n).ctl = .preempted) (hl : ∀ r ∈ (s.core n).loupe, r.req ≠ 2) : ((s.doRefillComplete n).core n).preempt = 0 ∧
      (((s.doRefillComplete n).core n).ctl = .run ∨ ((s.doRefillComplete n).core n).ctl = .barrier ∨
        ((s.doRefillComplete n).core n).ctl = .stopped) := by
  have hgo : ¬((!((s.core n).preempt == 3 && (s.core n).ctl == .preempted) || (s.core n).loupe.any (fun r => r.req == 2)) = true) := by
    simpa [hp, hc] using hl
  unfold State.doRefillComplete
  extract_lets c ctx m ks s₁ s₂ s₃ s₄ s₅ s₆
  rw [if_neg hgo]
  have hin : State.TakesIn n s s₃ := by
    refine ((State.TakesIn.modCore s ?_).trans (State.TakesIn.foldl (fun u k => ?_) _ _)).trans (State.TakesIn.enterAll _)
    · exact fun _ => ⟨rfl, rfl⟩
    · exact State.TakesIn.accesses ((AccessesOnly.refl u).ctxPoke _ _ _)
  have hcores : s₆.cores = s₃.cores := (State.modWork_cores s₄ _ _ _).trans (s₃.accesses_modCent ctx _).cores
  have hcore := State.core_congr hcores n
  split
  · next hstop =>
    rw [hcore] at hstop ⊢
    obtain ⟨hctl, -⟩ | ⟨-, hpre⟩ := hin.pause hn
    · rw [hctl, hc] at hstop
      cases hstop
    · exact ⟨hpre, .inr (.inr hstop)⟩
  · rw [State.core_modCore_same _ _ (by rwa [hcores, hin.length])]
    split
    · exact ⟨rfl, .inl rfl⟩
    · exact ⟨rfl, .inr (.inl rfl)⟩

/-! ### Remote waits (R365) -/

/-- The wait `d` is over: its signal loses COUNT, its slice goes on, and it leaves the SX queue. -/
def State.waitOver (s : State) (n : Nat) (d : Cmd) : State :=
  (s.modCore n (fun c => { ((c.setSignal d.slice (fld (d.o 1) 19 16) ((s.core n).signal d.slice (fld (d.o 1) 19 16) - d.o 2)).putSl
    { ((c.sliceOf d.slice).getD { slice := d.slice }) with wait := none }) with sxQ := c.sxQ.drop 1 })).settle n

/-- A live core ends the wait `d` once its signal has reached COUNT. -/
def State.waitTried (s : State) (n : Nat) (d : Cmd) : State :=
  if (s.core n).live && decide ((d.o 2).toNat ≤ ((s.core n).signal d.slice (fld (d.o 1) 19 16)).toNat) then s.waitOver n d else s

section Wait
variable {s : State} {n : Nat} (hh : (s.core n).head = none)
include hh

/-- With no command at its head the core only tries the wait at the head of its SX queue again. -/
theorem State.doSxWaitRemote_retries : s.doSxWaitRemote n = (s.core n).remoteWait.elim s (s.waitTried n) := by
  unfold State.doSxWaitRemote
  dsimp only
  rw [State.dispatch_nothing _ _ _ hh, if_neg (lt_irrefl _)]
  cases (s.core n).remoteWait <;> rfl

theorem State.doSxWaitRemote_none (hw : (s.core n).remoteWait = none) : s.doSxWaitRemote n = s := by
  rw [State.doSxWaitRemote_retries hh, hw, Option.elim_none]

variable {d : Cmd} (hw : (s.core n).remoteWait = some d)
include hw

theorem State.doSxWaitRemote_early (hv : ((s.core n).signal d.slice (fld (d.o 1) 19 16)).toNat < (d.o 2).toNat) : s.doSxWaitRemote n = s := by
  rw [State.doSxWaitRemote_retries hh, hw, Option.elim_some]
  exact if_neg (by simp [hv])

theorem State.doSxWaitRemote_reached (hlive : (s.core n).live = true)
    (hv : (d.o 2).toNat ≤ ((s.core n).signal d.slice (fld (d.o 1) 19 16)).toNat) : s.doSxWaitRemote n = s.waitOver n d := by
  rw [State.doSxWaitRemote_retries hh, hw, Option.elim_some]
  exact if_pos (by simp [hlive, hv])

end Wait

/-- Settles O39: each command by the cases of its operation. The spill in one command and the resume of a VDN-8E list are the model's choices, log
entry 42. -/
theorem preemptionSpillsAndResumes : Obligations.PreemptionSpillsAndResumes := by
  intro s n hn hlen _ c
  have hc : n < s.cores.length := hlen ▸ hn
  refine ⟨fun ha => ⟨fun hi hp => ?request, fun h => ?noRequest, fun h => ?busy, fun hi hr => ?resume⟩, fun hon => ⟨fun h => ?away,
    fun hp hb => ?boundary, fun hp => ?noSpill, fun hp => ?spilled, fun h => ?refills, fun hp hctl hl => ?refilled,
    fun hh hw => ?noWait, fun d hh hw => ?wait⟩⟩
  case request => exact exec_window (f := (State.doPreemptRequest · n)) rfl hn ha (State.doPreemptRequest_works hi hp)
  case noRequest => exact exec_window (f := (State.doPreemptRequest · n)) rfl hn ha (State.doPreemptRequest_idle h)
  case busy => exact exec_window (f := (State.doPreemptResume · n)) rfl hn ha (State.doPreemptResume_busy h)
  case resume =>
    have hresume := exec_window (c := .preemptResume n) (f := (State.doPreemptResume · n)) rfl hn ha (State.doPreemptResume_idle hi hr)
    exact ⟨fun hd => by rw [hresume, hd]; rfl, fun hd => by rw [hresume, hd]; rfl⟩
  case away => exact exec_core (f := (State.doPreemptBoundary · n)) rfl hn hon (State.doPreemptBoundary_away h)
  case boundary =>
    have hexec : exec (.preemptBoundary n) s = .next (s.doPreemptBoundary n) := exec_core (f := (State.doPreemptBoundary · n)) rfl hn hon rfl
    rw [hexec]
    exact ⟨fun h => congrArg _ (State.doPreemptBoundary_ahead hp hb h), fun h =>
      ⟨fun e he => congrArg _ (State.doPreemptBoundary_unreadable hp hb h he),
        fun rs u e hr hw => congrArg _ (State.doPreemptBoundary_unwritable hp hb h hr hw),
        fun rs u hr hw => congrArg _ (State.doPreemptBoundary_spilled hp hb h hr hw)⟩⟩
  case noSpill => exact exec_core (f := (State.doSpillComplete · n)) rfl hn hon (if_pos hp)
  case spilled =>
    obtain ⟨hrun, hpre, hsl, hready, hvictims⟩ := State.doSpillComplete_spec hc hp
    refine ⟨_, exec_core (f := (State.doSpillComplete · n)) rfl hn hon rfl, hrun, hpre, hsl, fun id hid => ?_, fun hdir => ?_, hvictims⟩
    · rwa [Core.item, hid] at hready
    · rwa [Core.item, hdir] at hready
  case refills => exact exec_core (f := (State.doRefillComplete · n)) rfl hn hon (State.doRefillComplete_waits h)
  case refilled => exact ⟨_, exec_core (f := (State.doRefillComplete · n)) rfl hn hon rfl, State.doRefillComplete_spec hc hp hctl hl⟩
  case noWait => exact exec_core (f := (State.doSxWaitRemote · n)) rfl hn hon (State.doSxWaitRemote_none hh hw)
  case wait =>
    exact ⟨fun hv => exec_core (f := (State.doSxWaitRemote · n)) rfl hn hon (State.doSxWaitRemote_early hh hw hv), fun hlive hv =>
      exec_core (f := (State.doSxWaitRemote · n)) rfl hn hon (State.doSxWaitRemote_reached hh hw hlive hv)⟩

end Sys2Proof.Machine
end

section
/-! What reads of memory leave as it is: they count, record and repair errors (R334), and what memory delivers stays the same. -/

namespace Sys2Proof.Machine

/-! ### Keys of registers -/

theorem hbmKey_mod (h : Nat) {off : Nat} (ho : off < 0x10000) : hbmKey h off % 0x10000 = off := by
  unfold hbmKey
  split <;> omega

theorem coreKey_mod (n off : Nat) : coreKey n off % 0x10000 = off % 0x10000 := by
  unfold coreKey
  omega

/-- Registers of the memory controllers at different offsets differ, of whichever stacks. -/
theorem hbmKey_ne {h j a b : Nat} (hne : a ≠ b := by decide) (ha : a < 0x10000 := by decide) (hb : b < 0x10000 := by decide) :
    hbmKey h a ≠ hbmKey j b := fun heq => hne (by rw [← hbmKey_mod h ha, heq, hbmKey_mod j hb])

/-! ### Where lines lie (R330) -/

theorem State.regionOf_lt {s : State} {pa i : Nat} (h : s.regionOf pa = some i) : i < 16 := List.mem_range.mp (List.mem_of_find?_eq_some h)

theorem State.length_copiesOf (s : State) (pa : Nat) : (s.copiesOf pa).length ≤ 2 := by
  unfold State.copiesOf
  split
  · simp
  · dsimp only
    split <;> simp

theorem State.fst_lt_of_mem_liveCopies {s : State} {pa : Nat} {late : Bool} {c : Nat × Copy} (h : c ∈ s.liveCopies pa late) : c.1 < 2 := by
  unfold State.liveCopies at h
  dsimp only at h
  split at h
  · obtain ⟨hmem, -⟩ := List.mem_filter.mp h
    obtain ⟨d, hd, rfl⟩ := List.mem_map.mp hmem
    have hlt := List.snd_lt_of_mem_zipIdx hd
    have := s.length_copiesOf pa
    dsimp only
    omega
  · cases h

/-- `t` maps memory as `s` does: it has the registers of `s` but for those at offsets below `b` in their block, and its domains. -/
structure State.MapsAlike (b : Nat) (s t : State) : Prop where
  rising : mrising t.regs = true
  regs : ∀ k, b ≤ k % 0x10000 → t.reg k = s.reg k
  pwr : t.pwr = s.pwr

namespace State.MapsAlike

theorem refl {s : State} (b : Nat) (hr : mrising s.regs = true) : s.MapsAlike b s := ⟨hr, fun _ _ => rfl, rfl⟩

theorem trans {b : Nat} {s t u : State} (h : s.MapsAlike b t) (h' : t.MapsAlike b u) : s.MapsAlike b u :=
  ⟨h'.rising, fun k hk => (h'.regs k hk).trans (h.regs k hk), h'.pwr.trans h.pwr⟩

theorem mono {b c : Nat} {s t : State} (h : s.MapsAlike b t) (hbc : b ≤ c) : s.MapsAlike c t :=
  ⟨h.rising, fun k hk => h.regs k (hbc.trans hk), h.pwr⟩

theorem setReg {b k : Nat} {s t : State} (h : s.MapsAlike b t) (v : Word) (hk : k % 0x10000 < b) : s.MapsAlike b (t.setReg k v) := by
  refine h.trans ⟨t.setReg_rising k v h.rising, fun j hj => t.reg_setReg_ne v h.rising ?_, rfl⟩
  rintro rfl
  omega

variable {b : Nat} {s t : State} (h : s.MapsAlike b t) (hb : b ≤ 0x800)
include h hb

theorem shared {off : Nat} (hlo : 0x800 ≤ off) (hhi : off < 0x10000) : t.reg (hbmKey 0 off) = s.reg (hbmKey 0 off) :=
  h.regs _ (by rw [hbmKey_mod 0 hhi]; omega)

theorem rgnA {i : Nat} (hi : i < 16) : t.rgnA i = s.rgnA i := h.shared hb (by omega) (by omega)

theorem rgnB {i : Nat} (hi : i < 16) : t.rgnB i = s.rgnB i := h.shared hb (by omega) (by omega)

theorem regionOf (pa : Nat) : t.regionOf pa = s.regionOf pa := by
  unfold State.regionOf
  refine List.find?_congr fun i hi => ?_
  rw [h.rgnA hb (List.mem_range.mp hi)]

theorem copiesOf (pa : Nat) : t.copiesOf pa = s.copiesOf pa := by
  unfold State.copiesOf
  rw [h.regionOf hb]
  cases hreg : s.regionOf pa with
  | none => rfl
  | some i =>
    have hi := State.regionOf_lt hreg
    dsimp only
    rw [h.rgnA hb hi, h.rgnB hb hi]

theorem mirroredAt (pa : Nat) : t.mirroredAt pa = s.mirroredAt pa := by
  unfold State.mirroredAt
  rw [h.regionOf hb]
  cases hreg : s.regionOf pa with
  | none => rfl
  | some i => exact congrArg (fun a => fld a 30 29 == 2) (h.rgnA hb (State.regionOf_lt hreg))

theorem liveCopies (pa : Nat) (late : Bool) : t.liveCopies pa late = s.liveCopies pa late := by
  have hfailed : t.stackFailed = s.stackFailed := funext fun x => congrArg (flag · x) (h.shared hb (by decide) (by decide))
  have hon : ∀ x, t.stackOn x late = s.stackOn x late := fun x => by
    simp only [State.stackOn, State.domOn, State.domOpen, h.pwr]
  simp only [State.liveCopies, h.copiesOf hb, hfailed, hon]

theorem physGrant (pa : Nat) : t.physGrant .hub pa = s.physGrant .hub pa := by
  unfold State.physGrant
  rw [h.regionOf hb]
  cases hreg : s.regionOf pa with
  | none => rfl
  | some i => exact congrArg (flag · 13) (h.rgnB hb (State.regionOf_lt hreg))

theorem reachable (a n : Nat) : t.reachable a n = s.reachable a n := by
  simp only [State.reachable, h.liveCopies hb]

end State.MapsAlike

/-! ### What memory delivers (R334, R336) -/

/-- `t` maps memory as `s` does, and every read delivers the same. -/
structure State.ReadsAlike (b : Nat) (s t : State) : Prop extends s.MapsAlike b t where
  bytes : t.mem.bytes = s.mem.bytes
  ident : t.mem.ident = s.mem.ident
  unread : ∀ l, (t.goodCopies (64 * l)).isEmpty = (s.goodCopies (64 * l)).isEmpty
  lost : ∀ l, t.lineLost l = s.lineLost l

/-- A line that no good copy delivers is not lost, and any other is lost with its first good copy. -/
theorem State.lineLost_eq (s : State) (l : Nat) (late : Bool) :
    s.lineLost l late = ((s.goodCopies (64 * l) late).head?.any fun g => s.mem.lost.contains (2 * l + g.1)) := by
  unfold State.lineLost
  cases hlost : s.mem.lost with
  | nil => cases (s.goodCopies (64 * l) late).head? <;> simp
  | cons x r => cases s.goodCopies (64 * l) late <;> simp

theorem State.readAs_eq (s : State) (ident a n : Nat) : s.readAs ident a n =
    (s.mem.readAs ident a n).zipIdx.map fun b => if s.lineLost ((a + b.2) / 64) then 0 else b.1 := by
  unfold State.readAs
  dsimp only
  split
  · next hlost =>
    have hno : ∀ l, s.lineLost l = false := fun l => by rw [State.lineLost, hlost]; rfl
    simp only [hno, Bool.false_eq_true, if_false]
    exact List.zipIdx_map_fst 0 _ |>.symm
  · rfl

theorem State.MapsAlike.readsAlike {b : Nat} {s t : State} (h : s.MapsAlike b t) (hb : b ≤ 0x800) (hm : t.mem = s.mem) : s.ReadsAlike b t := by
  have hgood : ∀ pa late, t.goodCopies pa late = s.goodCopies pa late := fun pa late => by
    simp only [State.goodCopies, h.liveCopies hb, hm]
  exact { h with
    bytes := by rw [hm]
    ident := by rw [hm]
    unread := fun l => by rw [hgood]
    lost := fun l => by rw [State.lineLost_eq, State.lineLost_eq, hgood, hm] }

namespace State.ReadsAlike

theorem refl {s : State} {b : Nat} (hb : b ≤ 0x800) (hr : mrising s.regs = true) : s.ReadsAlike b s := (MapsAlike.refl b hr).readsAlike hb rfl

theorem trans {b : Nat} {s t u : State} (h : s.ReadsAlike b t) (h' : t.ReadsAlike b u) : s.ReadsAlike b u :=
  { h.toMapsAlike.trans h'.toMapsAlike with
    bytes := h'.bytes.trans h.bytes
    ident := h'.ident.trans h.ident
    unread := fun l => (h'.unread l).trans (h.unread l)
    lost := fun l => (h'.lost l).trans (h.lost l) }

theorem mono {b c : Nat} {s t : State} (h : s.ReadsAlike b t) (hbc : b ≤ c) : s.ReadsAlike c t := { h with toMapsAlike := h.toMapsAlike.mono hbc }

/-! ### Reads -/

section Reads
variable {b : Nat} {s t : State} (h : s.ReadsAlike b t) (hb : b ≤ 0x800)
include h hb

theorem hubPeek (a n : Nat) : t.hubPeek a n = s.hubPeek a n := by
  have hreadAs : t.readAs hubIdent a n = s.readAs hubIdent a n := by
    rw [State.readAs_eq, State.readAs_eq]
    simp only [Mem.readAs, Mem.byteAs, h.bytes, h.ident, h.lost]
  have hreadable : t.readable a n = s.readable a n := by simp only [State.readable, h.unread]
  rw [State.hubPeek, State.peek, h.toMapsAlike.physGrant hb, h.toMapsAlike.physGrant hb, hreadable, hreadAs, ← State.peek, ← State.hubPeek]

theorem rootAddr (ctx : Nat) : t.rootAddr ctx = s.rootAddr ctx := by
  have hlo := h.toMapsAlike.shared hb (off := Reg.hbmXlatRootLo) (by decide) (by decide)
  have hhi := h.toMapsAlike.shared hb (off := Reg.hbmXlatRootHi) (by decide) (by decide)
  have hnext : hbmKey 0 Reg.hbmXlatRootLo + 4 = hbmKey 0 Reg.hbmXlatRootHi := rfl
  rw [State.rootAddr, State.reg2, hnext, hlo, hhi, ← hnext, ← State.reg2, State.rootAddr]

theorem rootEntry (ctx : Nat) : t.rootEntry ctx = s.rootEntry ctx := by
  simp only [State.rootEntry, State.hubWords, h.rootAddr hb, h.hubPeek hb]

theorem tableErr (a n level : Nat) : t.tableErr a n level = s.tableErr a n level := by
  simp only [State.tableErr, h.toMapsAlike.physGrant hb, h.toMapsAlike.reachable hb]

theorem leafPage (root : List Word) (level e : Nat) : t.leafPage root level e = s.leafPage root level e := by
  unfold State.leafPage
  simp only [h.toMapsAlike.regionOf hb, h.toMapsAlike.mirroredAt hb]
  cases hreg : s.regionOf (bits e 8 36 * 256) with
  | none => rfl
  | some i => simp only [h.toMapsAlike.rgnB hb (State.regionOf_lt hreg)]

theorem walkFrom (root : List Word) (va fuel level tab : Nat) : t.walkFrom root va fuel level tab = s.walkFrom root va fuel level tab := by
  induction fuel generalizing level tab with
  | zero => rfl
  | succ fuel ih =>
    simp only [State.walkFrom, h.hubPeek hb, h.tableErr hb, h.leafPage hb, h.toMapsAlike.regionOf hb, ih]

theorem walk (ctx va : Nat) : t.walk ctx va = s.walk ctx va := by
  simp only [State.walk, h.hubPeek hb, h.rootAddr hb, h.rootEntry hb, h.tableErr hb, h.walkFrom hb]

theorem walkLinesFrom (va fuel level tab : Nat) : t.walkLinesFrom va fuel level tab = s.walkLinesFrom va fuel level tab := by
  induction fuel generalizing level tab with
  | zero => rfl
  | succ fuel ih => simp only [State.walkLinesFrom, h.hubPeek hb, h.toMapsAlike.regionOf hb, ih]

theorem walkLines (ctx va : Nat) : t.walkLines ctx va = s.walkLines ctx va := by
  simp only [State.walkLines, h.hubPeek hb, h.rootAddr hb, h.rootEntry hb, h.walkLinesFrom hb]

end Reads

/-! ### Changes that no read sees -/

section Changes
variable {b : Nat} {s t : State} (h : s.ReadsAlike b t) (hb : b ≤ 0x800)
include h hb

theorem setReg {k : Nat} (v : Word) (hk : k % 0x10000 < b) : s.ReadsAlike b (t.setReg k v) :=
  h.trans (((MapsAlike.refl b h.rising).setReg v hk).readsAlike hb rfl)

theorem setHbm {j off : Nat} (v : Word) (ho : off < b) : s.ReadsAlike b (t.setReg (hbmKey j off) v) :=
  h.setReg hb v (by rw [hbmKey_mod j (by omega)]; exact ho)

theorem modCore (n : Nat) (f : Core → Core) : s.ReadsAlike b (t.modCore n f) :=
  h.trans (MapsAlike.readsAlike ⟨h.rising, fun _ _ => rfl, rfl⟩ hb rfl)

omit hb in
theorem withSoft (l : List Nat) : s.ReadsAlike b { t with mem := { t.mem with soft := l } } :=
  h.trans ⟨⟨h.rising, fun _ _ => rfl, rfl⟩, rfl, rfl, fun _ => rfl, fun _ => rfl⟩

end Changes

theorem foldl {b : Nat} {s t : State} (h : s.ReadsAlike b t) {α : Type} {f : State → α → State}
    (hf : ∀ u a, s.ReadsAlike b u → s.ReadsAlike b (f u a)) (l : List α) : s.ReadsAlike b (l.foldl f t) := by
  induction l generalizing t with
  | nil => exact h
  | cons a l ih => exact ih (hf t a h)

end State.ReadsAlike

/-! ### The repair of a line (R334) -/

theorem mem_sadd {l : List Nat} {x y : Nat} : y ∈ sadd l x ↔ y ∈ l ∨ y = x := by
  induction l with
  | nil => simp [sadd]
  | cons k r ih =>
    unfold sadd
    split
    · next hx => simp [hx, or_comm]
    · split
      · simp [or_comm]
      · simp [ih, or_assoc]

theorem mem_sdel {l : List Nat} {x y : Nat} : y ∈ sdel l x ↔ y ∈ l ∧ y ≠ x := by
  simp [sdel]

/-- The copy `id` of a line is written back from the copy `good`. -/
def Mem.repair (m : Mem) (id good : Nat) : Mem :=
  { m with bad := sdel m.bad id, lost := if m.lost.contains good then sadd m.lost id else sdel m.lost id }

theorem Mem.mem_lost_repair {m : Mem} {id good x : Nat} : x ∈ (m.repair id good).lost ↔ if x = id then good ∈ m.lost else x ∈ m.lost := by
  unfold Mem.repair
  dsimp only
  split <;> split <;> simp_all [mem_sadd, mem_sdel]

/-- A line whose first live copy is bad, and is repaired from the first good one, reads as before. -/
theorem State.readsAlike_repair {b : Nat} {s : State} {l : Nat} {c g : Nat × Copy} {r gs : List (Nat × Copy)} (hb : b ≤ 0x800)
    (hr : mrising s.regs = true) (hlive : s.liveCopies (64 * l) = c :: r) (hgood : s.goodCopies (64 * l) = g :: gs) :
    s.ReadsAlike b { s with mem := s.mem.repair (2 * l + c.1) (2 * l + g.1) } := by
  have hsame : State.MapsAlike b s { s with mem := s.mem.repair (2 * l + c.1) (2 * l + g.1) } := ⟨hr, fun _ _ => rfl, rfl⟩
  generalize hid : 2 * l + c.1 = id at *
  have hc : c.1 < 2 := State.fst_lt_of_mem_liveCopies (hlive ▸ List.mem_cons_self : c ∈ s.liveCopies (64 * l))
  generalize ht : ({ s with mem := s.mem.repair id (2 * l + g.1) } : State) = t at *
  have hmem : t.mem = s.mem.repair id (2 * l + g.1) := by rw [← ht]
  have hother : ∀ k d, k ≠ l → d ∈ s.liveCopies (64 * k) → 2 * k + d.1 ≠ id := fun k d hk hd => by
    have := State.fst_lt_of_mem_liveCopies hd
    omega
  have hgoodk : ∀ k, k ≠ l → t.goodCopies (64 * k) = s.goodCopies (64 * k) := fun k hk => by
    unfold State.goodCopies
    rw [hsame.liveCopies hb]
    refine List.filter_congr fun d hd => ?_
    have hne := hother k d hk hd
    simp [hmem, Mem.repair, mem_sdel, hne]
  have hgoodl : t.goodCopies (64 * l) = c :: (r.filter fun d => !(t.mem.bad.contains (2 * l + d.1))) := by
    rw [State.goodCopies, hsame.liveCopies hb, hlive, Nat.mul_div_cancel_left l (by norm_num), List.filter_cons_of_pos]
    simp [hmem, Mem.repair, mem_sdel, hid]
  refine ⟨hsame, by rw [hmem]; rfl, by rw [hmem]; rfl, fun k => ?_, fun k => ?_⟩
  · obtain rfl | hk := eq_or_ne k l
    · rw [hgoodl, hgood]
      rfl
    · rw [hgoodk k hk]
  · rw [State.lineLost_eq, State.lineLost_eq, hmem]
    obtain rfl | hk := eq_or_ne k l
    · rw [hgoodl, hgood, Bool.eq_iff_iff]
      simp [Mem.mem_lost_repair, hid]
    · rw [hgoodk k hk]
      cases hg : s.goodCopies (64 * k) with
      | nil => rfl
      | cons d ds =>
        have hd : d ∈ s.liveCopies (64 * k) := (List.mem_filter.mp (hg ▸ List.mem_cons_self : d ∈ s.goodCopies (64 * k))).1
        rw [Bool.eq_iff_iff]
        simp [Mem.mem_lost_repair, hother k d hk hd]

namespace State.ReadsAlike

variable {s t : State} (h : s.ReadsAlike 0x200 t)
include h

/-- A register of a stack lies at an offset below 0x200. -/
theorem stackReg {j off : Nat} (v : Word) (ho : off < 0x200 := by decide) : s.ReadsAlike 0x200 (t.setReg (hbmKey j off) v) :=
  h.setHbm (by decide) v ho

theorem startHbmTest (j pc : Nat) : s.ReadsAlike 0x200 (t.startHbmTest j pc) := by
  unfold State.startHbmTest
  split
  · exact h
  · exact (h.stackReg _).stackReg _

theorem noteLine (l : Nat) : s.ReadsAlike 0x200 (t.noteLine l) := by
  unfold State.noteLine
  dsimp only
  split
  · exact h
  · next c r hlive =>
    have hcount : t.ReadsAlike 0x200 (t.bump (hbmKey c.2.stack Reg.hbmCntRdlines)) := (refl (by decide) h.rising).setHbm (by decide) _ (by decide)
    have hlive' := (hcount.toMapsAlike.liveCopies (by decide) (64 * l) false).trans hlive
    have hread := h.trans hcount
    split
    · split
      · next g gs hgood =>
        exact (((hread.trans (State.readsAlike_repair (by decide) hread.rising hlive' hgood)).stackReg _).stackReg _).stackReg _
      · exact ((((hread.stackReg _).stackReg _).startHbmTest _ _).stackReg _).stackReg (off := Reg.hbmErrPaHi) _
    · split
      · exact ((hread.withSoft _).stackReg _).stackReg _
      · exact hread

end State.ReadsAlike

end Sys2Proof.Machine
end

section
/-! Walks of a core (O43): what the end of a walk reads, counts and caches (R339, R340). -/

namespace Sys2Proof.Machine

/-! ### The lines that a walk reads -/

theorem State.ReadsAlike.noteWalk {s t : State} (h : s.ReadsAlike 0x200 t) (ctx va lo : Nat) : s.ReadsAlike 0x200 (t.noteWalk ctx va lo) := by
  have hroot : s.ReadsAlike 0x200 (if lo = 0 then t.noteRead (t.rootAddr ctx) 16 else t) := by
    split
    · exact h.foldl (fun _ l hu => hu.noteLine l) _
    · exact h
  exact hroot.foldl (fun _ l hu => hu.noteLine l.2) _

theorem State.level_of_mem_walkLinesFrom {s : State} {va fuel level tab : Nat} {x : Nat × Nat} (h : x ∈ s.walkLinesFrom va fuel level tab) :
    x.1 < level + fuel := by
  induction fuel generalizing level tab with
  | zero => cases h
  | succ fuel ih =>
    have hhead : ∀ {a : Nat}, x = (level, a) → x.1 < level + (fuel + 1) := by
      rintro a rfl
      exact Nat.lt_add_of_pos_right (Nat.succ_pos fuel)
    unfold State.walkLinesFrom at h
    dsimp only at h
    split at h
    · exact hhead (List.mem_singleton.mp h)
    · split at h
      · obtain hx | hx := List.mem_cons.mp h
        · exact hhead hx
        · have := ih hx
          omega
      · exact hhead (List.mem_singleton.mp h)

theorem State.level_of_mem_walkLines {s : State} {ctx va : Nat} {x : Nat × Nat} (h : x ∈ s.walkLines ctx va) : x.1 < 4 := by
  unfold State.walkLines at h
  dsimp only at h
  split at h
  · cases h
  · exact State.level_of_mem_walkLinesFrom h

/-- The first level that a walk of core `n` reads: the last where the core has the level-2 entry, else the first. -/
def State.walkFloor (s : State) (n ctx va : Nat) : Nat := if (s.core n).l2.contains (ctx, va / 2 ^ 21) then 3 else 0

/-- The lines from the first level on are those that the walk costs. -/
theorem State.length_walkLines_floor (s : State) (n ctx va : Nat) :
    ((s.walkLines ctx va).filter (fun l => decide (s.walkFloor n ctx va ≤ l.1))).length = s.walkCost n ctx va := by
  refine congrArg List.length (List.filter_congr fun l hl => ?_)
  have hlevel := State.level_of_mem_walkLines hl
  unfold State.walkFloor
  cases (s.core n).l2.contains (ctx, va / 2 ^ 21) with
  | true =>
    rw [Bool.eq_iff_iff]
    simp
    omega
  | false => simp

/-! ### The end of a walk -/

/-- The reads of a walk of core `n`: noted on the lines, paid for, and counted. -/
def State.walkRead (s : State) (n ctx va : Nat) : State :=
  ((s.noteWalk ctx va (s.walkFloor n ctx va)).spendRead n (s.walkCost n ctx va)).cBump n Reg.coreCntWalklines (s.walkCost n ctx va)

/-- What a core caches of a walk that it keeps. -/
def Core.cacheWalk (c : Core) (ctx va : Nat) (p : Page) (held : Bool) : Core :=
  { c with
    tlb := tlbAdd c.tlb 128 ctx va p
    l2 := if p.big || held then c.l2 else List.drop (c.l2.length + 1 - 16) (c.l2 ++ [(ctx, va / 2 ^ 21)]) }

theorem Core.walks_cacheWalk (c : Core) (ctx va : Nat) (p : Page) (held : Bool) : (c.cacheWalk ctx va p held).walks = c.walks := by
  rw [Core.cacheWalk]

theorem State.endWalk_eq (s : State) (n ctx va : Nat) (keep : Bool) : s.endWalk n ctx va keep = match s.walk ctx va with
    | .ok p => if keep then (s.walkRead n ctx va).modCore n (·.cacheWalk ctx va p ((s.core n).l2.contains (ctx, va / 2 ^ 21)))
      else s.walkRead n ctx va
    | .error _ => s.walkRead n ctx va := by
  rw [State.walkRead, ← s.length_walkLines_floor]
  rfl

theorem State.endWalk_error {s : State} {ctx va : Nat} {e : XErr} (h : s.walk ctx va = .error e) (n : Nat) (keep : Bool) :
    s.endWalk n ctx va keep = s.walkRead n ctx va := by
  rw [State.endWalk_eq, h]

theorem State.endWalk_caught {s : State} (n ctx va : Nat) : s.endWalk n ctx va false = s.walkRead n ctx va := by
  rw [State.endWalk_eq]
  cases s.walk ctx va <;> rfl

theorem State.endWalk_keeps {s : State} {ctx va : Nat} {p : Page} (h : s.walk ctx va = .ok p) (n : Nat) : s.endWalk n ctx va true =
    (s.walkRead n ctx va).modCore n (·.cacheWalk ctx va p ((s.core n).l2.contains (ctx, va / 2 ^ 21))) := by
  rw [State.endWalk_eq, h]
  rfl

/-- After the end of a walk come its reads, and at most a change of the core. -/
theorem State.endWalk_cases (s : State) (n ctx va : Nat) (keep : Bool) :
    ∃ f : Core → Core, s.endWalk n ctx va keep = (s.walkRead n ctx va).modCore n f ∧ ∀ c, (f c).walks = c.walks := by
  have hid : s.walkRead n ctx va = (s.walkRead n ctx va).modCore n id := (State.modCore_self rfl).symm
  cases hw : s.walk ctx va with
  | error e => exact ⟨id, (State.endWalk_error hw n keep).trans hid, fun _ => rfl⟩
  | ok p =>
    cases keep with
    | false => exact ⟨id, (State.endWalk_caught n ctx va).trans hid, fun _ => rfl⟩
    | true => exact ⟨_, State.endWalk_keeps hw n, fun c => c.walks_cacheWalk _ _ _ _⟩

/-! ### What the reads of a walk leave -/

section Reads
variable {s : State} (n ctx va : Nat)

/-- The reads take tokens of the core, and nothing else of it. -/
theorem State.core_walkRead {γ : Type} {g : Core → γ} (hg : ∀ (c : Core) (b : List Nat), g { c with buckets := b } = g c) (m : Nat) :
    g ((s.walkRead n ctx va).core m) = g (s.core m) := by
  have hnoted : (s.noteWalk ctx va (s.walkFloor n ctx va)).core m = s.core m := ((State.AccessesOnly.refl s).noteWalk _ _ _).core m
  rw [State.walkRead, State.core_cBump, State.spendRead]
  split
  · rw [hnoted]
  · rw [State.core_cBump, State.core_modCore_keeps (g := g) _ _ _ (fun c => hg c _), hnoted]

theorem State.length_walkRead : (s.walkRead n ctx va).cores.length = s.cores.length := by
  have hnoted : (s.noteWalk ctx va (s.walkFloor n ctx va)).cores = s.cores := ((State.AccessesOnly.refl s).noteWalk _ _ _).cores
  rw [State.walkRead, State.cBump_cores, State.spendRead]
  split
  · rw [hnoted]
  · rw [State.cBump_cores, State.modCore_length, hnoted]

variable (hr : mrising s.regs = true)
include hr

theorem State.readsAlike_spent :
    s.ReadsAlike 0x200 ((s.noteWalk ctx va (s.walkFloor n ctx va)).spendRead n (s.walkCost n ctx va)) := by
  have hnoted := (State.ReadsAlike.refl (by decide) hr).noteWalk ctx va (s.walkFloor n ctx va)
  unfold State.spendRead
  split
  · exact hnoted
  · exact (hnoted.modCore (by decide) n _).setReg (by decide) _ (by rw [coreKey_mod]; decide)

theorem State.readsAlike_walkRead : s.ReadsAlike 0x800 (s.walkRead n ctx va) :=
  ((State.readsAlike_spent n ctx va hr).mono (by decide)).setReg (by decide) _ (by rw [coreKey_mod]; decide)

theorem State.cReg_walkRead : (s.walkRead n ctx va).cReg n Reg.coreCntWalklines =
    s.cReg n Reg.coreCntWalklines + w32 (s.walkCost n ctx va) := by
  have hspent := State.readsAlike_spent n ctx va hr
  rw [State.walkRead, State.cReg, State.cBump, State.reg_bump_same _ _ _ hspent.rising, hspent.regs _ (by rw [coreKey_mod]; decide), State.cReg]

end Reads

/-! ### WALK_COMPLETE -/

/-- The state after the oldest walk of core `n` has left its list and ended. -/
def State.walkEnded (s : State) (n : Nat) (r : List (Nat × Nat × Bool)) (ctx va : Nat) (keep : Bool) : State :=
  (s.modCore n (fun c => { c with walks := r })).endWalk n ctx va keep

section WalkEnded
variable {s : State} {n : Nat} {r : List (Nat × Nat × Bool)} {ctx va : Nat} {keep : Bool} (hr : mrising s.regs = true) (hn : n < s.cores.length)

section Rising
include hr

theorem State.readsAlike_popWalk : s.ReadsAlike 0x800 (s.modCore n (fun c => { c with walks := r })) :=
  (State.ReadsAlike.refl (by decide) hr).modCore (by decide) n _

theorem State.walk_popWalk : (s.modCore n (fun c => { c with walks := r })).walk ctx va = s.walk ctx va :=
  (State.readsAlike_popWalk hr).walk (by decide) ctx va

theorem State.readsAlike_walkEnded : s.ReadsAlike 0x800 (s.walkEnded n r ctx va keep) := by
  obtain ⟨f, hend, -⟩ := (s.modCore n (fun c => { c with walks := r })).endWalk_cases n ctx va keep
  have hpop := State.readsAlike_popWalk (n := n) (r := r) hr
  rw [State.walkEnded, hend]
  exact (hpop.trans (State.readsAlike_walkRead n ctx va hpop.rising)).modCore (by decide) n f

theorem State.walk_walkEnded : (s.walkEnded n r ctx va keep).walk ctx va = s.walk ctx va :=
  (State.readsAlike_walkEnded hr).walk (by decide) ctx va

end Rising

include hn in
theorem State.walks_walkEnded : ((s.walkEnded n r ctx va keep).core n).walks = r := by
  obtain ⟨f, hend, hf⟩ := (s.modCore n (fun c => { c with walks := r })).endWalk_cases n ctx va keep
  rw [State.walkEnded, hend, State.core_modCore_keeps (g := Core.walks) _ n n hf,
    State.core_walkRead (g := Core.walks) n ctx va (fun _ _ => rfl), s.core_modCore_same _ hn]

include hr hn

theorem State.walkCost_popWalk : (s.modCore n (fun c => { c with walks := r })).walkCost n ctx va = s.walkCost n ctx va := by
  rw [State.walkCost, (State.readsAlike_popWalk hr).walkLines (by decide), s.core_modCore_same _ hn, State.walkCost]

theorem State.cReg_walkEnded : (s.walkEnded n r ctx va keep).cReg n Reg.coreCntWalklines =
    s.cReg n Reg.coreCntWalklines + w32 (s.walkCost n ctx va) := by
  obtain ⟨f, hend, -⟩ := (s.modCore n (fun c => { c with walks := r })).endWalk_cases n ctx va keep
  have hcount := State.cReg_walkRead (s := s.modCore n (fun c => { c with walks := r })) n ctx va hr
  rw [State.walkCost_popWalk hr hn] at hcount
  rw [State.walkEnded, hend, State.cReg, State.reg_modCore, ← State.cReg, hcount, State.cReg, State.reg_modCore, ← State.cReg]

omit hr in
theorem State.tlb_walkRead : (((s.modCore n (fun c => { c with walks := r })).walkRead n ctx va).core n).tlb = (s.core n).tlb := by
  rw [State.core_walkRead (g := Core.tlb) n ctx va (fun _ _ => rfl), s.core_modCore_same _ hn]

theorem State.tlb_walkEnded_ok {p : Page} (hw : s.walk ctx va = .ok p) : ((s.walkEnded n r ctx va keep).core n).tlb =
    if keep = true then tlbAdd (s.core n).tlb 128 ctx va p else (s.core n).tlb := by
  have hlen : n < ((s.modCore n (fun c => { c with walks := r })).walkRead n ctx va).cores.length := by
    rwa [State.length_walkRead, State.modCore_length]
  cases keep with
  | false => rw [State.walkEnded, State.endWalk_caught, State.tlb_walkRead hn, if_neg Bool.false_ne_true]
  | true =>
    rw [State.walkEnded, State.endWalk_keeps ((State.walk_popWalk hr).trans hw), State.core_modCore_same _ _ hlen, Core.cacheWalk,
      State.tlb_walkRead hn, if_pos rfl]

theorem State.tlb_walkEnded_error {e : XErr} (hw : s.walk ctx va = .error e) : ((s.walkEnded n r ctx va keep).core n).tlb = (s.core n).tlb := by
  rw [State.walkEnded, State.endWalk_error ((State.walk_popWalk hr).trans hw), State.tlb_walkRead hn]

end WalkEnded

section WalkComplete
variable {s : State} {n ctx va : Nat} {keep : Bool} {r : List (Nat × Nat × Bool)}

theorem State.doWalkComplete_none (h : (s.core n).walks = []) : s.doWalkComplete n = s := by
  rw [State.doWalkComplete, h]

variable (h : (s.core n).walks = (ctx, va, keep) :: r)
include h

theorem State.doWalkComplete_waits (hm : (s.core n).mayRead (s.walkCost n ctx va) = false) : s.doWalkComplete n = s := by
  rw [State.doWalkComplete, h]
  exact if_pos (by rw [hm]; rfl)

variable (hm : (s.core n).mayRead (s.walkCost n ctx va) = true) (hr : mrising s.regs = true)
include hm hr

theorem State.doWalkComplete_ok {p : Page} (hw : s.walk ctx va = .ok p) : s.doWalkComplete n = s.walkEnded n r ctx va keep := by
  have hwalk := (State.walk_walkEnded (n := n) (r := r) (keep := keep) hr).trans hw
  rw [State.walkEnded] at hwalk
  simp only [State.doWalkComplete, h, hm, hwalk, State.walkEnded, Bool.not_true, Bool.false_eq_true, if_false]

theorem State.doWalkComplete_error {e : XErr} (hw : s.walk ctx va = .error e) : s.doWalkComplete n =
    ((s.core n).waiting.find? fun x => decide (x.cls < 2) && x.ctx == ctx && x.va / 2 ^ 16 == va / 2 ^ 16).elim (s.walkEnded n r ctx va keep)
      fun x => (s.walkEnded n r ctx va keep).xlatFault n e x.va ((s.core n).sxVa x.seq) := by
  have hwalk := (State.walk_walkEnded (n := n) (r := r) (keep := keep) hr).trans hw
  rw [State.walkEnded] at hwalk
  simp only [State.doWalkComplete, h, hm, hwalk, State.walkEnded, Bool.not_true, Bool.false_eq_true, if_false]
  cases (s.core n).waiting.find? _ <;> rfl

end WalkComplete

end Sys2Proof.Machine
end

section
/-! Invalidations, fills and the memory controllers (O43). -/

namespace Sys2Proof.Machine

/-! ### What a list of operations leaves -/

/-- `t` has the registers of `s` but for those of the keys `P`. -/
structure State.SetsOnly (P : Nat → Prop) (s t : State) : Prop where
  rising : mrising t.regs = true
  regs : ∀ k, ¬ P k → t.reg k = s.reg k

namespace State.SetsOnly

variable {P : Nat → Prop}

theorem refl {s : State} (hr : mrising s.regs = true) : s.SetsOnly P s := ⟨hr, fun _ _ => rfl⟩

theorem setReg {s t : State} (h : s.SetsOnly P t) {k : Nat} (hk : P k) (v : Word) : s.SetsOnly P (t.setReg k v) :=
  ⟨t.setReg_rising k v h.rising, fun j hj => (t.reg_setReg_ne v h.rising (by rintro rfl; exact hj hk)).trans (h.regs j hj)⟩

theorem congr {s t u : State} (h : s.SetsOnly P t) (hu : u.regs = t.regs) : s.SetsOnly P u :=
  ⟨hu ▸ h.rising, fun k hk => by rw [State.reg, hu, ← State.reg, h.regs k hk]⟩

theorem foldl {s t : State} (h : s.SetsOnly P t) {α : Type} {f : State → α → State} (hf : ∀ u a, s.SetsOnly P u → s.SetsOnly P (f u a))
    (l : List α) : s.SetsOnly P (l.foldl f t) := by
  induction l generalizing t with
  | nil => exact h
  | cons a l ih => exact ih (hf t a h)

end State.SetsOnly

/-! ### Dropped translations (R341) -/

/-- The state with the named translations dropped, and the drops not yet counted. -/
def State.tlbsDropped (s : State) (i : Inval) : State :=
  { s with cores := s.cores.map (·.dropTlb i), hub := { s.hub with tlb := s.hub.tlb.filter (fun t => !(invMatches i t)) } }

/-- The drops of core `n` are counted. -/
def State.countDrops (s : State) (i : Inval) (u : State) (n : Nat) : State :=
  if ((s.core n).tlb.filter (invMatches i)).length = 0 then u
  else u.cBump n Reg.coreCntInvdrop ((s.core n).tlb.filter (invMatches i)).length

theorem State.dropTlbs_eq (s : State) (i : Inval) : s.dropTlbs i = (List.range 32).foldl (s.countDrops i) (s.tlbsDropped i) := rfl

theorem State.withRegs_setReg (s t : State) (k : Nat) (v : Word) : { t.setReg k v with regs := s.regs } = { t with regs := s.regs } := rfl

/-- A drop changes the cores, the hub's cache and counters of cores. -/
theorem State.dropTlbs_rest (s : State) (i : Inval) : { s.dropTlbs i with regs := s.regs } = s.tlbsDropped i := by
  rw [State.dropTlbs_eq]
  refine foldl_keeps (g := fun u : State => { u with regs := s.regs }) (fun u n => ?_) _ _
  unfold State.countDrops
  split
  · rfl
  · rw [State.cBump, State.bump]
    exact s.withRegs_setReg u _ _

theorem State.setsOnly_dropTlbs {s : State} (hr : mrising s.regs = true) (i : Inval) :
    s.SetsOnly (fun k => 0x1000000 ≤ k) (s.dropTlbs i) := by
  have hdropped : s.SetsOnly (fun k => 0x1000000 ≤ k) (s.tlbsDropped i) := State.SetsOnly.congr (State.SetsOnly.refl hr) rfl
  rw [State.dropTlbs_eq]
  refine hdropped.foldl (fun u n hu => ?_) _
  unfold State.countDrops
  split
  · exact hu
  · exact hu.setReg (by unfold coreKey; omega) _

/-- What the start of invalidation `i` leaves of the caches and of memory. -/
def State.DropsNamed (s : State) (i : Inval) (t : State) : Prop :=
  (∀ n, n < 32 → (t.core n).tlb = (s.core n).tlb.filter (fun e => !(invMatches i e))) ∧
    t.hub.tlb = s.hub.tlb.filter (fun e => !(invMatches i e)) ∧ t.mem = s.mem

theorem State.dropsNamed_dropTlbs {s : State} (hlen : s.cores.length = 32) (i : Inval) : s.DropsNamed i (s.dropTlbs i) := by
  have hrest := s.dropTlbs_rest i
  have hcores : (s.dropTlbs i).cores = s.cores.map (·.dropTlb i) := (congrArg State.cores hrest :)
  refine ⟨fun n hn => ?_, (congrArg (fun u : State => u.hub.tlb) hrest :), (congrArg State.mem hrest :)⟩
  have hn : n < s.cores.length := hlen ▸ hn
  simp [State.core, hcores, hn, Core.dropTlb]

theorem State.startInval_nil {s : State} (h : s.hub.invQueue = []) : s.startInval = s := by
  rw [State.startInval, h]

/-- The state with the translations that the head names recorded. -/
def State.headNamed (s : State) (i : Inval) (r : List Inval) : State :=
  { s with hub := { s.hub with invQueue := { i with dropped := s.namedTlbs i } :: r } }

theorem State.startInval_cons {s : State} {i : Inval} {r : List Inval} (h : s.hub.invQueue = i :: r) :
    s.startInval = (s.headNamed i r).dropTlbs i := by
  rw [State.startInval, h, State.headNamed]

/-- The start of the invalidation at the head: the hub changes in the queue's head and its cache. -/
theorem State.hub_startInval {s : State} {i : Inval} {r : List Inval} (h : s.hub.invQueue = i :: r) : s.startInval.hub =
    { s.hub with invQueue := { i with dropped := s.namedTlbs i } :: r, tlb := s.hub.tlb.filter (fun t => !(invMatches i t)) } := by
  rw [State.startInval_cons h]
  exact (congrArg State.hub (State.dropTlbs_rest _ i) :)

theorem State.dropsNamed_startInval {s : State} {i : Inval} {r : List Inval} (hlen : s.cores.length = 32) (h : s.hub.invQueue = i :: r) :
    s.DropsNamed i s.startInval := by
  rw [State.startInval_cons h]
  exact State.dropsNamed_dropTlbs (s := s.headNamed i r) hlen i

theorem State.startInval_rest (s : State) : { s.startInval with regs := s.regs, cores := s.cores, hub := s.hub } = s := by
  cases h : s.hub.invQueue with
  | nil => rw [State.startInval_nil h]
  | cons i r =>
    rw [State.startInval_cons h]
    exact (congrArg (fun u : State => { u with cores := s.cores, hub := s.hub }) (State.dropTlbs_rest _ i) :)

theorem State.invWait_startInval (s : State) : s.startInval.hub.invWait = s.hub.invWait := by
  cases h : s.hub.invQueue with
  | nil => rw [State.startInval_nil h]
  | cons i r => rw [State.hub_startInval h]

theorem State.setsOnly_startInval {s : State} (hr : mrising s.regs = true) : s.SetsOnly (fun k => 0x1000000 ≤ k) s.startInval := by
  cases h : s.hub.invQueue with
  | nil =>
    rw [State.startInval_nil h]
    exact State.SetsOnly.refl hr
  | cons i r =>
    have hnamed := State.setsOnly_dropTlbs (s := s.headNamed i r) hr i
    rw [State.startInval_cons h]
    exact ⟨hnamed.rising, hnamed.regs⟩

/-! ### HBM_XLAT_INV (R341, R349) -/

/-- N of a write to HBM_XLAT_INV: a reserved 0 leaves the last N (log entry 32). -/
def State.nextInvN (s : State) (v : Word) : Nat := if fld v 29 12 = 0 then s.hub.invN else fld v 29 12

/-- The invalidation that a write to HBM_XLAT_INV names. -/
def State.namedInval (s : State) (v : Word) : Inval :=
  { ctx := fld v 11 0, all := flag v 30, n := s.nextInvN v
    va := (s.reg (hbmKey 0 Reg.hbmXlatInvVaLo)).toNat / 2 ^ 16 * 2 ^ 16 + fld (s.reg (hbmKey 0 Reg.hbmXlatInvVaHi)) 15 0 * 2 ^ 32 }

/-- The state with the named invalidation behind those that wait. -/
def State.withInval (s : State) (v : Word) : State :=
  { s with hub := { s.hub with invN := s.nextInvN v, invQueue := s.hub.invQueue ++ [s.namedInval v] } }

theorem State.setInvN_eq (s : State) (v : Word) : s.setInvN v = { s with hub := { s.hub with invN := s.nextInvN v } } := by
  unfold State.setInvN State.nextInvN
  split <;> rfl

theorem State.doHbmXlatInv_full {s : State} (v : Word) (h : 16 ≤ s.hub.invQueue.length) :
    s.doHbmXlatInv v = s.orReg (hbmKey 0 Reg.hbmHubErr) 2 := if_pos h

theorem State.doHbmXlatInv_room {s : State} (v : Word) (h : s.hub.invQueue.length < 16) :
    s.doHbmXlatInv v = if s.hub.invQueue.isEmpty then (s.withInval v).startInval else s.withInval v := by
  rw [State.doHbmXlatInv, if_neg (not_le.mpr h), State.setInvN_eq]
  exact if_neg (not_le.mpr h)

theorem State.doHbmXlatInv_queues {s : State} (v : Word) (h : s.hub.invQueue.length < 16) (hq : s.hub.invQueue ≠ []) :
    s.doHbmXlatInv v = s.withInval v := by
  rw [State.doHbmXlatInv_room v h, if_neg (by simpa using hq)]

theorem State.doHbmXlatInv_starts {s : State} (v : Word) (hq : s.hub.invQueue = []) : s.doHbmXlatInv v = (s.withInval v).startInval := by
  rw [State.doHbmXlatInv_room v (by rw [hq]; decide), if_pos (by rw [hq]; rfl)]

/-! ### Fills (R343) -/

/-- Fills enter the queue or wait behind it; nothing else changes. -/
theorem State.foldl_toFill (s : State) (fs : List Fill) : ∃ a b : List Fill,
    fs.foldl State.toFill s = { s with hub := { s.hub with fills := s.hub.fills ++ a, fillWait := s.hub.fillWait ++ b } } ∧
      ∀ f ∈ fs, f ∈ a ++ b := by
  induction fs generalizing s with
  | nil => exact ⟨[], [], by simp, by simp⟩
  | cons f fs ih =>
    obtain ⟨a, b, heq, hmem⟩ := ih (s.toFill f)
    rw [List.foldl_cons, heq]
    unfold State.toFill
    split
    · exact ⟨f :: a, b, by simp, by grind⟩
    · exact ⟨a, f :: b, by simp, by grind⟩

theorem State.doHbmFillReq_full {s : State} (big : Bool) (h : 64 ≤ s.hub.fills.length) :
    s.doHbmFillReq big = s.orReg (hbmKey 0 Reg.hbmHubErr) 4 := if_pos h

theorem State.doHbmFillReq_room {s : State} (big : Bool) (h : s.hub.fills.length < 64) (hw : s.hub.fillWait = []) :
    s.doHbmFillReq big = { s with hub := { s.hub with
      fills := s.hub.fills ++ [(⟨(s.reg (hbmKey 0 Reg.hbmFillPaLo)).toNat / 2 ^ 16 * 2 ^ 16 +
        fld (s.reg (hbmKey 0 Reg.hbmFillPaHi)) 11 0 * 2 ^ 32, big, false, 0, 0, none⟩ : Fill)] } } := by
  rw [State.doHbmFillReq, if_neg (not_le.mpr h)]
  exact if_pos (by simp [h, hw])

/-! ### INVALIDATION_COMPLETE (R341, R343) -/

/-- Whether a transfer or a walk of some core still uses what an invalidation dropped. -/
def State.inUse (s : State) (i : Inval) : Bool :=
  s.cores.any (fun c => c.outs.any (invUses i) || c.walks.any (fun w => w.1 == i.ctx && !w.2.2))

/-- Answers to requests leave all but the line and the result of the page-table unit, and what cores await. -/
theorem State.foldl_kvAnswer_rest {α : Type} (s : State) (g : α → KvReq) (f : α → Attn → Attn) (l : List α) :
    let t := l.foldl (fun s a => s.kvAnswer (g a) (f a)) s
    { t with regs := s.regs, cores := s.cores, log := s.log } = s ∧ ∀ n, (t.core n).tlb = (s.core n).tlb := by
  refine ⟨foldl_keeps (g := fun u : State => { u with regs := s.regs, cores := s.cores, log := s.log }) (fun u a => ?_) l s,
    fun n => foldl_keeps (g := fun u : State => (u.core n).tlb) (fun u a => ?_) l s⟩
  · unfold State.kvAnswer
    split <;> rfl
  · unfold State.kvAnswer
    split
    · rfl
    · exact State.core_modCore_keeps (g := Core.tlb) _ _ _ fun _ => rfl

theorem State.setsOnly_kvAnswer {s t : State} {P : Nat → Prop} (h : s.SetsOnly P t) (hP : P Reg.logKvResult) (r : KvReq) (f : Attn → Attn) :
    s.SetsOnly P (t.kvAnswer r f) := by
  unfold State.kvAnswer
  split
  · exact (h.setReg hP (w32 (2 ^ 31 + 0))).congr rfl
  · exact h.congr rfl

/-- What completes with an invalidation: its fills are queued, and its answers leave all but registers, cores and the page-table unit. -/
theorem State.invalOver_spec (s : State) (i : Inval) : ∃ a b : List Fill, (∀ f ∈ i.fills, f ∈ a ++ b) ∧
    { s.invalOver i with regs := s.regs, cores := s.cores, log := s.log } =
      { s with hub := { s.hub with fills := s.hub.fills ++ a, fillWait := s.hub.fillWait ++ b } } ∧
    (∀ n, ((s.invalOver i).core n).tlb = (s.core n).tlb) ∧ (i.answers = [] → (s.invalOver i).cores = s.cores) := by
  obtain ⟨a, b, hfill, hmem⟩ := s.foldl_toFill i.fills
  unfold State.invalOver
  rw [hfill]
  obtain ⟨hrest, htlb⟩ := State.foldl_kvAnswer_rest
    { s with hub := { s.hub with fills := s.hub.fills ++ a, fillWait := s.hub.fillWait ++ b } } Prod.fst
    (fun x at' => { at' with frame := x.2 <|> at'.frame }) i.answers
  exact ⟨a, b, hmem, hrest, htlb, fun hans => by rw [hans]; rfl⟩

theorem State.setsOnly_invalOver {s : State} {P : Nat → Prop} (hP : P Reg.logKvResult) (hr : mrising s.regs = true) (i : Inval) :
    s.SetsOnly P (s.invalOver i) := by
  obtain ⟨a, b, hfill, -⟩ := s.foldl_toFill i.fills
  have hfilled : s.SetsOnly P (i.fills.foldl State.toFill s) := (State.SetsOnly.refl hr).congr (by rw [hfill])
  exact hfilled.foldl (fun u x hu => State.setsOnly_kvAnswer hu hP _ _) _

theorem State.endTeardowns_none {s : State} (h : ∀ y ∈ s.pilot.teardowns, y.cleared = false) : s.endTeardowns = s := by
  have hnone : s.pilot.teardowns.filter (fun t => t.cleared && !(s.invOpen t.job.ctxId)) = [] :=
    List.filter_eq_nil_iff.mpr fun y hy => by simp [h y hy]
  rw [State.endTeardowns, hnone, List.foldl_nil, ite_self]

section Complete
variable {s : State}

theorem State.doInvalidationComplete_none (h : s.hub.invQueue = []) : s.doInvalidationComplete = s := by
  rw [State.doInvalidationComplete, h]

variable {i : Inval} {r : List Inval} (h : s.hub.invQueue = i :: r)
include h

theorem State.doInvalidationComplete_inUse (hu : s.inUse i = true) : s.doInvalidationComplete = s := by
  rw [State.doInvalidationComplete, h]
  exact if_pos hu

/-- The state after the head has left the queue and is counted. -/
def State.popInval (s : State) (r : List Inval) : State :=
  ({ s with hub := { s.hub with invQueue := r ++ s.hub.invWait.take 1, invWait := s.hub.invWait.drop 1 } } : State).bump (hbmKey 0 Reg.hbmCntInv)

theorem State.doInvalidationComplete_completes (hu : s.inUse i = false) : s.doInvalidationComplete = (s.popInval r).startInval.invalOver i := by
  rw [State.doInvalidationComplete, h]
  exact if_neg (by rw [← State.inUse, hu]; exact Bool.false_ne_true)

end Complete

/-- What INVALIDATION_COMPLETE leaves once nothing uses what the head dropped. -/
theorem State.invalCompleted_spec {s t : State} {i : Inval} {r : List Inval} (hlen : s.cores.length = 32) (hr : mrising s.regs = true)
    (ht : (s.popInval r).startInval.invalOver i = t) :
    t.pilot = s.pilot ∧ t.hub.invWait = s.hub.invWait.drop 1 ∧ t.reg (hbmKey 0 Reg.hbmCntInv) = s.reg (hbmKey 0 Reg.hbmCntInv) + 1 ∧
      t.mem = s.mem ∧ (∀ f ∈ i.fills, f ∈ t.hub.fills ++ t.hub.fillWait) ∧
      (∀ j r', r ++ s.hub.invWait.take 1 = j :: r' → t.hub.invQueue = { j with dropped := s.namedTlbs j } :: r' ∧ s.DropsNamed j t) ∧
      (r = [] → s.hub.invWait = [] → t.hub.invQueue = [] ∧ (i.answers = [] → t.cores = s.cores)) := by
  obtain ⟨a, b, hfills, hrest, htlb, hcores⟩ := (s.popInval r).startInval.invalOver_spec i
  rw [ht] at hrest htlb hcores
  have hpop : mrising (s.popInval r).regs = true := State.bump_rising _ _ _ hr
  have hstart := State.setsOnly_startInval hpop
  have hover := State.setsOnly_invalOver (P := fun k => k = Reg.logKvResult) rfl hstart.rising i
  rw [ht] at hover
  have hhub : t.hub = { (s.popInval r).startInval.hub with
      fills := (s.popInval r).startInval.hub.fills ++ a, fillWait := (s.popInval r).startInval.hub.fillWait ++ b } := (congrArg State.hub hrest :)
  have hstarted := (s.popInval r).startInval_rest
  have hmem : t.mem = s.mem := (congrArg State.mem hrest :).trans (congrArg State.mem hstarted :)
  refine ⟨(congrArg State.pilot hrest :).trans (congrArg State.pilot hstarted :), ?wait, ?count, hmem, fun f hf => ?fills, fun j r' hq => ?next,
    fun hq hw => ?last⟩
  case count =>
    rw [hover.regs _ (by decide), hstart.regs _ (by decide)]
    exact State.reg_bump_same _ _ _ hr
  case fills =>
    rw [hhub]
    have := hfills f hf
    grind
  case wait =>
    rw [hhub]
    exact State.invWait_startInval _
  case next =>
    have hqueue : (s.popInval r).hub.invQueue = j :: r' := hq
    obtain ⟨hcoreTlb, hhubTlb, -⟩ := State.dropsNamed_startInval (s := s.popInval r) hlen hqueue
    rw [State.DropsNamed, hhub]
    refine ⟨?_, fun n hn => (htlb n).trans (hcoreTlb n hn), hhubTlb, hmem⟩
    rw [State.hub_startInval hqueue]
    rfl
  case last =>
    have hqueue : (s.popInval r).hub.invQueue = [] := by
      rw [State.popInval, State.bump_hub, hq, hw]
      rfl
    rw [State.startInval_nil hqueue] at hhub hcores
    exact ⟨by rw [hhub]; exact hqueue, hcores⟩

end Sys2Proof.Machine
end

section
/-! The patrol, the channel test, the declaration of a failed stack, and O43. -/

namespace Sys2Proof.Machine

theorem flag_eq_decide (x : Word) (i : Nat) : flag x i = decide (x.toNat / 2 ^ i % 2 = 1) := by
  rw [flag, ← BitVec.testBit_toNat, Nat.testBit_eq_decide_div_mod_eq]

theorem State.orReg_rising (s : State) (k : Nat) (m : Word) (h : mrising s.regs = true) : mrising (s.orReg k m).regs = true := s.setReg_rising k _ h

/-! ### Starts of the channel test (R345, R348) -/

/-- The word of HBM_TEST while a test runs: PASS of the last one, and the pseudo-channel. -/
def testWord (pass pc : Nat) : Word := w32 (pass * 2 ^ 29 + pc % 64)

theorem testWord_fields {pass : Nat} (hp : pass < 2) (pc : Nat) : flag (testWord pass pc) 30 = false ∧ fld (testWord pass pc) 5 0 = pc % 64 := by
  rw [flag_eq_decide, decide_eq_false_iff_not, fld, bits, testWord, w32, BitVec.toNat_ofNat]
  omega

/-- The registers that the start of a channel test sets. -/
def testKeys (h k : Nat) : Prop := k = hbmKey h Reg.hbmTest ∨ k = hbmKey h Reg.hbmStatus

theorem not_testKeys {h j off : Nat} (ht : off ≠ Reg.hbmTest := by decide) (hs : off ≠ Reg.hbmStatus := by decide)
    (ho : off < 0x10000 := by decide) : ¬ testKeys h (hbmKey j off) :=
  not_or.mpr ⟨hbmKey_ne ht ho, hbmKey_ne hs ho⟩

/-- The state in which the channel test of stack `h` runs. -/
def State.testStartedOn (s : State) (h pc : Nat) : State :=
  (s.setReg (hbmKey h Reg.hbmTest) (testWord (fld (s.reg (hbmKey h Reg.hbmTest)) 29 29) pc)).orReg (hbmKey h Reg.hbmStatus) 0x20000000

section Start
variable {s : State} {h : Nat}

theorem State.startHbmTest_idle (pc : Nat) (ht : s.stackTesting h = false) : s.startHbmTest h pc = s.testStartedOn h pc := by
  unfold State.startHbmTest State.testStartedOn testWord
  simp only [ht, Bool.false_eq_true, if_false]

theorem State.startHbmTest_busy (pc : Nat) (ht : s.stackTesting h = true) : s.startHbmTest h pc = s := if_pos ht

theorem State.mem_startHbmTest (s : State) (h pc : Nat) : (s.startHbmTest h pc).mem = s.mem := by
  unfold State.startHbmTest
  split
  · rfl
  · rw [State.orReg_mem, State.setReg_mem]

variable (hr : mrising s.regs = true)
include hr

theorem State.setsOnly_testStartedOn (pc : Nat) : s.SetsOnly (testKeys h) (s.testStartedOn h pc) :=
  ((State.SetsOnly.refl hr).setReg (.inl rfl) _).setReg (.inr rfl) _

theorem State.setsOnly_startHbmTest (pc : Nat) : s.SetsOnly (testKeys h) (s.startHbmTest h pc) := by
  cases ht : s.stackTesting h with
  | true =>
    rw [State.startHbmTest_busy pc ht]
    exact State.SetsOnly.refl hr
  | false =>
    rw [State.startHbmTest_idle pc ht]
    exact State.setsOnly_testStartedOn hr pc

theorem State.stackTesting_testStartedOn (pc : Nat) : (s.testStartedOn h pc).stackTesting h = true := by
  rw [State.stackTesting, State.testStartedOn, State.reg_orReg_same _ _ _ (s.setReg_rising _ _ hr)]
  simp [flag]

theorem State.stackTesting_startHbmTest (pc : Nat) : (s.startHbmTest h pc).stackTesting h = true := by
  cases ht : s.stackTesting h with
  | true => rw [State.startHbmTest_busy pc ht, ht]
  | false => rw [State.startHbmTest_idle pc ht, State.stackTesting_testStartedOn hr]

theorem State.reg_testStartedOn (pc : Nat) : (s.testStartedOn h pc).reg (hbmKey h Reg.hbmTest) =
    testWord (fld (s.reg (hbmKey h Reg.hbmTest)) 29 29) pc := by
  rw [State.testStartedOn, State.reg_orReg_ne _ _ (s.setReg_rising _ _ hr) hbmKey_ne, s.reg_setReg_same _ _ hr]

end Start

/-! ### The patrol (R334, R335) -/

/-- The copies on stack `h` with a single-bit error. -/
def State.softOn (s : State) (h : Nat) : List Nat := s.mem.soft.filter (s.copyOn h)

/-- The copies on stack `h` with a double-bit error. -/
def State.badOn (s : State) (h : Nat) : List Nat := s.mem.bad.filter (s.copyOn h)

/-- A corrected error is counted and recorded. -/
def State.countCorrected (s : State) (h x : Nat) : State :=
  (s.bump (hbmKey h Reg.hbmCntCe)).stackErr h 30 (((s.copiesOf (64 * (x / 2)))[x % 2]?.map Copy.addr).getD 0)

/-- Memory with the single-bit errors of stack `h` corrected. -/
def State.scrubbedMem (s : State) (h : Nat) : Mem := { s.mem with soft := s.mem.soft.filter (fun x => !((s.softOn h).contains x)) }

/-- The state after a patrol pass has corrected and counted. -/
def State.patrolled (s : State) (h : Nat) : State :=
  ((s.softOn h).foldl (State.countCorrected · h) { s with mem := s.scrubbedMem h }).bump (hbmKey h Reg.hbmCntUe) (s.badOn h).length

section Patrol
variable {s : State} {h : Nat}

/-- Corrections are counted one by one. -/
theorem State.reg_foldl_countCorrected {s : State} (hr : mrising s.regs = true) (l : List Nat) :
    (l.foldl (State.countCorrected · h) s).reg (hbmKey h Reg.hbmCntCe) = s.reg (hbmKey h Reg.hbmCntCe) + w32 l.length := by
  induction l generalizing s with
  | nil => exact (BitVec.add_zero _).symm
  | cons x l ih =>
    have hbump := s.bump_rising (hbmKey h Reg.hbmCntCe) 1 hr
    have hcount : mrising (s.countCorrected h x).regs = true := State.setReg_rising _ _ _ hbump
    rw [List.foldl_cons, ih hcount, State.countCorrected, State.stackErr, State.reg_setReg_ne _ _ hbump hbmKey_ne,
      s.reg_bump_same _ _ hr, List.length_cons, add_assoc, Nat.add_comm l.length 1]
    rw [w32, w32, w32, BitVec.ofNat_add]

/-- The registers that corrections change. -/
def correctionKeys (h k : Nat) : Prop := k = hbmKey h Reg.hbmCntCe ∨ k = hbmKey h Reg.hbmErr

theorem State.setsOnly_countCorrected {t : State} (ht : s.SetsOnly (correctionKeys h) t) (l : List Nat) :
    s.SetsOnly (correctionKeys h) (l.foldl (State.countCorrected · h) t) :=
  ht.foldl (fun _ _ hu => (hu.setReg (.inl rfl) _).setReg (.inr rfl) _) l

theorem State.mem_foldl_countCorrected (t : State) (l : List Nat) : (l.foldl (State.countCorrected · h) t).mem = t.mem :=
  foldl_keeps (f := (State.countCorrected · h)) (g := State.mem) (fun _ _ => rfl) l t

theorem State.mem_patrolled : (s.patrolled h).mem = s.scrubbedMem h := by
  rw [State.patrolled, State.bump_mem, State.mem_foldl_countCorrected]

section Rising
variable (hr : mrising s.regs = true)
include hr

theorem State.setsOnly_corrected : s.SetsOnly (correctionKeys h) ((s.softOn h).foldl (State.countCorrected · h) { s with mem := s.scrubbedMem h }) :=
  State.setsOnly_countCorrected (t := { s with mem := s.scrubbedMem h }) ((State.SetsOnly.refl hr).congr rfl) _

theorem State.patrolled_rising : mrising (s.patrolled h).regs = true := State.bump_rising _ _ _ (State.setsOnly_corrected hr).rising

theorem State.corrections_patrolled :
    (s.patrolled h).reg (hbmKey h Reg.hbmCntCe) = s.reg (hbmKey h Reg.hbmCntCe) + w32 (s.softOn h).length := by
  rw [State.patrolled, State.reg_bump_ne _ _ (State.setsOnly_corrected hr).rising hbmKey_ne]
  exact State.reg_foldl_countCorrected (s := { s with mem := s.scrubbedMem h }) hr _

theorem State.uncorrected_patrolled :
    (s.patrolled h).reg (hbmKey h Reg.hbmCntUe) = s.reg (hbmKey h Reg.hbmCntUe) + w32 (s.badOn h).length := by
  have hcorrected := State.setsOnly_corrected (h := h) hr
  rw [State.patrolled, State.reg_bump_same _ _ _ hcorrected.rising, hcorrected.regs _ (not_or.mpr ⟨hbmKey_ne, hbmKey_ne⟩)]

end Rising

theorem State.doPatrolRead_off (inj : Inject) (hoff : s.stackServed h = false ∨ fld (s.reg (hbmKey h Reg.hbmEccCtrl)) 15 8 = 0) :
    s.doPatrolRead h inj = s := by
  refine if_pos ?_
  obtain hoff | hoff := hoff <;> simp [hoff]

section On
variable (hserved : s.stackServed h = true) (hon : fld (s.reg (hbmKey h Reg.hbmEccCtrl)) 15 8 ≠ 0)
include hserved hon

theorem State.doPatrolRead_clean (hbad : s.badOn h = []) : s.doPatrolRead h .none = s.patrolled h := by
  have hbad' : s.mem.bad.filter (s.copyOn h) = [] := hbad
  rw [State.doPatrolRead, if_neg (by simp [hserved, hon])]
  simp only [State.strikeStack, hbad', State.patrolled, hbad]
  rfl

theorem State.doPatrolRead_bad {x : Nat} {r : List Nat} (hbad : s.badOn h = x :: r) :
    s.doPatrolRead h .none = (s.patrolled h).startHbmTest h (x / 2) := by
  have hbad' : s.mem.bad.filter (s.copyOn h) = x :: r := hbad
  rw [State.doPatrolRead, if_neg (by simp [hserved, hon])]
  simp only [State.strikeStack, hbad', State.patrolled, hbad]
  rfl

/-- What a patrol pass leaves. -/
theorem State.doPatrolRead_spec (hr : mrising s.regs = true) :
    let t := s.doPatrolRead h .none
    t.mem = s.scrubbedMem h ∧
      t.reg (hbmKey h Reg.hbmCntCe) = s.reg (hbmKey h Reg.hbmCntCe) + w32 (s.softOn h).length ∧
      t.reg (hbmKey h Reg.hbmCntUe) = s.reg (hbmKey h Reg.hbmCntUe) + w32 (s.badOn h).length ∧
      (s.badOn h ≠ [] → t.stackTesting h = true) := by
  cases hbad : s.badOn h with
  | nil =>
    rw [State.doPatrolRead_clean hserved hon hbad, ← hbad]
    exact ⟨State.mem_patrolled, State.corrections_patrolled hr, State.uncorrected_patrolled hr, fun hne => absurd rfl hne⟩
  | cons x r =>
    have htest := State.setsOnly_startHbmTest (h := h) (State.patrolled_rising (h := h) hr) (x / 2)
    rw [State.doPatrolRead_bad hserved hon hbad, ← hbad]
    exact ⟨(State.mem_startHbmTest _ _ _).trans State.mem_patrolled, (htest.regs _ not_testKeys).trans (State.corrections_patrolled hr),
      (htest.regs _ not_testKeys).trans (State.uncorrected_patrolled hr), fun _ => State.stackTesting_startHbmTest (State.patrolled_rising hr) _⟩

end On

end Patrol

/-! ### HBM_TEST -/

section Test
variable {s : State} {h : Nat}

theorem State.doOnDieEccPoll_served (k : Nat) (hs : s.stackServed h = true) : s.doOnDieEccPoll h k = s.bump (hbmKey h Reg.hbmCntOdecc) k := if_pos hs

theorem State.doOnDieEccPoll_unserved (k : Nat) (hs : s.stackServed h = false) : s.doOnDieEccPoll h k = s :=
  if_neg (by rw [hs]; exact Bool.false_ne_true)

/-- The state with PC of HBM_TEST set. -/
def State.channelSet (s : State) (h pc : Nat) : State :=
  s.setReg (hbmKey h Reg.hbmTest) (setFld (s.reg (hbmKey h Reg.hbmTest)) 5 0 pc)

theorem State.doHbmTest_eq (s : State) (h pc : Nat) : s.doHbmTest h pc =
    if (s.channelSet h pc).stackServed h then (s.channelSet h pc).startHbmTest h pc else s.channelSet h pc := by
  rw [State.doHbmTest, State.channelSet]

variable (hr : mrising s.regs = true)
include hr

theorem State.stackServed_channelSet (pc : Nat) : (s.channelSet h pc).stackServed h = s.stackServed h := by
  rw [State.stackServed, State.channelSet, s.reg_setReg_ne _ hr hbmKey_ne]
  rfl

theorem State.stackTesting_channelSet (pc : Nat) : (s.channelSet h pc).stackTesting h = s.stackTesting h := by
  rw [State.stackTesting, State.channelSet, s.reg_setReg_ne _ hr hbmKey_ne, State.stackTesting]

theorem State.doHbmTest_unserved (pc : Nat) (hs : s.stackServed h = false) : s.doHbmTest h pc = s.channelSet h pc := by
  rw [State.doHbmTest_eq, State.stackServed_channelSet hr, hs]
  exact if_neg Bool.false_ne_true

theorem State.doHbmTest_starts (pc : Nat) (hs : s.stackServed h = true) (ht : s.stackTesting h = false) :
    s.doHbmTest h pc = (s.channelSet h pc).testStartedOn h pc := by
  rw [State.doHbmTest_eq, State.stackServed_channelSet hr, if_pos hs, State.startHbmTest_idle _ ((State.stackTesting_channelSet hr pc).trans ht)]

theorem State.doHbmTest_spec (pc : Nat) (hs : s.stackServed h = true) (ht : s.stackTesting h = false) :
    let t := s.doHbmTest h pc
    t.stackTesting h = true ∧ flag (t.reg (hbmKey h Reg.hbmTest)) 30 = false ∧ fld (t.reg (hbmKey h Reg.hbmTest)) 5 0 = pc % 64 ∧
      t.mem = s.mem := by
  have hset : mrising (s.channelSet h pc).regs = true := s.setReg_rising _ _ hr
  rw [State.doHbmTest_starts hr pc hs ht]
  dsimp only
  rw [State.reg_testStartedOn hset]
  obtain ⟨hdone, hpc⟩ := testWord_fields (pass := fld ((s.channelSet h pc).reg (hbmKey h Reg.hbmTest)) 29 29) (Nat.mod_lt _ (by norm_num)) pc
  refine ⟨State.stackTesting_testStartedOn hset pc, hdone, hpc, ?_⟩
  rw [State.testStartedOn, State.orReg_mem, State.setReg_mem, State.channelSet, State.setReg_mem]

end Test

/-! ### Failed stacks (R346) -/

section Fail
variable {s : State} {h : Nat}

/-- The stacks declared failed. -/
abbrev State.failed (s : State) : Word := s.reg (hbmKey 0 Reg.hbmFailed)

/-- The state with stack `h` declared failed, and nothing done about it. -/
def State.stackDeclared (s : State) (h : Nat) : State :=
  (s.orReg (hbmKey 0 Reg.hbmFailed) (w32 (2 ^ h))).setReg (hbmKey h Reg.hbmStatus) 0x40000000

theorem State.doHbmFail_again (hf : flag s.failed h = true) : s.doHbmFail h = s := if_pos hf

theorem State.doHbmFail_declares (hf : flag s.failed h = false) :
    s.doHbmFail h = if s.firmwareRuns = true then (s.stackDeclared h).afterStackFail h else s.stackDeclared h :=
  if_neg (by rw [hf]; exact Bool.false_ne_true)

theorem State.doHbmFail_alone (hf : flag s.failed h = false) (hdown : s.firmwareRuns = false) : s.doHbmFail h = s.stackDeclared h := by
  rw [State.doHbmFail_declares hf, if_neg (by rw [hdown]; exact Bool.false_ne_true)]

theorem State.notFailed_of_served (hs : s.stackServed h = true) : flag s.failed h = false := by
  rw [State.stackServed, Bool.and_eq_true, Bool.not_eq_true'] at hs
  exact hs.2

section Rising
variable (hr : mrising s.regs = true)
include hr

theorem State.failed_stackDeclared : (s.stackDeclared h).failed = s.failed ||| w32 (2 ^ h) := by
  rw [State.failed, State.stackDeclared, State.reg_setReg_ne _ _ (s.orReg_rising _ _ hr) hbmKey_ne, s.reg_orReg_same _ _ hr]

theorem State.status_stackDeclared : (s.stackDeclared h).reg (hbmKey h Reg.hbmStatus) = 0x40000000 :=
  State.reg_setReg_same _ _ _ (s.setReg_rising _ _ hr)

theorem State.test_stackDeclared : (s.stackDeclared h).reg (hbmKey h Reg.hbmTest) = s.reg (hbmKey h Reg.hbmTest) := by
  rw [State.stackDeclared, State.reg_setReg_ne _ _ (s.orReg_rising _ _ hr) hbmKey_ne, s.reg_orReg_ne _ hr hbmKey_ne]

end Rising

theorem State.doStackTimeout_served (hs : s.stackServed h = true) : s.doStackTimeout h = s.doHbmFail h := if_pos hs

theorem State.doStackTimeout_unserved (hs : s.stackServed h = false) : s.doStackTimeout h = s := if_neg (by rw [hs]; exact Bool.false_ne_true)

end Fail

/-! ### Ends of the channel test (R345, R348) -/

theorem fld_outcomeWord (pass : Bool) {x : Nat} (hx : x < 64) : fld (w32 (outcomeWord pass + x)) 30 29 = 2 + b2n pass := by
  rw [fld, bits, w32, BitVec.toNat_ofNat, outcomeWord]
  have hb : b2n pass < 2 := by cases pass <;> decide
  omega

section TestEnd
variable {s : State} {h : Nat} (pass : Bool)

theorem State.rst_endHbmTest (s : State) (h : Nat) : (s.endHbmTest h pass).rst = s.rst := by
  rw [State.endHbmTest, State.clrReg_rst, State.setReg_rst]

theorem State.doHbmTestDone_idle (k : Nat) (ht : s.stackTesting h = false) : s.doHbmTestDone h k = s := if_neg (by rw [ht]; exact Bool.false_ne_true)

section Testing
variable {k : Nat} (ht : s.stackTesting h = true)
include ht

theorem State.doHbmTestDone_fails (hk : fld (s.reg (hbmKey h Reg.hbmEccCtrl)) 7 0 < k) :
    s.doHbmTestDone h k = (s.endHbmTest h false).doHbmFail h := by
  rw [State.doHbmTestDone, if_pos ht, decide_eq_false (not_le.mpr hk)]
  rfl

variable (hk : k ≤ fld (s.reg (hbmKey h Reg.hbmEccCtrl)) 7 0)
include hk

/-- A passed test counts while the firmware runs, and the third pass retires the stack. -/
theorem State.doHbmTestDone_passes : s.doHbmTestDone h k =
    if s.firmwareRuns = true then
      if ((s.endHbmTest h true).notePass (4096 + h)).2 = true then ((s.endHbmTest h true).notePass (4096 + h)).1.doHbmFail h
      else ((s.endHbmTest h true).notePass (4096 + h)).1
    else s.endHbmTest h true := by
  rw [State.doHbmTestDone, if_pos ht, decide_eq_true hk]
  rfl

end Testing

variable (hr : mrising s.regs = true)
include hr

theorem State.endHbmTest_rising : mrising (s.endHbmTest h pass).regs = true := State.setReg_rising _ _ _ (s.setReg_rising _ _ hr)

theorem State.stackTesting_endHbmTest : (s.endHbmTest h pass).stackTesting h = false :=
  State.flag_clrReg _ (s.setReg_rising _ _ hr) (by decide)

theorem State.outcome_endHbmTest : fld ((s.endHbmTest h pass).reg (hbmKey h Reg.hbmTest)) 30 29 = 2 + b2n pass := by
  rw [State.endHbmTest, State.reg_clrReg_ne _ _ (s.setReg_rising _ _ hr) hbmKey_ne, s.reg_setReg_same _ _ hr]
  exact fld_outcomeWord pass (Nat.mod_lt _ (by norm_num))

theorem State.failed_endHbmTest : (s.endHbmTest h pass).failed = s.failed := by
  rw [State.failed, State.endHbmTest, State.reg_clrReg_ne _ _ (s.setReg_rising _ _ hr) hbmKey_ne, s.reg_setReg_ne _ hr hbmKey_ne]

/-- A failed test declares the stack failed. -/
theorem State.doHbmTestDone_fails_spec {k : Nat} (ht : s.stackTesting h = true) (hk : fld (s.reg (hbmKey h Reg.hbmEccCtrl)) 7 0 < k)
    (hdown : s.firmwareRuns = false) (hf : flag s.failed h = false) :
    let t := s.doHbmTestDone h k
    t.reg (hbmKey h Reg.hbmStatus) = 0x40000000 ∧ fld (t.reg (hbmKey h Reg.hbmTest)) 30 29 = 2 ∧ t.failed = s.failed ||| w32 (2 ^ h) := by
  have hend := State.endHbmTest_rising (h := h) false hr
  have hfailed := State.failed_endHbmTest (h := h) false hr
  have hrst := (State.firmwareRuns_congr (State.rst_endHbmTest false s h)).trans hdown
  rw [State.doHbmTestDone_fails ht hk, State.doHbmFail_alone (by rw [hfailed, hf]) hrst]
  dsimp only
  rw [State.status_stackDeclared hend, State.test_stackDeclared hend, State.failed_stackDeclared hend, hfailed, State.outcome_endHbmTest false hr]
  exact ⟨rfl, rfl, rfl⟩

end TestEnd

/-! ### The statement -/

theorem exec_stack {c : Instr} {s t : State} {h : Nat} {f : State → State} (he : exec c s = .next (if h < 8 then f s else s)) (hh : h < 8)
    (hf : f s = t) : exec c s = .next t := by
  rw [he, if_pos hh, hf]

/-! ### The commands -/

section Hub
variable {s : State} (hup : s.rst.mode ≠ .held)
include hup

theorem exec_hbmXlatInv_spec (hr : mrising s.regs = true) (hlen : s.cores.length = 32) (v : Word) :
    (16 ≤ s.hub.invQueue.length → ∃ t, exec (.hbmXlatInv v) s = .next t ∧
      t.reg (hbmKey 0 Reg.hbmHubErr) = s.reg (hbmKey 0 Reg.hbmHubErr) ||| 2 ∧ t.hub = s.hub ∧ t.cores = s.cores ∧ t.mem = s.mem) ∧
    (s.hub.invQueue.length < 16 → s.hub.invQueue ≠ [] → exec (.hbmXlatInv v) s = .next (s.withInval v)) ∧
    (s.hub.invQueue = [] → ∃ t, exec (.hbmXlatInv v) s = .next t ∧
      t.hub.invQueue = [{ s.namedInval v with dropped := s.namedTlbs (s.namedInval v) }] ∧ t.hub.invN = s.nextInvN v ∧
      s.DropsNamed (s.namedInval v) t) := by
  refine ⟨fun hfull => ⟨_, exec_hub (f := (State.doHbmXlatInv · v)) rfl hup (State.doHbmXlatInv_full v hfull), s.reg_orReg_same _ _ hr,
      State.orReg_hub .., State.orReg_cores .., State.orReg_mem ..⟩,
    fun hroom hq => exec_hub (f := (State.doHbmXlatInv · v)) rfl hup (State.doHbmXlatInv_queues v hroom hq), fun hq => ?_⟩
  have hqueue : (s.withInval v).hub.invQueue = [s.namedInval v] := by
    rw [State.withInval, hq]
    rfl
  have hhub := State.hub_startInval hqueue
  exact ⟨_, exec_hub (f := (State.doHbmXlatInv · v)) rfl hup (State.doHbmXlatInv_starts v hq), congrArg Hub.invQueue hhub,
    congrArg Hub.invN hhub, State.dropsNamed_startInval (s := s.withInval v) hlen hqueue⟩

theorem exec_hbmRgnLock_spec (v : Word) :
    (flag v 0 = false → exec (.hbmRgnLock v) s = .next s) ∧
    (flag v 0 = true → exec (.hbmRgnLock v) s = .next (s.orReg (hbmKey 0 Reg.hbmRgnLock) 1)) :=
  ⟨fun hv => exec_hub (f := (State.doHbmRgnLock · v)) rfl hup (if_neg (by rw [hv]; exact Bool.false_ne_true)),
    fun hv => exec_hub (f := (State.doHbmRgnLock · v)) rfl hup (if_pos hv)⟩

end Hub

/-- Settles O43: invalidations and fills by what their operations leave, the end of a walk by what its reads leave, the stacks by the cases of
each command. A reserved N that leaves the last one and the patrol pass in one command are the model's choices, log entries 32 and 45. -/
theorem invalidationsAndMemoryUnit : Obligations.InvalidationsAndMemoryUnit := by
  intro s hr hlen hubErr failed gone uses
  refine ⟨fun hup => ⟨fun v => exec_hbmXlatInv_spec hup hr hlen v, fun hq hy => ?idle,
    fun i r hq hy => ⟨fun hu => ?inUse, fun hu => ?completes⟩,
    fun big => ⟨fun hfull => ?fillFull, fun hroom hw => ?fills⟩, fun v => (exec_hbmRgnLock_spec hup v).1, fun v hv => ?locks⟩,
    fun n hn hon => ⟨fun hw => ?noWalk, fun ctx va keep r hw => ⟨fun hm => ?walkWaits, fun hm => ?walkEnds⟩⟩,
    fun h hh => ⟨fun hs => ⟨fun hp => ?patrol, fun inj hp => ?noPatrol, fun k => ?poll, fun pc ht => ?test, fun phy => ?timeout⟩,
      fun hs => ⟨fun inj => ?unservedPatrol, fun k => ?unservedPoll, fun pc => ?unservedTest, fun phy => ?unservedTimeout⟩,
      fun k ht => ?noTest, fun k ht hk => ?passes, fun k ht hk hdown hf => ?fails, fun hup => ⟨fun hf => ?again, fun hf => ?declares⟩⟩⟩
  case idle =>
    exact exec_hub (f := fun s => s.doInvalidationComplete.endTeardowns) rfl hup
      (by rw [State.doInvalidationComplete_none hq, State.endTeardowns_none hy])
  case inUse =>
    exact exec_hub (f := fun s => s.doInvalidationComplete.endTeardowns) rfl hup
      (by rw [State.doInvalidationComplete_inUse hq hu, State.endTeardowns_none hy])
  case completes =>
    obtain ⟨hpilot, hspec⟩ := State.invalCompleted_spec hlen hr (i := i) (r := r) rfl
    refine ⟨_, exec_hub (f := fun s => s.doInvalidationComplete.endTeardowns) rfl hup ?_, hspec⟩
    rw [State.doInvalidationComplete_completes hq hu, State.endTeardowns_none (by rwa [hpilot])]
  case fillFull =>
    exact ⟨_, exec_hub (f := (State.doHbmFillReq · big)) rfl hup (State.doHbmFillReq_full big hfull), s.reg_orReg_same _ _ hr,
      State.orReg_hub ..⟩
  case fills => exact exec_hub (f := (State.doHbmFillReq · big)) rfl hup (State.doHbmFillReq_room big hroom hw)
  case locks => exact ⟨_, (exec_hbmRgnLock_spec hup v).2 hv, s.reg_orReg_same _ _ hr, State.orReg_mem ..⟩
  case noWalk => exact exec_core (f := (State.doWalkComplete · n)) rfl hn hon (State.doWalkComplete_none hw)
  case walkWaits => exact exec_core (f := (State.doWalkComplete · n)) rfl hn hon (State.doWalkComplete_waits hw hm)
  case walkEnds =>
    have hc : n < s.cores.length := hlen ▸ hn
    refine ⟨State.walks_walkEnded hc, (State.readsAlike_walkEnded hr).bytes, State.cReg_walkEnded hr hc, fun p hp => ⟨?ok, ?caches⟩,
      fun e he => ?fault⟩
    case ok => exact exec_core (f := (State.doWalkComplete · n)) rfl hn hon (State.doWalkComplete_ok hw hm hr hp)
    case caches => exact State.tlb_walkEnded_ok hr hc hp
    case fault =>
      have hends := exec_core (c := .walkComplete n) (f := (State.doWalkComplete · n)) rfl hn hon (State.doWalkComplete_error hw hm hr he)
      exact ⟨State.tlb_walkEnded_error hr hc he, fun hx => by rw [hends, hx]; rfl, fun x hx => by rw [hends, hx]; rfl⟩
  case patrol =>
    exact ⟨_, exec_stack (f := (State.doPatrolRead · h .none)) rfl hh rfl, State.doPatrolRead_spec hs hp hr⟩
  case noPatrol => exact exec_stack (f := (State.doPatrolRead · h inj)) rfl hh (State.doPatrolRead_off inj (.inr hp))
  case poll => exact exec_stack (f := (State.doOnDieEccPoll · h k)) rfl hh (State.doOnDieEccPoll_served k hs)
  case test => exact ⟨_, exec_stack (f := (State.doHbmTest · h pc)) rfl hh rfl, State.doHbmTest_spec hr pc hs ht⟩
  case timeout =>
    refine ⟨_, exec_stack (f := (State.doStackTimeout · h)) rfl hh (State.doStackTimeout_served hs), fun hdown => ?_⟩
    rw [State.doHbmFail_alone (State.notFailed_of_served hs) hdown]
    exact State.failed_stackDeclared hr
  case unservedPatrol => exact exec_stack (f := (State.doPatrolRead · h inj)) rfl hh (State.doPatrolRead_off inj (.inl hs))
  case unservedPoll => exact exec_stack (f := (State.doOnDieEccPoll · h k)) rfl hh (State.doOnDieEccPoll_unserved k hs)
  case unservedTest => exact exec_stack (f := (State.doHbmTest · h pc)) rfl hh (State.doHbmTest_unserved hr pc hs)
  case unservedTimeout => exact exec_stack (f := (State.doStackTimeout · h)) rfl hh (State.doStackTimeout_unserved hs)
  case noTest => exact exec_stack (f := (State.doHbmTestDone · h k)) rfl hh (State.doHbmTestDone_idle k ht)
  case passes =>
    have hends := exec_stack (c := .hbmTestDone h k) (f := (State.doHbmTestDone · h k)) rfl hh (State.doHbmTestDone_passes ht hk)
    refine ⟨State.stackTesting_endHbmTest true hr, State.outcome_endHbmTest true hr, State.failed_endHbmTest true hr, fun hdown => ?_,
      fun hruns hno => ?_, fun hruns hthird => ?_⟩
    · rw [hends, if_neg (by rw [hdown]; exact Bool.false_ne_true)]
    · rw [hends, if_pos hruns, if_neg (by rw [hno]; exact Bool.false_ne_true)]
    · rw [hends, if_pos hruns, if_pos hthird]
  case fails => exact ⟨_, exec_stack (f := (State.doHbmTestDone · h k)) rfl hh rfl, State.doHbmTestDone_fails_spec hr ht hk hdown hf⟩
  case again =>
    exact exec_hub (f := fun s => if h < 8 then s.doHbmFail h else s) rfl hup ((if_pos hh).trans (State.doHbmFail_again hf))
  case declares =>
    exact exec_hub (f := fun s => if h < 8 then s.doHbmFail h else s) rfl hup ((if_pos hh).trans (State.doHbmFail_declares hf))

end Sys2Proof.Machine
end
